-- ==== Sys2Proof/Word.lean ====
section
/-!
DEFINITION. Sys2Proof/Word.lean: the word types of the device and the containers its state is built from
(R10: packets and the fast status window are sequences of 32-bit words).
-/
namespace Sys2Proof

/-- A 32-bit word of a packet or of the fast status window (R10). -/
abbrev Word := BitVec 32

/-- One byte of a line format, a packet stream or a burst. -/
abbrev Byte := BitVec 8

/-- A 64-bit counter of a counter table. It wraps. -/
abbrev U64 := BitVec 64

/-- Sparse data by number: (key, value) pairs, keys strictly rising, no value equal to what an unlisted key reads as.
`Sys2Proof/Machine/Ops.lean` holds the operations and the predicate `SMap.wf` of the form. -/
abbrev SMap (α : Type) := List (Nat × α)

/-- A word from a number, modulo 2^32. -/
def w32 (n : Nat) : Word := BitVec.ofNat 32 n

/-- A byte from a number, modulo 2^8. -/
def w8 (n : Nat) : Byte := BitVec.ofNat 8 n

end Sys2Proof
end

