-- ==== Sys2Proof/Syntax.lean ====
section
/-!
DEFINITION. Sys2Proof/Syntax.lean: the commands of the block, one constructor of `Instr` per row of
spec/opcode_table.json (a UCP command carries a `Cmd`; an event carries the unit it happens to and the values the
outside world or a measurement brings), with `dt`, the time since the previous step (log entry 2).
-/
namespace Sys2Proof

/-- The command ports with their PORT codes (Table 2.1). -/
inductive Port where
  /-- PORT code 1. -/
  | pcie
  /-- PORT code 2. -/
  | spi
  /-- PORT code 3: in-band via LP0. -/
  | ib0
  /-- PORT code 4: in-band via LP1. -/
  | ib1
  /-- PORT code 5. -/
  | mate
deriving DecidableEq, Repr

/-- The two line ports (Table 1.1). -/
inductive Lp where
  | lp0 | lp1
deriving DecidableEq, Repr

/-- The three line engines (Table 1.1). -/
inductive Eng where
  | le0 | le1 | les
deriving DecidableEq, Repr

/-- The two session locks (R66). -/
inductive Lock where
  | crypto | update
deriving DecidableEq, Repr

/-- The two read paths of the fast status window (R67). -/
inductive FswPath where
  | pcie | spi
deriving DecidableEq, Repr

/-- A command packet of Table 2.4 without word 0 and the CRC, as served by Umcia: the port it arrived on, TAG, TARGET,
FLAGS and the parameter words; the OPCODE is the constructor's. `dt` is the time since the previous step. What a device
fault does to it (R55, R62; log entry 110) is told by TARGET, with whether the unit's change stays: `unfinished`, units on
which the command is not completed, and `unrestored`, units whose restore fails when an ATOMIC command is undone. -/
structure Cmd where
  port : Port
  tag : BitVec 16
  target : Nat
  flags : Nat
  params : List Word
  dt : Nat
  unfinished : List (Nat × Bool) := []
  unrestored : List (Nat × Bool) := []
deriving DecidableEq, Repr

/-- What the boot ROM finds at a release (R407, R440): the self-check, the memory fill and the die-to-die training. -/
structure BootFinds where
  romFail : Bool
  fillFail : Bool
  dieFail : Bool
  /-- The flash does not answer the DTR probe (R405): quad SDR bounds. -/
  sdr : Bool
  /-- The retained foreground corrections failed their check (Table 4.8): step code 0xE. -/
  recal : Bool
  /-- When steps 1 to 8 of Table 16.2 end, and after them a second run of steps 4 and 5 on the other bank, in ticks from the
  release. -/
  ends : List Nat
deriving DecidableEq, Repr

/-- One slice's background calibration update (R101, Table 4.2): the slice, its corrections (offset in 1/64 LSB, gain in
0.001 %, aperture skew in fs, bandwidth in 0.1 %), the residuals of offset, gain and skew in the same units, and the samples
that clipped in it since its last update. -/
structure SliceCal where
  slice : Nat
  off : Int
  gain : Int
  skew : Int
  bw : Int
  resOff : Int
  resGain : Int
  resSkew : Int
  clips : Nat := 0
deriving DecidableEq, Repr

/-- One phase strobe's update: phase, skew correction and residual in fs. -/
structure StrobeCal where
  phase : Nat
  skew : Int
  res : Int
deriving DecidableEq, Repr

/-- A DAC channel's self-check (R105): its result, and the inputs of the transmit samples since the last one that may
saturate, for each the 16 newest pairs of I and Q of its polarisation in 1/256 codes, newest first (R130). -/
structure DacCheck where
  pass : Bool
  wins : List (List (Int × Int)) := []
deriving DecidableEq, Repr

/-- The powers of a port's four ADC channels in 0.01 dBFS, and for how many us they have kept the received power on one side of
a threshold (R110). -/
structure PowerSpell where
  powers : List Int
  lasted : Nat
deriving DecidableEq, Repr

/-- The receiver of a line port on its serving engine, or on the spare that shadows it (R147). -/
structure Receiver where
  port : Lp
  spare : Bool
deriving DecidableEq, Repr

/-- A bulk-PMD estimate (R136): DGD in 0.01 ps, and the principal state as a Stokes vector in 1/16,384. -/
structure BulkPmd where
  dgd : Nat
  ps : List Int
deriving DecidableEq, Repr

/-- A reference candidate and the edges of its last 1 ms window, none while no edge came (Table 14.1). -/
structure CandLook where
  candidate : Nat
  edges : Option Nat
deriving DecidableEq, Repr

/-- A window's difference of output and candidate in 0.1 ppb (R369), and the ticks to its end. -/
structure WindowDiff where
  diff : Int
  dt : Nat
deriving DecidableEq, Repr

/-- A pilot slot as received: XI, XQ, YI and YQ, 256 to the unit of amplitude, and the known pilot sent there, 1 or -1 each;
at a header slot none, and the number of the header symbol (R194, R197). -/
structure PilotSlot where
  z : List Int
  expect : List Int := []
  symbol : Nat := 0
deriving DecidableEq, Repr

/-- A codeword the decoder releases (R199 to R204). On a NATIVE port: the dimensions of the blocks that hold its interleaver
group, and where the group begins in the first of them; the passes to its convergence; its bits as released and the decoder's
estimates of the codewords after and before it. On a ZR800 port the passes alone. -/
structure CodewordRx where
  passes : Nat := 1
  blocks : List (List Int) := []
  off : Nat := 0
  out : BitVec 9216 := 0
  next : BitVec 9216 := 0
  prior : BitVec 9216 := 0
deriving DecidableEq, Repr

/-- The 10 ms and 100 ms receive estimates an update brings (Table 5.8): CD in ps/nm, DGD in 0.01 ps, principal state
and SOP as Stokes vectors in 1/16,384, SOP rate in krad/s, frequency offset in kHz, timing offset in 0.01 ppm, and the
CD the spindles estimate for the alarm of Table 5.14; each carried phase since the last update (1/65,536 of a turn) with the
pilots of the next pilot block, newest first; the I/Q imbalance (0.01 dB, 0.01 degrees per polarisation); and the last 1,024
pilot slots. -/
structure EstMeas where
  cd : Int
  dgd : Nat
  ps : List Int
  sop : List Int
  sopRate : Nat
  freqKHz : Int
  timing : Int
  slips : List (Int × List PilotSlot) := []
  iqGain : List Int := []
  iqPhase : List Int := []
  pilots : List PilotSlot := []
deriving DecidableEq, Repr

/-- What one spindle did since the last checkpoint (R171, R172): clocked cycles, slots retired, wasted and starved-front
(the rest of the four slots a cycle are starved-back), the events PC0 to PC5 saw, the registers and words of local memory
its code wrote, the words it took from and put into its FIFOs, of 16 words each, with those that arrived and left, and the
digest mismatches its loads to come will meet (R164). -/
structure SpnActivity where
  spindle : Nat
  cycles : Nat
  ret : Nat
  wst : Nat
  sf : Nat
  pcs : List Nat
  scalars : List (Nat × U64) := []
  vectors : List (Nat × List Word) := []
  mem : List (Nat × Word) := []
  taken : Nat := 0
  ins : List (List Word) := []
  sent : Nat := 0
  outs : List (List Word) := []
  badLoads : Nat := 0
deriving DecidableEq, Repr

/-- A word a kernel wrote to its mailbox: slot, word, value, and how many ticks ago (R169). -/
structure KernelMail where
  slot : Nat
  word : Nat
  value : Word
  ago : Nat
deriving DecidableEq, Repr

/-- A received VLF frame as the decoder releases it (R219): the FEC-protected copy of the header, whether codeword 64n
converged, whether any of the frame's bytes is marked UNCORR, whether any byte of the encryption segment is, and the
payload area as decoded (scrambled). `spare`: whether the spare engine's CRCs of the frame matched, none when the frame
is not compared (R321). -/
structure RxFrame where
  header : List Byte
  conv0 : Bool
  uncorr : Bool
  area : List Byte
  spare : Option Bool
deriving DecidableEq, Repr

/-- What a block of the payload grid finds when it is due (R216, R272): nothing, a client block, or one marked errored. -/
inductive ClientBlock where
  | absent
  | data (b : BitVec 257)
  | errored
deriving DecidableEq, Repr

/-- The tamper detectors of Table 9.3. -/
inductive Tamper where
  | voltage | clock | temperature | lid
deriving DecidableEq, Repr

/-- What a host lane's receiver has settled on (HL_STATUS): CDR offset in 0.1 ppm, CTLE in 0.5 dB, eye height in mV,
eye width in mUI, TX_FFE in use as word 6 of HL_CONFIG, and the taps of the decision-feedback equaliser (R266). -/
structure LaneMeas where
  cdr : Int
  ctle : Nat
  eyeH : Nat
  eyeW : Nat
  ffe : Nat
  dfe : List Int := []
deriving DecidableEq, Repr

/-- A frame that arrives at the traffic manager (R286): its bytes from the destination address to the frame check
sequence inclusive, whether the check sequence is bad, and whether any block of it is marked errored (R303). -/
structure TmFrame where
  bytes : List Byte
  badFcs : Bool
  errored : Bool
deriving DecidableEq, Repr

/-- A link on which a parity error is found (R324, Tables 12.5 and 12.7): one of an engine's links 0 to 4, inside the
chuck or a converter die, or inside the hub die on a word of a line port's. -/
inductive ParityLink where
  | engine (e : Eng) (link : Nat)
  | chuck (p : Lp)
  /-- `tm`: a traffic-manager word. -/
  | hub (tm : Bool) (p : Lp)
deriving DecidableEq, Repr

/-- An error in a protected memory (R325, Table 12.6): memory ID, the unit's TARGET, single-bit or double-bit, both copies
bad (duplicated memories), the place in the unit (`sub`: spindle, key slot, 100 * channel + slice, 100 * channel + phase
+ 1000 for a strobe, flow index or queue number; `address`: address, or place of the frame in the queue), and the
direction of a frame buffer. `selfTest`: the faulted spindle's self-test passes (memory 1). -/
structure MemErr where
  id : Nat
  target : Nat
  double : Bool
  both : Bool
  selfTest : Bool
  sub : Nat
  address : Nat
  tx : Bool
deriving DecidableEq, Repr

/-- A burst as the mate link's receiver hears it after a candidate (R342 to R345): the rate of the correlator that took it, the
16 symbols in the place of the SFD, the symbols of header, payload and CRC, and the receive SNR margin in 0.25 dB. -/
structure RxBurst where
  rate : Nat
  sfd : List Int
  syms : List Int
  margin : Nat
deriving DecidableEq, Repr

/-- What a phase of a training attempt found (R346): a TRAIN burst was heard, the partner stopped sending, its capability word,
the margins of both ends per RATE_CODE in 0.25 dB, the TRAIN bursts sent, and the taps of echo canceller and equaliser it
trained, per RATE_CODE. -/
structure TrainFinds where
  heard : Bool
  stopped : Bool
  cap : Word
  margins : List Nat
  peerMargins : List Nat
  sent : Nat
  echo : List (List Int)
  equal : List (List Int)
deriving DecidableEq, Repr

/-- What starts a regular round of a monitor converter (R386): the converter's own timer, or the group timer. The SYNC
TRIGGER pulse starts its rounds by itself. -/
inductive MonTrig where
  | timer (converter : Nat)
  | group
deriving DecidableEq, Repr

/-- The lock-in sums of one bias output over the last 10 ms (R397): the mean m of its channel, and the in-phase component
a, both in codes. -/
structure BiasMeas where
  out : Nat
  m : Nat
  a : Int
deriving DecidableEq, Repr

/-- What a 1-second boundary brings of one line port (R152, R227): SNR in 0.01 dB of the serving engine and of a spare,
and the spare's corrected and coded bits. -/
structure PortSecond where
  snr : Nat
  spareSnr : Nat
  spareCorr : Nat
  spareCoded : Nat
deriving DecidableEq, Repr

/-- What a 1-second boundary brings (R227): both line ports, and the counts of the host port counters since the last
boundary as (host port, counter ID, count) (Table 10.7). -/
structure SecMeas where
  lp0 : PortSecond
  lp1 : PortSecond
  host : List (Nat × Nat × Nat)
deriving DecidableEq, Repr

/-- The commands and events of the device, one constructor per row of spec/opcode_table.json. -/
inductive Instr where
  /-- PCIE_CMD_PROD_WRITE (R43). -/
  | pcieCmdProdWrite (index : Nat) (dt : Nat)
  /-- PCIE_RING_FETCH (R40). -/
  | pcieRingFetch (words : List Word) (dt : Nat)
  /-- RING_ENABLE (R43). -/
  | ringEnable (on : Bool) (dt : Nat)
  /-- RING_RESET (R43). -/
  | ringReset (dt : Nat)
  /-- RPL_CONS_WRITE (R44). -/
  | rplConsWrite (index : Nat) (dt : Nat)
  /-- EVT_CONS_WRITE (R70). -/
  | evtConsWrite (index : Nat) (dt : Nat)
  /-- REGISTER_WRITE (R43). -/
  | registerWrite (offset : Nat) (value : Word) (dt : Nat)
  /-- FSW_LO_READ (R68). -/
  | fswLoRead (path : FswPath) (offset : Nat) (dt : Nat)
  /-- SPI_CMD_WRITE (R47). -/
  | spiCmdWrite (byte0 : Byte) (words : List Word) (dt : Nat)
  /-- SPI_OUT_READ (R47). -/
  | spiOutRead (byte0 : Byte) (clocked : Nat) (dt : Nat)
  /-- SPI_FSW_READ (R46). -/
  | spiFswRead (byte0 : Byte) (offset : Nat) (count : Nat) (dt : Nat)
  /-- INBAND_PACKET_RECEIVED (R49). -/
  | inbandPacketReceived (p : Lp) (dt : Nat)
  /-- PERST_N_ASSERT (R42). -/
  | perstNAssert (dt : Nat)
  /-- PCIE_LINK_DOWN (R41). -/
  | pcieLinkDown (dt : Nat)
  /-- LOCK_INACTIVITY_TIMEOUT (R66). -/
  | lockInactivityTimeout (lock : Lock) (dt : Nat)
  /-- Opcode 0x0001, DEV_IDENTIFY (R71). -/
  | devIdentify (c : Cmd)
  /-- Opcode 0x0002, DEV_ECHO (R71). -/
  | devEcho (c : Cmd)
  /-- Opcode 0x0003, DEV_RESET (R71). -/
  | devReset (c : Cmd)
  /-- Opcode 0x0004, DEV_STATUS (R73). -/
  | devStatus (c : Cmd)
  /-- Opcode 0x0005, DEV_SLEEP (R22). -/
  | devSleep (c : Cmd)
  /-- Opcode 0x0006, DEV_WAKE (R455). -/
  | devWake (c : Cmd)
  /-- Opcode 0x0007, DEV_PORT_CONFIG (R72). -/
  | devPortConfig (c : Cmd)
  /-- Opcode 0x0008, DEV_EVENT_CONFIG (R70). -/
  | devEventConfig (c : Cmd)
  /-- Opcode 0x0009, DEV_FSW_MAP (R71). -/
  | devFswMap (c : Cmd)
  /-- Opcode 0x000A, DEV_STAGE_CLEAR (R57). -/
  | devStageClear (c : Cmd)
  /-- Opcode 0x000B, DEV_STAGE_LIST (R71). -/
  | devStageList (c : Cmd)
  /-- Opcode 0x0101, MODE_SET (R87). -/
  | modeSet (c : Cmd)
  /-- Opcode 0x0102, MODE_GET (R88). -/
  | modeGet (c : Cmd)
  /-- Opcode 0x0103, MODE_COMMIT (R57). -/
  | modeCommit (c : Cmd)
  /-- MODE_APPLICATION (R89). -/
  | modeApplication (p : Lp) (dt : Nat)
  /-- RE_RESOLUTION (R84). -/
  | reResolution (dt : Nat)
  /-- DARK_REACHED (R22). -/
  | darkReached (dt : Nat)
  /-- SYNC_EDGE_WAKE (R30). -/
  | syncEdgeWake (dt : Nat)
  /-- SPI_CS_WAKE (R31). -/
  | spiCsWake (dt : Nat)
  /-- PCIE_WAKE (R32). -/
  | pcieWake (dt : Nat)
  /-- MATE_WAKE_SEQUENCE_DETECTED (R352). -/
  | mateWakeSequenceDetected (dt : Nat)
  /-- AON_WAKE_TIMER_EXPIRY (R29). -/
  | aonWakeTimerExpiry (dt : Nat)
  /-- COMMAND_READY (R19). -/
  | commandReady (dt : Nat)
  /-- PORESET_ASSERT (R432). -/
  | poresetAssert (dt : Nat)
  /-- PORESET_RELEASE (R407). -/
  | poresetRelease (straps : BitVec 6) (found : BootFinds) (dt : Nat)
  /-- SYSRESET_ASSERT (R432). -/
  | sysresetAssert (dt : Nat)
  /-- SYSRESET_RELEASE (R432). -/
  | sysresetRelease (found : BootFinds) (dt : Nat)
  /-- DEV_RESET_INTERNAL_RELEASE (R432). -/
  | devResetInternalRelease (found : BootFinds) (dt : Nat)
  /-- THERMAL_TRIP (R439). -/
  | thermalTrip (dt : Nat)
  /-- EXTERNAL_TRIP (R439). -/
  | externalTrip (dt : Nat)
  /-- RAIL_FAULT (R440). -/
  | railFault (dt : Nat)
  /-- AON_CLOCK_LOSS (R440). -/
  | aonClockLoss (dt : Nat)
  /-- XO_LOST (R440). -/
  | xoLost (dt : Nat)
  /-- SUPERVISOR_WATCHDOG_EXPIRY (R440). -/
  | supervisorWatchdogExpiry (dt : Nat)
  /-- AVS_VOLTAGE_UPDATE (R428). -/
  | avsVoltageUpdate (target : Nat) (acks : List Bool) (dt : Nat)
  /-- SYNC_DECIM_RESET (R393). -/
  | syncDecimReset (width : Nat) (dt : Nat)
  /-- SYNC_TRIGGER (R388). -/
  | syncTrigger (width : Nat) (dt : Nat)
  /-- SYNC_COMMIT (R90). -/
  | syncCommit (width : Nat) (dt : Nat)
  /-- SYNC_PULSE_REJECTED (R441). -/
  | syncPulseRejected (width : Nat) (dt : Nat)
  /-- SYNC_HIGH_TIMEOUT (R441). -/
  | syncHighTimeout (dt : Nat)
  /-- STATUS_FRAME (R438). -/
  | statusFrame (hottest : Int) (dt : Nat)
  /-- ENGINE_COLD_TO_COOL_DONE (R27). -/
  | engineColdToCoolDone (e : Eng) (linkFail : Bool) (badLoads : List (Nat × Nat)) (dt : Nat)
  /-- ENGINE_WAKE_DONE (R27). -/
  | engineWakeDone (e : Eng) (dt : Nat)
  /-- ENGINE_SHADOW_LOCK (R27). -/
  | engineShadowLock (e : Eng) (dt : Nat)
  /-- ENGINE_POWER_GATED (R27). -/
  | enginePowerGated (e : Eng) (dt : Nat)
  /-- ENGINE_RETENTION_REACHED (R27). -/
  | engineRetentionReached (e : Eng) (dt : Nat)
  /-- UNIT_WAKE_DONE (R455). -/
  | unitWakeDone (target : Nat) (dt : Nat)
  /-- Opcode 0x0201, CONV_CONFIG (R109). -/
  | convConfig (c : Cmd)
  /-- Opcode 0x0202, CONV_STATUS (R124). -/
  | convStatus (c : Cmd)
  /-- Opcode 0x0203, CONV_SLICE_GET (R124). -/
  | convSliceGet (c : Cmd)
  /-- Opcode 0x0204, CONV_SLICE_RESTORE (R103). -/
  | convSliceRestore (c : Cmd)
  /-- CONV_SLICE_RESTORE_DONE (R103). -/
  | convSliceRestoreDone (p : Lp) (inLimits : List Nat) (dt : Nat)
  /-- Opcode 0x0205, CONV_SLICE_RETIRE (R98). -/
  | convSliceRetire (c : Cmd)
  /-- Opcode 0x0206, CHUCK_GET (R113). -/
  | chuckGet (c : Cmd)
  /-- Opcode 0x0207, CONV_LOOP (R116). -/
  | convLoop (c : Cmd)
  /-- Opcode 0x0208, TAP_CONFIG (R117). -/
  | tapConfig (c : Cmd)
  /-- Opcode 0x0209, TAP_ARM (R121). -/
  | tapArm (c : Cmd)
  /-- Opcode 0x020A, TAP_STOP (R121). -/
  | tapStop (c : Cmd)
  /-- Opcode 0x020B, TAP_STATUS (R124). -/
  | tapStatus (c : Cmd)
  /-- Opcode 0x020C, TAP_READ (R122). -/
  | tapRead (c : Cmd)
  /-- Opcode 0x020D, TAP_DMA (R122). -/
  | tapDma (c : Cmd)
  /-- TAP_DMA_DONE (R122). -/
  | tapDmaDone (p : Lp) (found : List Nat) (dt : Nat)
  /-- Opcode 0x020E, CONV_COUNTERS (R125). -/
  | convCounters (c : Cmd)
  /-- TAP_TRIGGER (R121). -/
  | tapTrigger (p : Lp) (source : Nat) (dt : Nat)
  /-- TAP_CAPTURE_DONE (R121). -/
  | tapCaptureDone (p : Lp) (dt : Nat)
  /-- SYNTH_LOCK (R96). -/
  | synthLock (p : Lp) (dt : Nat)
  /-- SYNTH_LOCK_LOSS (R96). -/
  | synthLockLoss (p : Lp) (dt : Nat)
  /-- SYNTH_LOCK_TIMEOUT (R96). -/
  | synthLockTimeout (p : Lp) (dt : Nat)
  /-- SYNTH_LOCK_HOLD_EXPIRY (R126). -/
  | synthLockHoldExpiry (p : Lp) (dt : Nat)
  /-- BACKGROUND_CAL_UPDATE (R101). -/
  | backgroundCalUpdate (p : Lp) (ch : Nat) (slices : List SliceCal) (strobes : List StrobeCal) (dt : Nat)
  /-- SLICE_SELF_CHECK_FAULT (R98). -/
  | sliceSelfCheckFault (p : Lp) (ch slice : Nat) (dt : Nat)
  /-- DAC_SELF_CHECK (R105). -/
  | dacSelfCheck (p : Lp) (ch : Nat) (look : DacCheck) (dt : Nat)
  /-- CONV_FAIL_CLEAR_TIMER (R126). -/
  | convFailClearTimer (p : Lp) (ch : Nat) (dt : Nat)
  /-- LOS_CONDITION_RAISE (R110). -/
  | losConditionRaise (p : Lp) (spell : PowerSpell) (dt : Nat)
  /-- LOS_CONDITION_CLEAR (R110). -/
  | losConditionClear (p : Lp) (spell : PowerSpell) (dt : Nat)
  /-- Opcode 0x0301, DSP_TX_CONFIG (R128). -/
  | dspTxConfig (c : Cmd)
  /-- Opcode 0x0302, DSP_TX_PREEMPH (R130). -/
  | dspTxPreemph (c : Cmd)
  /-- Opcode 0x0303, DSP_RX_CONFIG (R143). -/
  | dspRxConfig (c : Cmd)
  /-- Opcode 0x0304, DSP_STATUS (R158). -/
  | dspStatus (c : Cmd)
  /-- Opcode 0x0305, DSP_ESTIMATES (R152). -/
  | dspEstimates (c : Cmd)
  /-- Opcode 0x0306, DSP_SNR_SPECTRUM (R155). -/
  | dspSnrSpectrum (c : Cmd)
  /-- DSP_SNR_SPECTRUM_DONE (R155). -/
  | dspSnrSpectrumDone (p : Lp) (bins : List Nat) (dt : Nat)
  /-- Opcode 0x0307, DSP_ACQUIRE (R147). -/
  | dspAcquire (c : Cmd)
  /-- Opcode 0x0308, DSP_PROFILE_STORE (R150). -/
  | dspProfileStore (c : Cmd)
  /-- Opcode 0x0309, DSP_PROFILE_WRITE (R150). -/
  | dspProfileWrite (c : Cmd)
  /-- Opcode 0x030A, DSP_PROFILE_READ (R158). -/
  | dspProfileRead (c : Cmd)
  /-- Opcode 0x030B, DSP_PROFILE_SELECT (R149). -/
  | dspProfileSelect (c : Cmd)
  /-- Opcode 0x030C, DSP_PROFILE_CLEAR (R150). -/
  | dspProfileClear (c : Cmd)
  /-- Opcode 0x030D, DSP_EQ_READ (R158). -/
  | dspEqRead (c : Cmd)
  /-- Opcode 0x030E, DSP_COUNTERS (R159). -/
  | dspCounters (c : Cmd)
  /-- TX_CD_RAMP_END (R132). -/
  | txCdRampEnd (p : Lp) (dt : Nat)
  /-- RX_SKEW_ESTIMATE (R133). -/
  | rxSkewEstimate (r : Receiver) (skew : List Int) (dt : Nat)
  /-- CD_TRACK_UPDATE (R135). -/
  | cdTrackUpdate (r : Receiver) (residual : Int) (dt : Nat)
  /-- BULK_PMD_UPDATE (R136). -/
  | bulkPmdUpdate (r : Receiver) (b : BulkPmd) (sopRate : Nat) (dt : Nat)
  /-- NLC_ADAPT_UPDATE (R142). -/
  | nlcAdaptUpdate (r : Receiver) (scale : Nat) (dt : Nat)
  /-- ACQ_STATE_COMPLETE (R147). -/
  | acqStateComplete (p : Lp) (spare : Bool) (m : EstMeas) (dt : Nat)
  /-- ACQ_PROFILE_BOUND_EXPIRY (R147). -/
  | acqProfileBoundExpiry (p : Lp) (spare : Bool) (dt : Nat)
  /-- ACQ_COLD_SUM_EXPIRY (R147). -/
  | acqColdSumExpiry (p : Lp) (spare : Bool) (dt : Nat)
  /-- PILOT_LOCK_LOST (R147). -/
  | pilotLockLost (r : Receiver) (slots : List PilotSlot) (dt : Nat)
  /-- PILOT_LOCK_REGAINED (R147). -/
  | pilotLockRegained (r : Receiver) (slots : List PilotSlot) (dt : Nat)
  /-- LOCK_HOLD_EXPIRY (R147). -/
  | lockHoldExpiry (p : Lp) (spare : Bool) (dt : Nat)
  /-- LAST_PROFILE_UPDATE (R150). -/
  | lastProfileUpdate (p : Lp) (dt : Nat)
  /-- ESTIMATE_UPDATE (R152). -/
  | estimateUpdate (p : Lp) (spare : Bool) (m : EstMeas) (dt : Nat)
  /-- DSP_ALARM_TIMER_EXPIRY (R160). -/
  | dspAlarmTimerExpiry (p : Lp) (alarm : Nat) (dt : Nat)
  /-- Opcode 0x0401, SPN_MAP (R162). -/
  | spnMap (c : Cmd)
  /-- Opcode 0x0402, SPN_PERF_CONFIG (R177). -/
  | spnPerfConfig (c : Cmd)
  /-- Opcode 0x0403, SPN_PERF_READ (R176). -/
  | spnPerfRead (c : Cmd)
  /-- Opcode 0x0404, SPN_PERF_FREEZE (R178). -/
  | spnPerfFreeze (c : Cmd)
  /-- Opcode 0x0405, SPN_READER (R179). -/
  | spnReader (c : Cmd)
  /-- Opcode 0x0406, SPN_KERNEL_RESERVE (R166). -/
  | spnKernelReserve (c : Cmd)
  /-- Opcode 0x0407, SPN_KERNEL_LOAD (R167). -/
  | spnKernelLoad (c : Cmd)
  /-- Opcode 0x0408, SPN_KERNEL_START (R168). -/
  | spnKernelStart (c : Cmd)
  /-- SPN_KERNEL_START_DONE (R168). -/
  | spnKernelStartDone (e : Eng) (slot : Nat) (dt : Nat)
  /-- Opcode 0x0409, SPN_KERNEL_STOP (R181). -/
  | spnKernelStop (c : Cmd)
  /-- Opcode 0x040A, SPN_KERNEL_READ (R181). -/
  | spnKernelRead (c : Cmd)
  /-- Opcode 0x040B, SPN_KERNEL_STATUS (R181). -/
  | spnKernelStatus (c : Cmd)
  /-- Opcode 0x040C, SPN_CUST_KEY_FUSE (R167). -/
  | spnCustKeyFuse (c : Cmd)
  /-- Opcode 0x040D, SPN_COUNTERS (R182). -/
  | spnCounters (c : Cmd)
  /-- SPINDLE_FAULT (R163). -/
  | spindleFault (e : Eng) (spindle cause : Nat) (selfTest : Bool) (dt : Nat)
  /-- ROLE_WATCHDOG_EXPIRY (R163). -/
  | roleWatchdogExpiry (e : Eng) (spindle : Nat) (selfTest : Bool) (dt : Nat)
  /-- ROLE_MOVE_DONE (R163). -/
  | roleMoveDone (e : Eng) (dt : Nat)
  /-- SPINDLE_SELF_TEST_ROTATION (R163). -/
  | spindleSelfTestRotation (e : Eng) (pass selfTest : Bool) (dt : Nat)
  /-- ROLE_CHECKPOINT (R163). -/
  | roleCheckpoint (e : Eng) (act : List SpnActivity) (mail : List KernelMail) (reads : List Nat) (dt : Nat)
  /-- MICROCODE_REFRESH (R165). -/
  | microcodeRefresh (e : Eng) (mismatches : Nat) (dt : Nat)
  /-- KERNEL_WATCHDOG_EXPIRY (R169). -/
  | kernelWatchdogExpiry (e : Eng) (slot : Nat) (dt : Nat)
  /-- KERNEL_FAULT (R169). -/
  | kernelFault (e : Eng) (slot cause : Nat) (dt : Nat)
  /-- KERNEL_NOTE (R170). -/
  | kernelNote (e : Eng) (slot : Nat) (note : Word) (dt : Nat)
  /-- CENTRAL_SWEEP (R179). -/
  | centralSweep (e : Eng) (dt : Nat)
  /-- READER_RECOVERY_EXPIRY (R179). -/
  | readerRecoveryExpiry (e : Eng) (dt : Nat)
  /-- Opcode 0x0501, FEC_CONFIG (R208). -/
  | fecConfig (c : Cmd)
  /-- Opcode 0x0502, FEC_STATUS (R208). -/
  | fecStatus (c : Cmd)
  /-- Opcode 0x0503, FEC_HISTOGRAM (R208). -/
  | fecHistogram (c : Cmd)
  /-- Opcode 0x0504, FEC_HDR_READ (R208). -/
  | fecHdrRead (c : Cmd)
  /-- Opcode 0x0505, FEC_COUNTERS (R209). -/
  | fecCounters (c : Cmd)
  /-- CODEWORD_RELEASE (R200). -/
  | codewordRelease (p : Lp) (x : CodewordRx) (zrConv : Bool) (zrOnes zrZeros : Nat) (dt : Nat)
  /-- ROBUST_HEADER_DECODED (R203). -/
  | robustHeaderDecoded (p : Lp) (header : List Byte) (locator : Word) (anchor : Nat) (dt : Nat)
  /-- FEC_EXCESS_CLEAR_TIMER (R210). -/
  | fecExcessClearTimer (p : Lp) (dt : Nat)
  /-- Opcode 0x0601, LF_CONFIG (R236). -/
  | lfConfig (c : Cmd)
  /-- Opcode 0x0602, LF_TRACE_SET (R236). -/
  | lfTraceSet (c : Cmd)
  /-- Opcode 0x0603, LF_TRACE_GET (R236). -/
  | lfTraceGet (c : Cmd)
  /-- Opcode 0x0604, LF_STATUS (R236). -/
  | lfStatus (c : Cmd)
  /-- Opcode 0x0605, PM_HISTORY_READ (R229). -/
  | pmHistoryRead (c : Cmd)
  /-- Opcode 0x0606, PM_BIN_READ (R232). -/
  | pmBinRead (c : Cmd)
  /-- Opcode 0x0607, PM_CONFIG (R232). -/
  | pmConfig (c : Cmd)
  /-- Opcode 0x0608, PM_CLEAR (R236). -/
  | pmClear (c : Cmd)
  /-- Opcode 0x0609, LF_COUNTERS (R237). -/
  | lfCounters (c : Cmd)
  /-- VLF_FRAME_RECEIVED (R219). -/
  | vlfFrameReceived (p : Lp) (f : RxFrame) (dt : Nat)
  /-- VLF_FRAME_SEND (R211). -/
  | vlfFrameSend (p : Lp) (blocks : List ClientBlock) (dt : Nat)
  /-- LOF_TIMER_EXPIRY (R224). -/
  | lofTimerExpiry (p : Lp) (dt : Nat)
  /-- INHIBIT_TIME_EXPIRY (R233). -/
  | inhibitTimeExpiry (p : Lp) (dt : Nat)
  /-- ONE_SECOND_TICK (R227). -/
  | oneSecondTick (m : SecMeas) (dt : Nat)
  /-- PM_RECORD_EVALUATE (R230). -/
  | pmRecordEvaluate (p : Lp) (dt : Nat)
  /-- Opcode 0x0701, KEY_LOCK (R243). -/
  | keyLock (c : Cmd)
  /-- Opcode 0x0702, KEY_UNLOCK (R243). -/
  | keyUnlock (c : Cmd)
  /-- Opcode 0x0703, KEY_LOAD (R242). -/
  | keyLoad (c : Cmd)
  /-- Opcode 0x0704, KEY_ACTIVATE (R246). -/
  | keyActivate (c : Cmd)
  /-- Opcode 0x0705, KEY_ZEROISE (R254). -/
  | keyZeroise (c : Cmd)
  /-- Opcode 0x0706, KEY_ERASE (R258). -/
  | keyErase (c : Cmd)
  /-- Opcode 0x0707, KEY_STATUS (R258). -/
  | keyStatus (c : Cmd)
  /-- Opcode 0x0708, CIPHER_CONFIG (R258). -/
  | cipherConfig (c : Cmd)
  /-- Opcode 0x0709, CIPHER_COUNTERS (R259). -/
  | cipherCounters (c : Cmd)
  /-- SESSION_DERIVED (R244). -/
  | sessionDerived (p : Lp) (rx : Bool) (dt : Nat)
  /-- CRYPTO_CYCLE_RECEIVED (R245). -/
  | cryptoCycleReceived (p : Lp) (dt : Nat)
  /-- HANDSHAKE_SWITCH (R246). -/
  | handshakeSwitch (p : Lp) (dt : Nat)
  /-- HANDSHAKE_TIMEOUT (R246). -/
  | handshakeTimeout (p : Lp) (dt : Nat)
  /-- COUNTER_REDERIVE (R248). -/
  | counterRederive (p : Lp) (dt : Nat)
  /-- KEY_EXHAUST (R248). -/
  | keyExhaust (p : Lp) (dt : Nat)
  /-- RNG_HEALTH_FAIL (R244). -/
  | rngHealthFail (dt : Nat)
  /-- RNG_FAIL_CLEAR_TIMER (R260). -/
  | rngFailClearTimer (dt : Nat)
  /-- TAMPER_DETECTED (R254). -/
  | tamperDetected (source : Tamper) (dt : Nat)
  /-- Opcode 0x0801, HL_CONFIG (R265). -/
  | hlConfig (c : Cmd)
  /-- Opcode 0x0802, HL_STATUS (R281). -/
  | hlStatus (c : Cmd)
  /-- Opcode 0x0803, HP_CONFIG (R281). -/
  | hpConfig (c : Cmd)
  /-- Opcode 0x0804, HP_STATUS (R281). -/
  | hpStatus (c : Cmd)
  /-- Opcode 0x0805, HP_RETRAIN (R281). -/
  | hpRetrain (c : Cmd)
  /-- Opcode 0x0806, HP_LOOPBACK (R278). -/
  | hpLoopback (c : Cmd)
  /-- Opcode 0x0807, HL_SYNCE_SELECT (R279). -/
  | hlSynceSelect (c : Cmd)
  /-- Opcode 0x0808, HP_COUNTERS (R282). -/
  | hpCounters (c : Cmd)
  /-- HL_CDR_LOCK_LOSS (R271). -/
  | hlCdrLockLoss (lane : Nat) (dt : Nat)
  /-- HL_SIGNAL_RETURN (R271). -/
  | hlSignalReturn (lane : Nat) (m : LaneMeas) (dt : Nat)
  /-- LANE_HOLD_EXPIRY (R271). -/
  | laneHoldExpiry (lane : Nat) (dt : Nat)
  /-- PCS_ALIGNMENT_LOSS (R268). -/
  | pcsAlignmentLoss (port : Nat) (dt : Nat)
  /-- TRAIN_ATTEMPT_START (R269). -/
  | trainAttemptStart (port : Nat) (dt : Nat)
  /-- TRAIN_ATTEMPT_TIMEOUT (R269). -/
  | trainAttemptTimeout (port : Nat) (dt : Nat)
  /-- ALIGNING_TIMEOUT (R269). -/
  | aligningTimeout (port : Nat) (dt : Nat)
  /-- HP_ALIGNING_REACHED (R268). -/
  | hpAligningReached (port : Nat) (lanes : List LaneMeas) (dt : Nat)
  /-- HP_UP_REACHED (R270). -/
  | hpUpReached (port skew : Nat) (dt : Nat)
  /-- REMOTE_FAULT_RECEIVED (R276). -/
  | remoteFaultReceived (port : Nat) (dt : Nat)
  /-- REMOTE_FAULT_CLEAR_TIMER (R283). -/
  | remoteFaultClearTimer (port : Nat) (dt : Nat)
  /-- Opcode 0x0901, TM_CONFIG (R307). -/
  | tmConfig (c : Cmd)
  /-- Opcode 0x0902, TM_SOURCE_CONFIG (R289). -/
  | tmSourceConfig (c : Cmd)
  /-- Opcode 0x0903, TM_POLICER_PROFILE (R300). -/
  | tmPolicerProfile (c : Cmd)
  /-- Opcode 0x0904, FLOW_WRITE (R289). -/
  | flowWrite (c : Cmd)
  /-- Opcode 0x0905, FLOW_READ (R307). -/
  | flowRead (c : Cmd)
  /-- Opcode 0x0906, FLOW_DELETE (R307). -/
  | flowDelete (c : Cmd)
  /-- Opcode 0x0907, TM_QUEUE_CONFIG (R300). -/
  | tmQueueConfig (c : Cmd)
  /-- Opcode 0x0908, TM_QUEUE_STATUS (R305). -/
  | tmQueueStatus (c : Cmd)
  /-- Opcode 0x0909, TM_GATE_CONFIG (R301). -/
  | tmGateConfig (c : Cmd)
  /-- Opcode 0x090A, TM_STATUS (R307). -/
  | tmStatus (c : Cmd)
  /-- Opcode 0x090B, TM_COUNTERS (R308). -/
  | tmCounters (c : Cmd)
  /-- TM_FRAME_ARRIVAL (R286). -/
  | tmFrameArrival (source : Nat) (f : TmFrame) (stagingFull : Bool) (dt : Nat)
  /-- TM_FRAME_SELECT (R298). -/
  | tmFrameSelect (output : Nat) (dt : Nat)
  /-- GATE_CHANGE (R301). -/
  | gateChange (output : Nat) (dt : Nat)
  /-- QUEUE_DEPTH_SAMPLE (R305). -/
  | queueDepthSample (dt : Nat)
  /-- TM_BANK_SLEEP (R296). -/
  | tmBankSleep (bank : Nat) (dt : Nat)
  /-- TM_BANK_WAKE_DONE (R296). -/
  | tmBankWakeDone (bank : Nat) (dt : Nat)
  /-- Opcode 0x0A01, PROT_CONFIG (R336). -/
  | protConfig (c : Cmd)
  /-- Opcode 0x0A02, PROT_STATUS (R336). -/
  | protStatus (c : Cmd)
  /-- Opcode 0x0A03, PROT_ENGINE_SWITCH (R336). -/
  | protEngineSwitch (c : Cmd)
  /-- Opcode 0x0A04, PROT_ENGINE_RESTORE (R319). -/
  | protEngineRestore (c : Cmd)
  /-- ENGINE_RESTORE_SELF_TEST_DONE (R319). -/
  | engineRestoreSelfTestDone (e : Eng) (pass : Bool) (dt : Nat)
  /-- Opcode 0x0A05, PROT_SPINDLE_RESTORE (R323). -/
  | protSpindleRestore (c : Cmd)
  /-- Opcode 0x0A06, APS_CONFIG (R336). -/
  | apsConfig (c : Cmd)
  /-- Opcode 0x0A07, APS_COMMAND (R330). -/
  | apsCommand (c : Cmd)
  /-- Opcode 0x0A08, PROT_INJECT (R327). -/
  | protInject (c : Cmd)
  /-- Opcode 0x0A09, PROT_CHECKER (R326). -/
  | protChecker (c : Cmd)
  /-- Opcode 0x0A0A, PROT_COUNTERS (R337). -/
  | protCounters (c : Cmd)
  /-- ENGINE_FAULT_DETECTED (R311). -/
  | engineFaultDetected (e : Eng) (cause : Nat) (dt : Nat)
  /-- ENGINE_HEARTBEAT_MISSING (R311). -/
  | engineHeartbeatMissing (e : Eng) (dt : Nat)
  /-- SF_DISAGREE_TIMER (R312). -/
  | sfDisagreeTimer (p : Lp) (dt : Nat)
  /-- SWITCHOVER_CUT (R313). -/
  | switchoverCut (p : Lp) (dt : Nat)
  /-- WARM_GAP_END (R313). -/
  | warmGapEnd (p : Lp) (dt : Nat)
  /-- DUAL_ACTIVE_WINDOW_END (R315). -/
  | dualActiveWindowEnd (p : Lp) (dt : Nat)
  /-- COOL_TAKEOVER_LES_RELEASED (R316). -/
  | coolTakeoverLesReleased (p : Lp) (dt : Nat)
  /-- COOL_TAKEOVER_TRANSMIT (R316). -/
  | coolTakeoverTransmit (p : Lp) (skipped : Nat) (dt : Nat)
  /-- BURNISH_PERIOD_TIMER (R320). -/
  | burnishPeriodTimer (dt : Nat)
  /-- BURNISH_PHASE_END (R320). -/
  | burnishPhaseEnd (dt : Nat)
  /-- PARITY_ERROR_DETECTED (R324). -/
  | parityErrorDetected (link : ParityLink) (held : Bool) (dt : Nat)
  /-- REPLAY_RECEIVED (R324). -/
  | replayReceived (link : ParityLink) (bad tx : Bool) (dt : Nat)
  /-- MEMORY_ERROR_DETECTED (R325). -/
  | memoryErrorDetected (m : MemErr) (dt : Nat)
  /-- SCRUB_PASS (R325). -/
  | scrubPass (id target : Nat) (found : List MemErr) (dt : Nat)
  /-- APS_HOLD_OFF_EXPIRY (R328). -/
  | apsHoldOffExpiry (p : Lp) (dt : Nat)
  /-- APS_WTR_EXPIRY (R330). -/
  | apsWtrExpiry (p : Lp) (dt : Nat)
  /-- APS_MISMATCH_TIMER (R329). -/
  | apsMismatchTimer (p : Lp) (dt : Nat)
  /-- Opcode 0x0B01, MATE_CONFIG (R358). -/
  | mateConfig (c : Cmd)
  /-- Opcode 0x0B02, MATE_STATUS (R358). -/
  | mateStatus (c : Cmd)
  /-- Opcode 0x0B03, MATE_RETRAIN (R358). -/
  | mateRetrain (c : Cmd)
  /-- Opcode 0x0B04, MATE_WAKE_PEER (R352). -/
  | mateWakePeer (c : Cmd)
  /-- MATE_WAKE_PEER_TIMEOUT (R358). -/
  | mateWakePeerTimeout (dt : Nat)
  /-- Opcode 0x0B05, MATE_MIRROR_READ (R355). -/
  | mateMirrorRead (c : Cmd)
  /-- Opcode 0x0B06, MATE_COUNTERS (R359). -/
  | mateCounters (c : Cmd)
  /-- MATE_CANDIDATE (R344). -/
  | mateCandidate (rate : Nat) (samples : List Int) (dt : Nat)
  /-- MATE_SFD_TIMEOUT (R345). -/
  | mateSfdTimeout (dt : Nat)
  /-- MATE_BURST_RECEIVED (R345). -/
  | mateBurstReceived (b : RxBurst) (dt : Nat)
  /-- MATE_HEARTBEAT_TIMER (R349). -/
  | mateHeartbeatTimer (dt : Nat)
  /-- MATE_SILENCE_TIMEOUT (R349). -/
  | mateSilenceTimeout (dt : Nat)
  /-- MATE_TRAIN_PHASE_END (R346). -/
  | mateTrainPhaseEnd (f : TrainFinds) (dt : Nat)
  /-- MATE_TRAIN_ATTEMPT_TIMEOUT (R346). -/
  | mateTrainAttemptTimeout (dt : Nat)
  /-- MATE_TRAIN_BACKOFF_EXPIRY (R347). -/
  | mateTrainBackoffExpiry (dt : Nat)
  /-- MATE_RESUME_TIMEOUT (R348). -/
  | mateResumeTimeout (dt : Nat)
  /-- MATE_RETRANSMIT_TIMER (R354). -/
  | mateRetransmitTimer (dt : Nat)
  /-- MATE_ACK_ONLY_TIMER (R354). -/
  | mateAckOnlyTimer (dt : Nat)
  /-- MATE_SEGMENT_TIMEOUT (R353). -/
  | mateSegmentTimeout (dt : Nat)
  /-- MATE_MIRROR_TIMER (R355). -/
  | mateMirrorTimer (p : Lp) (dt : Nat)
  /-- MIRROR_MISMATCH_TIMER (R355). -/
  | mirrorMismatchTimer (group : Nat) (dt : Nat)
  /-- MATE_RX_WAKE_TIMER (R351). -/
  | mateRxWakeTimer (dt : Nat)
  /-- MATE_WAKE_LEAD_DETECTED (R351). -/
  | mateWakeLeadDetected (dt : Nat)
  /-- MATE_RATE_DOWN (R356). -/
  | mateRateDown (dt : Nat)
  /-- Opcode 0x0C01, CLK_CONFIG (R380). -/
  | clkConfig (c : Cmd)
  /-- Opcode 0x0C02, CLK_CAND_CONFIG (R362). -/
  | clkCandConfig (c : Cmd)
  /-- Opcode 0x0C03, CLK_STATUS (R380). -/
  | clkStatus (c : Cmd)
  /-- Opcode 0x0C04, CLK_SELECT (R368). -/
  | clkSelect (c : Cmd)
  /-- Opcode 0x0C05, CLK_OUT_CONFIG (R378). -/
  | clkOutConfig (c : Cmd)
  /-- Opcode 0x0C06, PPS_CONFIG (R376). -/
  | ppsConfig (c : Cmd)
  /-- Opcode 0x0C07, CLK_COUNTERS (R381). -/
  | clkCounters (c : Cmd)
  /-- REF_CANDIDATE_INVALID (R361). -/
  | refCandidateInvalid (look : CandLook) (dt : Nat)
  /-- REF_CANDIDATE_VALID (R363). -/
  | refCandidateValid (look : CandLook) (dt : Nat)
  /-- QUALIFICATION_WINDOW_END (R363). -/
  | qualificationWindowEnd (offsets : List Int) (cleaned : Int) (phase : Int) (dt : Nat)
  /-- CLK_WTR_EXPIRY (R364). -/
  | clkWtrExpiry (candidate : Nat) (dt : Nat)
  /-- CLK_SWITCH_COMPLETE (R366). -/
  | clkSwitchComplete (phase : Int) (dt : Nat)
  /-- CLK_LOCKED_REACHED (R369). -/
  | clkLockedReached (w : WindowDiff)
  /-- HOLDOVER_TIMER_EXPIRY (R372). -/
  | holdoverTimerExpiry (dt : Nat)
  /-- PPS_IN_EDGE (R376). -/
  | ppsInEdge (rising : Bool) (widthNs : Nat) (dt : Nat)
  /-- PPS_IN_ABSENT_TIMEOUT (R376). -/
  | ppsInAbsentTimeout (dt : Nat)
  /-- PPS_OUT_PULSE (R377). -/
  | ppsOutPulse (dt : Nat)
  /-- Opcode 0x0D01, MON_CHAN_CONFIG (R401). -/
  | monChanConfig (c : Cmd)
  /-- Opcode 0x0D02, MON_SEQ_CONFIG (R386). -/
  | monSeqConfig (c : Cmd)
  /-- Opcode 0x0D03, MON_INJ_CONFIG (R387). -/
  | monInjConfig (c : Cmd)
  /-- Opcode 0x0D04, MON_DECIM_CONFIG (R391). -/
  | monDecimConfig (c : Cmd)
  /-- Opcode 0x0D05, MON_CONTROL (R386). -/
  | monControl (c : Cmd)
  /-- Opcode 0x0D06, MON_DECIM_RESET (R393). -/
  | monDecimReset (c : Cmd)
  /-- Opcode 0x0D07, MON_CALIBRATE (R390). -/
  | monCalibrate (c : Cmd)
  /-- MON_CALIBRATION_DONE (R390). -/
  | monCalibrationDone (converter : Nat) (offset gain : Int) (dt : Nat)
  /-- Opcode 0x0D08, MON_INJ_READ (R401). -/
  | monInjRead (c : Cmd)
  /-- Opcode 0x0D09, MON_BUF_CONFIG (R394). -/
  | monBufConfig (c : Cmd)
  /-- Opcode 0x0D0A, MON_BUF_READ (R394). -/
  | monBufRead (c : Cmd)
  /-- Opcode 0x0D0B, MON_BUF_DMA (R394). -/
  | monBufDma (c : Cmd)
  /-- MON_BUF_DMA_DONE (R394). -/
  | monBufDmaDone (dt : Nat)
  /-- Opcode 0x0D0C, MON_STATUS (R401). -/
  | monStatus (c : Cmd)
  /-- Opcode 0x0D0D, BIAS_CONFIG (R397). -/
  | biasConfig (c : Cmd)
  /-- Opcode 0x0D0E, BIAS_STATUS (R401). -/
  | biasStatus (c : Cmd)
  /-- Opcode 0x0D0F, MON_COUNTERS (R402). -/
  | monCounters (c : Cmd)
  /-- MON_REGULAR_TRIGGER (R386). -/
  | monRegularTrigger (trig : MonTrig) (dt : Nat)
  /-- MON_INJ_TRIGGER (R387). -/
  | monInjTrigger (converter : Nat) (dt : Nat)
  /-- MON_CONVERSION_DONE (R384). -/
  | monConversionDone (converter code : Nat) (dt : Nat)
  /-- BIAS_LOOP_UPDATE (R397). -/
  | biasLoopUpdate (p : Lp) (m : List BiasMeas) (dt : Nat)
  /-- BIAS_RAMP_END (R399). -/
  | biasRampEnd (p : Lp) (out : Nat) (dt : Nat)
  /-- BIAS_ACQUIRE_TIMEOUT (R399). -/
  | biasAcquireTimeout (p : Lp) (out : Nat) (dt : Nat)
  /-- BIAS_NO_LIGHT_TIMER (R399). -/
  | biasNoLightTimer (p : Lp) (out : Nat) (dt : Nat)
  /-- Opcode 0x0E01, FW_UPDATE_BEGIN (R413). -/
  | fwUpdateBegin (c : Cmd)
  /-- Opcode 0x0E02, FW_UPDATE_CHUNK (R413). -/
  | fwUpdateChunk (c : Cmd)
  /-- Opcode 0x0E03, FW_UPDATE_END (R414). -/
  | fwUpdateEnd (c : Cmd)
  /-- FW_UPDATE_END_DONE (R414). -/
  | fwUpdateEndDone (flashOk : Bool) (dt : Nat)
  /-- Opcode 0x0E04, FW_ACTIVATE (R415). -/
  | fwActivate (c : Cmd)
  /-- FW_ACTIVATE_IMAGE_LOADED (R415). -/
  | fwActivateImageLoaded (dt : Nat)
  /-- FW_PAUSE_END (R64). -/
  | fwPauseEnd (handoverOk storeOk : Bool) (dt : Nat)
  /-- FW_PAUSE_DEADLINE (R416). -/
  | fwPauseDeadline (dt : Nat)
  /-- TRIAL_TIMER_EXPIRY (R416). -/
  | trialTimerExpiry (dt : Nat)
  /-- Opcode 0x0E05, FW_CONFIRM (R417). -/
  | fwConfirm (c : Cmd)
  /-- FW_CONFIRM_DONE (R417). -/
  | fwConfirmDone (dt : Nat)
  /-- Opcode 0x0E06, FW_LOCK (R412). -/
  | fwLock (c : Cmd)
  /-- Opcode 0x0E07, FW_UNLOCK (R412). -/
  | fwUnlock (c : Cmd)
  /-- Opcode 0x0E08, FW_STATUS (R421). -/
  | fwStatus (c : Cmd)
  /-- Opcode 0x0E09, FW_UPDATE_ABORT (R413). -/
  | fwUpdateAbort (c : Cmd)
  /-- Opcode 0x0E0A, CFG_SAVE (R418). -/
  | cfgSave (c : Cmd)
  /-- CFG_SAVE_DONE (R418). -/
  | cfgSaveDone (dt : Nat)
  /-- Opcode 0x0E0B, CFG_CLEAR (R421). -/
  | cfgClear (c : Cmd)
  /-- CFG_CLEAR_DONE (R421). -/
  | cfgClearDone (dt : Nat)
  /-- Opcode 0x0E0C, CFG_POLICY (R419). -/
  | cfgPolicy (c : Cmd)
  /-- Opcode 0x0E0D, CFG_STATUS (R421). -/
  | cfgStatus (c : Cmd)
  /-- Opcode 0x0F01, SEAL_DEVICE (R447). -/
  | sealDevice (c : Cmd)
  /-- SEAL_DEVICE_DONE (R453). -/
  | sealDeviceDone (aBlown bBlown bRetry : Bool) (dt : Nat)
  /-- Opcode 0x0F02, SEAL_STATUS (R452). -/
  | sealStatus (c : Cmd)
  /-- Opcode 0x0F03, DBG_MEM_READ (R450). -/
  | dbgMemRead (c : Cmd)
  /-- Opcode 0x0F04, DBG_MEM_WRITE (R450). -/
  | dbgMemWrite (c : Cmd)
  /-- SEAL_GATE_CHECK (R448). -/
  | sealGateCheck (gateOpen : Bool) (dt : Nat)
  /-- JTAG_INSTRUCTION_LOAD (R451). -/
  | jtagInstructionLoad (code : Nat) (dt : Nat)
  /-- PCIE_LINK_UP (R41). -/
  | pcieLinkUp (dt : Nat)
  /-- PCIE_FSW_READ (R68). -/
  | pcieFswRead (offset : Nat) (dt : Nat)
  /-- DEV_WAKE_HOLD_EXPIRY (R72). -/
  | devWakeHoldExpiry (target : Nat) (dt : Nat)
  /-- SPN_COUNTER_OVERFLOW (R174). -/
  | spnCounterOverflow (e : Eng) (spindle counter : Nat) (dt : Nat)
  /-- SPN_NO_IDLE_CLEAR_TIMER (R183). -/
  | spnNoIdleClearTimer (e : Eng) (dt : Nat)
  /-- TAMPER_DETECTOR_CLEAR (R255). -/
  | tamperDetectorClear (source : Tamper) (dt : Nat)
  /-- TM_POOL_HIGH_CLEAR_TIMER (R309). -/
  | tmPoolHighClearTimer (dt : Nat)
  /-- PROT_SPINDLE_RESTORE_DONE (R323). -/
  | protSpindleRestoreDone (e : Eng) (passed : List Nat) (dt : Nat)
  /-- INJECTED_APS_SF_EXPIRY (R327). -/
  | injectedApsSfExpiry (p : Lp) (dt : Nat)
  /-- PARITY_PERSIST_CLEAR_TIMER (R338). -/
  | parityPersistClearTimer (target : Nat) (dt : Nat)
  /-- MATE_RX_LISTEN_TIMEOUT (R351). -/
  | mateRxListenTimeout (dt : Nat)
  /-- POWER_APPLIED (R430). -/
  | powerApplied (dt : Nat)
  /-- POWER_REMOVED (R431). -/
  | powerRemoved (dt : Nat)
  /-- TRST_N_ASSERT (R451). -/
  | trstNAssert (dt : Nat)
deriving DecidableEq, Repr

end Sys2Proof
end

