-- ==== Sys2Proof/Decode.lean ====
section
/-!
DEFINITION. Sys2Proof/Decode.lean: the command a word of the opcode table spells. No row of the table gives bits, so no word
spells a command (log entry 4).
-/
namespace Sys2Proof

/-- The command spelled by a word of the opcode table. -/
def decodeTableWord (_nbits _w : Nat) : Option Instr := none

end Sys2Proof
end

