-- ==== Sys2Proof/Config.lean ====
section
/-!
DEFINITION. Sys2Proof/Config.lean: what the silicon, the fuses and the standards the manual cites fix, and the free
values. A free value is an opaque constant: nothing in Lean can evaluate it, so what is proved holds for every value.
-/
namespace Sys2Proof.Config
open Sys2Proof

/-- The free values. Every value the manual leaves open after a step that completes is `freeWord` of the next value of
the model's own counter `State.freeCtr` (log entry 5). -/
opaque freeWord : Nat → Word

/-- ORDERING of DEV_IDENTIFY (R2, Table 2.12): 0 VXS3240-C, 1 VXS3240-I. Fixed by the part, free in the model. -/
opaque ordering : Bool

/-- DEVICE_ID (R3). -/
def deviceId : Word := 0x00003240#32

/-- SILICON_REV (R3). -/
def siliconRev : Word := 0x000000B0#32

/-- FIPS 186 ECDSA on P-384 with SHA-384 (R404) under the image-signing key held in the boot ROM: message words,
signature r and s. -/
opaque imageSignatureOk : List Word → List Word → List Word → Bool

/-- The same under a customer key whose SHA-384 hash is fused as CUST_KEY (R167): key hash, message, signature words. -/
opaque kernelSignatureOk : List Word → List Word → List Word → Bool

/-- DEVICE_KEY (R404), fused uniquely in each device; no opcode reads it. -/
opaque deviceKey : List Byte

/-- UPDATE_KEY (R404). -/
opaque updateKey : List Byte

/-- The decoder's release delay in ns for a mode word and an effective cap of passes, before the bound of Table 7.6
(R200), and the codewords in flight in ZR800, whose codeword length the manual does not give. -/
opaque releaseDelay : Nat → Nat → Nat
opaque zrInFlight : Nat

/-- The coded bits of a codeword of the 800ZR format, which the manual does not give (log entry 5). -/
opaque zrCodewordBits : Nat

/-- The constant of R192 per RATE / 100, in 1/2^32, before the bound of that rule (log entry 140). -/
opaque payloadScale : Nat → Nat

/-- The decoder's limit of a likelihood ratio (R199, log entry 140). -/
opaque llrLimit : Nat

/-- The release delay in ns while it steps down from one to another, for the ticks since the change (R207, log entry 141). -/
opaque stepDelay : Nat → Nat → Nat → Nat

/-- Bytes of PRBS-31 in a TRAIN burst, and the state its register starts from, for the burst's number (R346, log entry 152). -/
opaque trainLength : Nat
opaque trainSeed : Nat → BitVec 31

/-- The dither of a bias output in 1/2^32 of its peak, for its frequency in Hz and the housekeeping time in ticks (R396): a sine
whose phase the manual does not give. -/
opaque ditherSine : Nat → Nat → Int

/-- Coefficient `i` of a half-band response in 1/2^32, of a FIR response in Q1.15: ROM contents the manual does not give (R391,
R392). The half-band responses are symmetrical and have a DC gain of 1, so that the last halves are not used (log entry 154). -/
opaque hbRom : Nat → Nat → Int
opaque firRom : Nat → Nat → BitVec 16

/-- The device's stored transceiver SNR for a granted RATE / 100, in 0.01 dB (R153). -/
opaque snrTrx : Nat → Nat

/-- The check bits hardware computes over a 64-bit word (R325, R450). Opaque: the manual does not give the code. -/
opaque secdedCheck : BitVec 64 → Byte

/-- An image of one SCHEMA can migrate a configuration store written in another (R418, R419). Opaque: the manual leaves the
schemas to the images. -/
opaque canMigrate : Nat → Nat → Bool

/-- Under POWER ECONOMY a spindle sleeps between its scheduled tasks (Table 1.10): whether spindle n of engine e (0 LE0, 1
LE1, 2 LES) is between tasks at a housekeeping time. Opaque: the manual gives no task schedule (log entry 115). -/
opaque betweenTasks : Nat → Nat → Nat → Bool

/-- The signal a capture of the sample tap records: capture, channel, sample (log entry 127). -/
opaque tapSignal : Nat → Nat → Nat → Word

/-- A perturbation coefficient from NLC_SPAN_COUNT, NLC_SPAN_KM, NLC_LAUNCH and its place in the window (R142, log entry
133). -/
opaque nlcCoef : Nat → Nat → Int → Nat → Word

/-- Words of a kernel's mailbox that nothing has written: engine, slot, word (R169, log entry 5). -/
opaque mailboxWord : Nat → Nat → Nat → Word

end Sys2Proof.Config
end

