-- ==== Sys2Proof/Machine/Bits.lean ====
section
/-!
DEFINITION. Sys2Proof/Machine/Bits.lean: bit fields, byte order, signed readings and the cyclic redundancy codes.
-/
namespace Sys2Proof.Machine
open Sys2Proof

/-- Bits `lo + len - 1` down to `lo` of a number (the manual's FIELD[hi:lo]). -/
def bits (n lo len : Nat) : Nat := (n >>> lo) % 2 ^ len

/-- Bit `i` of a number. -/
def bit (n i : Nat) : Bool := n.testBit i

/-- A Boolean as bit `i` of a word under construction. -/
def onBit (b : Bool) (i : Nat) : Nat := if b then 2 ^ i else 0

/-- A Boolean as 0 or 1. -/
def b01 (b : Bool) : Nat := if b then 1 else 0

/-- The two's complement reading of the low `w` bits. -/
def sgn (w n : Nat) : Int :=
  let m := n % 2 ^ w
  if 2 * m < 2 ^ w then (m : Int) else (m : Int) - (2 ^ w : Nat)

/-- The two's complement field of `w` bits holding an integer. -/
def uns (w : Nat) (i : Int) : Nat := (i % ((2 ^ w : Nat) : Int)).toNat

/-- Integer division rounded up. -/
def ceilDiv (a b : Nat) : Nat := (a + b - 1) / b

/-- LO and HI words of a 64-bit value. -/
def lohi (v : U64) : List Word := [v.truncate 32, (v >>> 32).truncate 32]

/-- The four bytes of a word, least significant first (R46, R52). -/
def wordBytes (w : Word) : List Byte :=
  [w.truncate 8, (w >>> 8).truncate 8, (w >>> 16).truncate 8, (w >>> 24).truncate 8]

/-- The four bytes of a word, most significant first (R10: line formats). -/
def wordBytesBE (w : Word) : List Byte := (wordBytes w).reverse

/-- The little-endian word of four bytes. -/
def bytesWord (b0 b1 b2 b3 : Byte) : Word := b3 ++ b2 ++ b1 ++ b0

/-- Little-endian words of a byte list; a last group shorter than four is dropped. -/
def bytesToWords : List Byte → List Word
  | b0 :: b1 :: b2 :: b3 :: r => bytesWord b0 b1 b2 b3 :: bytesToWords r
  | _ => []

/-- Little-endian bytes of a word list. -/
def wordsToBytes (ws : List Word) : List Byte := (ws.map wordBytes).flatten

/-- `n` bytes of a number, most significant first (R10). -/
def beBytes (n v : Nat) : List Byte :=
  ((List.range n).map fun i => w8 (v >>> (8 * (n - 1 - i))))

/-- The number spelled by bytes, most significant first. -/
def beNat (bs : List Byte) : Nat := bs.foldl (fun a b => a * 256 + b.toNat) 0

/-- One bit of a reflected CRC-32C register. -/
def crc32cBit (r : Word) : Word :=
  if r &&& 1 = 1 then (r >>> 1) ^^^ 0x82F63B78#32 else r >>> 1

/-- One byte of CRC-32C: polynomial 0x1EDC_6F41 reflected (R52). -/
def crc32cByte (r : Word) (b : Byte) : Word :=
  let r := r ^^^ b.setWidth 32
  crc32cBit (crc32cBit (crc32cBit (crc32cBit (crc32cBit (crc32cBit (crc32cBit (crc32cBit r)))))))

/-- CRC-32C over bytes: initial value and final exclusive-OR 0xFFFF_FFFF (R52). -/
def crc32c (bs : List Byte) : Word :=
  (bs.foldl crc32cByte 0xFFFFFFFF#32) ^^^ 0xFFFFFFFF#32

/-- CRC-32C over words in little-endian byte order (R52). -/
def crc32cWords (ws : List Word) : Word := crc32c (wordsToBytes ws)

/-- One bit of a most-significant-bit-first CRC of width `w`. -/
def crcMsbBit (w poly : Nat) (r : Nat) (b : Bool) : Nat :=
  let top := r.testBit (w - 1) != b
  let r := (2 * r) % 2 ^ w
  if top then r ^^^ poly else r

/-- The bits of a byte, bit 7 first. -/
def byteBits (b : Byte) : List Bool := (List.range 8).map fun i => b.getMsbD i

/-- The bits of a byte, bit 0 first. -/
def byteBitsLsb (b : Byte) : List Bool := (List.range 8).map fun i => b.getLsbD i

/-- A byte from up to eight bits, bit 7 first. -/
def bitsByte (bs : List Bool) : Byte :=
  w8 ((List.range 8).foldl (fun a i => 2 * a + b01 (bs.getD i false)) 0)

/-- Bytes of a bit list, bit 7 of each byte first; a last group shorter than eight is padded with 0. -/
def bitsBytes : Nat → List Bool → List Byte
  | 0, _ => []
  | _, [] => []
  | f + 1, bs => bitsByte (bs.take 8) :: bitsBytes f (bs.drop 8)

/-- A most-significant-bit-first CRC of width `w` over bytes, from initial value `init`. -/
def crcMsb (w poly init : Nat) (bs : List Byte) : Nat :=
  bs.foldl (fun r b => (byteBits b).foldl (crcMsbBit w poly) r) init

/-- Absolute difference of integers, as a natural number. -/
def idist (a b : Int) : Nat := (a - b).natAbs

end Sys2Proof.Machine
end

