-- ==== Sys2Proof/Machine/Burst.lean ====
section
/-!
DEFINITION. Sys2Proof/Machine/Burst.lean: a burst of the mate link on its pair: levels, preamble, SFD and scrambler (R341 to
R344).
-/
namespace Sys2Proof.Machine
open Sys2Proof

/-- The level of two bits, Gray coded (R341). -/
def pam4Level : Bool → Bool → Int
  | false, false => -3
  | false, true => -1
  | true, true => 1
  | true, false => 3

/-- The levels of bits, two a symbol, first bit most significant (R341). -/
def pam4 : List Bool → List Int
  | a :: b :: r => pam4Level a b :: pam4 r
  | _ => []

/-- The bits of received symbols, each taken as the nearest level. -/
def pam4Bits (l : List Int) : List Bool :=
  (l.map fun x => if x ≤ -2 then [false, false] else if x < 0 then [false, true] else if x < 2 then [true, true]
    else [true, false]).flatten

/-- The output bits of a shift register of `w` bits whose feedback is the parity of its bits `taps`, as R214 writes it. -/
def lfsrBits (w : Nat) (taps : List Nat) : Nat → BitVec w → List Bool
  | 0, _ => []
  | n + 1, s =>
    let o := taps.foldl (fun a i => a != s.getLsbD i) false
    o :: lfsrBits w taps n ((s <<< 1) ||| BitVec.ofNat w (b01 o))

/-- The preamble: the m-sequence of x^8 + x^4 + x^3 + x^2 + 1, and one symbol -3 (Table 13.3; the form of its register: log
entry 151). -/
def burstPreamble : List Int := (lfsrBits 8 [7, 3, 2, 1] 255 1).map (fun b => if b then -3 else 3) ++ [-3]

/-- The SFD (Table 13.3). -/
def burstSfd : List Int := [3, 3, -3, -3, 3, -3, 3, 3, -3, -3, -3, 3, -3, 3, 3, -3]

/-- Bits through the scrambler x^23 + x^18 + 1, loaded with 0x7F_FFFF; the same operation descrambles (R343). -/
def burstScramble (l : List Bool) : List Bool :=
  (l.zip (lfsrBits 23 [22, 17] l.length 0x7FFFFF)).map fun x => x.1 != x.2

/-- The symbols of header, payload and CRC. -/
def burstData (bs : List Byte) : List Int := pam4 (burstScramble (bs.map byteBits).flatten)

/-- Header, payload and CRC of received symbols. -/
def burstBack (l : List Int) : List Byte := bitsBytes (l.length / 4) (burstScramble (pam4Bits l))

/-- Symbols of 1.2 us at a rate (Tables 13.1, 13.3): the wake lead. -/
def wakeLead (rate : Nat) : List Int := (List.replicate (4200 * 2 ^ rate) [3, -3]).flatten

/-- A burst on the pair (Table 13.3). -/
def burstSymbols (rate : Nat) (lead : Bool) (bs : List Byte) : List Int :=
  (if lead then wakeLead rate else []) ++ burstPreamble ++ burstSfd ++ burstData bs ++ List.replicate 8 0

/-- The correlation of received symbols with the last 128 of the preamble (R344). -/
def preambleCorr (l : List Int) : Int :=
  (l.zip (burstPreamble.drop 128)).foldl (fun a x => a + x.1 * x.2) 0

/-- A candidate: the normalised correlation exceeds 0.5 (R344). -/
def isCandidate (l : List Int) : Bool :=
  let c := preambleCorr l
  l.length == 128 && decide (0 < c) && decide (l.foldl (fun a x => a + x * x) 0 * 1152 < 4 * c * c)

/-- A correlation is at least 6 dB above another: a factor of 10^(6/20) (R345). -/
def above6dB (new old : Nat) : Bool := decide (1000 * old ^ 10 ≤ new ^ 10)

/-- The signs of the SFD match in at least 14 places (R344). -/
def sfdFound (l : List Int) : Bool :=
  decide (14 ≤ ((l.zip burstSfd).filter fun x => decide (0 < x.1 * x.2)).length)

/-- The PRBS-31 of a TRAIN burst from a state of its register (R346, log entry 152). -/
def prbs31 (n : Nat) (s : BitVec 31) : List Byte := bitsBytes n (lfsrBits 31 [30, 27] (8 * n) s)

end Sys2Proof.Machine
end

