-- ==== Sys2Proof/Machine/StateHost.lean ====
section
/-!
DEFINITION. Sys2Proof/Machine/StateHost.lean: the state of reset and power (Device Organisation; Pins, Power, Reset and
Package), of the command ports and of the fast status window (Umcia Command Protocol). Each field's default value is
its value in `State.reset`.
-/
namespace Sys2Proof.Machine
open Sys2Proof

/-- One value per line port. -/
structure PerLp (α : Type) where
  lp0 : α
  lp1 : α
deriving DecidableEq, Repr

/-- One value per line engine. -/
structure PerEng (α : Type) where
  le0 : α
  le1 : α
  les : α
deriving DecidableEq, Repr

/-- One value per command port. -/
structure PerPort (α : Type) where
  pcie : α
  spi : α
  ib0 : α
  ib1 : α
  mate : α
deriving DecidableEq, Repr

/-- GRAIN_PHASE (Table 2.9). -/
inductive Phase where
  | strap | boot | run | fault
deriving DecidableEq, Repr

/-- The power states of Table 1.6; `none` from a reset until command-ready and in FAULT (R19). -/
inductive PowerSt where
  | none | ready | service | dark
deriving DecidableEq, Repr

/-- The outcome of boot steps 1 to 6 (R407 to R409). -/
inductive BootSt where
  /-- In reset. -/
  | idle
  /-- Steps 1 to 8 run towards command-ready on an image. -/
  | running
  /-- The boot ROM waits for a download on the SPI port, the PCIe port, or both (codes 0xA, 0xB and 0xD). -/
  | download (spi pcie : Bool)
  /-- Command-ready was reached. -/
  | done
deriving DecidableEq, Repr

/-- Power, reset and pins: AON domain, phases and power states (chapters 01, 16 and 17). -/
structure PowerReset where
  /-- The rails are within range (R430). Log entry 1. -/
  powered : Bool := true
  /-- PORESET_N low and its assertion taken (R432). -/
  poreset : Bool := true
  /-- SYSRESET_N low and its assertion taken (R432). -/
  sysreset : Bool := false
  /-- DEV_RESET kind 1: the AON time at which the internal assertion is released (R432). -/
  internalReset : Option Nat := none
  /-- GRAIN_PHASE (Table 2.9). -/
  phase : Phase := .strap
  /-- The AON time of the release, from which the grain pins leave the reset state 244 us later (R433). -/
  releasedAt : Nat := 0
  /-- Power state (R19). -/
  power : PowerSt := .none
  /-- CMD_READY (Table 2.9). -/
  cmdReady : Bool := false
  /-- The DEV_SLEEP reply was sent and DARK is not reached (R22). -/
  sleepEntry : Bool := false
  /-- A wake from DARK is in progress (R19). -/
  waking : Bool := false
  boot : BootSt := .idle
  /-- BOOT_PROGRESS (R407): step code, bank booted, download, other bank, command-ready. -/
  bootCode : Nat := 0
  /-- The boot steps before that code: the AON time each ends and the code it shows (Table 16.2). -/
  bootPlan : List (Nat × Nat) := []
  /-- What a download starts from: the lengths of steps 6 and 7 in ticks and the code of step 7. -/
  bootLater : Nat × Nat × Nat := (0, 0, 8)
  bootBank : Bool := false
  bootDownload : Bool := false
  bootOther : Bool := false
  bootReached : Bool := false
  /-- WAKE_CAUSE of the last wake (Table 1.12). -/
  wakeCause : Nat := 0
  /-- WAKE_MASK and WAKE_TIMER of the last DEV_SLEEP (R29, R71). -/
  wakeMask : Nat := 0
  wakeTimerS : Nat := 0
  /-- The AON wake timer: the AON time of its expiry while it counts (R29). -/
  wakeTimer : Option Nat := none
  /-- FAULT_CLASS held by the AON fault latch; 0 none (R440). -/
  faultClass : Nat := 0
  /-- The AON time FAULT was entered. -/
  faultAt : Nat := 0
  /-- THERM_TRIP_N driven low by the device (R439). -/
  thermTrip : Bool := false
  /-- THERM_WARN of the status frame (Table 17.5). -/
  thermWarn : Bool := false
  /-- The straps (R435): GRAIN[1:0] boot source, [3:2] instance, 4 mate role, 5 AON source. -/
  straps : BitVec 6 := 0
  /-- UPTIME counts from the PORESET_N release: the AON time of that release, none while PORESET_N is low. -/
  uptimeFrom : Option Nat := none
  /-- VDD_CORE in mV (R428): last value set, last acknowledged since reset, consecutive unacknowledged transactions,
  sending stopped. -/
  vcore : Nat := 800
  vcoreAcked : Bool := false
  avsUnacked : Nat := 0
  avsStopped : Bool := false
  /-- Housekeeping times of the supervisor watchdog expiries of the last 60 s (Table 17.6, class 7). -/
  watchdog : List Nat := []
  /-- The AON time of the command-ready that ended the last wake from DARK: a SYNC pulse that began before it is not
  decoded (R30). -/
  readyAt : Option Nat := none
  /-- SYNC still high and already rejected (R441). -/
  syncHigh : Bool := false
  /-- SEQ of the next status frame (R438) and the last frame sent. -/
  statusSeq : Nat := 0
  statusFrame : Word := 0
deriving DecidableEq, Repr

/-- A received packet in a receive queue (R40): its words, and whether it arrived with 32 outstanding (R39). -/
structure RxPkt where
  words : List Word
  tooMany : Bool
deriving DecidableEq, Repr

/-- A packet the device sends (Table 2.4), without word 0 and the CRC: word 1, word 2, words 3 to last-1. -/
structure OutPkt where
  event : Bool
  w1 : Word
  w2 : Word
  data : List Word
deriving DecidableEq, Repr

/-- One unit's part of a deferred command (R62). -/
structure DefEntry where
  target : Nat
  settled : Bool
  status : Nat
  detail : Nat
  words : List Word
deriving DecidableEq, Repr

/-- A deferred command that has replied ACCEPTED and not sent EV_CMD_DONE (R59). -/
structure Deferred where
  port : Port
  code : Nat
  tag : BitVec 16
  multi : Bool
  entries : List DefEntry
  /-- The ATOMIC flag of a multi-unit command, and the holds to restore if a unit fails: (TARGET, hold) (R62). -/
  atomic : Bool := false
  undo : List (Nat × Nat) := []
deriving DecidableEq, Repr

/-- A command as the staging area, a commit and the configuration store hold it (R57). -/
structure StagedCmd where
  code : Nat
  cmd : Cmd
deriving DecidableEq, Repr

/-- An event raised during a firmware pause, sent after EV_FW_PAUSE (END) (Table 16.9). -/
structure HeldEvent where
  code : Nat
  target : Nat
  flags : Nat
  data : List Word
deriving DecidableEq, Repr

/-- The events of one port (R70). -/
structure EvtPort where
  /-- Subject mask. -/
  mask : Nat
  /-- Next event sequence number, modulo 65,536 (R53). -/
  seq : Nat := 0
  /-- Events kept while the port has no room or is down, oldest first, at most 256. -/
  queue : List OutPkt := []
  /-- Events dropped and not yet reported, and the first lost sequence number. -/
  lost : Nat := 0
  firstLost : Nat := 0
deriving DecidableEq, Repr

/-- The PCIe port: link and rings (R42 to R45). -/
structure PcieState where
  linkUp : Bool := false
  cmdBaseLo : Word := 0
  cmdBaseHi : Word := 0
  rplBaseLo : Word := 0
  rplBaseHi : Word := 0
  evtBaseLo : Word := 0
  evtBaseHi : Word := 0
  /-- RING_SIZE (Table 2.2), 12 bits. -/
  ringSize : Nat := 0
  enable : Bool := false
  cmdProd : Nat := 0
  cmdCons : Nat := 0
  rplProd : Nat := 0
  rplCons : Nat := 0
  evtProd : Nat := 0
  evtCons : Nat := 0
  /-- Reply and event slots written and not yet consumed, oldest first (host memory the device has written). -/
  rplRing : List OutPkt := []
  evtRing : List OutPkt := []
  /-- Replies and events the device had written to the rings before the last reset and the host had not consumed. -/
  beforeReset : List OutPkt := []
  /-- Replies waiting for ring room (R44). -/
  rplWait : List OutPkt := []
  /-- MSI-X messages sent on vectors 0 to 3 (R45). -/
  msix0 : Nat := 0
  msix1 : Nat := 0
  msix2 : Nat := 0
  msix3 : Nat := 0
  /-- The HI latch of the path: byte offset of the pair's HI word and its value (R68). -/
  latch : Option (Nat × Word) := none
  /-- The words the last fast status window read returned. -/
  readBack : List Word := []
  /-- A doorbell written between the PCIe wake and command-ready (R32). -/
  heldDoorbell : Option Nat := none
  /-- Offsets of the window reads held between the PCIe wake and command-ready, oldest first (R32). -/
  heldReads : List Nat := []
  /-- The last read was answered with an Unsupported Request completion (R32). -/
  unsupported : Bool := false
  /-- Words of the MSI-X table the host has written, by byte offset from 0x1000 of BAR0; unlisted words are 0 (R42). -/
  msixTable : SMap Word := []
  /-- What the sample tap and the monitor unit wrote to host memory: address and words of each DMA (R122, R394). -/
  dmaDone : List (Nat × List Word) := []
deriving DecidableEq, Repr

/-- The SPI port (R46 to R48). -/
structure SpiState where
  /-- Output queue of at most 64 packets, replies and events in order of creation. -/
  out : List OutPkt := []
  /-- Replies waiting for room. -/
  wait : List OutPkt := []
  latch : Option (Nat × Word) := none
  /-- The words the last answered frame returned on SPI_MISO; none while SPI_MISO stayed high-impedance. -/
  miso : Option (List Word) := none
deriving DecidableEq, Repr

/-- An in-band channel (R49). -/
structure InbandState where
  enable : Bool := false
  /-- Bytes of the received management channel not yet hunted through, oldest first. -/
  rx : List Byte := []
  /-- Bytes queued for the transmitted management channel. -/
  tx : List Byte := []
deriving DecidableEq, Repr

/-- Umcia's command service: queues, counters, locks, staging, events, window map (chapter 02). -/
structure HostIf where
  rxq : PerPort (List RxPkt) := ⟨[], [], [], [], []⟩
  deferred : List Deferred := []
  /-- Table 2.13 words 8 to 11 and 13. -/
  replyDrop : Word := 0
  spiAbort : Word := 0
  inbandDiscard : Word := 0
  syncReject : Word := 0
  rxqDrop : Word := 0
  pcie : PcieState := {}
  spi : SpiState := {}
  ib : PerLp InbandState := ⟨{}, {}⟩
  /-- The mate port's enable (Table 2.1). -/
  mateEnable : Bool := true
  evt : PerPort EvtPort :=
    ⟨{ mask := 0xFFFF }, { mask := 0xFFFF }, { mask := 0 }, { mask := 0 }, { mask := 0 }⟩
  heldEvents : List HeldEvent := []
  /-- ALARM_MASK (Table 2.8). -/
  alarmMask : Nat := 0
  /-- Selectors of the 224 counter pairs of the window; unlisted pairs are unmapped (R71). -/
  fswMap : SMap Nat := []
  staged : List StagedCmd := []
  /-- Lock holder and the housekeeping time of its last activity (R66). -/
  cryptoLock : Option (Port × Nat) := none
  updateLock : Option (Port × Nat) := none
  /-- SYNC COMMIT latched during a firmware pause, with its UPTIME (Table 3.9). -/
  syncLatched : Option Nat := none
  /-- Housekeeping cycle in which the last SYNC COMMIT was taken (Table 3.9); for the coincidence with MODE_COMMIT. -/
  syncTaken : Option Nat := none
  /-- Holds of DEV_WAKE per unit TARGET: the housekeeping time of the end (R72); 0 none. -/
  holds : SMap Nat := []
  /-- Units DEV_WAKE is waking, with the HOLD in ms to start when awake (R455). -/
  wakes : SMap (Option Nat) := []
  /-- Housekeeping cycle in which Umcia read the last command, and the place of its port in the order of R60. -/
  lastRead : Option (Nat × Nat) := none
  /-- ALARM_SUMMARY AND NOT ALARM_MASK as last signalled on MSI-X vector 2 (R45). -/
  alarmSeen : Nat := 0
deriving DecidableEq, Repr

end Sys2Proof.Machine
end

