-- ==== Sys2Proof/Machine/StateMode.lean ====
section
/-!
DEFINITION. Sys2Proof/Machine/StateMode.lean: the mode axes (Operating Modes and Their Composition), the line converters,
chuck and tap (Line Converters and the Chuck). Each field's default value is its value in `State.reset`.
-/
namespace Sys2Proof.Machine
open Sys2Proof

/-- REACH (Table 3.3). -/
inductive Reach where
  | metro | regional | longhaul
deriving DecidableEq, Repr

/-- GUARD (Table 3.1). -/
inductive Guard where
  | none | cool | warm
deriving DecidableEq, Repr

/-- The value of every mode axis of a line port, requested or granted (Table 3.1; the defaults are the table's). -/
structure ModePoint where
  service : Bool := false
  zr800 : Bool := false
  /-- RATE / 100. -/
  rate : Nat := 32
  reach : Reach := .metro
  nlc : Bool := false
  nlcSteps : Nat := 0
  low : Bool := false
  guard : Guard := .cool
  cipher : Bool := false
  packet : Bool := false
  economy : Bool := false
deriving DecidableEq, Repr

/-- An application of a mode change on a port (R89): the granted point it brings, its ADJUST word, its source (Table
3.11), and whether its frame boundary has passed. -/
structure ModeApp where
  point : ModePoint
  adjust : Nat
  source : Nat
  begun : Bool
deriving DecidableEq, Repr

/-- The mode state of a line port. -/
structure ModePort where
  requested : ModePoint := {}
  granted : ModePoint := {}
  adjust : Nat := 0
  /-- Granted CD range in ps/nm (R78). -/
  cd : Nat := 20000
  /-- The point in force on the port: fields that reached their moment of effect (R86, R89). -/
  running : ModePoint := {}
  /-- Applications waiting or in progress, oldest first (R91). -/
  apps : List ModeApp := []
deriving DecidableEq, Repr

/-- The line synthesiser (R96). -/
inductive Synth where
  | stopped
  /-- Started; the housekeeping time by which it must lock. -/
  | starting (by_ : Nat)
  | locked
  /-- Running without lock. -/
  | unlocked
deriving DecidableEq, Repr

/-- CONV_CONFIG of a line port (Tables 4.1, 4.5, 4.6). -/
structure ConvCfg where
  rxMap : Nat := 0
  txMap : Nat := 0
  swing : List Nat := [600, 600, 600, 600]
  /-- LOS_THRESHOLD in 0.5 dB, LOS_HYST in 0.5 dB, LOS_SET_TIME in us, LOS_CLR_TIME in 10 us. -/
  losThr : Int := -48
  losHyst : Nat := 6
  losSet : Nat := 2
  losClr : Nat := 10
deriving DecidableEq, Repr

/-- One ADC slice with its corrections (R97 to R101): state 0 pool, 1 removed by calibration, 2 by the host, 3 by
self-check; the corrections once background calibration has set them; consecutive updates out of limits. -/
structure Slice where
  st : Nat := 0
  cal : Option (Int × Int × Int × Int) := none
  bad : Nat := 0
deriving DecidableEq, Repr

/-- The order of a channel's slice sequencer (R97, R104): from sampling instant `base` on, up to which INTERP_COUNT is
counted, the instants are taken by the slices listed, over and over; none where no slice is free. -/
structure Seq where
  base : Nat := 0
  slots : List (Option Nat) := []
deriving DecidableEq, Repr

/-- A TAP_DMA in progress: host address, byte offset in the buffer, length. -/
structure TapDma where
  addr : Nat
  off : Nat
  len : Nat
deriving DecidableEq, Repr

/-- What a port's DACs carry from a housekeeping time on: a sample each channel rests at, none samples of an engine. -/
structure TapSpan where
  at_ : Nat := 0
  rest : Option (List Int) := none
deriving DecidableEq, Repr

/-- The states of the sample tap (R121). -/
inductive TapSt where
  | idle | armed | triggered | done | aborted
deriving DecidableEq, Repr

/-- The sample tap of a line port (R117 to R122). -/
structure Tap where
  point : Nat := 0
  chMask : Nat := 0xF
  decim : Nat := 0
  format : Nat := 0
  bufLog2 : Nat := 28
  mode : Nat := 0
  trigger : Nat := 0
  evtMask : Nat := 0
  pre : Nat := 0
  st : TapSt := .idle
  /-- Housekeeping time at which writing started. -/
  since : Nat := 0
  /-- Total bytes written when writing ended, and at the trigger; last decimator reset position in the buffer. -/
  written : Nat := 0
  trigAt : Nat := 0
  resetPos : Nat := 0
  /-- A TAP_CONFIG has set the tap since reset: its rate and buffer count in the sums of R118. -/
  configured : Bool := false
  /-- TAP_DMAs in progress, oldest first. -/
  dma : List TapDma := []
  /-- Changes of the port's DAC outputs in a capture at POINT DAC, oldest first (R107, R123). -/
  spans : List TapSpan := []
  /-- Number of the capture in the buffer, and buffer words with an uncorrectable HBM error. -/
  base : Nat := 0
  bad : SMap Bool := []
deriving DecidableEq, Repr

/-- Converters, chuck and tap of a line port (chapter 04). -/
structure Conv where
  cfg : ConvCfg := {}
  synth : Synth := .stopped
  /-- SYNTH_UNLOCK is raised and lock was regained: the housekeeping time at which it clears. -/
  synthHold : Option Nat := none
  /-- Slices by 100 * channel + slice. -/
  slices : SMap Slice := []
  /-- The slice sequencers of the four channels, from the lock of the synthesiser on. -/
  seqs : List Seq := [{}, {}, {}, {}]
  /-- Clipped samples per channel since the last 1-second boundary, the time the synthesiser was locked in the interval
  before its present lock, the time from which the present lock counts in it, and whether it was locked throughout
  (R112). -/
  clips : List Nat := [0, 0, 0, 0]
  clipTicks : Nat := 0
  clipFrom : Option Nat := none
  clipWhole : Bool := false
  /-- The sample each DAC channel holds in a switch-over gap or a COOL takeover (R106, R107). -/
  dacHeld : List Int := [0, 0, 0, 0]
  /-- Strobe skew by 100 * channel + phase, once background calibration has set it. -/
  strobes : SMap (Option Int) := []
  /-- Consecutive updates out of limits of a phase strobe, by 100 * channel + phase, up to 3 (R102). -/
  strobeBad : SMap Nat := []
  /-- DAC channels whose last self-check failed (R105). -/
  dacBad : List Bool := [false, false, false, false]
  /-- CONV_FAIL clear time running per channel: its end. -/
  failClear : List (Option Nat) := [none, none, none, none]
  /-- The housekeeping time at which the power detectors started (R110). -/
  detSince : Nat := 0
  los : Bool := false
  loop : Bool := false
  tap : Tap := {}
  /-- CONV_SLICE_RESTOREs in progress, oldest first: channel, named slices, housekeeping time of the check's end. -/
  restores : List (Nat × List Nat × Nat) := []
  /-- First free value of the foreground corrections (R100). -/
  calBase : Nat := 0
deriving DecidableEq, Repr

/-- The states of a line engine (Table 1.8). -/
inductive EngSt where
  | cold | cool | warm | active
deriving DecidableEq, Repr

/-- The transition of Table 1.9 an engine is making. -/
inductive EngMove where
  | none
  /-- COLD to COOL. -/
  | toCool
  /-- COOL to ACTIVE for a port entering service. -/
  | waking
  /-- COOL to WARM. -/
  | shadowing
  /-- To COLD. -/
  | gating
  /-- To COOL retention. -/
  | retaining
deriving DecidableEq, Repr

end Sys2Proof.Machine
end

