-- ==== Sys2Proof/Machine/StateDsp.lean ====
section
/-!
DEFINITION. Sys2Proof/Machine/StateDsp.lean: the state of Transmit and Receive Signal Processing of a line port. Each
field's default value is its value in `State.reset`.
-/
namespace Sys2Proof.Machine
open Sys2Proof

/-- Transmit parameters (Table 5.1), in the units of DSP_TX_CONFIG and DSP_TX_PREEMPH. -/
structure DspTx where
  rolloff : Nat := 5
  skew : List Int := [0, 0, 0, 0]
  gain : List Int := [0, 0]
  phase : List Int := [0, 0]
  cdPre : Int := 0
  /-- PREEMPH of channels 0 to 3, 16 taps each. -/
  preemph : List (List Int) := List.replicate 4 [0, 0, 0, 0, 0, 0, 0, 1024, 0, 0, 0, 0, 0, 0, 0, 0]
deriving DecidableEq, Repr

/-- Receive parameters (Table 5.4), in the units of DSP_RX_CONFIG. -/
structure DspRx where
  rolloff : Nat := 5
  carrier : Nat := 193500
  skewAuto : Nat := 1
  skew : List Int := [0, 0, 0, 0]
  cmaK : Nat := 0
  lmsK : Nat := 0
  eqUpdate : Nat := 0
  trBw : Nat := 0
  cprAvg : Nat := 0
  lockHold : Nat := 20
  nlcSpans : Nat := 10
  nlcKm : Nat := 80
  nlcLaunch : Int := 10
  nlcAdapt : Nat := 1
  osnrAlarm : Nat := 0
  snrTrx : Nat := 0
deriving DecidableEq, Repr

/-- A path profile (Table 5.7). -/
structure Profile where
  valid : Bool := false
  byHost : Bool := false
  label : Word := 0
  sr : Nat := 0
  cd : Int := 0
  dgd : Nat := 0
  ps : List Int := [0, 0, 0]
  sop : List Int := [0, 0, 0]
  freqMHz : Int := 0
  uptime : Nat := 0
deriving DecidableEq, Repr

/-- The acquisition states (Table 5.6). -/
inductive AcqSt where
  | idle | waitSignal | cdSearch | freqAcq | cma | pilotSync | ddConverge | track | profileLoad | lockHold
deriving DecidableEq, Repr

/-- Receive acquisition of one engine on a port (R145 to R149). -/
structure Acq where
  st : AcqSt := .idle
  /-- PATH: true profile, false cold. -/
  onProfile : Bool := false
  /-- Profile in use: 0 to 15, 16 LAST, 31 none. -/
  profile : Nat := 31
  /-- Housekeeping time of the entry to the present acquisition, to the present state, and to the cold path. -/
  from_ : Nat := 0
  stFrom : Nat := 0
  coldFrom : Nat := 0
  /-- Duration of the last completed acquisition in us. -/
  lastUs : Nat := 0
  /-- The path DSP_ACQUIRE named in WAIT_SIGNAL: on profile, index. -/
  held : Option (Bool × Nat) := none
deriving DecidableEq, Repr

/-- The estimates of Table 5.8 with their VALID bits. -/
structure Estimates where
  osnr : Nat := 0
  snr : Nat := 0
  q : Nat := 0
  berLog : Nat := 0
  corrected : U64 := 0
  coded : U64 := 0
  cd : Int := 0
  dgd : Nat := 0
  ps : List Int := [0, 0, 0]
  sop : List Int := [0, 0, 0]
  sopRate : Nat := 0
  freqKHz : Int := 0
  timing : Int := 0
  vOsnr : Bool := false
  vBer : Bool := false
  vCd : Bool := false
  vDgd : Bool := false
  vFreq : Bool := false
  vSop : Bool := false
  /-- Estimated receive skew of the channels in 0.1 ps (Table 5.8). -/
  skew : List Int := [0, 0, 0, 0]
  updates : Nat := 0
deriving DecidableEq, Repr

/-- What the receive processing of one engine applies on a port: CD_SET (R135), the bulk PMD correction (R136), skew and
I/Q correction (R133: 0.1 ps, 0.01 dB, 0.01 degrees), the carrier and timing loops (R139, R140), the equaliser (R137) and
the NLC scale (R142). -/
structure Recv where
  cdSet : Int := 0
  /-- Principal states and DGD in 0.01 ps the bulk correction removes. -/
  ps : List Int := [0, 0, 0]
  dgd : Nat := 0
  sop : List Int := [0, 0, 0]
  skew : List Int := [0, 0, 0, 0]
  iqGain : List Int := [0, 0]
  iqPhase : List Int := [0, 0]
  /-- Frequency offset in kHz. -/
  freqKHz : Int := 0
  /-- Frequency word of the timing loop in 0.01 ppm. -/
  timing : Int := 0
  /-- First free value of the equaliser coefficients. -/
  eqBase : Nat := 0
  /-- NLC coefficient scale in 1/1,024 of nominal. -/
  nlcScale : Nat := 1024
deriving DecidableEq, Repr

/-- Signal processing of a line port (chapter 05). -/
structure Dsp where
  tx : DspTx := {}
  /-- Crossfade of the last change: the parameters it fades from, and its housekeeping time (R132). -/
  txOld : DspTx := {}
  fadeAt : Option Nat := none
  /-- TX_CD_PRECOMP ramp: value and housekeeping time at its start, target; whether it runs (R132). -/
  rampFrom : Int := 0
  rampAt : Nat := 0
  rampTo : Int := 0
  ramping : Bool := false
  rx : DspRx := {}
  acq : Acq := {}
  /-- Acquisition of a WARM or burnishing spare on the port. -/
  spareAcq : Acq := {}
  profileNext : Nat := 31
  profiles : SMap Profile := []
  /-- The receive processing of the serving engine, and of a spare on the port. -/
  recv : Recv := {}
  spareRecv : Recv := {}
  est : Estimates := {}
  /-- The estimates of a WARM spare that shadows the port. -/
  spareEst : Estimates := {}
  /-- The whole present 1-second interval was spent in TRACK (R152). -/
  wholeTrack : Bool := false
  /-- The same for the acquisition of a WARM spare. -/
  spareWhole : Bool := false
  /-- Alarm persistence: housekeeping ends of the running times of Table 5.14. -/
  cdOut : Option Nat := none
  cdIn : Option Nat := none
  sopSlow : Option Nat := none
  dgdWindow : Option Nat := none
  dgdSum : Nat := 0
  dgdCount : Nat := 0
  /-- The last 10 s average of DGD was at or below 90 % of the tolerance. -/
  dgdLow : Bool := false
  /-- Ends of the DSP_SNR_SPECTRUMs in progress, oldest first. -/
  spectrum : List Nat := []
deriving DecidableEq, Repr

end Sys2Proof.Machine
end

