-- ==== Sys2Proof/Machine/StateCoding.lean ====
section
/-!
DEFINITION. Sys2Proof/Machine/StateCoding.lean: the state of Coding, Shaping and the Symbol Frame of a line port. Each
field's default value is its value in `State.reset`.
-/
namespace Sys2Proof.Machine
open Sys2Proof

/-- FEC_CONFIG (Table 7.9). -/
structure FecCfg where
  iterCap : Nat := 0
  sdBerLog : Nat := 180
  sdSeconds : Nat := 3
  sfUncorr : Nat := 64
deriving DecidableEq, Repr

/-- What a symbol slot carries on XI, XQ, YI and YQ (R193, R194, R197): a known pilot or a header symbol, each 1 or -1, or
payload amplitudes of Table 7.4, before the constant of R192. -/
inductive TxSymbol where
  | pilot (d : List Int)
  | header (d : List Int)
  | payload (d : List Int)
deriving DecidableEq, Repr

/-- The transmit stream of a line port (R185 to R197). -/
structure TxStream where
  /-- The stream has an origin and runs. -/
  running : Bool := false
  /-- Frames sent since the origin: the n of the next frame. -/
  n : Nat := 0
  /-- The codeword before the next one (all zeros at the origin, R188), bit p of the codeword at bit p. -/
  chain : BitVec 9216 := 0
  /-- The next frame's first codeword is coupled to an all-zero predecessor (R188). -/
  restart : Bool := true
  /-- The pilot generators at the next pilot slot (R194), and that slot's number. -/
  sX : BitVec 15 := 0x1D2B#15
  sY : BitVec 15 := 0x6A4F#15
  pilotSlot : Nat := 0
  /-- The last frame sent: its 65,536 bytes as coded, its locator, and the codeword before its first. -/
  frame : List Byte := []
  locator : Word := 0
  before : BitVec 9216 := 0
  /-- The coded bits of the last frame that begin the block the next frame starts in (R193). -/
  tail : List Bool := []
  /-- The slots of the last frame, from the one its first block begins at, that slot's number first. -/
  firstSlot : Nat := 0
  symbols : List TxSymbol := []
deriving DecidableEq, Repr

/-- The grid the decoder predicts the next frame on (R203): its LAG, BIT_OFFSET and anchor pilot slot. -/
structure RxGrid where
  lag : Nat
  bitOffset : Nat
  anchor : Nat
deriving DecidableEq, Repr

/-- Coding of a line port (chapter 07). -/
structure Coding where
  cfg : FecCfg := {}
  tx : TxStream := {}
  /-- The decoder runs, with the grid predicted for the next frame. -/
  grid : Option RxGrid := none
  /-- The last robust header: 32 bytes, locator, header CRC good, LOC_CRC good, anchor pilot slot. -/
  hdr : Option (List Byte × Word × Bool × Bool × Nat) := none
  /-- CHAIN_RESTART of the decoded headers of the frames to come, beside `Frame.robust` (R188). -/
  restarts : List Bool := []
  /-- The decoder has started and released nothing since: the predecessor is erased (R203). -/
  fresh : Bool := false
  /-- The last codeword released, where it converged: the predecessor of the next. -/
  last : Option (BitVec 9216) := none
  /-- Codewords of the frame in hand released, their information bytes in order, and those with the UNCORR flag (R202). -/
  cw : Nat := 0
  bytes : List Byte := []
  flagged : List Nat := []
  /-- Effective cap of passes and POWER ECONOMY of the codewords admitted from a time on, newest first (R207). -/
  caps : List (Nat × Nat × Bool) := []
  /-- The delay in ns before the last change of LATENCY, and the time of the change (R207). -/
  step : Option (Nat × Nat) := none
  /-- Codewords of the stream before a RATE or INTEROP change, at its point, are released up to a time (R207). -/
  drain : Option (Nat × ModePoint) := none
  /-- Present 1-second interval: uncorrectable codewords, codewords converged, passes to convergence, bits corrected,
  coded bits. -/
  iUncorr : Nat := 0
  iConv : Nat := 0
  iPasses : Nat := 0
  iCorr : Nat := 0
  iCoded : Nat := 0
  /-- Last completed interval: uncorrectable codewords, mean passes in units of 0.25. -/
  lastUncorr : Nat := 0
  lastMean : Nat := 0
  /-- Consecutive intervals towards raising and towards clearing FEC_DEGRADE (R210). -/
  degRun : Nat := 0
  clrRun : Nat := 0
  /-- Housekeeping times of the uncorrectable codewords of the last 100 us, newest first. -/
  excess : List Nat := []
  /-- An uncorrectable decoder memory spoils the codeword in hand (Table 12.6, memory 3). -/
  spoil : Bool := false
  /-- End of the 1 ms without an uncorrectable codeword. -/
  excessClear : Option Nat := none
  /-- Consecutive good headers with a RATE_CODE that differs from, and that matches, the granted RATE. -/
  badRate : Nat := 0
  goodRate : Nat := 0
deriving DecidableEq, Repr

end Sys2Proof.Machine
end

