-- ==== Sys2Proof/Machine/StateFrame.lean ====
section
/-!
DEFINITION. Sys2Proof/Machine/StateFrame.lean: the state of Line Frame, Overhead and Performance Monitoring of a line
port. Each field's default value is its value in `State.reset`.
-/
namespace Sys2Proof.Machine
open Sys2Proof

/-- LF_CONFIG (Table 8.12). -/
structure LfCfg where
  expLabel : Nat := 0x100
  plmEnable : Nat := 1
  timLen : Nat := 0
  timAction : Nat := 0
  txForce : Nat := 0
  /-- Transmitted and expected trace strings, 64 bytes each. -/
  txTrace : List Byte := List.replicate 64 0
  expTrace : List Byte := List.replicate 64 0
deriving DecidableEq, Repr

/-- PM_CONFIG (Table 8.12). -/
structure PmCfg where
  binAnchor : Nat := 0
  sesRatio : Nat := 15
deriving DecidableEq, Repr

/-- Frame alignment (R220). -/
inductive Align where
  | hunt | confirm | inFrame
deriving DecidableEq, Repr

/-- The per-second accumulators of the present interval (Table 8.8); the codeword counts of the present interval are in
`Coding` and enter the record. -/
structure PmAcc where
  defects : Nat := 0
  framesIn : Nat := 0
  errored : Nat := 0
  bip : Nat := 0
  uncorr : Nat := 0
  corrected : Nat := 0
  coded : Nat := 0
  oofEntries : Nat := 0
  headerless : Nat := 0
  overlap : Bool := false
  nis : Bool := false
  reconfig : Bool := false
  suspect : Bool := false
deriving DecidableEq, Repr

/-- A per-second record (Table 8.8). -/
structure PmRecord where
  seq : Nat
  uptime : Nat
  acc : PmAcc
  pps : Bool
  q : Nat
  berLog : Nat
  osnr : Nat
  valid : Nat
  lengthUs : Nat
  /-- Frames expected in the interval (R230). -/
  expected : Nat
  readOut : Bool
  evaluated : Bool
deriving DecidableEq, Repr

/-- A classified interval that Umcia holds pending (R231). -/
structure PmPending where
  seq : Nat
  nis : Bool
  ses : Bool
  es : Bool
  rdis : Bool
  unavail : Bool
  errored : Nat
  uncorr : Nat
  suspect : Bool
  /-- First sequence numbers of the bins it belongs to. -/
  b15 : Nat
  b24 : Nat
deriving DecidableEq, Repr

/-- A 15-minute or 24-hour bin (R232). -/
structure PmBin where
  first : Nat
  count : Nat := 0
  suspect : Bool := false
  final : Bool := false
  unavailEnd : Bool := false
  es : Nat := 0
  ses : Nat := 0
  uas : Nat := 0
  bbe : Nat := 0
  nis : Nat := 0
  rdis : Nat := 0
  errored : Nat := 0
  uncorr : Nat := 0
deriving DecidableEq, Repr

/-- Line frame and performance monitoring of a line port (chapter 08). -/
structure Frame where
  cfg : LfCfg := {}
  pmCfg : PmCfg := {}
  /-- FRAME_NUM of the next transmitted frame, and BIP16 of the previous one (R211, R213). -/
  txNum : Nat := 0
  /-- Number of the next transmitted payload block since the origin (R273). -/
  txBlock : Nat := 0
  txBip : Nat := 0
  align : Align := .hunt
  /-- Consecutive bad frames; FRAME_NUM of the last good frame and of the last header of record. -/
  badRun : Nat := 0
  lastGood : Option Nat := none
  lastRecord : Nat := 0
  /-- Robust headers decoded for frames not yet released by the decoder, oldest first: the header bytes, none when the
  header was not good (R203, R219). -/
  robust : List (Option (List Byte)) := []
  /-- BIP16 computed over the previous received frame, none when not to be compared; whether it already counted as
  errored. -/
  rxBip : Option Nat := none
  prevErrored : Bool := false
  /-- Received trace string being built, the index expected next (none: no open cycle), the last complete cycle, how
  many consecutive complete cycles carried it, the accepted string. -/
  traceBuf : List Byte := []
  traceNext : Option Nat := none
  traceLast : List Byte := []
  traceRun : Nat := 0
  traceAcc : Option (List Byte) := none
  /-- LABEL of the last header of record, its run, the accepted label. -/
  labelLast : Nat := 0
  labelRun : Nat := 0
  labelAcc : Option Nat := none
  /-- Consecutive headers of record with AIS, RDI set and clear, and the unmasked conditions. -/
  aisRun : Nat := 0
  aisClr : Nat := 0
  ais : Bool := false
  rdiRun : Nat := 0
  rdiClr : Nat := 0
  rdi : Bool := false
  /-- LOF condition and the end of the 3 ms being counted towards its change (R224). -/
  lof : Bool := false
  lofTimer : Option Nat := none
  /-- Defects as last reported: LOS, OOF, LOF, AIS, RDI, TIM, PLM in bits 0 to 6. -/
  defects : Nat := 0
  /-- Signal fail and signal degrade as last passed on (R225). -/
  sf : Bool := false
  sd : Bool := false
  /-- The replacement signal and RDI in the last transmitted header, and its LABEL. -/
  txReplace : Bool := false
  txRdi : Bool := false
  txLabel : Nat := 0
  /-- End of the inhibit time (R233). -/
  inhibit : Option Nat := none
  acc : PmAcc := {}
  erroredLast : Bool := false
  /-- Marks of Tables 12.5 and 12.6: the frame being received is errored, its segment is replaced, every frame received up
  to this housekeeping time is errored, and blocks of the next transmitted frame are sent as idle blocks. -/
  rxMark : Bool := false
  rxReplace : Bool := false
  markUntil : Nat := 0
  txIdle : List Nat := []
  /-- Blocks of the last received frame as handed to the demapper, none for one marked errored (R218, R221, R251). -/
  rxBlocks : List (Option (BitVec 257)) := []
  /-- Records, oldest first, at most 900. -/
  records : List PmRecord := []
  /-- Evaluation of the records (R230 to R232). -/
  pending : List PmPending := []
  unavail : Bool := false
  sesRun : Nat := 0
  okRun : Nat := 0
  /-- Bins, newest first; the head is the current one. -/
  bins15 : List PmBin := []
  bins24 : List PmBin := []
  /-- A record was overwritten before it was evaluated. -/
  recordsLost : Bool := false
deriving DecidableEq, Repr

end Sys2Proof.Machine
end

