-- ==== Sys2Proof/Machine/StateCrypto.lean ====
section
/-!
DEFINITION. Sys2Proof/Machine/StateCrypto.lean: the state of Line Encryption of a line port and the whole line port.
Each field's default value is its value in `State.reset`.
-/
namespace Sys2Proof.Machine
open Sys2Proof

/-- A key slot that is not EMPTY (R242); whether it is IN_USE follows from the sessions and the handshake. -/
structure KeySlot where
  key : List Byte
  keyId : Nat
  check : Word
deriving DecidableEq, Repr

/-- A derived session (R244). -/
structure Session where
  session : Nat
  slot : Nat
  key : List Byte
  salt : List Byte
  check : Word
deriving DecidableEq, Repr

/-- The transmit handshake of a port (R246). -/
structure Handshake where
  slot : Nat
  session : Nat
  nonce : List Byte
  derived : Option Session
  /-- Cause of EV_KEY_SESSION: 0 KEY_ACTIVATE, 1 re-derivation. -/
  cause : Nat
  unknownRun : Nat
  /-- Housekeeping time of HANDSHAKE_TIMEOUT. -/
  deadline : Nat
  /-- ACK_CHECK matched: the switch follows at the next cycle boundary. -/
  armed : Bool
deriving DecidableEq, Repr

/-- A far offer whose receive session is being derived. -/
structure Offer where
  session : Nat
  slot : Nat
  nonce : List Byte
deriving DecidableEq, Repr

/-- Encryption of a line port (chapter 09). -/
structure Crypto where
  /-- CIPHER_CONFIG (Table 9.6). -/
  hsTimeout : Nat := 100
  authClear : Nat := 16
  /-- Key slots 0 to 3; none is EMPTY. -/
  slots : List (Option KeySlot) := [none, none, none, none]
  tx : Option Session := none
  txCounter : U64 := 0
  txPhase : Bool := false
  /-- SESSION of the next handshake, 1 after reset (R244). -/
  nextSession : Nat := 1
  /-- The high-water mark of R253. -/
  reserved : U64 := 0
  exhausted : Bool := false
  hs : Option Handshake := none
  /-- The message of the cycle being sent (Table 9.1). -/
  txMsg : List Byte := []
  rx : Option Session := none
  rxPend : Option Session := none
  deriving_ : Option Offer := none
  /-- OFFER_SESSION of the last message taken. -/
  lastOffer : Nat := 0
  /-- COUNTER of the next frame received. -/
  rxCounter : U64 := 0
  sync : Bool := true
  rxPhase : Bool := false
  /-- ENC of the last header of record (log entry 39). -/
  rxEnc : Bool := false
  keyUnknown : Bool := false
  /-- Message bytes of the cycle being received (none: no whole cycle so far), and a complete message not yet acted
  on with the receive count of its first frame. -/
  msg : Option (List Byte) := none
  msgCount : U64 := 0
  cycle : Option (List Byte × U64) := none
  fails : Nat := 0
  goodRun : Nat := 0
  blankRun : Nat := 0
  failedNow : Nat := 0
  failedLast : Nat := 0
  /-- The last segment's outcome (Table 9.2): the payload area delivered, or none when it was replaced. -/
  delivered : Option (List Byte) := none
  /-- The cause of the last failed segment (Table 9.2). -/
  failCause : Option Nat := none
deriving DecidableEq, Repr

/-- What the key store keeps for the device (R254, R255): tamper detectors asserted, the end of the second of passing
health tests, and a KEY_ZEROISED to be raised after the next wake. -/
structure KeyStore where
  voltage : Bool := false
  clock : Bool := false
  temperature : Bool := false
  lid : Bool := false
  rngGood : Option Nat := none
  zeroisedDue : Bool := false
deriving DecidableEq, Repr

end Sys2Proof.Machine
end

