-- ==== Sys2Proof/Machine/StateEngine.lean ====
section
/-!
DEFINITION. Sys2Proof/Machine/StateEngine.lean: the state of a line engine with its spindles, their performance counters
and the customer kernels (Device Organisation; Spindles and Performance Counters). Default values are those of
`State.reset`.
-/
namespace Sys2Proof.Machine
open Sys2Proof

/-- The performance counters of one spindle (Table 6.5) with their configuration words, OVF and LOST flags. CYCLE and
the SLOT counters are 64 bits, PC0 to PC5 48 bits. -/
structure SpnPerf where
  cycle : U64 := 0
  ret : U64 := 0
  wst : U64 := 0
  sf : U64 := 0
  sb : U64 := 0
  pcs : List Nat := [0, 0, 0, 0, 0, 0]
  cfg : List Nat := [0, 0, 0, 0, 0, 0]
  ovf : Nat := 0
  lost : Nat := 0
  /-- Overflows whose SPN_COUNTER_OVERFLOW is due, one bit per counter. -/
  due : Nat := 0
  /-- CYCLE of the engine up to which the counters are brought. -/
  acct : Nat := 0
deriving DecidableEq, Repr

/-- One spindle (R161 to R175). -/
structure Spindle where
  /-- ROLE (Table 6.2). -/
  role : Nat := 0
  perfUser : Bool := false
  /-- Frozen since this CYCLE of the engine (R178). -/
  frozen : Option Nat := none
  /-- Microcode build. -/
  build : Nat := 0
  /-- AON times of its faults, for the 24 h history of R323. -/
  faultedAt : Option Nat := none
  perf : SpnPerf := {}
  /-- Scalar and vector registers, local memory by 32-bit word, and the FIFOs of the stream ports, oldest first, each word
  of 512 bits as 16 words (Table 6.1). -/
  scalars : SMap U64 := []
  vectors : SMap (List Word) := []
  mem : SMap Word := []
  inFifo : List (List Word) := []
  outFifo : List (List Word) := []
  /-- The last checkpoint of the role: local memory (R163). -/
  ckpt : SMap Word := []
  /-- What its code's last read of its counters returned (R175). -/
  perfRead : List Word := []
deriving DecidableEq, Repr

/-- KERNEL_STATE (Table 6.9). -/
inductive KernelSt where
  | empty | loaded | running | paused | stopped | faulted
deriving DecidableEq, Repr

/-- A customer kernel slot (R166 to R170). -/
structure Kernel where
  st : KernelSt := .empty
  /-- Last cause (Table 6.11). -/
  cause : Nat := 0
  /-- The staging buffer, in words. -/
  staging : List Word := []
  watchdogMs : Nat := 0
  /-- A START check runs. -/
  checking : Bool := false
  /-- The mailbox: words the kernel wrote (R169). -/
  mailbox : SMap (Option Word) := []
  /-- Housekeeping time at which the kernel last started or wrote its mailbox. -/
  since : Nat := 0
  /-- Housekeeping time until which notes merge, and the notes merged. -/
  noteUntil : Nat := 0
  noteMerged : Nat := 0
deriving DecidableEq, Repr

/-- A line engine. -/
structure Engine where
  /-- State (Table 1.8). -/
  st : EngSt := .cold
  move : EngMove := .none
  /-- The port the engine is assigned to and serves (R26, R310). -/
  serves : Option Lp := none
  /-- The port a WARM engine shadows, or is acquiring. -/
  shadows : Option Lp := none
  burnish : Bool := false
  failed : Bool := false
  dualActive : Bool := false
  /-- Held COLD after being switched out or lost (R310). -/
  held : Bool := false
  /-- State-change count (Table 2.10). -/
  changes : Nat := 0
  /-- Clocked datapath cycles before the present run, and the housekeeping time the run began (R171). -/
  cycles : Nat := 0
  clockedFrom : Option Nat := none
  /-- K (R166). -/
  k : Nat := 0
  spindles : SMap Spindle := []
  /-- Roles being moved: spindle the role goes to, oldest first (R163). -/
  moves : List Nat := []
  /-- The spindle the self-test rotation tests next (R163). -/
  rotation : Nat := 0
  kernels : SMap Kernel := []
  /-- READER_MODE CENTRAL and SWEEP_US (R179). -/
  central : Bool := false
  sweepUs : Nat := 1000
  /-- Start-up runs until 1 s after the first TRACK: none not started, some none before TRACK, some t its end. -/
  startup : Option (Option Nat) := none
  /-- End of a recovery time. -/
  recovery : Option Nat := none
  /-- The counter image: of the spindles, of the fixed-function blocks by selector, CYCLE of the engine and the
  housekeeping time of its strobe. -/
  image : SMap SpnPerf := []
  imageCtrs : SMap U64 := []
  imageCycle : Nat := 0
  imageAt : Option Nat := none
  /-- Housekeeping time of the last role checkpoint and of the next self-test (R163). -/
  checkpointAt : Option Nat := none
  testAt : Option Nat := none
  /-- Loads of microcode to come that will meet a mismatch, per spindle (R164, log entry 136). -/
  loadBad : SMap Nat := []
  /-- Spindles still to be refreshed to the running image's microcode (R165). -/
  refresh : List Nat := []
  /-- SPN_NO_IDLE clear time running: its end. -/
  noIdleClear : Option Nat := none
deriving DecidableEq, Repr

end Sys2Proof.Machine
end

