-- ==== Sys2Proof/Machine/StateFw.lean ====
section
/-!
DEFINITION. Sys2Proof/Machine/StateFw.lean: the state of Boot and Firmware Update and of Seal and Test Access. Flash and
fuses are outside every reset. Each field's default value is its value in `State.reset`.
-/
namespace Sys2Proof.Machine
open Sys2Proof

/-- A boot record (R406). -/
structure BootRec where
  valid : Bool := false
  seq : Nat := 0
  active : Nat := 0
  trial : Bool := false
  trialBank : Nat := 0
  lastFallback : Nat := 0
  autoRestore : Nat := 1
  restoreService : Nat := 0
deriving DecidableEq, Repr

/-- A flash bank (Table 16.1): whether it was left whole or cut short, its 128 header words and its encrypted body words. -/
structure Bank where
  whole : Bool := false
  /-- FW_UPDATE_END began on it and has not left it whole: it is invalid (R414). -/
  cut : Bool := false
  hdr : List Word := []
  body : List Word := []
deriving DecidableEq, Repr

/-- An image in memory: header words and plaintext words (Table 16.3). -/
structure Image where
  hdr : List Word
  words : List Word
deriving DecidableEq, Repr

/-- An update session (R413): package length in bytes and the words received. -/
structure UpdSession where
  length : Nat
  data : List Word
deriving DecidableEq, Repr

/-- FW_ACTIVATE in progress (R415): bank, TRIAL_WINDOW in s, whether the image is loaded and the pause began. -/
structure Activation where
  bank : Nat
  window : Nat
  paused : Bool
deriving DecidableEq, Repr

/-- A firmware pause (R64): cause of EV_FW_PAUSE and the housekeeping time it began. -/
structure Pause where
  cause : Nat
  since : Nat
  /-- Reason of the fallback this pause carries out (Table 16.5), none for other causes. -/
  reason : Option Nat := none
deriving DecidableEq, Repr

/-- A trial (R415): bank, AON time of its expiry. -/
structure Trial where
  bank : Nat
  expiry : Nat
deriving DecidableEq, Repr

/-- Boot and firmware (chapter 16). -/
structure Firmware where
  recA : BootRec := {}
  recB : BootRec := {}
  bank0 : Bank := {}
  bank1 : Bank := {}
  /-- ROLLBACK_FUSED (R417). -/
  rollbackFused : Nat := 0
  running : Option Image := none
  runBank : Nat := 0
  download : Bool := false
  /-- The staged image of R414 with its bank, and the fallback copy of R415 with its bank. -/
  staged : Option (Nat × Image) := none
  fallback : Option (Nat × Image) := none
  session : Option UpdSession := none
  /-- FW_UPDATE_END in progress with its package. -/
  ending : Option UpdSession := none
  activation : Option Activation := none
  pause : Option Pause := none
  trial : Option Trial := none
  /-- Last restore (Table 16.8): 0 applied, 1 none held, 2 failed. -/
  lastRestore : Nat := 1
  /-- Bank failures found at boot, to be raised after command-ready (R408); a fallback to be raised. -/
  bankFailed : Bool := false
  fellBack : Option Nat := none
deriving DecidableEq, Repr

/-- Seal and test access (chapter 18), with the CUST_KEY fuses (R167). -/
structure Seal where
  fuseA : Bool := false
  fuseB : Bool := false
  /-- The debug gate is closed (R447). -/
  gateClosed : Bool := false
  jtagRefused : Word := 0
  /-- The JTAG instruction register, IDCODE after test-logic reset (R451). -/
  jtagIr : Nat := 0x02
  custKey : Option (List Word) := none
  /-- EV_SEALED was raised (R453). -/
  told : Bool := false
  /-- A seal violation was declared and SEAL_VIOLATION's clear condition has not come (R454). -/
  violation : Bool := false
  /-- EV_SEALED is due after command-ready (Table 18.4). -/
  sealedDue : Bool := false
deriving DecidableEq, Repr

end Sys2Proof.Machine
end

