-- ==== Sys2Proof/Machine/StateClient.lean ====
section
/-!
DEFINITION. Sys2Proof/Machine/StateClient.lean: the state of Host Lanes and Client Mapping and of the Traffic Manager. Each
field's default value is its value in `State.reset`.
-/
namespace Sys2Proof.Machine
open Sys2Proof

/-! ## Host lanes and host ports (chapter 10) -/

/-- HL_CONFIG of a host lane (Table 10.2); `ffe` as word 6. -/
structure HlCfg where
  rxInv : Bool := false
  txInv : Bool := false
  refsel : Nat := 0
  ffe : Nat := 0x0038F800
  adapt : Nat := 0
  ctle : Nat := 20
deriving DecidableEq, Repr

/-- A host lane; `cfg` is none until an HL_CONFIG configures the lane, and the defaults then hold (log entry 32). -/
structure HostLane where
  cfg : Option HlCfg := none
  locked : Bool := false
  /-- The housekeeping time LANE_HOLD ends for a lost lane; whether it has expired, so that the lane retrains alone. -/
  holdEnd : Option Nat := none
  alone : Bool := false
  /-- What the receiver last settled on: zero before any training (log entry 1). -/
  meas : LaneMeas := { cdr := 0, ctle := 0, eyeH := 0, eyeW := 0, ffe := 0x0038F800 }
deriving DecidableEq, Repr

/-- HP_CONFIG of a host port (Table 10.6). -/
structure HpCfg where
  enable : Bool
  type : Nat
  laneRate : Nat
  firstLane : Nat
  line : Lp
  firstSlot : Nat
  ilt : Bool
  retries : Nat
  laneHold : Nat
  lfOnSf : Bool
  relayFrom : Lp
  mtu : Nat
deriving DecidableEq, Repr

/-- The states of a host port (Table 10.3). -/
inductive HpSt where
  | disabled | training | aligning | up | localFault
deriving DecidableEq, Repr

/-- A host port; `cfg` is none until an HP_CONFIG configures the port, and the defaults then hold (log entry 32). -/
structure HostPort where
  cfg : Option HpCfg := none
  st : HpSt := .disabled
  unplaced : Bool := false
  /-- The port has been UP since it was last DISABLED (R277). -/
  wasUp : Bool := false
  /-- Consecutive failed attempts; the housekeeping start of the attempt in progress, of ALIGNING, and the end of a
  backoff (R269). -/
  fails : Nat := 0
  attempt : Option Nat := none
  aligning : Option Nat := none
  backoff : Option Nat := none
  loopback : Nat := 0
  /-- Housekeeping time remote fault was last received. -/
  rfAt : Nat := 0
  skew : Nat := 0
  /-- Idle blocks deleted minus inserted in the last interval. -/
  idleLast : Int := 0
  /-- A change of LINE or FIRST_SLOT waits for a frame boundary: the mapping still in effect (Table 10.5). -/
  mapped : Option (Lp × Nat) := none
  /-- The new mapping waits for a frame boundary of its line port. -/
  joins : Bool := false
deriving DecidableEq, Repr

/-! ## Traffic manager (chapter 11) -/

/-- TM_CONFIG (Table 11.6). -/
structure TmCfg where
  age : Nat := 300
  sampleUs : Nat := 10
  poolGreen : Nat := 95
  overhead : Nat := 20
deriving DecidableEq, Repr

/-- TM_SOURCE_CONFIG of a source. -/
structure SrcCfg where
  learn : Nat := 1
  learnProf : Nat := 0
  learnClass : Nat := 8
  learnDest : Nat := 0
  ovfProf : Nat := 0
  ovfClass : Nat := 0
  ovfDest : Nat := 0
deriving DecidableEq, Repr

/-- A policer profile (R291). A profile that was never set has every word 0 (log entry 1). -/
structure Policer where
  cir : Nat := 0
  cbs : Nat := 0
  pir : Nat := 0
  pbs : Nat := 0
  aware : Bool := false
  reset : Nat := 0
deriving DecidableEq, Repr

/-- A pair of token buckets in 1/1,024 byte, and the traffic manager cycle at which they held these values. -/
structure Buckets where
  c : Int := 0
  p : Int := 0
  at_ : Nat := 0
deriving DecidableEq, Repr

/-- A flow key (Table 11.2). -/
structure FlowKey where
  type : Nat
  source : Nat
  vlan : Nat
  value : Nat
deriving DecidableEq, Repr

/-- A flow entry (R288); `lastHit` is an interval number. -/
structure Flow where
  key : FlowKey
  cls : Nat
  dest : Nat
  prof : Nat
  static_ : Bool
  bk : Buckets
  lastHit : Nat
  passed : U64
  bytes : U64
  red : U64
  /-- Housekeeping time up to which the entry is lost to a memory error (Table 12.6, memory 7). -/
  lostUntil : Nat := 0
deriving DecidableEq, Repr

/-- Frame colours (R291). -/
inductive Colour where
  | green | yellow | red
deriving DecidableEq, Repr

/-- A frame held in a queue: bytes, colour, time of admission, cells in each bank, cut-through, a hold of the gate rule
already counted, and an uncorrectable cell. -/
structure QFrame where
  bytes : List Byte
  colour : Colour
  at_ : Nat
  cells : List Nat
  cut : Bool
  held : Bool := false
  bad : Bool := false
deriving DecidableEq, Repr

/-- TM_QUEUE_CONFIG of a queue. -/
structure QueueCfg where
  maxDepth : Nat := 16384
  yellow : Nat := 8192
  cir : Nat := 0
  cbs : Nat := 19200
  pir : Nat := 0
  pbs : Nat := 19200
  overrun : Nat := 0
  reset : Nat := 0
  delayAlarm : Nat := 0
deriving DecidableEq, Repr

/-- A queue (R284, R299, R305). Its buckets start FULL. -/
structure Queue where
  cfg : QueueCfg := {}
  bk : Buckets := { c := 19200 * 1024, p := 19200 * 1024, at_ := 0 }
  /-- Frames held, head first. -/
  frames : List QFrame := []
  /-- Present interval: maximum depth, sum of depths, maximum sojourn in cycles. -/
  maxD : Nat := 0
  sumD : Nat := 0
  maxS : Nat := 0
  /-- Last interval: maximum and mean depth in bytes, maximum sojourn in cycles. -/
  lMaxD : Nat := 0
  lMeanD : Nat := 0
  lMaxS : Nat := 0
deriving DecidableEq, Repr

/-- A gate schedule (R301): entries are (DURATION_NS, STATE). -/
structure Sched where
  express : Nat := 8
  offset : Nat := 0
  entries : List (Nat × Nat) := []
deriving DecidableEq, Repr

/-- The gate of an output: schedule in force and pending, current entry, housekeeping time of the next gate change and
of the next restart. -/
structure Gate where
  sched : Sched := {}
  next : Option Sched := none
  entry : Nat := 0
  changeAt : Nat := 0
  restartAt : Option Nat := none
deriving DecidableEq, Repr

/-- An output: the housekeeping time at which its frame in progress is handed on, and the frame last sent. -/
structure Output where
  busy : Nat := 0
  last : List Byte := []
  /-- Deficit round robin per class (line outputs): the host port served next, by class. -/
  turn : SMap Nat := []
  /-- Line outputs: 64b/66b blocks of the Ethernet stream that wait for the payload grid (R303): data or control, and the 64 bits
  after the sync header, the first octet lowest. -/
  stream : List (Bool × BitVec 64) := []
deriving DecidableEq, Repr

/-- The states of a packet-buffer bank (R296). -/
inductive BankSt where
  | awake | asleep
  /-- Waking. -/
  | waking
deriving DecidableEq, Repr

/-- A bank: its state and the housekeeping time at which its queues became empty. -/
structure TmBank where
  st : BankSt := .awake
  emptyFrom : Option Nat := some 0
deriving DecidableEq, Repr

/-- The traffic manager (chapter 11). -/
structure Tm where
  cfg : TmCfg := {}
  sources : SMap SrcCfg := []
  profiles : SMap Policer := []
  flows : SMap (Option Flow) := []
  /-- Overflow bucket pairs by source; unlisted: FULL (log entry 33). -/
  ovf : SMap (Option Buckets) := []
  queues : SMap Queue := []
  /-- Deficits by queue number. -/
  deficits : SMap Nat := []
  gates : SMap Gate := []
  outputs : SMap Output := []
  banks : List TmBank := [{}, {}, {}, {}]
  /-- The bank the next striped cell goes to. -/
  stripe : Nat := 0
  /-- Cycles before the present run of the clock, and the housekeeping time that run began (Table 1.5). -/
  cycles : Nat := 0
  since : Option Nat := none
  /-- Housekeeping time the clock last stopped. -/
  stopped : Nat := 0
  /-- Housekeeping time of the next sample; samples in the present and in the last interval. -/
  sampleAt : Nat := 0
  samples : Nat := 0
  lSamples : Nat := 0
  /-- End of the second for which cells in use must stay low before TM_POOL_HIGH clears. -/
  poolLow : Option Nat := none
  /-- Bytes written to and read from HBM in the present interval; bandwidth of the last one in GB/s. -/
  hbmBytes : Nat := 0
  hbmGBs : Nat := 0
deriving DecidableEq, Repr

end Sys2Proof.Machine
end

