-- ==== Sys2Proof/Machine/StateProt.lean ====
section
/-!
DEFINITION. Sys2Proof/Machine/StateProt.lean: the state of Protection and Integrity and of the Afvan Mate Link. Each
field's default value is its value in `State.reset`.
-/
namespace Sys2Proof.Machine
open Sys2Proof

/-! ## Protection (chapter 12) -/

/-- The steps of a switch-over (Tables 12.2 and 12.3). -/
inductive TkStep where
  /-- Decided, before the cut. -/
  | decided
  /-- WARM: the gap. -/
  | gap
  /-- WARM: the dual-active window. -/
  | window
  /-- COOL: cut, LES being released. -/
  | hold
  /-- COOL: LES released, not yet transmitting. -/
  | released
  /-- COOL: transmitting, IN_FRAME not yet reached. -/
  | acquiring
deriving DecidableEq, Repr

/-- A switch-over or return in progress on a port: kind 1 WARM, 2 COOL, 3 return (Table 12.13). -/
structure Takeover where
  kind : Nat
  out : Eng
  inn : Eng
  cause : Nat
  injected : Bool
  step : TkStep := .decided
  /-- Housekeeping times of D, of C and of the end of the DAC hold. -/
  decided : Nat := 0
  cut : Nat := 0
  resumed : Nat := 0
  marker : Nat := 0
  /-- FRAME_NUM of the received frame in progress at C (R315). -/
  rxNum : Nat := 0
  /-- The housekeeping time at which the window ends: the parting marker's frame has ended. -/
  windowEnd : Nat := 0
deriving DecidableEq, Repr

/-- A switch-over that waits for another (Table 12.11). -/
structure TkWait where
  p : Lp
  out : Eng
  cause : Nat
  injected : Bool
deriving DecidableEq, Repr

/-- APS_CONFIG of a port (Table 12.14). -/
structure ApsCfg where
  group : Nat := 0
  role : Nat := 0
  bidir : Nat := 0
  revert : Nat := 1
  wtr : Nat := 300
  holdOff : Nat := 0
  sdEn : Nat := 1
deriving DecidableEq, Repr

/-- The record of one line port in an APS message (Table 13.5): protection channel bytes, SF, SD and request. -/
structure ApsRec where
  bytes : List Byte := [0, 0, 0, 0]
  sf : Bool := false
  sd : Bool := false
  request : Nat := 0
deriving DecidableEq, Repr

/-- The housekeeping ends of the HOLD_OFFs that run, one for each input of the selector (R328). -/
structure ApsHold where
  sf : Option Nat := none
  sd : Option Nat := none
  cmd : Option Nat := none
  wtr : Option Nat := none
deriving DecidableEq, Repr

/-- Mate-pair protection of a line port (R328 to R332). -/
structure Aps where
  cfg : ApsCfg := {}
  /-- APS_COMMAND given. -/
  command : Nat := 0
  /-- SF, SD, command and wait-to-restore as the selector takes them, after HOLD_OFF; the HOLD_OFFs that run. -/
  sf : Bool := false
  sd : Bool := false
  cmd : Nat := 0
  wtrOn : Bool := false
  hold : ApsHold := {}
  /-- AON time of the end of wait-to-restore. -/
  wtr : Option Nat := none
  /-- DO_NOT_REVERT holds. -/
  dnr : Bool := false
  /-- Request in force and its source (EV_APS); protection selected; this device selected. -/
  request : Nat := 0
  source : Nat := 0
  prot : Bool := false
  self : Bool := false
  /-- The protection channel: value of the last header of record and its run, accepted value. -/
  rxLast : List Byte := []
  rxRun : Nat := 0
  rxAcc : Option (List Byte) := none
  /-- Housekeeping end of the 50 ms towards raising or clearing APS_MISMATCH. -/
  mismatch : Option Nat := none
  /-- The mate's record for this group, from its last APS message. -/
  mate : Option ApsRec := none
  /-- End of an injected signal fail. -/
  injSf : Option Nat := none
deriving DecidableEq, Repr

/-- Protection of a line port. -/
structure ProtPort where
  tk : Option Takeover := none
  /-- The last switch-over: kind, cause, marker FRAME_NUM, gap, UPTIME, and switch-overs modulo 256. -/
  lastKind : Nat := 0
  lastCause : Nat := 0
  lastMarker : Nat := 0
  lastGap : Nat := 0
  lastUp : Nat := 0
  count : Nat := 0
  /-- Housekeeping end of the 10 us towards SF_DISAGREE (R312). -/
  disagree : Option Nat := none
  aps : Aps := {}
deriving DecidableEq, Repr

/-- The phases of burnishing (Table 12.4). -/
inductive BurnPhase where
  | none | acquire | shadow | loop | leave
deriving DecidableEq, Repr

/-- Burnishing (R320 to R322). -/
structure Burn where
  enable : Nat := 1
  period : Nat := 60
  phase : BurnPhase := .none
  port : Lp := .lp0
  /-- Ports still to be burnished in this period. -/
  left : List Lp := []
  /-- The port burnished last. -/
  last : Lp := .lp1
  passed : Bool := false
  /-- Outcomes of the last compared frames, newest first, at most 8: true a mismatch. -/
  recent : List Bool := []
  /-- The frame in progress is not compared (R321). -/
  excluded : Bool := false
  /-- Mismatches in the last phase. -/
  phaseMm : Nat := 0
  /-- BURNISH_PASSES modulo 65,536. -/
  passes : Nat := 0
  /-- Housekeeping end of the phase; AON time of the next period. -/
  phaseEnd : Nat := 0
  next : Option Nat := none
deriving DecidableEq, Repr

/-- The stages of PROT_ENGINE_RESTORE (R319, R322). -/
inductive RestoreStage where
  | power | test | shadow | back | burnish
deriving DecidableEq, Repr

/-- PROT_ENGINE_RESTORE in progress: engine, stage, housekeeping end of the self-test. -/
structure Restore where
  e : Eng
  stage : RestoreStage
  until_ : Nat := 0
deriving DecidableEq, Repr

/-- Protection and integrity of the device (chapter 12). -/
structure Prot where
  lp0 : ProtPort := {}
  lp1 : ProtPort := {}
  waiting : List TkWait := []
  burn : Burn := {}
  restore : Option Restore := none
  /-- PROT_SPINDLE_RESTOREs in progress, oldest first: engine and spindles. -/
  spindles : List (Eng × List Nat) := []
  /-- Faults still to be injected, by 2^24 * KIND + 2^16 * TARGET + LOCATION. -/
  inject : SMap Nat := []
  /-- Replays requested: link key, housekeeping time of arrival, injected (0 no, 1 + KIND). -/
  replays : List (Nat × Nat × Nat) := []
  /-- Housekeeping time of the last replay per link key, plus 1; 0 none. -/
  lastReplay : SMap Nat := []
  /-- End of the second without PARITY_PERSIST, per TARGET. -/
  persist : SMap (Option Nat) := []
  /-- Words PROT_CHECKER and DBG_MEM_WRITE wrote: memory ID, TARGET, spindle, address, data, check bits. -/
  checker : List (Nat × Nat × Nat × Nat × U64 × Byte) := []
  /-- Housekeeping time of each memory's last scrub plus 1, by ID * 256 + TARGET; 0 none. -/
  scrubs : SMap Nat := []
  /-- Memory 13: both copies bad since the last rewrite, which every frame sent brings. -/
  streamBad : Bool := false
deriving DecidableEq, Repr

/-! ## Mate link (chapter 13) -/

/-- The link states (Table 13.8). -/
inductive MateSt where
  | disabled | training | up | resume
deriving DecidableEq, Repr

/-- The phases of a training attempt (Table 13.7); `confirm` awaits the good HEARTBEATs after GRANT. -/
inductive TrainPhase where
  | none | listen | echoP | echoS | duplex | grant | confirm
deriving DecidableEq, Repr

/-- A sequenced burst: TYPE, payload, packet or record it belongs to. -/
structure SeqBurst where
  type : Nat
  payload : List Byte
  msg : Nat
deriving DecidableEq, Repr

/-- A sequenced burst sent and not acknowledged (R354). -/
structure Unacked where
  seq : Nat
  b : SeqBurst
  /-- Housekeeping time it was last sent, and retries so far. -/
  at_ : Nat
  tries : Nat
deriving DecidableEq, Repr

/-- A packet being joined (R353): MSG_ID, housekeeping time of its first segment, segments so far by index. -/
structure Join where
  id : Nat
  from_ : Nat
  parts : List (Nat × List Byte)
  last : Option Nat
deriving DecidableEq, Repr

/-- The mate link (chapter 13). -/
structure Mate where
  /-- MATE_CONFIG (Table 13.10). -/
  enable : Nat := 1
  rateMax : Nat := 2
  rxSleep : Nat := 1
  retries : Nat := 4
  st : MateSt := .disabled
  phase : TrainPhase := .none
  /-- Housekeeping times: end of the phase, start of the attempt, end of a backoff, entry to RESUME. -/
  phaseEnd : Nat := 0
  attempt : Option Nat := none
  backoff : Option Nat := none
  resumeFrom : Option Nat := none
  fails : Nat := 0
  lastCause : Nat := 0
  roleRun : Nat := 0
  /-- RATE_CODE GRANT gave, and the link rate. -/
  granted : Nat := 0
  rate : Nat := 0
  partnerSleep : Bool := false
  margin : Nat := 0
  partnerMargin : Nat := 0
  /-- Housekeeping time since which MARGIN is below 2 dB; CRC outcomes of the last 32 bursts, newest first, true bad;
  MARGIN is being sent as 0. -/
  lowFrom : Option Nat := none
  crcs : List Bool := []
  poor : Bool := false
  /-- NEXT_RATE announced or seen, and whether a HEARTBEAT carrying it was sent and received. -/
  nextRate : Option Nat := none
  rateSent : Bool := false
  rateSeen : Bool := false
  /-- Housekeeping time of the last good burst. -/
  lastGood : Option Nat := none
  /-- Cause of the last GOODBYE; 3 none. -/
  goodbye : Nat := 3
  /-- Sequencing: next SEQ to send, SEQ of the last sequenced burst received in order, bursts waiting, unacknowledged. -/
  txSeq : Nat := 0
  rxSeq : Nat := 255
  queue : List SeqBurst := []
  unacked : List Unacked := []
  /-- Next MSG_ID. -/
  msgId : Nat := 0
  joins : List Join := []
  /-- Housekeeping time of the next HEARTBEAT, end of the time to acknowledge, receiver asleep, end of its listening. -/
  heartbeat : Option Nat := none
  ackDue : Option Nat := none
  asleep : Bool := false
  /-- The housekeeping time the next HEARTBEAT of the partner is expected. -/
  expect : Option Nat := none
  listenEnd : Option Nat := none
  /-- Correlator: rate and correlation of the candidate being received, and its housekeeping time (R344, R345). -/
  cand : Option (Nat × Nat × Nat) := none
  /-- MATE_WAKE_PEER in progress: housekeeping time 10 ms after the sequence ends. -/
  wakePeer : Option Nat := none
  /-- Housekeeping time of the last APS record received. -/
  apsAt : Option Nat := none
  /-- POWER and firmware pause of the partner (HEARTBEAT byte 16). -/
  peer : Nat := 0
  /-- Mirror records: as last sent with the housekeeping time, per port; newest record per GROUP_ID of the mate. -/
  sentMirror : PerLp (Option (List Word × Nat)) := ⟨none, none⟩
  mateMirror : SMap (Option (List Word)) := []
  /-- End of the second towards a change of MIRROR_MISMATCH, by GROUP_ID. -/
  mirror : SMap (Option Nat) := []
  /-- The last burst sent: rate, and its symbols on the pair. -/
  tx : Nat × List Int := (0, [])
  /-- The taps of echo canceller and receive equaliser, per RATE_CODE, as the last training set them (R339, R346). -/
  echo : List (List Int) := []
  equal : List (List Int) := []
deriving DecidableEq, Repr

end Sys2Proof.Machine
end

