-- ==== Sys2Proof/Machine/StateUnits.lean ====
section
/-!
DEFINITION. Sys2Proof/Machine/StateUnits.lean: the state of References, Holdover and Clock Outputs and of Monitor
Converters and Modulator Bias. Each field's default value is its value in `State.reset`.
-/
namespace Sys2Proof.Machine
open Sys2Proof

/-! ## Clock unit (chapter 14) -/

/-- CLK_CONFIG (Table 14.5). XO_AGING and XO_TEMP have no stated default: 0 (log entry 1). -/
structure ClkCfg where
  revertive : Nat := 1
  wtr : Nat := 300
  bw : Nat := 10
  pull : Nat := 2000
  disq : Nat := 92
  requal : Nat := 75
  disagree : Nat := 20
  limit : Nat := 4600
  grade : Nat := 1
  aging : Nat := 0
  temp : Nat := 0
deriving DecidableEq, Repr

/-- A reference candidate (R361 to R364). -/
structure Cand where
  prio : Nat := 0
  freq : Nat := 10000
  valid : Bool := false
  qual : Bool := false
  /-- Offsets of the last windows in ppb, newest first, at most 8. -/
  windows : List Int := []
  /-- It turned valid, or its PRIORITY changed from 0, within the window in progress. -/
  part : Bool := false
  /-- Qualified once since PORESET_N or a wake from DARK (R364). -/
  once : Bool := false
  /-- Time (housekeeping) at which wait-to-restore ends. -/
  wtr : Option Nat := none
deriving DecidableEq, Repr

/-- The states of the clock unit (Table 14.2). -/
inductive ClkSt where
  | freeRun | acquiring | locked | holdover
deriving DecidableEq, Repr

/-- CLK_SELECT (R368). -/
inductive ClkMode where
  | auto
  | manual (candidate : Nat)
  | holdover
deriving DecidableEq, Repr

/-- A clock output (R378). -/
structure ClkOut where
  enable : Nat := 0
  source : Nat := 0
  freq : Nat := 10000
  squelch : Nat := 4
deriving DecidableEq, Repr

/-- PPS_CONFIG (Table 14.5). -/
structure PpsCfg where
  inEn : Nat := 1
  edge : Nat := 0
  outEn : Nat := 0
  offset : Nat := 0
  width : Nat := 100
deriving DecidableEq, Repr

/-- The clock unit (chapter 14). The 1-second tick and the holdover timer are in the AON domain (R372, R375). -/
structure Clk where
  cfg : ClkCfg := {}
  cands : List Cand := List.replicate 8 {}
  outs : List ClkOut := [{}, {}]
  pps : PpsCfg := {}
  mode : ClkMode := .auto
  /-- A CLK_SELECT that waits for a switch in progress (Table 14.4). -/
  modeNext : Option ClkMode := none
  st : ClkSt := .freeRun
  selected : Option Nat := none
  /-- A switch or entry to holdover in progress: cause of EV_CLK_STATE. -/
  switching : Option Nat := none
  /-- Offset of the cleaned clock from XO per 1-second window in 0.1 ppb, newest first, at most 68. -/
  history : List Int := []
  /-- Frozen offset in ppb, FREEZE_ERR in 0.1 ppb, holdover budget T in AON periods (none: never), AON time of entry. -/
  frozen : Int := 0
  freezeErr : Nat := 0
  budget : Option Nat := none
  entered : Option Nat := none
  /-- Phase error in ns to the selected candidate. -/
  phase : Int := 0
  /-- Offset of the cleaned clock from XO in the last window in 0.1 ppb; none before any window. -/
  lastOff : Option Int := none
  /-- AON time of the next 1-second window end. -/
  windowAt : Option Nat := none
  /-- The 1-second tick: AON time of the next tick (none while PPS_IN gives it), of the last boundary, sequence number of
  the next interval, UPTIME of the start boundary, tick from PPS_IN. -/
  nextTick : Option Nat := none
  lastTick : Option Nat := none
  seq : Nat := 0
  startUp : Nat := 0
  fromPps : Bool := false
  /-- The tick source changed in the present interval (R228). -/
  changed : Bool := false
  /-- PPS_IN (R376): present, accepted edges of the search, AON time of the last accepted edge, present once. -/
  present : Bool := false
  run : Nat := 0
  lastEdge : Option Nat := none
  /-- PPS_OUT: AON times of the next rise and of the fall; the pin high. -/
  riseAt : Option Nat := none
  fallAt : Option Nat := none
  ppsOut : Bool := false
deriving DecidableEq, Repr

/-! ## Monitor unit (chapter 15) -/

/-- MON_CHAN_CONFIG of a channel, and results in a row within limits (R403). Limits have no stated default: those that
disable (log entry 1). -/
structure MonChan where
  diff : Nat := 0
  lo : Nat := 0
  hi : Nat := 65535
  within : Nat := 0
deriving DecidableEq, Repr

/-- The decimation stream of one regular entry (R391 to R393): inputs since the last reset, whether one of them since the last
output carried GAP or a stage saturated, and the delay lines of the half-band stages and, ninth, of the FIR, newest value
first; what is not listed is cleared. -/
structure MonStream where
  count : Nat := 0
  gap : Bool := false
  sat : Bool := false
  lines : List (List Int) := List.replicate 9 []
deriving DecidableEq, Repr

/-- What a converter is doing. -/
inductive MonAct where
  | idle
  /-- A regular conversion of entry `i`. -/
  | regular (i : Nat)
  /-- An injected conversion of entry `i`. -/
  | injected (i : Nat)
  | calibrating
deriving DecidableEq, Repr

/-- A monitor converter (R384 to R393). Configuration has no stated default but for RESULT chains: log entry 1. -/
structure MonConv where
  align : Nat := 0
  pdMode : Nat := 0
  trigger : Nat := 0
  period : Nat := 50
  /-- COUNT and the 16 entries of the regular sequence: channel, ACQ_CYCLES. -/
  count : Nat := 1
  entries : List (Nat × Nat) := List.replicate 16 (0, 15)
  injTrigger : Nat := 0
  injPeriod : Nat := 50
  injCount : Nat := 1
  injEntries : List (Nat × Nat) := List.replicate 4 (0, 15)
  injEvent : Nat := 0
  stages : Nat := 0
  resp : Nat := 0
  shift : Nat := 0
  fir : Nat := 0
  firDecim : Nat := 1
  /-- Between MON_CONTROL START and STOP. -/
  running : Bool := false
  act : MonAct := .idle
  /-- Housekeeping end of the conversion in progress. -/
  actEnd : Nat := 0
  /-- The next entry of the round in progress; none between rounds. -/
  round : Option Nat := none
  /-- A round starts as soon as the converter is free (R390, Table 15.9). -/
  queued : Bool := false
  /-- The next regular result carries GAP. -/
  gap : Bool := false
  injPending : Bool := false
  calAsked : Bool := false
  /-- Housekeeping times of the next TIMER trigger and the next INJ_PERIOD trigger. -/
  timerAt : Nat := 0
  injAt : Nat := 0
  streams : List MonStream := List.replicate 16 {}
  injResults : List Word := [0, 0, 0, 0]
  fresh : Nat := 0
  /-- Corrections in force: offset in LSB, gain in 0.001 %; the outcome of the last calibration: 0 done, 1 MON_CAL_FAIL. -/
  calOffset : Int := 0
  calGain : Int := 0
  calOut : Nat := 0
  /-- Buffer region: size in KiB, write and read positions, unread words, watermark event raised. -/
  region : Nat := 256
  write : Nat := 0
  read : Nat := 0
  unread : Nat := 0
  marked : Bool := false
  words : SMap Word := []
deriving DecidableEq, Repr

/-- The states of a bias output (BIAS_STATUS). -/
inductive BiasSt where
  | off | manual | ramp | acquire | locked | hold
deriving DecidableEq, Repr

/-- A bias output (Tables 15.6 to 15.8). Values in mV times 1,000,000. -/
structure Bias where
  mode : Nat := 0
  manualMv : Nat := 0
  startMv : Nat := 1250
  minMv : Nat := 0
  maxMv : Nat := 2500
  dither : Nat := 20
  gain : Nat := 200
  quadNeg : Bool := false
  input : Nat := 0
  lightMin : Nat := 1000
  st : BiasSt := .off
  /-- The output's value and target (the loop's v), with the housekeeping time the value was right and the slew in
  mV/ms. -/
  v : Int := 0
  target : Int := 0
  at_ : Nat := 0
  slew : Nat := 1000
  /-- Last e in 0.000001. -/
  e : Int := 0
  /-- Runs of updates: |e| <= 0.01, |e| > 0.05 from LOCKED, clamped. -/
  good : Nat := 0
  bad : Nat := 0
  clamped : Nat := 0
  /-- Housekeeping times: entry to ACQUIRE (while its 500 ms run), entry to HOLD, start of m >= LIGHT_MIN, ramp end. -/
  acquireFrom : Option Nat := none
  holdFrom : Option Nat := none
  lightFrom : Option Nat := none
  rampEnd : Option Nat := none
  /-- The state HOLD was entered from. -/
  before : BiasSt := .acquire
deriving DecidableEq, Repr

/-- The bias outputs of a line port. -/
structure BiasPort where
  outs : List Bias := List.replicate 8 {}
  slew : Nat := 1000
  /-- Housekeeping time of the next loop update. -/
  updateAt : Nat := 0
deriving DecidableEq, Repr

/-- The monitor unit (chapter 15). -/
structure Mon where
  chans : SMap MonChan := []
  convs : List MonConv := List.replicate 4 {}
  watermark : Nat := 0
  overrun : Nat := 0
  groupPeriod : Nat := 50
  groupAt : Nat := 0
  /-- MC3 is loop-owned (R398). -/
  owned : Bool := false
  /-- MON_CALIBRATEs in progress, oldest first: CONV_MASK and the converters still to calibrate. -/
  cals : List (Nat × Nat) := []
  /-- MON_BUF_DMAs in progress, oldest first: converter, host address, words. -/
  dma : List (Nat × Nat × Nat) := []
  bias : PerLp BiasPort := ⟨{}, {}⟩
deriving DecidableEq, Repr

end Sys2Proof.Machine
end

