-- ==== Sys2Proof/Machine/StateStore.lean ====
section
/-!
DEFINITION. Sys2Proof/Machine/StateStore.lean: the configuration store of Table 16.7, two slots in flash outside every
reset. Each field's default value is its value in `State.reset`.
-/
namespace Sys2Proof.Machine
open Sys2Proof

/-- The saved settings of a line port. -/
structure SavedLp where
  requested : ModePoint := {}
  conv : ConvCfg := {}
  tx : DspTx := {}
  rx : DspRx := {}
  /-- Path profiles 0 to 16. -/
  profiles : SMap Profile := []
  fec : FecCfg := {}
  lf : LfCfg := {}
  pm : PmCfg := {}
  hsTimeout : Nat := 100
  authClear : Nat := 16
  aps : ApsCfg := {}
  bias : BiasPort := {}
deriving DecidableEq, Repr

/-- The saved settings of a line engine: SPN_KERNEL_RESERVE and SPN_READER. -/
structure SavedEng where
  k : Nat := 0
  central : Bool := false
  sweepUs : Nat := 1000
deriving DecidableEq, Repr

/-- The settings of Table 16.7. Structures that also hold run state hold its reset value here. -/
structure SavedCfg where
  lp : PerLp SavedLp := ⟨{}, {}⟩
  eng : PerEng SavedEng := ⟨{}, {}, {}⟩
  warmPort : Lp := .lp0
  inband : PerLp Bool := ⟨false, false⟩
  mateEnable : Bool := true
  masks : PerPort Nat := ⟨0, 0, 0, 0, 0⟩
  alarmMask : Nat := 0
  fswMap : SMap Nat := []
  lanes : SMap (Option HlCfg) := []
  hports : SMap (Option HpCfg) := []
  synce : Option Nat × Option Nat := (none, none)
  tm : TmCfg := {}
  sources : SMap SrcCfg := []
  policers : SMap Policer := []
  queues : SMap QueueCfg := []
  gates : SMap Sched := []
  burnEnable : Nat := 1
  burnPeriod : Nat := 60
  mate : Mate := {}
  clk : ClkCfg := {}
  cands : List (Nat × Nat) := []
  outs : List ClkOut := []
  pps : PpsCfg := {}
  chans : SMap MonChan := []
  convs : List MonConv := []
  watermark : Nat := 0
  overrun : Nat := 0
  groupPeriod : Nat := 50
deriving DecidableEq, Repr

/-- A store slot: SEQUENCE, SCHEMA, UPTIME at the save, settings. -/
structure Slot where
  seq : Nat
  schema : Nat
  uptime : Nat
  cfg : SavedCfg
deriving DecidableEq, Repr

/-- The configuration store: slots A and B (none: not valid), and the settings CFG_SAVE commands are writing,
oldest first. -/
structure Store where
  a : Option Slot := none
  b : Option Slot := none
  writing : List SavedCfg := []
deriving DecidableEq, Repr

end Sys2Proof.Machine
end

