-- ==== Sys2Proof/Machine/State.lean ====
section
/-!
DEFINITION. Sys2Proof/Machine/State.lean: the whole state of the device as plain data, the reasons a step can stop, and
`State.reset`: the device powered, with a PORESET_N assertion taken and PORESET_N still low (log entry 1).
-/
namespace Sys2Proof.Machine
open Sys2Proof

/-- One line port: its mode, converters, signal processing, coding, framing and encryption. -/
structure LinePort where
  mode : ModePort := {}
  conv : Conv := {}
  dsp : Dsp := {}
  cod : Coding := {}
  frame : Frame := {}
  crypto : Crypto := {}
deriving DecidableEq, Repr

/-- Why a step could stop with a fault. No meaning of this model ends in a fault. -/
inductive Fault where
  /-- Raised by nothing: every command of the table has an effect in the manual, if only to be ignored. Safe. -/
  | unused
deriving DecidableEq, Repr

/-- Why a step could be refused. -/
inductive Refusal where
  /-- The command has no meaning in the model yet; raised by an arm of `exec`. Safe. -/
  | notModelled (mnemonic : String)
deriving DecidableEq, Repr

/-- The state of the device. -/
structure State where
  /-- Time since power-up on the AON domain, in ticks of 1/192 GHz (log entry 2). -/
  now : Nat := 0
  /-- Time the housekeeping clock has run, in the same ticks (R12). -/
  hk : Nat := 0
  pr : PowerReset := {}
  host : HostIf := {}
  lp : PerLp LinePort := ⟨{}, {}⟩
  eng : PerEng Engine :=
    ⟨{ serves := some .lp0 }, { serves := some .lp1 }, {}⟩
  /-- WARM_PORT (R74). -/
  warmPort : Lp := .lp0
  /-- A re-resolution is due (R84): its cause (Table 3.11). -/
  reresolve : Option Nat := none
  /-- Host lanes 0 to 31 and host ports 0 to 63, and the lanes HL_SYNCE_SELECT chose for candidates 4 and 5. -/
  lanes : SMap HostLane := []
  hports : SMap HostPort := []
  synce : Option Nat × Option Nat := (none, none)
  tm : Tm := {}
  keys : KeyStore := {}
  prot : Prot := {}
  mate : Mate := {}
  clk : Clk := {}
  mon : Mon := {}
  fw : Firmware := {}
  store : Store := {}
  sealSt : Seal := {}
  /-- Alarms raised, by event code * 2^16 + TARGET * 2^8 + sub-unit. -/
  alarms : SMap Bool := []
  /-- Counters by their DEV_FSW_MAP selector; an unlisted counter is 0. -/
  counters : SMap U64 := []
  /-- Index of the next free value (the model's own field, log entry 5). -/
  freeCtr : Nat := 0
  /-- Commands waiting, first in, first out (the model's own field). -/
  pending : List Instr := []
deriving DecidableEq, Repr

/-- The state right after reset (log entry 1). -/
def State.reset : State := {}

end Sys2Proof.Machine
end

