-- ==== Sys2Proof/Machine/Ops.lean ====
section
/-!
DEFINITION. Sys2Proof/Machine/Ops.lean: the named operations every meaning is built from: time, sparse data, counters,
free values, the units, packets, ports, events, alarms and locks.
-/
namespace Sys2Proof

/-- Word `n` of the command packet, as a number; parameters start at word 3. -/
def Cmd.w (c : Cmd) (n : Nat) : Nat := (c.params.getD (n - 3) 0).toNat

/-- A flag of the command (Table 2.7). -/
def Cmd.flag (c : Cmd) (i : Nat) : Bool := c.flags.testBit i

/-- The other line port. -/
def Lp.other : Lp → Lp
  | .lp0 => .lp1
  | .lp1 => .lp0

end Sys2Proof

namespace Sys2Proof.Machine
open Sys2Proof

/-! ## Sparse data -/

/-- The value of key `k`; an unlisted key reads as `d`. -/
def SMap.get {α : Type} (d : α) : SMap α → Nat → α
  | [], _ => d
  | (j, v) :: r, k => if k = j then v else SMap.get d r k

/-- `m` with key `k` set to `v`, keeping the canonical form. -/
def SMap.set {α : Type} [DecidableEq α] (d : α) : SMap α → Nat → α → SMap α
  | [], k, v => if v = d then [] else [(k, v)]
  | (j, u) :: r, k, v =>
    if k < j then (if v = d then (j, u) :: r else (k, v) :: (j, u) :: r)
    else if k = j then (if v = d then r else (k, v) :: r)
    else (j, u) :: SMap.set d r k v

/-- The canonical form: keys strictly rising from above `lo`, no value equal to `d`. -/
def SMap.wfFrom {α : Type} [DecidableEq α] (d : α) : Option Nat → SMap α → Bool
  | _, [] => true
  | lo, (j, v) :: r =>
    (match lo with | none => true | some l => decide (l < j)) && !decide (v = d) && SMap.wfFrom d (some j) r

/-- The canonical form of sparse data. -/
def SMap.wf {α : Type} [DecidableEq α] (d : α) (m : SMap α) : Bool := SMap.wfFrom d none m

/-- Element `i` of a list changed. -/
def setAt {α : Type} (l : List α) (i : Nat) (v : α) : List α := l.set i v

/-! ## Time (R11, R12; log entry 2) -/

/-- Ticks of 1/192 GHz in a nanosecond, a microsecond, a millisecond and a second. -/
def nsT (n : Nat) : Nat := n * 192
def usT (n : Nat) : Nat := n * 192000
def msT (n : Nat) : Nat := n * 192000000
def secT (n : Nat) : Nat := n * 192000000000

/-- Ticks in AON periods, datapath cycles and housekeeping cycles. -/
def aonT (n : Nat) : Nat := n * 5859375
def dpT (n : Nat) : Nat := n * 128
def hkT (n : Nat) : Nat := n * 960

/-- A reset is taken and not released. -/
def inReset (s : State) : Bool :=
  s.pr.poreset || s.pr.sysreset || s.pr.internalReset.isSome

/-- DARK, with no wake in progress: only the AON domain runs (Table 1.6). -/
def inDark (s : State) : Bool := s.pr.power == .dark && !s.pr.waking

/-- The device runs units other than AON: not unpowered, in reset, in DARK or in FAULT. -/
def running (s : State) : Bool :=
  s.pr.powered && !inReset s && !inDark s && s.pr.phase != .fault

/-- The housekeeping clock runs (Table 1.5; R440: it keeps running in FAULT but for classes 4 and 5). -/
def hkRuns (s : State) : Bool :=
  running s || (s.pr.powered && s.pr.phase == .fault && s.pr.faultClass != 4 && s.pr.faultClass != 5)

/-- Time passes. -/
def advance (dt : Nat) (s : State) : State :=
  if s.pr.powered then
    { s with now := s.now + dt, hk := if hkRuns s then s.hk + dt else s.hk }
  else s

/-- A running timer whose end has come. -/
def due (t : Option Nat) (now : Nat) : Bool := match t with | some e => decide (e ≤ now) | none => false

/-- UPTIME: AON periods since the PORESET_N release (Table 2.8), 64 bits. -/
def uptime (s : State) : Nat :=
  match s.pr.uptimeFrom with
  | some t => ((s.now - t) / 5859375) % 2 ^ 64
  | none => 0

/-- LO and HI words of UPTIME. -/
def uptimeWords (n : Nat) : List Word := [w32 n, w32 (n / 2 ^ 32)]

/-! ## Free values (log entry 5) -/

/-- The next free value. -/
def freeW (s : State) : Word × State := (Config.freeWord s.freeCtr, { s with freeCtr := s.freeCtr + 1 })

/-- The `n` free values from number `base` on. -/
def freeAt (base n : Nat) : List Word := (List.range n).map fun i => Config.freeWord (base + i)

/-- The next `n` free values. -/
def freeWs (n : Nat) (s : State) : List Word × State :=
  (freeAt s.freeCtr n, { s with freeCtr := s.freeCtr + n })

/-! ## Units -/

/-- Line port status and access. -/
def State.port (s : State) : Lp → LinePort
  | .lp0 => s.lp.lp0
  | .lp1 => s.lp.lp1

def State.setPort (s : State) (p : Lp) (v : LinePort) : State :=
  match p with
  | .lp0 => { s with lp := { s.lp with lp0 := v } }
  | .lp1 => { s with lp := { s.lp with lp1 := v } }

def State.modMode (s : State) (p : Lp) (f : ModePort → ModePort) : State :=
  s.setPort p { s.port p with mode := f (s.port p).mode }

def State.modConv (s : State) (p : Lp) (f : Conv → Conv) : State :=
  s.setPort p { s.port p with conv := f (s.port p).conv }

def State.modTap (s : State) (p : Lp) (f : Tap → Tap) : State :=
  s.modConv p fun c => { c with tap := f c.tap }

def State.modDsp (s : State) (p : Lp) (f : Dsp → Dsp) : State :=
  s.setPort p { s.port p with dsp := f (s.port p).dsp }

def State.modCod (s : State) (p : Lp) (f : Coding → Coding) : State :=
  s.setPort p { s.port p with cod := f (s.port p).cod }

def State.modFrame (s : State) (p : Lp) (f : Frame → Frame) : State :=
  s.setPort p { s.port p with frame := f (s.port p).frame }

def State.modCrypto (s : State) (p : Lp) (f : Crypto → Crypto) : State :=
  s.setPort p { s.port p with crypto := f (s.port p).crypto }

def State.engine (s : State) : Eng → Engine
  | .le0 => s.eng.le0
  | .le1 => s.eng.le1
  | .les => s.eng.les

def State.setEngine (s : State) (e : Eng) (v : Engine) : State :=
  match e with
  | .le0 => { s with eng := { s.eng with le0 := v } }
  | .le1 => { s with eng := { s.eng with le1 := v } }
  | .les => { s with eng := { s.eng with les := v } }

def State.modEngine (s : State) (e : Eng) (f : Engine → Engine) : State := s.setEngine e (f (s.engine e))

def State.modHost (s : State) (f : HostIf → HostIf) : State := { s with host := f s.host }
def State.modPcie (s : State) (f : PcieState → PcieState) : State :=
  { s with host := { s.host with pcie := f s.host.pcie } }
def State.modSpi (s : State) (f : SpiState → SpiState) : State :=
  { s with host := { s.host with spi := f s.host.spi } }
def State.modPr (s : State) (f : PowerReset → PowerReset) : State := { s with pr := f s.pr }
def State.modFw (s : State) (f : Firmware → Firmware) : State := { s with fw := f s.fw }
def State.modSeal (s : State) (f : Seal → Seal) : State := { s with sealSt := f s.sealSt }

/-- The in-band channel of a line port. -/
def State.inband (s : State) : Lp → InbandState
  | .lp0 => s.host.ib.lp0
  | .lp1 => s.host.ib.lp1

def State.modInband (s : State) (p : Lp) (f : InbandState → InbandState) : State :=
  s.modHost fun h =>
    { h with ib := match p with | .lp0 => { h.ib with lp0 := f h.ib.lp0 } | .lp1 => { h.ib with lp1 := f h.ib.lp1 } }

def PerPort.get {α : Type} (x : PerPort α) : Port → α
  | .pcie => x.pcie
  | .spi => x.spi
  | .ib0 => x.ib0
  | .ib1 => x.ib1
  | .mate => x.mate

def PerPort.put {α : Type} (x : PerPort α) (p : Port) (v : α) : PerPort α :=
  match p with
  | .pcie => { x with pcie := v }
  | .spi => { x with spi := v }
  | .ib0 => { x with ib0 := v }
  | .ib1 => { x with ib1 := v }
  | .mate => { x with mate := v }

/-- 0 or 1. -/
def lpNum : Lp → Nat
  | .lp0 => 0
  | .lp1 => 1

def lpOf (n : Nat) : Lp := if n = 0 then .lp0 else .lp1

/-- TARGET codes (Table 1.13). -/
def lpT (p : Lp) : Nat := 0x10 + lpNum p

/-- The line port of TARGET 0x10 or 0x11. -/
def lpOfT (t : Nat) : Lp := if t = 0x10 then .lp0 else .lp1

def engNum : Eng → Nat
  | .le0 => 0
  | .le1 => 1
  | .les => 2

def engT (e : Eng) : Nat := 0x18 + engNum e

def engOfT (t : Nat) : Eng := if t = 0x18 then .le0 else if t = 0x19 then .le1 else .les

/-- All engines, in TARGET order. -/
def engines : List Eng := [.le0, .le1, .les]

/-- Both line ports, in TARGET order. -/
def lineports : List Lp := [.lp0, .lp1]

/-- LE0 for LP0, LE1 for LP1 (R26). -/
def homeEng : Lp → Eng
  | .lp0 => .le0
  | .lp1 => .le1

/-- PORT codes (Table 2.1). -/
def portCode : Port → Nat
  | .pcie => 1
  | .spi => 2
  | .ib0 => 3
  | .ib1 => 4
  | .mate => 5

def ports : List Port := [.pcie, .spi, .ib0, .ib1, .mate]

/-- The HOLD of a DEV_WAKE keeps a unit awake (R72). -/
def held (s : State) (t : Nat) : Bool := decide (s.hk < SMap.get 0 s.host.holds t)

/-- A DEV_WAKE keeps a unit awake, or is waking it (R72, R455). -/
def keptAwake (s : State) (t : Nat) : Bool := held s t || (SMap.get none s.host.wakes t).isSome

/-- The engine that serves a line port, if any (Table 2.10). -/
def servingEng (s : State) (p : Lp) : Option Eng :=
  engines.find? fun e => (s.engine e).serves == some p

/-- The engine that shadows a line port, if any. -/
def shadowEng (s : State) (p : Lp) : Option Eng :=
  engines.find? fun e => (s.engine e).shadows == some p

/-- The serving engine's number: 0 LE0, 1 LE1, 2 LES, 3 none. -/
def servingNum (s : State) (p : Lp) : Nat :=
  match servingEng s p with | some e => engNum e | none => 3

/-- A port number field: 0 LP0, 1 LP1, 3 none. -/
def lpField : Option Lp → Nat
  | some p => lpNum p
  | none => 3

/-- Engine state codes (Table 2.10). -/
def engStNum : EngSt → Nat
  | .cold => 0
  | .cool => 1
  | .warm => 2
  | .active => 3

/-! ## Counters -/

/-- The selector of a counter: [31:24] TARGET, [23:16] sub-unit, [15:0] ID. -/
def sel (target sub id : Nat) : Nat := target * 2 ^ 24 + sub * 2 ^ 16 + id

/-- A counter's value. -/
def ctr (s : State) (k : Nat) : U64 := SMap.get 0 s.counters k

/-- A counter counts `n`. -/
def ctrAdd (s : State) (k n : Nat) : State :=
  { s with counters := SMap.set 0 s.counters k (ctr s k + BitVec.ofNat 64 n) }

/-- A counter cleared. -/
def ctrClear (s : State) (k : Nat) : State := { s with counters := SMap.set 0 s.counters k 0 }

/-- A line port's counter counts. -/
def lpCount (s : State) (p : Lp) (id n : Nat) : State := if n = 0 then s else ctrAdd s (sel (lpT p) 0 id) n

/-- A reply that lists counters `ids` of one unit, LO word first. -/
def ctrWords (s : State) (target sub : Nat) (ids : List Nat) : List Word :=
  (ids.map fun i => lohi (ctr s (sel target sub i))).flatten

/-- Clear after read (R63: in the snapshot cycle). -/
def ctrClearAll (s : State) (target sub : Nat) (ids : List Nat) : State :=
  ids.foldl (fun s i => ctrClear s (sel target sub i)) s

/-! ## Packets (Table 2.4) -/

/-- All words of a sent packet, CRC-32C last (R51, R52). -/
def OutPkt.words (k : OutPkt) : List Word :=
  let body := w32 (0x5C010000 + k.data.length % 2 ^ 16) :: k.w1 :: k.w2 :: k.data
  body ++ [crc32cWords body]

/-- The words of a command packet (Table 2.4), its reserved bits 0. -/
def cmdWords (code : Nat) (c : Cmd) : List Word :=
  let body := w32 (0xC5010000 + c.params.length % 2 ^ 16) :: w32 (code * 2 ^ 16 + c.tag.toNat)
    :: w32 (c.target * 2 ^ 24 + c.flags % 256 * 2 ^ 16) :: c.params
  body ++ [crc32cWords body]

/-- A received packet carries this command: OPCODE, TAG, TARGET, FLAGS 3:0 and the parameters, with its CRC; reserved bits
are ignored (R9, R51). -/
def carries (code : Nat) (c : Cmd) (ws : List Word) : Bool :=
  ws.getD 0 0 == w32 (0xC5010000 + c.params.length % 2 ^ 16) && decide (ws.length = c.params.length + 4)
    && ws.getD 1 0 == w32 (code * 2 ^ 16 + c.tag.toNat)
    && decide (bits (ws.getD 2 0).toNat 24 8 = c.target % 256) && decide (bits (ws.getD 2 0).toNat 16 4 = c.flags % 16)
    && (ws.drop 3).dropLast == c.params && crc32cWords ws.dropLast == ws.getLastD 0

/-- A reply (Table 2.4). -/
def replyPkt (code : Nat) (tag : BitVec 16) (status detail : Nat) (data : List Word) : OutPkt :=
  { event := false, w1 := w32 (code * 2 ^ 16 + tag.toNat), w2 := w32 (status * 2 ^ 16 + detail % 2 ^ 16), data }

/-- An event (Table 2.4). -/
def eventPkt (code seq target flags : Nat) (data : List Word) : OutPkt :=
  { event := true, w1 := w32 (code * 2 ^ 16 + seq), w2 := w32 (target * 2 ^ 24 + flags * 2 ^ 16), data }

/-- EVENT_FLAGS bit 0, PRIORITY (R53). -/
def OutPkt.prio (k : OutPkt) : Bool := k.event && k.w2.toNat.testBit 16

def State.modMate (s : State) (f : Mate → Mate) : State := { s with mate := f s.mate }

def State.modProt (s : State) (f : Prot → Prot) : State := { s with prot := f s.prot }

/-! ## Bursts (Tables 13.3 and 13.4) -/

/-- Header, payload and CRC of a burst. -/
def burstBytes (type flags seq ack next margin : Nat) (payload : List Byte) : List Byte :=
  let body := [w8 type, w8 flags, w8 seq, w8 ack, w8 (payload.length / 256), w8 payload.length, w8 next, w8 margin]
    ++ payload
  body ++ wordBytesBE (crc32c body)

/-- A burst leaves: BURSTS_TX; its ACK field acknowledges what was received (R354). A partner whose receiver may sleep
gets a wake lead, but for a HEARTBEAT (R351). -/
def sendBurst (type flags seq : Nat) (payload : List Byte) (s : State) : State :=
  let m := s.mate
  let sleep := m.rxSleep == 1 && m.st == .up && !keptAwake s 0x90
  let fl := onBit sleep 0 + flags
  let next := match m.nextRate with | some r => 128 + r | none => 0
  let bs := burstBytes type fl seq m.rxSeq next (if m.poor then 0 else min 255 m.margin) payload
  let lead := m.partnerSleep && m.st == .up && type != 1
  ctrAdd (s.modMate fun m => { m with
    tx := (m.rate, burstSymbols m.rate lead bs), ackDue := none, rateSent := m.rateSent || (type == 1 && m.nextRate.isSome) })
    (sel 0x90 0 0x0B01) 1

/-- Waiting sequenced bursts are sent while fewer than 8 are unacknowledged (R354). -/
def pumpMate : Nat → State → State
  | 0, s => s
  | n + 1, s =>
    match s.mate.queue with
    | [] => s
    | b :: r =>
      if s.mate.st = .up ∧ s.mate.unacked.length < 8 ∧ s.fw.pause.isNone then
        let q := s.mate.txSeq
        pumpMate n (sendBurst b.type 0 q b.payload (s.modMate fun m =>
          { m with queue := r, txSeq := (q + 1) % 256, unacked := m.unacked ++ [⟨q, b, s.hk, 0⟩] }))
      else s

/-- Segments of a packet's bytes (R353): 2,044 bytes each after the segment header. -/
def segments : Nat → Nat → Nat → List Byte → List (List Byte)
  | 0, _, _, _ => []
  | n + 1, id, i, bs =>
    let rest := bs.drop 2044
    let h := id * 2 ^ 24 + i % 256 * 2 ^ 16 + onBit (i == 0) 1 + onBit rest.isEmpty 0
    (beBytes 4 h ++ bs.take 2044) :: (if rest.isEmpty then [] else segments n id (i + 1) rest)

/-- The bytes of a packet on the mate link: each word least significant byte first, as on the other ports (R52). -/
def packetBytes (ws : List Word) : List Byte := wordsToBytes ws

/-- A UCP packet is split into COMMAND bursts and queued. -/
def queuePacket (ws : List Word) (s : State) : State :=
  let bs := packetBytes ws
  let id := s.mate.msgId
  pumpMate 8 (s.modMate fun m => { m with
    msgId := (id + 1) % 256,
    queue := m.queue ++ (segments (bs.length / 2044 + 1) id 0 bs).map fun p => ⟨3, p, id⟩ })

/-! ## Rings, queues and the sending of replies and events -/

/-- The number of slots of a ring from its RING_SIZE nibble. -/
def slots (p : PcieState) (lo : Nat) : Nat := 2 ^ bits p.ringSize lo 4

/-- A ring is full when its producer index plus 1 equals its consumer index (R44). -/
def ringFull (size prod cons : Nat) : Bool := (prod + 1) % size == cons % size

/-- The alarm key. -/
def alarmKey (code target sub : Nat) : Nat := code * 2 ^ 16 + target * 2 ^ 8 + sub

/-- An alarm is raised. -/
def raised (s : State) (code target sub : Nat) : Bool := SMap.get false s.alarms (alarmKey code target sub)

/-- ALARM_SUMMARY: bit n while any alarm of subject 0x0nxx is raised (Table 2.8). -/
def alarmSummary (s : State) : Nat :=
  s.alarms.foldl (fun a e => a ||| 2 ^ (bits e.1 24 4)) 0

/-- ALARM_SUMMARY AND NOT ALARM_MASK. -/
def alarmUnmasked (s : State) : Nat := alarmSummary s &&& (0xFFFF ^^^ s.host.alarmMask)

/-- The running point of a port places it in service. -/
def inService (s : State) (p : Lp) : Bool := (s.port p).mode.running.service

/-- The in-band port of a line port. -/
def ibPort : Lp → Port
  | .lp0 => .ib0
  | .lp1 => .ib1

/-- A command port is up (R41, Table 13.8; log entry 12). Its enable is no part of this: a reply to a command carried
before DEV_PORT_CONFIG disabled the channel still leaves. -/
def portUp (s : State) : Port → Bool
  | .pcie => s.host.pcie.linkUp
  | .spi => true
  | .ib0 => inService s .lp0 && !(s.port .lp0).mode.granted.zr800 && !(s.port .lp0).frame.defects.testBit 2
  | .ib1 => inService s .lp1 && !(s.port .lp1).mode.granted.zr800 && !(s.port .lp1).frame.defects.testBit 2
  | .mate => s.mate.st == .up && !raised s 0x8B10 0x90 0

/-- Room for one event on a port's ring or output queue. -/
def evtRoom (s : State) : Port → Bool
  | .pcie => s.host.pcie.linkUp && s.host.pcie.enable
      && !ringFull (slots s.host.pcie 8) s.host.pcie.evtProd s.host.pcie.evtCons
  | .spi => decide (s.host.spi.out.length < 64)
  | p => portUp s p

/-- A packet leaves on a port that has room for it: written to a ring slot, put in the SPI output queue, or queued for
the management channel or the mate link (R59). -/
def place (s : State) (p : Port) (k : OutPkt) : State :=
  match p with
  | .pcie =>
    if k.event then
      s.modPcie fun c => { c with
        evtRing := c.evtRing ++ [k], evtProd := (c.evtProd + 1) % slots c 8, msix1 := c.msix1 + 1,
        msix2 := if k.prio then c.msix2 + 1 else c.msix2 }
    else
      s.modPcie fun c => { c with
        rplRing := c.rplRing ++ [k], rplProd := (c.rplProd + 1) % slots c 4, msix0 := c.msix0 + 1 }
  | .spi => s.modSpi fun c => { c with out := c.out ++ [k] }
  | .ib0 => s.modInband .lp0 fun c => { c with tx := c.tx ++ wordsToBytes k.words }
  | .ib1 => s.modInband .lp1 fun c => { c with tx := c.tx ++ wordsToBytes k.words }
  | .mate => queuePacket k.words s

/-- The events of a port changed. -/
def modEvt (s : State) (p : Port) (f : EvtPort → EvtPort) : State :=
  s.modHost fun h => { h with evt := h.evt.put p (f (h.evt.get p)) }

/-- The next event sequence number of a port is taken (R53). -/
def takeSeq (s : State) (p : Port) : Nat × State :=
  let q := (s.host.evt.get p).seq
  (q, modEvt s p fun e => { e with seq := (q + 1) % 65536 })

/-- An event is lost on a port (R70). -/
def loseEvent (e : EvtPort) (k : OutPkt) : EvtPort :=
  { e with lost := e.lost + 1, firstLost := if e.lost = 0 then k.w1.toNat % 65536 else e.firstLost }

/-- The first element that satisfies `q`, and the list without it. -/
def takeFirst {α : Type} (q : α → Bool) : List α → Option (α × List α)
  | [] => none
  | a :: r => if q a then some (a, r) else (takeFirst q r).map fun x => (x.1, a :: x.2)

/-- An event kept in the 256-event queue of its port: on overflow the oldest without PRIORITY goes, else the oldest
(R70). -/
def queueEvent (e : EvtPort) (k : OutPkt) : EvtPort :=
  let e := { e with queue := e.queue ++ [k] }
  if e.queue.length ≤ 256 then e
  else match takeFirst (fun x => !x.prio) e.queue with
    | some (x, r) => loseEvent { e with queue := r } x
    | none => match e.queue with
      | [] => e
      | x :: r => loseEvent { e with queue := r } x

/-- One queued packet of a port is sent if there is room: EV_EVENT_LOSS first, then the events in order (R70). EV_EVENT_LOSS
takes the next sequence number, later than those of the events sent after it (log entry 119). -/
def pumpEvent (s : State) (p : Port) : State :=
  let e := s.host.evt.get p
  if evtRoom s p then
    if e.lost ≠ 0 then
      let (q, s) := takeSeq s p
      place (modEvt s p fun e => { e with lost := 0, firstLost := 0 }) p
        (eventPkt 0x8004 q 0 0 [w32 e.lost, w32 e.firstLost])
    else match e.queue with
      | [] => s
      | k :: r => place (modEvt s p fun e => { e with queue := r }) p k
  else s

/-- As many queued events of a port as there is room for. -/
def pumpEvents : Nat → State → Port → State
  | 0, s, _ => s
  | n + 1, s, p => pumpEvents n (pumpEvent s p) p

/-- The queue of a port is drained as far as it goes. -/
def drain (s : State) (p : Port) : State := pumpEvents ((s.host.evt.get p).queue.length + 1) s p

/-- An event is sent to one port: at once if there is room and nothing waits before it, else queued (R70). -/
def emitTo (p : Port) (code target flags : Nat) (data : List Word) (s : State) : State :=
  let (q, s) := takeSeq s p
  let k := eventPkt code q target flags data
  let e := s.host.evt.get p
  if evtRoom s p && e.queue.isEmpty && decide (e.lost = 0) then place s p k
  else modEvt s p fun e => queueEvent e k

/-- The subject of an event code, n of 0x8nxx. -/
def subject (code : Nat) : Nat := bits code 8 4

/-- An event is raised: to every port whose subject mask enables it (R70); during a firmware pause it waits for the
end of the pause (Table 16.9). -/
def emitF (code target flags : Nat) (data : List Word) (s : State) : State :=
  if s.fw.pause.isSome then
    s.modHost fun h => { h with heldEvents := h.heldEvents ++ [{ code, target, flags, data }] }
  else ports.foldl (fun s p => if (s.host.evt.get p).mask.testBit (subject code) then emitTo p code target flags data s
    else s) s

/-- An event that is neither the raise nor the clear of an alarm. -/
def emit (code target : Nat) (data : List Word) (s : State) : State := emitF code target 0 data s

/-- MSI-X vector 2 on a change in unmasked ALARM_SUMMARY (R45). -/
def alarmNotify (s : State) : State :=
  let u := alarmUnmasked s
  if u = s.host.alarmSeen then s
  else { s with host := { s.host with
    alarmSeen := u,
    pcie := { s.host.pcie with msix2 := if s.host.pcie.linkUp then s.host.pcie.msix2 + 1 else s.host.pcie.msix2 } } }

/-- An alarm is raised (R53: PRIORITY and RAISE set); nothing happens while it is already raised. -/
def raiseAlarm (code target sub : Nat) (data : List Word) (s : State) : State :=
  if raised s code target sub then s
  else alarmNotify (emitF code target 3 data
    { s with alarms := SMap.set false s.alarms (alarmKey code target sub) true })

/-- An alarm is cleared; nothing happens while it is not raised. -/
def clearAlarm (code target sub : Nat) (data : List Word) (s : State) : State :=
  if raised s code target sub then
    alarmNotify (emitF code target 1 data
      { s with alarms := SMap.set false s.alarms (alarmKey code target sub) false })
  else s

/-- An alarm follows a condition. -/
def alarmIf (b : Bool) (code target sub : Nat) (data : List Word) (s : State) : State :=
  if b then raiseAlarm code target sub data s else clearAlarm code target sub data s

/-- A reply leaves, or waits for room (R44, R48), also while RING_CTRL ENABLE is 0 (log entry 118). On a full SPI output queue the oldest event without PRIORITY goes. -/
def placeReply (s : State) (p : Port) (k : OutPkt) : State :=
  match p with
  | .pcie =>
    let c := s.host.pcie
    if c.enable && c.rplWait.isEmpty && !ringFull (slots c 4) c.rplProd c.rplCons then place s .pcie k
    else s.modPcie fun c => { c with rplWait := c.rplWait ++ [k] }
  | .spi =>
    let c := s.host.spi
    if c.out.length < 64 && c.wait.isEmpty then place s .spi k
    else match takeFirst (fun x => x.event && !x.prio) c.out with
      | some (x, r) => place (modEvt (s.modSpi fun c => { c with out := r }) .spi fun e => loseEvent e x) .spi k
      | none => s.modSpi fun c => { c with wait := c.wait ++ [k] }
  | p => place s p k

/-- A reply, or the completion event of a deferred command, is sent on the port that carried the command; if that port
is down it is discarded and REPLY_DROP counts (R41). -/
def sendReply (p : Port) (k : OutPkt) (s : State) : State :=
  if portUp s p then placeReply s p k
  else s.modHost fun h => { h with replyDrop := h.replyDrop + 1 }

/-- Waiting replies take the room that has come, then queued events. -/
def pumpPcieReplies : Nat → State → State
  | 0, s => s
  | n + 1, s =>
    let c := s.host.pcie
    match c.rplWait with
    | [] => s
    | k :: r =>
      if c.linkUp && c.enable && !ringFull (slots c 4) c.rplProd c.rplCons then
        pumpPcieReplies n (place (s.modPcie fun c => { c with rplWait := r }) .pcie k)
      else s

def pumpSpiReplies : Nat → State → State
  | 0, s => s
  | n + 1, s =>
    match s.host.spi.wait with
    | [] => s
    | k :: r =>
      if s.host.spi.out.length < 64 then
        pumpSpiReplies n (place (s.modSpi fun c => { c with wait := r }) .spi k)
      else s

/-- Everything that waits for room on any port is sent as far as room goes. -/
def pump (s : State) : State :=
  let s := pumpPcieReplies s.host.pcie.rplWait.length s
  let s := pumpSpiReplies s.host.spi.wait.length s
  ports.foldl drain s

/-! ## Deferred commands (R59) -/

/-- STATUS codes (Table 2.6). -/
def stOk : Nat := 0x0000
def stAccepted : Nat := 0x0001
def stAdjusted : Nat := 0x0002
def stBadCrc : Nat := 0x0100
def stBadLength : Nat := 0x0101
def stUnknown : Nat := 0x0102
def stBadParam : Nat := 0x0103
def stBadTarget : Nat := 0x0104
def stLocked : Nat := 0x0200
def stBadState : Nat := 0x0201
def stPartial : Nat := 0x0300
def stRolledBack : Nat := 0x0301
def stSealed : Nat := 0x0400
def stInternal : Nat := 0x0500

/-- The per-unit list of a multi-unit reply (R62). -/
def entryWords (es : List DefEntry) : List Word :=
  w32 es.length :: (es.map fun e =>
    w32 (e.target * 2 ^ 24 + e.words.length % 2 ^ 16) :: w32 (e.status * 2 ^ 16 + e.detail) :: e.words).flatten

/-- STATUS, DETAIL and results of a finished command from its entries (R62, without ATOMIC). -/
def overall (multi : Bool) (es : List DefEntry) : Nat × Nat × List Word :=
  if multi then
    let st := if es.any fun e => decide (0x100 ≤ e.status) then stPartial
      else if es.any fun e => e.status == stAdjusted then stAdjusted else stOk
    (st, 0, entryWords es)
  else match es with
    | e :: _ => (e.status, e.detail, e.words)
    | [] => (stOk, 0, [])

/-- EV_CMD_DONE goes to the commanding port, whatever its mask (R41, R70); on a port that is down it is discarded, and takes
no event sequence number (log entry 111). -/
def emitDone (d : Deferred) (s : State) : State :=
  let (st, det, ws) := if d.atomic && d.entries.any (fun e => decide (0x100 ≤ e.status)) then
      (stRolledBack, 0, entryWords d.entries) else overall d.multi d.entries
  if portUp s d.port then
    emitTo d.port 0x8001 0 0 ([w32 d.code, w32 d.tag.toNat, w32 st, w32 det] ++ ws) s
  else s.modHost fun h => { h with replyDrop := h.replyDrop + 1 }

/-- A deferred command waits on unit `t` of opcode `code`. -/
def waitsOn (code t : Nat) (d : Deferred) : Bool :=
  d.code == code && d.entries.any fun e => e.target == t && !e.settled

/-- An ATOMIC deferred command whose unit `t` failed: the failing unit keeps its status, every other carries ROLLED_BACK
(R62). -/
def undoneEntries (t : Nat) (es : List DefEntry) : List DefEntry :=
  es.map fun e => if e.target == t then e
    else { e with settled := true, status := stRolledBack, detail := 0, words := [] }

/-- The holds a DEV_WAKE that is undone had changed are what they were; a unit no other DEV_WAKE wakes is not woken on
(R62, R72). -/
def undoHolds (d : Deferred) (s : State) : State :=
  s.modHost fun h => { h with
    holds := d.undo.foldl (fun m x => SMap.set 0 m x.1 x.2) h.holds
    wakes := d.undo.foldl (fun m x =>
      if h.deferred.any fun o => o.code == d.code && !(o.tag == d.tag && o.port == d.port)
        && o.entries.any fun e => e.target == x.1 && !e.settled then m else SMap.set none m x.1 none) h.wakes }

/-- Unit `t` of the oldest deferred command of opcode `code` that waits on it is settled; when every unit is,
EV_CMD_DONE is sent and the command is no longer outstanding; during a firmware pause that waits for its end (R65). With
ATOMIC the first unit that fails settles every unit (R62). -/
def completeUnit (code t status detail : Nat) (ws : List Word) (s : State) : State :=
  match takeFirst (waitsOn code t) s.host.deferred with
  | none => s
  | some (d, rest) =>
    let es := d.entries.map fun e =>
      if e.target == t && !e.settled then { e with settled := true, status, detail, words := ws } else e
    let back := d.atomic && decide (0x100 ≤ status)
    let d := { d with entries := if back then undoneEntries t es else es }
    let s := if back then undoHolds d s else s
    let es := d.entries
    if (es.all fun e => e.settled) && s.fw.pause.isNone then emitDone d (s.modHost fun h => { h with deferred := rest })
    else s.modHost fun h => { h with deferred := h.deferred.map fun x => if waitsOn code t x && x.tag == d.tag
      && x.port == d.port then d else x }

/-- Some deferred command of opcode `code` waits on unit `t`. -/
def pendingOn (s : State) (code t : Nat) : Bool := s.host.deferred.any (waitsOn code t)

/-! ## Session locks (R66) -/

def lockHolder (s : State) : Lock → Option (Port × Nat)
  | .crypto => s.host.cryptoLock
  | .update => s.host.updateLock

def setLock (s : State) (l : Lock) (v : Option (Port × Nat)) : State :=
  match l with
  | .crypto => s.modHost fun h => { h with cryptoLock := v }
  | .update => s.modHost fun h => { h with updateLock := v }

def lockNum : Lock → Nat
  | .crypto => 1
  | .update => 2

/-- A lock is released: EV_LOCK_RELEASED with the lock, the former holder and the reason; a release of UPDATE_LOCK
closes the update session (R413). -/
def releaseLock (l : Lock) (reason : Nat) (s : State) : State :=
  match lockHolder s l with
  | none => s
  | some (p, _) =>
    let s := setLock s l none
    let s := match l with
      | .update => s.modFw fun f => { f with session := none }
      | .crypto => s
    emit 0x8003 0 [w32 (lockNum l), w32 (portCode p), w32 reason] s

/-- A reset releases both locks (R66). Table 2.11 gives a reset no reason code: a free value (log entry 5). -/
def resetLocks (s : State) : State :=
  [Lock.crypto, Lock.update].foldl (fun s l =>
    if (lockHolder s l).isSome then let (w, s) := freeW s; releaseLock l w.toNat s else s) s

/-- Any lock held by a port that goes down is released, reason 2. -/
def releasePortLocks (p : Port) (s : State) : State :=
  [Lock.crypto, Lock.update].foldl (fun s l =>
    match lockHolder s l with
    | some (q, _) => if q = p then releaseLock l 2 s else s
    | none => s) s

/-- A command with a valid CRC on the holding port is activity. -/
def lockActivity (p : Port) (s : State) : State :=
  [Lock.crypto, Lock.update].foldl (fun s l =>
    match lockHolder s l with
    | some (q, _) => if q = p then setLock s l (some (p, s.hk)) else s
    | none => s) s

/-- Device-wide: sealed while fuse copy A reads blown (R447). -/
def isSealed (s : State) : Bool := s.sealSt.fuseA

/-! ## The command service (R54 to R62) -/

/-- What a command did to one unit. -/
structure UnitRes where
  st : State
  status : Nat := 0
  detail : Nat := 0
  words : List Word := []
  settled : Bool := true
  /-- A refusal that still changes the state (R413: a failed header check closes the session). -/
  keep : Bool := false

/-- A unit that refuses. -/
def refuse (s : State) (status detail : Nat) : UnitRes := { st := s, status, detail }

/-- A unit's success with results. -/
def okRes (s : State) (ws : List Word) : UnitRes := { st := s, words := ws }

/-- One row of an opcode table: what the checks of Table 2.5 need, and the command's effect on one unit. -/
structure OpSpec where
  code : Nat
  /-- Targets accepted, but for 0xFE and 0xFF. -/
  targets : Nat → Bool
  both : Bool := false
  all : Bool := false
  /-- A unit is configured, for the expansion of 0xFF (R36). -/
  configured : State → Nat → Bool := fun _ _ => true
  /-- Flags accepted: bit 0 ATOMIC, 1 DRY_RUN, 2 STAGE, 3 PRIORITY. -/
  flags : Nat := 0
  lock : Option Lock := none
  sealable : Bool := false
  /-- Parameter words the opcode takes at least. -/
  nparams : Nat := 0
  /-- The first offending parameter word (check 8). -/
  badParam : State → Cmd → Option Nat := fun _ _ => none
  /-- The first parameter word out of the range that a unit's own held values set (check 8; log entry 116). -/
  unitBad : State → Nat → Cmd → Option Nat := fun _ _ _ => none
  /-- Result words each unit returns (check 7). -/
  resLen : State → Nat → Cmd → Nat := fun _ _ _ => 0
  /-- Check 12 and the effect on one unit. -/
  run : State → Nat → Cmd → UnitRes
  /-- What follows the reply. -/
  after : State → Cmd → State := fun s _ => s

/-- TARGET accepted by the opcode (check 6). -/
def targetOk (op : OpSpec) (t : Nat) : Bool :=
  if t = 0xFE then op.both else if t = 0xFF then op.all else op.targets t

/-- The expansion of a TARGET (R36). -/
def expand (op : OpSpec) (s : State) (t : Nat) : List Nat :=
  if t = 0xFE then [0x10, 0x11]
  else if t = 0xFF then
    (List.range 0xFE).filter fun u => u != 0 && op.targets u && op.configured s u
  else [t]

/-- The smaller of two word numbers, where both are given. -/
def firstOf : Option Nat → Option Nat → Option Nat
  | some a, some b => some (min a b)
  | none, b => b
  | a, none => a

/-- The first offending word of the parameters: a missing one, or one out of range, of the command or of a unit it
addresses (check 8). -/
def badWord (op : OpSpec) (s : State) (c : Cmd) : Option Nat :=
  let own := firstOf (if c.params.length < op.nparams then some (3 + c.params.length) else none) (op.badParam s c)
  (expand op s c.target).foldl (fun w t => firstOf w (op.unitBad s t c)) own

/-- The first failed check of 6 to 11 of Table 2.5: STATUS and DETAIL. -/
def checks (op : OpSpec) (c : Cmd) (tooMany : Bool) (s : State) : Option (Nat × Nat) :=
  let units := expand op s c.target
  let multi := c.target == 0xFE || c.target == 0xFF
  let size := if multi then 1 + (units.map fun u => 2 + op.resLen s u c).foldl (· + ·) 0
    else (units.map fun u => op.resLen s u c).foldl (· + ·) 0
  if !targetOk op c.target then some (stBadTarget, 0)
  else if 1020 < size then some (stBadLength, 4)
  else if (c.flags % 16) &&& (15 ^^^ op.flags) ≠ 0 then some (stBadParam, 2)
  else match badWord op s c with
    | some w => some (stBadParam, w)
    | none =>
      if tooMany then some (stBadState, 0x0010)
      else if c.flag 2 && !c.flag 1 && decide (256 ≤ s.host.staged.length) then some (stBadState, 0x0011)
      else
        let locked := match op.lock with
          | none => none
          | some l => match lockHolder s l with
            | some (q, _) => if q = c.port then none else some (stLocked, lockNum l * 256 + portCode q)
            | none => none
        match locked with
        | some r => some r
        | none => if op.sealable && isSealed s then some (stSealed, 0) else none

/-- The fault code of an INTERNAL: DETAIL is for support, and the manual gives no value (log entry 5). -/
def faultDetail (s : State) : Nat := (freeW s).1.toNat % 2 ^ 16

/-- The effect of a command on unit `t`: INTERNAL where the device does not complete it, its change kept or not (R55). -/
def runUnit (op : OpSpec) (c : Cmd) (t : Nat) (s : State) : UnitRes :=
  let u := op.run s t c
  match c.unfinished.find? fun x => x.1 == t with
  | some (_, stays) => if u.status < 0x100 then
      { refuse (freeW (if stays then u.st else s)).2 stInternal (faultDetail s) with keep := true } else u
  | none => u

/-- The units in order without ATOMIC: each that succeeds changes the state (R62). -/
def runUnits (op : OpSpec) (c : Cmd) : List Nat → State → State × List DefEntry
  | [], s => (s, [])
  | t :: r, s =>
    let u := runUnit op c t s
    let s' := if u.keep || decide (u.status < 0x100) then u.st else s
    let (s'', es) := runUnits op c r s'
    (s'', { target := t, settled := u.settled || decide (0x100 ≤ u.status), status := u.status, detail := u.detail,
            words := u.words } :: es)

/-- The result of an ATOMIC set that failed: units restored, or INTERNAL where the restore failed, the failing unit, units
not attempted (R62). -/
def rolledBack (failed : Nat → Bool) (detail : Nat) : List DefEntry → List DefEntry
  | [] => []
  | e :: r =>
    if 0x100 ≤ e.status then
      e :: r.map fun x => { x with status := stRolledBack, detail := 0xFFFF, words := [], settled := true }
    else if failed e.target then
      { e with status := stInternal, detail, words := [], settled := true } :: rolledBack failed detail r
    else { e with status := stRolledBack, detail := 0, words := [], settled := true } :: rolledBack failed detail r

/-- The units an ATOMIC command had changed before the unit that failed. -/
def changedUnits (es : List DefEntry) : List Nat :=
  (es.takeWhile fun e => decide (e.status < 0x100)).map fun e => e.target

/-- The reply to a command is sent. -/
def reply (code : Nat) (c : Cmd) (status detail : Nat) (data : List Word) (s : State) : State :=
  sendReply c.port (replyPkt code c.tag status detail data) s

/-- The entries of the units of a command and the state it leaves, ATOMIC respected. -/
def runAll (op : OpSpec) (c : Cmd) (s : State) : State × List DefEntry × Bool :=
  let units := expand op s c.target
  let (s', es) := runUnits op c units s
  if c.flag 0 && decide (1 < units.length) && es.any fun e => decide (0x100 ≤ e.status) then
    let bad := c.unrestored.filter fun x => (changedUnits es).contains x.1
    let s := if bad.isEmpty then s
      else (freeW (runUnits op c ((bad.filter fun x => x.2).map fun x => x.1) s).1).2
    (s, rolledBack (fun t => bad.any fun x => x.1 == t) (faultDetail s) es, true)
  else (s', es, false)

/-- STATUS of an ATOMIC command that was undone: INTERNAL where a restore failed (R62). -/
def undoneStatus (es : List DefEntry) : Nat × Nat :=
  match (es.takeWhile fun e => e.status == stRolledBack || e.status == stInternal).find? fun e => e.status == stInternal with
  | some e => (stInternal, e.detail)
  | none => (stRolledBack, 0)

/-- A command that passed checks 1 to 11 takes effect and is answered (R56, R57, R59, R62). -/
def perform (op : OpSpec) (c : Cmd) (s : State) : State :=
  let multi := c.target == 0xFE || c.target == 0xFF
  let dry := c.flag 1
  let stage := c.flag 2 && !dry
  let (s', es, rb) := runAll op c s
  let (st, det, ws) := if rb then ((undoneStatus es).1, (undoneStatus es).2, entryWords es) else overall multi es
  if rb then reply op.code c st det ws (if dry || stage then s else s')
  else if dry then reply op.code c st det ws s
  else if stage then
    if st < 0x100 then
      reply op.code c st det ws (s.modHost fun h => { h with staged := h.staged ++ [⟨op.code, c⟩] })
    else reply op.code c st det ws s
  else if es.all fun e => e.settled then
    let s'' := reply op.code c st det ws s'
    if st < 0x100 then op.after s'' c else s''
  else
    let atomic := c.flag 0 && decide (1 < es.length)
    let undo := if atomic then es.map (fun e => (e.target, SMap.get 0 s.host.holds e.target)) else []
    let s'' := reply op.code c stAccepted 0 [] (s'.modHost fun h => { h with
      deferred := h.deferred ++ [{ port := c.port, code := op.code, tag := c.tag, multi, entries := es, atomic, undo }] })
    op.after s'' c

/-- A command is checked and performed. -/
def answer (op : OpSpec) (c : Cmd) (tooMany : Bool) (s : State) : State :=
  let s := lockActivity c.port s
  match checks op c tooMany s with
  | some (st, det) => reply op.code c st det [] s
  | none => perform op c s

/-! ## Receive queues (R39, R40) -/

/-- A waiting reply keeps its command outstanding: not the ACCEPTED of a deferred command, which is counted until its
completion event is sent, and not a refusal at the limit (R39). -/
def replyCounts (k : OutPkt) : Bool := bits k.w2.toNat 16 16 != stAccepted && k.w2 != w32 (stBadState * 2 ^ 16 + 0x0010)

/-- An EV_CMD_DONE that waits to be sent. -/
def isDone (k : OutPkt) : Bool := k.event && bits k.w1.toNat 16 16 == 0x8001

/-- Replies of a port that wait for room. -/
def waitingReplies (s : State) : Port → List OutPkt
  | .pcie => s.host.pcie.rplWait
  | .spi => s.host.spi.wait
  | _ => []

/-- Commands outstanding on a port; codes 3 and 4 share one count (R39). -/
def outstanding (s : State) (p : Port) : Nat :=
  let one (q : Port) : Nat :=
    ((s.host.rxq.get q).filter fun k => !k.tooMany).length + (s.host.deferred.filter fun d => d.port == q).length
      + ((waitingReplies s q).filter replyCounts).length + ((s.host.evt.get q).queue.filter isDone).length
  match p with
  | .ib0 | .ib1 => one .ib0 + one .ib1
  | q => one q

/-- A packet enters a receive queue of 32, or is discarded (R40). -/
def rxPush (p : Port) (k : RxPkt) (s : State) : State :=
  if (s.host.rxq.get p).length < 32 then
    s.modHost fun h => { h with rxq := h.rxq.put p (h.rxq.get p ++ [k]) }
  else s.modHost fun h => { h with rxqDrop := h.rxqDrop + 1 }

/-- TARGET of a queued packet. -/
def rxTarget (k : RxPkt) : Nat := ((k.words.getD 2 0) >>> 24).toNat

/-- PRIORITY of a queued packet. -/
def rxPrio (k : RxPkt) : Bool := (k.words.getD 2 0).toNat.testBit 19

/-- Two TARGETs that may name the same unit. -/
def sameUnit (a b : Nat) : Bool := a == b || a == 0xFE || a == 0xFF || b == 0xFE || b == 0xFF

/-- Split a receive queue at the first packet that satisfies `q`: packets before it, the packet, packets after it. -/
def rxFind (q : RxPkt → Bool) : List RxPkt → Option (List RxPkt × RxPkt × List RxPkt)
  | [] => none
  | k :: r => if q k then some ([], k, r) else (rxFind q r).map fun x => (k :: x.1, x.2.1, x.2.2)

/-- The place of a port among commands read in one housekeeping cycle: PCIe, SPI, in-band, mate (R60). -/
def readPlace : Port → Nat
  | .pcie => 0
  | .spi => 1
  | .ib0 => 2
  | .ib1 => 2
  | .mate => 3

/-- The housekeeping cycle. -/
def hkCycle (s : State) : Nat := s.hk / hkT 1

/-- Umcia may read a command of the port in this cycle: none of a later port was read in it (R60). -/
def readsNow (s : State) (p : Port) : Bool :=
  match s.host.lastRead with
  | some (n, k) => !(n == hkCycle s && decide (readPlace p < k))
  | none => true

/-- Umcia has read a command of the port. -/
def noteRead (p : Port) (s : State) : State :=
  s.modHost fun h => { h with lastRead := some (hkCycle s, readPlace p) }

/-- Packets of the port hold a command back: an earlier one to the same unit, unless PRIORITY passes it, or any with
PRIORITY where the command has none (R58, R60). -/
def heldBack (c : Cmd) (before after : List RxPkt) : Bool :=
  (before.any fun b => sameUnit (rxTarget b) c.target && !(c.flag 3 && !rxPrio b))
    || (!c.flag 3 && (before ++ after).any rxPrio)

/-- The port can carry a packet to the device now. -/
def canCarry (s : State) : Port → Bool
  | .pcie => s.host.pcie.linkUp
  | .spi => true
  | .ib0 => s.host.ib.lp0.enable
  | .ib1 => s.host.ib.lp1.enable
  | .mate => s.host.mateEnable

/-- Umcia reads commands: command-ready and no firmware pause (R22, R64). -/
def umciaReads (s : State) : Bool := running s && s.pr.cmdReady && s.fw.pause.isNone

/-- Packets are kept for Umcia: it reads them, or a pause or the entry to DARK holds them (R23, R40). -/
def packetsKept (s : State) : Bool := running s && (s.pr.cmdReady || s.pr.sleepEntry)

/-- The boot step code that shows now (R407). -/
def bootStep (s : State) : Nat :=
  match s.pr.bootPlan.find? fun x => decide (s.now < x.1) with
  | some x => x.2
  | none => s.pr.bootCode

/-- The boot ROM waits for a download on a port and answers there, from the end of the steps before (R408, R409). -/
def bootRomReads (s : State) (p : Port) : Bool :=
  running s && (s.pr.bootPlan.all fun x => decide (x.1 ≤ s.now)) && match s.pr.boot with
    | .download spi pcie => (p == .spi && spi) || (p == .pcie && pcie && s.host.pcie.linkUp)
    | _ => false

/-- The opcodes the boot ROM answers: DEV_IDENTIFY, DEV_ECHO, FW_UPDATE_BEGIN, FW_UPDATE_CHUNK, FW_UPDATE_END. -/
def bootRomCodes : List Nat := [0x0001, 0x0002, 0x0E01, 0x0E02, 0x0E03]

/-- A command in download wait: taken from the queue if it stands there, and answered (R409). -/
def serveBoot (op : OpSpec) (c : Cmd) (s : State) : State :=
  let s := match rxFind (fun k => carries op.code c k.words) (s.host.rxq.get c.port) with
    | some (before, _, rest) => s.modHost fun h => { h with rxq := h.rxq.put c.port (before ++ rest) }
    | none => s
  pump (if bootRomCodes.contains op.code then answer op c false s else reply op.code c stUnknown 0 [] s)

/-- A command whose last word arrives and that Umcia does not read now enters the receive queue of its port. -/
def rxTake (op : OpSpec) (c : Cmd) (s : State) : State :=
  rxPush c.port { words := cmdWords op.code c, tooMany := decide (32 ≤ outstanding s c.port) } s

/-- Umcia answers a command it has read. -/
def umciaAnswers (op : OpSpec) (c : Cmd) (tooMany : Bool) (s : State) : State := pump (answer op c tooMany (noteRead c.port s))

/-- A command row. Umcia reads the command and answers it; during a firmware pause or the entry to DARK it enters the
receive queue and waits; otherwise nothing takes it (R31). A packet that others of its port hold back waits for them
(R58, R60), and one that arrives at a full queue is discarded (R40). -/
def serve (op : OpSpec) (c : Cmd) (s : State) : State :=
  let s := advance c.dt s
  let q := s.host.rxq.get c.port
  let found := rxFind (fun k => carries op.code c k.words) q
  if bootRomReads s c.port then serveBoot op c s
  else if umciaReads s then
    match found with
    | some (before, k, rest) =>
      if heldBack c before rest || !readsNow s c.port then s
      else umciaAnswers op c k.tooMany (s.modHost fun h => { h with rxq := h.rxq.put c.port (before ++ rest) })
    | none =>
      if canCarry s c.port && !(c.port == .pcie && decide (32 ≤ outstanding s .pcie)) then
        if heldBack c q [] || !readsNow s c.port || decide (32 ≤ q.length) then rxTake op c s
        else umciaAnswers op c (decide (32 ≤ outstanding s c.port)) s
      else s
  else if packetsKept s && canCarry s c.port then
    match found with
    | some _ => s
    | none => rxTake op c s
  else s

/-- The first offending word of a list of (word number, in range). -/
def firstBad (l : List (Nat × Bool)) : Option Nat := (l.find? fun x => !x.2).map fun x => x.1

/-- A value lies in a range, both ends included (R8). -/
def within (v lo hi : Nat) : Bool := decide (lo ≤ v) && decide (v ≤ hi)

def withinI (v lo hi : Int) : Bool := decide (lo ≤ v) && decide (v ≤ hi)

/-- An opcode that returns the counters `ids` of a unit, LO word first, and clears them when word 3 [0] is 1. -/
def countersOp (code : Nat) (targets : Nat → Bool) (both all : Bool) (ids : List Nat) : OpSpec where
  code := code
  targets := targets
  both := both
  all := all
  flags := 8
  nparams := 1
  resLen := fun _ _ _ => 2 * ids.length
  run := fun s t c =>
    let ws := ctrWords s t 0 ids
    okRes (if bit (c.w 3) 0 then ctrClearAll s t 0 ids else s) ws

/-- Counter IDs `lo` to `hi`. -/
def idRange (lo hi : Nat) : List Nat := (List.range (hi + 1 - lo)).map fun i => lo + i

/-- A line port's TARGET. -/
def isLpT (t : Nat) : Bool := t == 0x10 || t == 0x11

/-- An engine's TARGET. -/
def isEngT (t : Nat) : Bool := within t 0x18 0x1A

/-- Bits of CHANGE_MASK (word 3): bit i selects parameter word 4 + i; a selected value, else the one in force. -/
def pick (c : Cmd) (i : Nat) (old : Nat) : Nat := if bit (c.w 3) i then c.w (4 + i) else old

/-- The same for a signed parameter of 32 bits. -/
def pickI (c : Cmd) (i : Nat) (old : Int) : Int := if bit (c.w 3) i then sgn 32 (c.w (4 + i)) else old

/-- A signed value as a word. -/
def wI (i : Int) : Word := BitVec.ofInt 32 i

/-- The outcome of a meaning that always answers a next state. -/
def done (s : State) : Host.Outcome State Fault Refusal := .next s

end Sys2Proof.Machine
end

