-- ==== Sys2Proof/Machine/Resolve.lean ====
section
/-!
DEFINITION. Sys2Proof/Machine/Resolve.lean: rate, reach, spindle budget and the resolution of a requested point to a
granted point (R76 to R85), and the mode word (Table 3.6).
-/
namespace Sys2Proof.Machine
open Sys2Proof

/-- SR in MBd (R76; R88 for ZR800). -/
def srMBd (g : ModePoint) : Nat :=
  if g.zr800 then 118200 else if 16 ≤ g.rate then 310000 else 310000 * g.rate / 16

/-- H in units of 0.001 bit per dual-polarisation symbol (R76, R88). -/
def hMilli (g : ModePoint) : Nat := if g.zr800 then 8000 else if 16 ≤ g.rate then 375 * g.rate else 6000

/-- CD_MAX in ps/nm, rounded down (R77). -/
def cdMax (sr : Nat) : Nat := min 400000 (50000 * (310000 * 310000) / (sr * sr))

/-- Mean DGD tolerance in 0.1 ps, rounded down (R77). -/
def dgdTol (sr : Nat) : Nat := min 2000 (500 * 310000 / sr)

/-- Required CD range of a REACH (Table 3.3). -/
def reachCd : Reach → Nat
  | .metro => 20000
  | .regional => 80000
  | .longhaul => 400000

/-- The granted CD range of a point (R78). -/
def cdOf (g : ModePoint) : Nat := min (reachCd g.reach) (cdMax (srMBd g))

/-- MIMO taps of a REACH (Table 3.3). -/
def reachTaps : Reach → Nat
  | .metro => 16
  | .regional => 32
  | .longhaul => 64

/-- Base spindle cost of a REACH (Table 3.3). -/
def reachCost : Reach → Nat
  | .metro => 36
  | .regional => 44
  | .longhaul => 52

/-- C: spindles per NLC step (Table 3.4). -/
def nlcCost (sr : Nat) : Nat := ceilDiv (10 * sr) 310000

/-- Spindles a granted point uses (R81). -/
def usedSpn (g : ModePoint) : Nat := reachCost g.reach + 4 + g.nlcSteps * nlcCost (srMBd g)

/-- Payload capacity in Mb/s, rounded down (Table 3.7). -/
def capacityMb (g : ModePoint) : Nat :=
  if g.zr800 then 800000 else g.rate * 1016691 / 10

/-- Duration of a VLF frame in ticks, rounded down: 589,824 coded bits at SR * H * 63/64 (R76). -/
def frameTicks (g : ModePoint) : Nat :=
  589824 * 192000000000 * 64 / (srMBd g * hMilli g * 1000 * 63)

/-- X: spindles of an engine out of use (R79). -/
def outCount (e : Engine) : Nat := (e.spindles.filter fun x => x.2.role == 6).length

/-- AVAIL of an engine (R79). -/
def availOf (e : Engine) : Nat := 92 - e.k - outCount e

/-- SPARE_DEGRADED is raised. -/
def spareDegraded (s : State) : Bool := raised s 0x8A11 0x1A 0

/-- The spare engine is available (R82). -/
def spareAvailable (s : State) : Bool :=
  !s.eng.les.failed && !spareDegraded s && s.eng.les.serves.isNone

/-- The engine whose resources a port is resolved on: the serving one, else its home engine. -/
def portEngine (s : State) (p : Lp) : Eng := (servingEng s p).getD (homeEng p)

/-- The WARM spare engine shadows a port: LES, neither burnishing nor serving (R79). -/
def warmSpare (s : State) (p : Lp) : Bool :=
  s.eng.les.st == .warm && s.eng.les.shadows == some p && !s.eng.les.burnish && s.eng.les.serves.isNone

/-- The smaller of two engines' values when a WARM spare shadows the port, else that of the engine it is resolved on. -/
def ofEngines (s : State) (p : Lp) (f : Engine → Nat) : Nat :=
  let a := f (s.engine (portEngine s p))
  if warmSpare s p then min a (f s.eng.les) else a

/-- AVAIL of a port (R79). -/
def availPort (s : State) (p : Lp) : Nat := ofEngines s p availOf

/-- ADJUST bits (R87). -/
def adjRate : Nat := 4
def adjReach : Nat := 8
def adjNlc : Nat := 16
def adjLatency : Nat := 32
def adjGuard : Nat := 64
def adjCipher : Nat := 128
def adjPower : Nat := 512

/-- NLC steps reduced one at a time until they fit (R81). -/
def fitSteps (avail used c : Nat) : Nat → Nat
  | 0 => 0
  | n + 1 => if avail < used + (n + 1) * c then fitSteps avail used c n else n + 1

/-- The resolution of R81 with the given resources: granted point, ADJUST and granted CD range. -/
def resolveWith (avail : Nat) (spare warmHere : Bool) (r : ModePoint) : ModePoint × Nat × Nat :=
  let g := r
  let adj := 0
  let (g, adj) := if g.zr800 && g.rate != 8 then ({ g with rate := 8 }, adj ||| adjRate) else (g, adj)
  let (g, adj) := if g.zr800 && g.cipher then ({ g with cipher := false }, adj ||| adjCipher) else (g, adj)
  let (g, adj) := if g.zr800 && g.low then ({ g with low := false }, adj ||| adjLatency) else (g, adj)
  let sr := srMBd g
  let cdm := cdMax sr
  let (cd, adj) := if cdm < reachCd g.reach then (cdm, adj ||| adjReach) else (reachCd g.reach, adj)
  let (g, adj) := if g.low && decide (2 < g.nlcSteps) then ({ g with nlcSteps := 2 }, adj ||| adjNlc) else (g, adj)
  let steps := fitSteps avail (reachCost g.reach + 4) (nlcCost sr) g.nlcSteps
  let adj := if steps = g.nlcSteps then adj else adj ||| adjNlc
  let g := { g with nlcSteps := steps, nlc := g.nlc && decide (steps ≠ 0) }
  let (g, adj) :=
    if g.guard != .none && !spare then ({ g with guard := .none }, adj ||| adjGuard)
    else if g.guard == .warm && !warmHere then ({ g with guard := .cool }, adj ||| adjGuard)
    else (g, adj)
  let (g, adj) :=
    if g.economy && decide (avail < usedSpn g + 12) then ({ g with economy := false }, adj ||| adjPower) else (g, adj)
  (g, adj, cd)

/-- The resolution of a port's requested point against the device's present resources. -/
def resolve (s : State) (p : Lp) (r : ModePoint) : ModePoint × Nat × Nat :=
  resolveWith (availPort s p) (spareAvailable s) (s.warmPort == p) r

/-- The resource-nominal point of R85: the spare engine available and X = 0, with K as it is. -/
def nominal (s : State) (p : Lp) : ModePoint :=
  (resolveWith (ofEngines s p fun x => 92 - x.k) true (s.warmPort == p) (s.port p).mode.requested).1

/-- MODE_SHORTFALL follows R85. -/
def shortfall (p : Lp) (s : State) : State :=
  alarmIf (decide (nominal s p ≠ (s.port p).mode.granted)) 0x8103 (lpT p) 0 [] s

/-! ## The mode word (Table 3.6) -/

def reachNum : Reach → Nat
  | .metro => 0
  | .regional => 1
  | .longhaul => 2

def reachOf (n : Nat) : Reach := if n = 0 then .metro else if n = 1 then .regional else .longhaul

def guardNum : Guard → Nat
  | .none => 0
  | .cool => 1
  | .warm => 2

def guardOf (n : Nat) : Guard := if n = 0 then .none else if n = 1 then .cool else .warm

/-- A point as a mode word. -/
def modeWord (g : ModePoint) : Nat :=
  onBit g.service 0 + onBit g.zr800 1 + g.rate * 4 + reachNum g.reach * 2 ^ 8 + onBit g.nlc 10 + g.nlcSteps * 2 ^ 11
    + onBit g.low 14 + guardNum g.guard * 2 ^ 15 + onBit g.cipher 17 + onBit g.packet 18 + onBit g.economy 19

/-- The fields of a request selected by CHANGE_MASK are in range (Table 3.6, R87). -/
def modeWordOk (w mask : Nat) : Bool :=
  (!bit mask 2 || (decide (4 ≤ bits w 2 6) && decide (bits w 2 6 ≤ 32)))
  && (!bit mask 3 || decide (bits w 8 2 ≠ 3))
  && (!bit mask 4 || (if bit w 10 then decide (1 ≤ bits w 11 3) && decide (bits w 11 3 ≤ 4) else bits w 11 3 == 0))
  && (!bit mask 6 || decide (bits w 15 2 ≠ 3))

/-- The requested point after a MODE_SET: only the fields whose mask bit is 1 change (R87). -/
def mergePoint (r : ModePoint) (w mask : Nat) : ModePoint :=
  { service := if bit mask 0 then bit w 0 else r.service
    zr800 := if bit mask 1 then bit w 1 else r.zr800
    rate := if bit mask 2 then bits w 2 6 else r.rate
    reach := if bit mask 3 then reachOf (bits w 8 2) else r.reach
    nlc := if bit mask 4 then bit w 10 else r.nlc
    nlcSteps := if bit mask 4 then bits w 11 3 else r.nlcSteps
    low := if bit mask 5 then bit w 14 else r.low
    guard := if bit mask 6 then guardOf (bits w 15 2) else r.guard
    cipher := if bit mask 7 then bit w 17 else r.cipher
    packet := if bit mask 8 then bit w 18 else r.packet
    economy := if bit mask 9 then bit w 19 else r.economy }

/-- MODE_WORD of the FSW block (R86): the granted point with APPLYING and SHORTFALL. -/
def modeWordFsw (s : State) (p : Lp) : Nat :=
  let m := (s.port p).mode
  modeWord m.granted + onBit (!m.apps.isEmpty) 20 + onBit (raised s 0x8103 (lpT p) 0) 21

/-- Table 3.7 for a point. -/
def modeResults (s : State) (p : Lp) (req g : ModePoint) (adj cd : Nat) : List Word :=
  let sr := srMBd g
  [w32 (modeWord req), w32 (modeWord g), w32 adj, w32 sr, w32 (hMilli g), w32 (cd / 100), w32 (dgdTol sr),
   w32 (usedSpn g + availPort s p * 2 ^ 8 + (s.engine (portEngine s p)).k * 2 ^ 16 + nlcCost sr * 2 ^ 24),
   w32 (capacityMb g)]

/-- The results of MODE_SET and MODE_GET for TARGET 0x00 (R88). -/
def warmResults (s : State) : List Word :=
  let les := s.eng.les
  let pt := match les.serves with | some p => some p | none => les.shadows
  [w32 (lpNum s.warmPort), w32 (engStNum les.st + lpField pt * 2 ^ 3 + onBit (spareAvailable s) 5),
   w32 (guardNum (s.port .lp0).mode.granted.guard), w32 (guardNum (s.port .lp1).mode.granted.guard)]

/-- The point a port is heading for: that of its last waiting application, else the running one. -/
def headPoint (m : ModePort) : ModePoint :=
  match m.apps.getLast? with | some a => a.point | none => m.running

/-- A requested point takes hold on a port: resolved, granted, and queued for application if it changes what the port
is heading for (R75, R89). -/
def setRequested (s : State) (p : Lp) (r : ModePoint) (source : Nat) : State × ModePoint × Nat × Nat :=
  let (g, adj, cd) := resolve s p r
  let m := (s.port p).mode
  let m := { m with requested := r, granted := g, adjust := adj, cd := cd,
                    apps := if headPoint m = g then m.apps
                      else m.apps ++ [{ point := g, adjust := adj, source := source, begun := false }] }
  (s.modMode p fun _ => m, g, adj, cd)

end Sys2Proof.Machine
end

