-- ==== Sys2Proof/Machine/Code.lean ====
section
/-!
DEFINITION. Sys2Proof/Machine/Code.lean: the bit and symbol sequence of a NATIVE line port, to bit level: header checks,
the coupled LDPC code, interleaver, distribution matcher, mapping, pilots, locator and robust header (R184 to R197).
-/
namespace Sys2Proof.Machine
open Sys2Proof

/-! ## Header checks -/

/-- HCRC over bytes (R212). -/
def hcrc (bs : List Byte) : Nat := crcMsb 16 0x1021 0xFFFF bs

/-- LOC_CRC over bytes (Table 7.5). -/
def crc8 (bs : List Byte) : Nat := crcMsb 8 0x07 0x00 bs

/-- MARKER (Table 8.1). -/
def marker : Nat := 0x3D9AC561

/-- HCRC of a 32-byte header checks. -/
def hcrcGood (h : List Byte) : Bool := h.length == 32 && hcrc (h.take 30) == beNat (h.drop 30)

/-- A received copy is good (R219). -/
def copyGood (h : List Byte) : Bool := hcrcGood h && beNat (h.take 4) == marker

/-- The locator fields (Table 7.5). -/
def locLag (w : Word) : Nat := bits w.toNat 26 6
def locOffset (w : Word) : Nat := bits w.toNat 17 9
def locRate (w : Word) : Nat := bits w.toNat 11 6
def locRestart (w : Word) : Bool := bit w.toNat 10

/-- The three bytes LOC_CRC covers. -/
def locBytes (n : Nat) : List Byte := [w8 (n / 2 ^ 24), w8 (n / 2 ^ 16), w8 (n / 2 ^ 8)]

/-- LOC_CRC checks. -/
def locGood (w : Word) : Bool := crc8 (locBytes w.toNat) == bits w.toNat 0 8

/-- The locator of a frame (R195). -/
def locator (lag off rate : Nat) (restart : Bool) : Word :=
  let n := lag * 2 ^ 26 + off * 2 ^ 17 + rate * 2 ^ 11 + onBit restart 10
  w32 (n + crc8 (locBytes n))

/-! ## The LDPC code (R187, Table 7.2) -/

/-- Columns 0 to 31 of B0 and B1: the nonzero entries (row, exponent). -/
def ldpcB0 : List (List (Nat × Nat)) :=
  [[(0, 0), (1, 97)], [(2, 49), (3, 175)], [(0, 106), (2, 160)], [(1, 87), (3, 199)], [(0, 212), (3, 83)],
   [(1, 251), (2, 237)], [(0, 62), (1, 77)], [(2, 203), (3, 247)], [(0, 168), (2, 58)], [(1, 67), (3, 15)],
   [(0, 18), (3, 155)], [(1, 231), (2, 135)], [(0, 124), (1, 57)], [(2, 101), (3, 63)], [(0, 230), (2, 212)],
   [(1, 47), (3, 87)], [(0, 80), (3, 227)], [(1, 211), (2, 33)], [(0, 186), (1, 37)], [(2, 255), (3, 135)],
   [(0, 36), (2, 110)], [(1, 27), (3, 159)], [(0, 142), (3, 43)], [(1, 191), (2, 187)], [(0, 248), (1, 17)],
   [(2, 153), (3, 207)], [(0, 98), (2, 8)], [(1, 7), (3, 231)], [(0, 204), (3, 115)], [(1, 171), (2, 85)],
   [(0, 54), (1, 253)], [(2, 51), (3, 23)]]

def ldpcB1 : List (List (Nat × Nat)) :=
  [[(0, 17)], [(1, 227)], [(2, 181)], [(3, 135)], [(0, 45)], [(1, 255)], [(2, 209)], [(3, 163)], [(0, 73)], [(1, 27)],
   [(2, 237)], [(3, 191)], [(0, 101)], [(1, 55)], [(2, 9)], [(3, 219)], [(0, 129)], [(1, 83)], [(2, 37)], [(3, 247)],
   [(0, 157)], [(1, 111)], [(2, 65)], [(3, 19)], [(0, 185)], [(1, 139)], [(2, 93)], [(3, 47)], [(0, 213)], [(1, 167)],
   [(2, 121)], [(3, 75)]]

/-- Block `j` of a codeword: bit p of the codeword is bit p mod 256 of block p / 256 (R188). -/
def cwBlock (x : BitVec 9216) (j : Nat) : BitVec 256 := x.extractLsb' (256 * j) 256

/-- The contribution of a column with the given entries to the sum of check row `r`: row i of the lifted block reads
column (i + e) mod 256. -/
def rowTerm (es : List (Nat × Nat)) (x : BitVec 256) (r : Nat) : BitVec 256 :=
  es.foldl (fun a e => if e.1 = r then a ^^^ x.rotateRight e.2 else a) 0

/-- Row `r` of the syndrome of information blocks of this and the previous codeword. -/
def ldpcRow (info prev : BitVec 9216) (r : Nat) : BitVec 256 :=
  let sum (b : List (List (Nat × Nat))) (x : BitVec 9216) : BitVec 256 :=
    (List.range 32).foldl (fun a j => a ^^^ rowTerm (b.getD j []) (cwBlock x j) r) 0
  sum ldpcB0 info ^^^ sum ldpcB1 prev

/-- Encoding: the codeword of 8,192 information bits (in the low bits of `info`) after codeword `prev`. -/
def ldpcEncode (info : BitVec 8192) (prev : BitVec 9216) : BitVec 9216 :=
  let x : BitVec 9216 := info.setWidth 9216
  let p0 := ldpcRow x prev 0
  let p1 := ldpcRow x prev 1 ^^^ p0
  let p2 := ldpcRow x prev 2 ^^^ p1
  let p3 := ldpcRow x prev 3 ^^^ p2
  (p3 ++ p2 ++ p1 ++ p0 ++ info).setWidth 9216

/-- The information bits of 1,024 bytes: byte i supplies bits 8i to 8i + 7, most significant bit first (R186). -/
def infoBits (bs : List Byte) : BitVec 8192 :=
  BitVec.ofNat 8192 (bs.foldr (fun b a => a * 256 + (byteBits b).foldr (fun t n => 2 * n + b01 t) 0) 0)

/-- The codewords of a frame's bytes after codeword `prev`, in order. -/
def frameWords : Nat → List Byte → BitVec 9216 → List (BitVec 9216)
  | 0, _, _ => []
  | n + 1, bs, prev =>
    let x := ldpcEncode (infoBits (bs.take 1024)) prev
    x :: frameWords n (bs.drop 1024) x

/-- Rows of a codeword's checks hold: its parity is that of its information bits after the codeword before it (R187). -/
def checksHold (x prev : BitVec 9216) : Bool := ldpcEncode (x.setWidth 8192) prev == x

/-- The bytes of the information bits of a codeword (R186). -/
def infoBytes (x : BitVec 9216) : List Byte :=
  (List.range 1024).map fun i => (x.extractLsb' (8 * i) 8).reverse

/-- Bits set. -/
def onesOf (x : BitVec 9216) : Nat := (List.range 9216).foldl (fun a i => a + b01 (x.getLsbD i)) 0

/-! ## Interleaver (R189) -/

/-- Coded bit `m` of a frame (0 to 589,823), from its 64 codewords. -/
def codedBit (cw : List (BitVec 9216)) (m : Nat) : Bool :=
  let g := m / 73728
  let r := m % 73728
  (cw.getD (8 * g + r % 8) 0).getLsbD ((4097 * (r / 8) + 1152 * (r % 8)) % 9216)

/-! ## Blocks and shaping (R190 to R192, Table 7.3) -/

/-- b: coded bits per block for a RATE / 100. -/
def blockB (rate : Nat) : Nat := 9 * max 16 rate

/-- DP-64QAM from RATE 2,200 on. -/
def is64 (rate : Nat) : Bool := decide (22 ≤ rate)

/-- k: matcher input bits per block. -/
def blockK (rate : Nat) : Nat := blockB rate - (if is64 rate then 192 else 96)

/-- W_MAX (Table 7.3). -/
def wMax (rate : Nat) : Nat :=
  if rate ≤ 16 then 12
  else [15, 20, 24, 31, 42, 1, 3, 5, 7, 10, 13, 17, 21, 26, 34, 96].getD (rate - 17) 96

/-- A row of Pascal's triangle after the given one. -/
def pascal (r : List Nat) : List Nat := (List.range (r.length + 1)).map fun i =>
  (if i = 0 then 0 else r.getD (i - 1) 0) + r.getD i 0

/-- Row n of Pascal's triangle. -/
def binomials : Nat → List Nat
  | 0 => [1]
  | n + 1 => pascal (binomials n)

/-- Rows 0 to 96 of Pascal's triangle. -/
def pascalRows : List (List Nat) := (List.range 97).map binomials

/-- N(n, w): sequences of length n, up to 96, with at most w ones (R191). -/
def sequencesN (n w : Nat) : Nat := ((pascalRows.getD n []).take (w + 1)).foldl (· + ·) 0

/-- The shell bits from position 96 - n on, for the index and the remaining weight (R191). -/
def dmSteps : Nat → Nat → Nat → List Bool
  | 0, _, _ => []
  | n + 1, idx, w =>
    let c := sequencesN n w
    if idx < c then false :: dmSteps n idx w else true :: dmSteps n (idx - c) (w - 1)

/-- The distribution matcher: matcher input u[0] first, to 96 shell bits. -/
def dmEncode (rate : Nat) (u : List Bool) : List Bool :=
  dmSteps 96 (u.foldl (fun a b => 2 * a + b01 b) 0) (wMax rate)

/-- The amplitude of a dimension (Table 7.4). -/
def amplitude (rate : Nat) (shell fine : Bool) : Nat :=
  if is64 rate then (if shell then (if fine then 5 else 7) else (if fine then 3 else 1)) else if shell then 3 else 1

/-- The 96 signed amplitudes of a block from its b coded bits. -/
def blockAmps (rate : Nat) (bs : List Bool) : List Int :=
  let sign := bs.take 96
  let fine := if is64 rate then (bs.drop 96).take 96 else []
  let u := (bs.drop (if is64 rate then 192 else 96)).take (blockK rate)
  let shell := dmEncode rate u
  (List.range 96).map fun a =>
    let v : Int := (amplitude rate (shell.getD a false) (fine.getD a false) : Nat)
    if sign.getD a false then -v else v

/-- The payload symbols (XI, XQ, YI, YQ) of `n` blocks of coded bits, before the constant of R192. -/
def payloadSymbols (rate : Nat) : Nat → List Bool → List (List Int)
  | 0, _ => []
  | n + 1, bs =>
    let a := blockAmps rate (bs.take (blockB rate))
    ((List.range 24).map fun i => (a.drop (4 * i)).take 4) ++ payloadSymbols rate n (bs.drop (blockB rate))

/-- The ones of all sequences of length n with at most w ones. -/
def onesAll (n w : Nat) : Nat :=
  (List.range (w + 1)).foldl (fun a j => a + j * (pascalRows.getD n []).getD j 0) 0

/-- The ones of the first `idx` sequences of length n with at most w ones. -/
def onesBelow : Nat → Nat → Nat → Nat
  | 0, _, _ => 0
  | n + 1, idx, w =>
    let c := sequencesN n w
    if idx ≤ c then onesBelow n idx w else onesAll n w + (idx - c) + onesBelow n (idx - c) (w - 1)

/-- The mean energy of the payload per dimension before the constant, over equally likely bits: a fraction. -/
def meanEnergy (rate : Nat) : Nat × Nat :=
  let ones := onesBelow 96 (2 ^ blockK rate) (wMax rate)
  let all := 96 * 2 ^ blockK rate
  (if is64 rate then 5 * all + 32 * ones else all + 8 * ones, all)

/-- The constant of R192 in 1/2^32: within 1 % of a mean energy of 1 (log entry 140). -/
def payloadScale (rate : Nat) : Nat :=
  let (n, d) := meanEnergy rate
  max (Nat.sqrt (99 * 2 ^ 64 * d / (100 * n)) + 1) (min (Nat.sqrt (101 * 2 ^ 64 * d / (100 * n))) (Config.payloadScale rate))

/-! ## Slot grid, pilots and robust header (R193 to R197) -/

/-- The symbol slot of payload slot `p`. -/
def payloadSlot (p : Nat) : Nat := p + p / 63 + 1

/-- One step of a pilot generator: its output and its next state (R194). -/
def pilotStep (s : BitVec 15) : Bool × BitVec 15 :=
  (s.getLsbD 14, (s <<< 1) ||| (if s.getLsbD 14 != s.getLsbD 13 then 1#15 else 0#15))

/-- A generator after one pilot slot: the two dimensions and the next state. -/
def pilotSlotStep (s : BitVec 15) : Bool × Bool × BitVec 15 :=
  let a := pilotStep s
  let b := pilotStep a.2
  (a.1, b.1, b.2)

/-- A generator after `n` pilot slots. -/
def pilotAfter : Nat → BitVec 15 → BitVec 15
  | 0, s => s
  | n + 1, s => pilotAfter n (pilotSlotStep s).2.2

/-- The block that holds the first coded bit of frame n, and the bit's offset in it (R197). -/
def frameBlock (n b : Nat) : Nat := 589824 * n / b
def frameOffset (n b : Nat) : Nat := 589824 * n % b

/-- LAG and anchor pilot slot of the block whose first payload slot is `p`. -/
def lagOf (p : Nat) : Nat := 63 - p % 63
def anchorOf (p : Nat) : Nat := p / 63 + 1

/-- LAG, BIT_OFFSET and anchor of frame n. -/
def frameGrid (rate n : Nat) : RxGrid :=
  let b := blockB rate
  let p := 24 * frameBlock n b
  { lag := lagOf p, bitOffset := frameOffset n b, anchor := anchorOf p }

/-- The grid of the next frame, 589,824 coded bits later (R203, R220). -/
def nextGrid (rate : Nat) (g : RxGrid) : RxGrid :=
  let b := blockB rate
  let q := 63 - g.lag + 24 * ((g.bitOffset + 589824) / b)
  { lag := 63 - q % 63, bitOffset := (g.bitOffset + 589824) % b, anchor := (g.anchor + q / 63) % 2 ^ 32 }

/-- The first slot of frame n: slot 0, and from frame 1 on the first payload slot of its first block. -/
def frameSlot (rate n : Nat) : Nat := if n = 0 then 0 else payloadSlot (24 * frameBlock n (blockB rate))

/-- The first pilot slot from a slot on. -/
def pilotFrom (t : Nat) : Nat := (t + 63) / 64

/-- The parity of the bits of `st` selected by a generator. -/
def tap7 (st g : Nat) : Bool := (List.range 7).foldl (fun a i => a != (st.testBit i && g.testBit i)) false

/-- The header code from register `reg` over bits (R196). -/
def convSteps : Nat → List Bool → List Bool
  | _, [] => []
  | reg, v :: vs =>
    let st := b01 v * 64 + reg
    tap7 st 0o117 :: tap7 st 0o127 :: tap7 st 0o155 :: tap7 st 0o171 :: convSteps (st / 2) vs

/-- The 1,152 bits of the tail-biting header code over 288 bits. -/
def headerCode (v : List Bool) : List Bool :=
  convSteps ((v.drop 282).foldl (fun a b => 2 * a + b01 b) 0) v

/-- The robust header word: 32 header bytes and the locator, most significant bits first (R195). -/
def robustWord (h : List Byte) (loc : Word) : List Bool :=
  (h.map byteBits).flatten ++ ((wordBytesBE loc).map byteBits).flatten

/-! ## 64b/66b and 256b/257b blocks of IEEE 802.3 (PRESUMED, log entry 142) -/

/-- The 64b/66b control block of eight idle codes, and that of eight error codes: block type 0x1E, then codes of 7 bits. -/
def idle66 : Bool × BitVec 64 := (false, 0x1E)
def error66 : Bool × BitVec 64 :=
  (false, (List.range 8).foldl (fun a i => a ||| ((0x1E : BitVec 64) <<< (8 + 7 * i))) 0x1E)

/-- The bits of a block after its sync header, the first sent first; the first control block of a group loses the second half
of its block type. -/
def bits66 (short : Bool) (b : BitVec 64) : List Bool :=
  let l := (List.range 64).map fun i => b.getLsbD i
  if short then l.take 4 ++ l.drop 8 else l

/-- The payload bits of a group. -/
def group66 : Bool → List (Bool × BitVec 64) → List Bool
  | _, [] => []
  | first, (d, b) :: r => bits66 (first && !d) b ++ group66 (first && d) r

/-- Four 64b/66b blocks transcoded to a 256b/257b block, bit i the i-th bit sent: a header bit 1 before four data blocks; else
0, a bit per block that is 1 for data, and the payloads. -/
def transcode (g : List (Bool × BitVec 64)) : BitVec 257 :=
  let bs := if g.all (·.1) then true :: group66 false g else false :: (g.map (·.1)) ++ group66 true g
  BitVec.ofNat 257 (bs.foldr (fun b n => 2 * n + b01 b) 0)

/-- The idle block of R216 and the error control block of R272. -/
def idleBlock : BitVec 257 := transcode [idle66, idle66, idle66, idle66]
def errorBlock : BitVec 257 := transcode [error66, error66, error66, error66]

/-- The next `n` blocks of a grid that carries a stream, absent where four idle blocks go: idle follows the stream's end. -/
def streamGrid : Nat → List (Bool × BitVec 64) → List ClientBlock
  | 0, _ => []
  | n + 1, st =>
    let g := (st ++ [idle66, idle66, idle66, idle66]).take 4
    (if g.all (· == idle66) then .absent else .data (transcode g)) :: streamGrid n (st.drop 4)

/-! ## The symbol sequence -/

/-- Bits on the dimensions of a pilot slot: 1 for 0 and -1 for 1. -/
def onDims (bs : List Bool) : List Int := bs.map fun b => if b then -1 else 1

/-- The header symbol of pilot slot `q`, none where a known pilot goes (R197). -/
def headerAt (anchor : Nat) (c : List Bool) (q : Nat) : Option (List Int) :=
  let i := (q - anchor) / 2
  if anchor ≤ q ∧ (q - anchor) % 2 = 0 ∧ i < 288 then some (onDims ((c.drop (4 * i)).take 4)) else none

/-- `k` slots from slot `t` on: header symbols, known pilots from the generators, and the payload in order (R193, R194). -/
def slotsFrom (hdr : Nat → Option (List Int)) : Nat → Nat → BitVec 15 → BitVec 15 → List (List Int) → List TxSymbol
  | 0, _, _, _, _ => []
  | k + 1, t, sX, sY, ps =>
    if t % 64 = 0 then
      let x := pilotSlotStep sX
      let y := pilotSlotStep sY
      (match hdr (t / 64) with | some d => TxSymbol.header d | none => .pilot (onDims [x.1, x.2.1, y.1, y.2.1]))
        :: slotsFrom hdr k (t + 1) x.2.2 y.2.2 ps
    else .payload (ps.headD []) :: slotsFrom hdr k (t + 1) sX sY ps.tail

/-- The four dimensions of a symbol as transmitted, in 1/2^32. -/
def symbolDims (rate : Nat) : TxSymbol → List Int
  | .pilot d => d.map (· * 2 ^ 32)
  | .header d => d.map (· * 2 ^ 32)
  | .payload d => d.map (· * (payloadScale rate : Int))

/-! ## Scrambler (R214) -/

/-- One scrambler bit and the next state. -/
def scrBit (s : BitVec 31) : Bool × BitVec 31 :=
  let o := s.getLsbD 30 != s.getLsbD 27
  (o, (s <<< 1) ||| (if o then 1#31 else 0#31))

/-- One byte scrambled, most significant bit first. -/
def scrByte (s : BitVec 31) (b : Byte) : Byte × BitVec 31 :=
  (List.range 8).foldl (fun a i =>
    let r := scrBit a.2
    (if r.1 then a.1 ^^^ (BitVec.twoPow 8 (7 - i)) else a.1, r.2)) (b, s)

/-- Bytes scrambled from a state; the same operation descrambles. -/
def scramFrom : BitVec 31 → List Byte → List Byte
  | _, [] => []
  | s, b :: bs => let r := scrByte s b; r.1 :: scramFrom r.2 bs

/-- The payload area scrambled or descrambled. -/
def scramble (bs : List Byte) : List Byte := scramFrom 0x5A5A5A5A#31 bs

/-- BIP16 of a payload area (R213). -/
def bip16 : List Byte → Nat
  | a :: b :: r => (a.toNat * 256 + b.toNat) ^^^ bip16 r
  | _ => 0

/-- The number of bits set among the low 16. -/
def popcount16 (n : Nat) : Nat := (List.range 16).foldl (fun a i => a + b01 (bit n i)) 0

end Sys2Proof.Machine
end

