-- ==== Sys2Proof/Machine/SpnWork.lean ====
section
/-!
DEFINITION. Sys2Proof/Machine/SpnWork.lean: what the spindles of an engine do: their performance counters (R171 to R174),
their registers, local memory and FIFOs (R161), microcode loads (R164), and faults with the moves of roles (R163, R323).
-/
namespace Sys2Proof.Machine
open Sys2Proof

/-- Datapath cycles an engine's spindles were clocked (CYCLE of the engine, R181). -/
def engineCycles (s : State) (e : Eng) : Nat :=
  let x := s.engine e
  x.cycles + (match x.clockedFrom with | some t => (s.hk - t) / 128 | none => 0)

def spnOf (s : State) (e : Eng) (i : Nat) : Spindle := SMap.get {} (s.engine e).spindles i

def setSpn (e : Eng) (i : Nat) (v : Spindle) (s : State) : State :=
  s.modEngine e fun x => { x with spindles := SMap.set {} x.spindles i v }

def modPerf (e : Eng) (i : Nat) (f : SpnPerf → SpnPerf) (s : State) : State :=
  let p := spnOf s e i
  setSpn e i { p with perf := f p.perf } s

/-- The engine runs its spindles. -/
def engRuns (s : State) (e : Eng) : Bool := (s.engine e).st == .warm || (s.engine e).st == .active

def engCount (e : Eng) (id n : Nat) (s : State) : State := if n = 0 then s else ctrAdd s (sel (engT e) 0 id) n

/-- The port an engine serves or shadows. -/
def enginePort (s : State) (e : Eng) : Option Lp :=
  match (s.engine e).serves with | some p => some p | none => (s.engine e).shadows

/-- A spindle may sleep between tasks: it has a role of the granted point under POWER ECONOMY, and no DEV_WAKE keeps the
port's spindles awake (Table 1.10, R72). -/
def mayNap (s : State) (e : Eng) (i : Nat) : Bool :=
  within (spnOf s e i).role 1 3 && match enginePort s e with
    | some p => (s.port p).mode.running.economy && !(keptAwake s (lpT p) && (s.engine e).serves == some p)
    | none => false

/-- A spindle sleeps (Table 1.10): its engine does not run, it has no role, or it is between tasks. -/
def spindleAsleep (s : State) (e : Eng) (i : Nat) : Bool :=
  let role := (spnOf s e i).role
  !engRuns s e || role == 0 || role == 6 || (mayNap s e i && Config.betweenTasks s.hk (engNum e) i)

/-! ## Performance counters (R171 to R174) -/

/-- The occupancy maximum of an event (Table 6.7). -/
def occMax (ev : Nat) : Option Nat :=
  if ev = 0x10 ∨ ev = 0x11 then some 64 else if ev = 0x12 then some 16 else none

/-- How the counts of a counter in some cycles follow from its EVENT (Table 6.7): exactly so many, or at most. -/
def eventCounts (cfg cycles ret wst sf sb : Nat) : Nat × Nat :=
  match bits cfg 0 8 with
  | 0x00 => (0, 0)
  | 0x01 => (cycles, cycles)
  | 0x02 => (ret, ret)
  | 0x03 => (wst, wst)
  | 0x04 => (sf, sf)
  | 0x05 => (sb, sb)
  | ev => match occMax ev with
    | some m => (0, if bit cfg 8 then cycles else m * cycles)
    | none => (0, cycles)

/-- A number brought from outside, held to what an event allows. -/
def heldCounts (cfg cycles ret wst sf sb v : Nat) : Nat :=
  let (lo, hi) := eventCounts cfg cycles ret wst sf sb
  max lo (min hi v)

/-- Counter PCn gets `n` counts: its value, and how often it wrapped. -/
def pcAdd (v n : Nat) : Nat × Nat := ((v + n) % 2 ^ 48, (v + n) / 2 ^ 48)

/-- Counts applied to PC0 to PC5 in order: a chained counter counts the overflows of the one below it (R174). Values
with flags of overflow. -/
def pcsAdd : List Nat → List Nat → List Nat → Nat → List (Nat × Bool)
  | v :: vs, c :: cs, n, carry =>
    let k := if !bit c 17 then 0 else if bit c 16 then carry else n.headD 0
    let (v', o) := pcAdd v k
    (v', decide (o ≠ 0)) :: pcsAdd vs cs n.tail o
  | _, _, _, _ => []

/-- What a spindle did is counted (R171, R172): the slots neither retired, wasted nor starved-front are starved-back. -/
def countActivity (a : SpnActivity) (x : SpnPerf) : SpnPerf :=
  let ret := min a.ret (4 * a.cycles)
  let wst := min a.wst (4 * a.cycles - ret)
  let sf := min a.sf (4 * a.cycles - ret - wst)
  let sb := 4 * a.cycles - ret - wst - sf
  let n := (List.range 6).map fun i => heldCounts (x.cfg.getD i 0) a.cycles ret wst sf sb (a.pcs.getD i 0)
  let r := pcsAdd x.pcs x.cfg n 0
  let ov := (List.range 6).foldl (fun m i => m + onBit (r.getD i (0, false)).2 i) 0
  let ev := (List.range 6).foldl (fun m i => m + onBit ((r.getD i (0, false)).2 && bit (x.cfg.getD i 0) 18) i) 0
  { x with cycle := x.cycle + BitVec.ofNat 64 a.cycles, ret := x.ret + BitVec.ofNat 64 ret,
           wst := x.wst + BitVec.ofNat 64 wst, sf := x.sf + BitVec.ofNat 64 sf, sb := x.sb + BitVec.ofNat 64 sb,
           pcs := r.map fun v => v.1, ovf := x.ovf ||| ov, due := x.due ||| ev }

/-- A spindle's counters are brought up to the present (log entry 25): what it did since they were last is free within
R172 and Table 6.7; a spindle that sleeps or is frozen counts nothing, and one that may sleep between tasks is clocked for
a free part of the time. -/
def settlePerf (e : Eng) (i : Nat) (s : State) : State :=
  let p := spnOf s e i
  let now := engineCycles s e
  let n := now - p.perf.acct
  if n = 0 then s
  else if p.role = 0 ∨ p.role = 6 then (if p.perf.cfg.any (· != 0) ∨ p.perf.cycle ≠ 0 then modPerf e i (fun x => { x with acct := now }) s else s)
  else if p.frozen.isSome then modPerf e i (fun x => { x with acct := now }) s
  else
    let (ws, s) := freeWs 10 s
    let f (k : Nat) : Nat := (ws.getD k 0).toNat
    let cycles := if mayNap s e i then f 0 % (n + 1) else n
    let ret := f 1 % (4 * cycles + 1)
    let wst := f 2 % (4 * cycles - ret + 1)
    let sf := f 3 % (4 * cycles - ret - wst + 1)
    let sb := 4 * cycles - ret - wst - sf
    let pcs := (List.range 6).map fun k =>
      f (4 + k) % ((eventCounts (p.perf.cfg.getD k 0) cycles ret wst sf sb).2 + 1)
    modPerf e i (fun x => { countActivity { spindle := i, cycles, ret, wst, sf, pcs } x with acct := now }) s

/-! ## The standing of an engine's spindles -/

/-- An IDLE spindle exists on an engine (indices below 96 that are not listed are IDLE). -/
def hasIdle (x : Engine) : Bool := (List.range 96).any fun i => (SMap.get {} x.spindles i).role == 0

/-- A re-resolution of R84 becomes due, with its cause of Table 3.11; one already due keeps its cause. -/
def askResolve (cause : Nat) (s : State) : State :=
  { s with reresolve := match s.reresolve with | some c => some c | none => some cause }

/-- SPN_NO_IDLE (Table 6.12): raised while an engine that is ACTIVE or WARM has no IDLE spindle; its clear time of 1 s
starts when one exists. -/
def checkIdle (e : Eng) (s : State) : State :=
  let x := s.engine e
  let on := x.st == .active || x.st == .warm
  if on && !hasIdle x then
    raiseAlarm 0x8410 (engT e) 0 [] (s.modEngine e fun x => { x with noIdleClear := none })
  else if raised s 0x8410 (engT e) 0 && x.noIdleClear.isNone then
    s.modEngine e fun x => { x with noIdleClear := some (s.hk + secT 1) }
  else s

/-! ## Microcode (R164, R165) -/

/-- Microcode build of the running image: the build field of its FW_VERSION (log entry 20). -/
def ucodeBuild (s : State) : Nat :=
  match s.fw.running with | some i => (i.hdr.getD 4 0).toNat % 65536 | none => 0

/-- A spindle's microcode is loaded and compared with the digest of its role: each mismatch counts, the load is repeated
once, and false tells of a second mismatch. What the checker test mode wrote in the memory it rewrites is gone. The loads to come that meet a defect stand in `loadBad` (log entry 136). -/
def loadSpn (e : Eng) (i : Nat) (s : State) : Bool × State :=
  let m := SMap.get 0 (s.engine e).loadBad i
  let s := engCount e 0x0403 (min 2 m) s
  let s := if m = 0 then s else s.modEngine e fun x => { x with loadBad := SMap.set 0 x.loadBad i (m - 2) }
  let s := s.modProt fun x => { x with checker := x.checker.filter fun w => !(w.1 == 1 && w.2.1 == engT e && w.2.2.1 == i) }
  (decide (m < 2), setSpn e i { spnOf s e i with build := ucodeBuild s } s)

/-! ## Faults and role moves (R163, R323) -/

/-- The highest-index IDLE spindle. -/
def highIdle (s : State) (e : Eng) : Option Nat :=
  ((List.range 96).map fun i => 95 - i).find? fun i => (spnOf s e i).role == 0

/-- A spindle enters OUT: X rises, R84 re-resolves, EV_SPN_OUT. -/
def spindleOut (e : Eng) (i : Nat) (s : State) : State :=
  let s := settlePerf e i s
  let s := setSpn e i { spnOf s e i with role := 6 } s
  emit 0x8A05 (engT e) [w32 (engNum e), w32 i, w32 (outCount (s.engine e))] (askResolve 2 s)

/-- 24 h of AON time. -/
def dayT : Nat := secT 86400

/-- The role of spindle `i` moves to the highest-index IDLE spindle, or restarts in place, and goes on from its last
checkpoint: the spindle it runs on from now, whether its microcode passed, and the state. -/
def moveRole (e : Eng) (i : Nat) (s : State) : Nat × Bool × State :=
  let s := engCount e 0x0402 1 (settlePerf e i s)
  let p := spnOf s e i
  match highIdle s e with
  | some j =>
    let q := spnOf s e j
    let s := setSpn e j { q with
      role := p.role, mem := p.ckpt, ckpt := p.ckpt, perf := { q.perf with acct := engineCycles s e } } s
    let s := setSpn e i { p with role := 0, ckpt := [] } s
    let (ok, s) := loadSpn e j s
    (j, ok, s.modEngine e fun x => { x with moves := x.moves ++ [j] })
  | none =>
    let (ok, s) := loadSpn e i (setSpn e i { p with mem := p.ckpt } s)
    (0xFF, ok, s.modEngine e fun x => { x with moves := x.moves ++ [i] })

/-- A spindle faults (R163) and is self-tested (R323). A spindle in a role restarted in place keeps it unless it enters
OUT. The cause is that of Table 6.11; it has none for a second mismatch of the microcode loaded in the move, which faults
the spindle in turn: a free value (log entry 5). -/
def spindleFaults : Nat → Eng → Nat → Word → Bool → State → State
  | 0, _, _, _, _, s => s
  | n + 1, e, i, cause, selfTest, s =>
    let p := spnOf s e i
    let s := engCount e 0x0401 1 s
    let moves := within p.role 1 4
    let (j, ok, s) := if moves then moveRole e i s else (0xFF, true, s)
    let s := emit 0x8401 (engT e) [w32 i, w32 p.role, cause, w32 j] s
    let again := match p.faultedAt with | some t => decide (s.now - t ≤ dayT) | none => false
    let s := setSpn e i { spnOf s e i with faultedAt := some s.now } s
    let s := checkIdle e (if selfTest && !again then s else spindleOut e i s)
    if ok then s
    else
      let (f, s) := freeW s
      spindleFaults n e (if j = 0xFF then i else j) f true s

/-- A spindle faults, and so does each that the role's load fails on. -/
def spindleFault (e : Eng) (i : Nat) (cause : Word) (selfTest : Bool) (s : State) : State :=
  spindleFaults 96 e i cause selfTest s

/-! ## What spindle code does (R161, R169, R170, R175) -/

/-- The words an input FIFO of 64 accepts, and how many it does not. -/
def fifoPut (f ws : List (List Word)) : List (List Word) × Nat := ((f ++ ws).take 64, (f ++ ws).length - 64)

/-- The inputs a kernel reads: INPUT_REQ of its image (Table 6.3). -/
def kernelInputs (k : Kernel) : Nat := (k.staging.getD 4 0).toNat % 16

/-- What the code of a spindle did since the last checkpoint: registers and local memory written, input words taken and
arrived, output words put and sent. Input words that find the FIFO of a kernel full are dropped. -/
def spindleWork (e : Eng) (a : SpnActivity) (s : State) : State :=
  let p := spnOf s e a.spindle
  if p.role = 0 ∨ p.role = 6 then s
  else
    let (inF, drops) := fifoPut (p.inFifo.drop a.taken) a.ins
    let (outF, _) := fifoPut (p.outFifo.drop a.sent) a.outs
    let s := setSpn e a.spindle { p with
      scalars := a.scalars.foldl (fun m x => if x.1 < 32 then SMap.set 0 m x.1 x.2 else m) p.scalars,
      vectors := a.vectors.foldl (fun m x => if x.1 < 32 then SMap.set [] m x.1 (x.2.take 16) else m) p.vectors,
      mem := a.mem.foldl (fun m x => if x.1 < 16384 then SMap.set 0 m x.1 x.2 else m) p.mem,
      inFifo := inF, outFifo := outF } s
    if p.role = 5 then engCount e 0x0405 drops s else s

/-- What a spindle did is accounted. -/
def accountSpn (e : Eng) (s : State) (a : SpnActivity) : State :=
  if a.spindle < 96 then
    let p := spnOf s e a.spindle
    let now := engineCycles s e
    let s := if p.frozen.isSome then s
      else modPerf e a.spindle (fun x =>
        { countActivity { a with cycles := min a.cycles (now - x.acct) } x with acct := now }) s
    spindleWork e a s
  else s

end Sys2Proof.Machine
end

