-- ==== Sys2Proof/Machine/Engines.lean ====
section
/-!
DEFINITION. Sys2Proof/Machine/Engines.lean: line engine states (R25 to R27), the roles and kernels that follow them
(R162, R170), and the standing of the engines that the granted points ask for (R82).
-/
namespace Sys2Proof.Machine
open Sys2Proof

/-- A kernel slot changes state: EV_KERNEL_STATE (Table 6.11). -/
def setKernelSt (e : Eng) (slot : Nat) (st : KernelSt) (cause : Nat) (s : State) : State :=
  let num : KernelSt → Nat := fun k => match k with
    | .empty => 0 | .loaded => 1 | .running => 2 | .paused => 3 | .stopped => 4 | .faulted => 5
  let k := SMap.get {} (s.engine e).kernels slot
  if k.st = st then s
  else emit 0x8403 (engT e) [w32 slot, w32 (num k.st), w32 (num st), w32 cause]
    (s.modEngine e fun x => { x with kernels := SMap.set {} x.kernels slot { k with st, cause } })

/-- Every kernel of an engine that satisfies `q` changes state. -/
def allKernels (e : Eng) (q : KernelSt → Bool) (st : KernelSt) (cause : Nat) (s : State) : State :=
  (List.range 8).foldl (fun s i =>
    if q (SMap.get {} (s.engine e).kernels i).st then setKernelSt e i st cause s else s) s

/-- The datapath clock of an engine begins or ends to run its spindles (R161). -/
def clockEngine (run : Bool) (now : Nat) (x : Engine) : Engine :=
  match x.clockedFrom, run with
  | none, true => { x with clockedFrom := some now }
  | some t, false => { x with clockedFrom := none, cycles := x.cycles + (now - t) / 128 }
  | _, _ => x

/-- Datapath cycles frozen so far by the freezes in progress on an engine (R178). -/
def frozenNow (s : State) (e : Eng) : Nat :=
  (s.engine e).spindles.foldl (fun a x => match x.2.frozen with
    | some c => a + (engineCycles s e - c)
    | none => a) 0

/-- The role of a spindle on an engine that runs none: OUT stays (R162). -/
def noRole (p : Spindle) : Nat := if p.role = 6 then 6 else 0

/-- A line engine enters a state: EV_ENGINE_STATE, the state-change count, its clock, its roles and its kernels. -/
def setEngSt (e : Eng) (st : EngSt) (s : State) : State :=
  let x := s.engine e
  if x.st = st then s
  else
    let run := st == .warm || st == .active
    let s := if st = .cold then ctrAdd s (sel (engT e) 0 0x0407) (frozenNow s e) else s
    let s := if run then s else (List.range 96).foldl (fun s i => settlePerf e i s) s
    let s := s.modEngine e fun x =>
      let x := clockEngine run s.hk { x with st, changes := (x.changes + 1) % 65536 }
      let each (f : Spindle → Spindle) : SMap Spindle :=
        (List.range 96).foldl (fun m i => SMap.set {} m i (f (SMap.get {} m i))) x.spindles
      if st = .cold then
        { x with cycles := 0, shadows := none, burnish := false, startup := none, recovery := none, image := [],
                 imageCtrs := [], imageCycle := 0, imageAt := none, checkpointAt := none, testAt := none, moves := [],
                 refresh := [],
                 spindles := each fun p => {
                   role := noRole p, perfUser := p.perfUser, frozen := p.frozen.map fun _ => 0, build := p.build,
                   faultedAt := p.faultedAt, perf := { cfg := p.perf.cfg } } }
      else if st = .cool then
        { x with moves := [], refresh := [], spindles := each fun p => { p with role := noRole p, ckpt := [] } }
      else { x with testAt := match x.testAt with | some t => some t | none => some (s.hk + secT 10) }
    let s := if st = .cold then allKernels e (fun k => k == .running || k == .paused) .stopped 5 s
      else if st = .cool then allKernels e (fun k => k == .running) .paused 0 s
      else allKernels e (fun k => k == .paused) .running 0 s
    let y := s.engine e
    let pt := match y.serves with | some p => some p | none => y.shadows
    let s := emit 0x8012 (engT e) [w32 (engNum e), w32 (engStNum x.st), w32 (engStNum st), w32 (lpField pt),
      w32 (onBit y.failed 0 + onBit y.burnish 1)] s
    if run then s else checkIdle e s

/-- Roles 1 to 3 in order for a point: RX, TX, NLC (R162). -/
def pointRoles (g : ModePoint) : List Nat :=
  List.replicate (reachCost g.reach) 1 ++ List.replicate 4 2
    ++ List.replicate (g.nlcSteps * nlcCost (srMBd g)) 3

/-- Roles given to the spindles 0 to 91 - K from index 0 upward, passing over those OUT. -/
def giveRoles : List Nat → List Nat → SMap Spindle → SMap Spindle
  | [], _, m => m
  | i :: is, rs, m =>
    let p := SMap.get {} m i
    if p.role = 6 then giveRoles is rs m
    else match rs with
      | [] => giveRoles is [] (SMap.set {} m i { p with role := 0 })
      | r :: rs => giveRoles is rs (SMap.set {} m i { p with role := r })

/-- A role goes to the highest-index IDLE spindle, if there is one. -/
def giveHigh (role : Nat) (m : SMap Spindle) : SMap Spindle :=
  match ((List.range 96).map fun i => 95 - i).find? fun i => (SMap.get {} m i).role == 0 with
  | some i => SMap.set {} m i { SMap.get {} m i with role }
  | none => m

/-- Spindles given one role each on fixed places; where a place is OUT, a replacement takes the role (R162). -/
def giveFixed (role : Nat) (places : List Nat) (m : SMap Spindle) : SMap Spindle :=
  let isOut (i : Nat) : Bool := (SMap.get {} m i).role == 6
  let m' := (places.filter fun i => !isOut i).foldl (fun m i => SMap.set {} m i { SMap.get {} m i with role }) m
  (places.filter isOut).foldl (fun m _ => giveHigh role m) m'

/-- KERNEL places of an engine, slot 0 first. -/
def kernelPlaces (k : Nat) : List Nat := (List.range k).map fun i => 91 - i

/-- The placement of R162 on an engine that runs a point, or on one that runs none. -/
def placeRoles (g : Option ModePoint) (x : Engine) : Engine :=
  let m := (List.range 96).foldl (fun m i => SMap.set {} m i { SMap.get {} m i with role := noRole (SMap.get {} m i) })
    x.spindles
  match g with
  | none => { x with spindles := m }
  | some g =>
    let m := giveRoles (List.range (92 - x.k)) (pointRoles g) m
    let sys := [92, 93, 94, 95]
    let ok (l : List Nat) : List Nat := l.filter fun i => (SMap.get {} m i).role != 6
    let gone (l : List Nat) : List Nat := l.filter fun i => (SMap.get {} m i).role == 6
    let ks := kernelPlaces x.k
    { x with spindles := giveFixed 5 (gone ks) (giveFixed 4 (gone sys) (giveFixed 5 (ok ks) (giveFixed 4 (ok sys) m))) }

/-- The spindle a kernel slot runs on: its place, or the replacement of a place that is OUT; replacements stand from the
highest index down in the order of the slots. -/
def kernelSpindle (x : Engine) (slot : Nat) : Nat :=
  let role (i : Nat) : Nat := (SMap.get {} x.spindles i).role
  if role (91 - slot) = 6 then
    let ks := kernelPlaces x.k
    let rest := ((List.range 96).map fun i => 95 - i).filter fun i => role i == 5 && !ks.contains i
    rest.getD ((kernelPlaces slot).filter fun i => role i == 6).length (91 - slot)
  else 91 - slot

/-- The point an engine runs: that of the port it serves or shadows, while it is ACTIVE or WARM. -/
def enginePoint (s : State) (e : Eng) : Option ModePoint :=
  let x := s.engine e
  if x.st = .active ∨ x.st = .warm then
    (match x.serves with | some p => some p | none => x.shadows).map fun p => (s.port p).mode.running
  else none

/-- Roles of an engine placed anew. A spindle whose role changes loads its microcode (R164): a second mismatch faults it
(log entry 5: the cause). -/
def replaceRoles (e : Eng) (s : State) : State :=
  let old := s.engine e
  let g := enginePoint s e
  let new := placeRoles g old
  let changed := (List.range 96).filter fun i => (SMap.get {} old.spindles i).role != (SMap.get {} new.spindles i).role
  let s := changed.foldl (fun s i => settlePerf e i s) s
  let s := s.modEngine e (placeRoles g)
  let now := engineCycles s e
  changed.foldl (fun s i =>
    if within (spnOf s e i).role 1 5 then
      let p := spnOf s e i
      let (ok, s) := loadSpn e i (setSpn e i { p with mem := [], ckpt := [], perf := { p.perf with acct := now } } s)
      if ok then s
      else
        let (f, s) := freeW s
        spindleFault e i f true s
    else s) s

/-- The state the spare engine is to stand in when it serves no port (R82). -/
def spareWant (s : State) : EngSt × Option Lp :=
  let svc (p : Lp) (g : Guard → Bool) : Bool := inService s p && g (s.port p).mode.running.guard
  if svc s.warmPort (· == .warm) then (.warm, some s.warmPort)
  else if lineports.any fun p => svc p (· != .none) then (.cool, none)
  else (.cold, none)

/-- A spare engine begins to acquire on a port: WAIT_SIGNAL while the loss-of-signal condition holds without CONV_LOOP or
the synthesiser is not locked, else by LAST, else the cold path (R110, R116, R147, R149). -/
def spareBegin (p : Lp) (s : State) : State :=
  let c := (s.port p).conv
  s.modDsp p fun d =>
    let a := { d.spareAcq with from_ := s.hk, stFrom := s.hk }
    { d with spareAcq :=
        if (c.los && !c.loop) || c.synth != .locked then { d.spareAcq with st := .waitSignal, stFrom := s.hk }
        else if (SMap.get {} d.profiles 16).valid then { a with st := .profileLoad, onProfile := true, profile := 16 }
        else { a with st := .cdSearch, onProfile := false, profile := 31, coldFrom := s.hk } }

/-- The spare engine starts its way to shadow lock on a port (Table 1.9). -/
def beginShadow (p : Lp) (s : State) : State :=
  spareBegin p (s.modEngine .les fun x => { x with move := .shadowing, shadows := some p })

/-- The transition of Table 1.9 the spare engine starts next, if any. -/
def steerSpare (s : State) : State :=
  let x := s.eng.les
  if x.move ≠ .none ∨ x.failed ∨ x.held ∨ x.serves.isSome ∨ x.burnish then s
  else
    let (want, wp) := spareWant s
    match x.st with
    | .cold => if want ≠ .cold then s.modEngine .les fun x => { x with move := .toCool } else s
    | .cool =>
      if want = .cold then s.modEngine .les fun x => { x with move := .gating }
      else match wp with
        | some p => if want = .warm then beginShadow p s else s
        | none => s
    | .warm => if want = .warm ∧ x.shadows = wp then s else s.modEngine .les fun x => { x with move := .retaining }
    | .active => s

/-- The transition the serving engine of a port starts next, if any (R27). -/
def steerServing (s : State) (p : Lp) : State :=
  match servingEng s p with
  | none => s
  | some e =>
    let x := s.engine e
    if x.move ≠ .none ∨ x.failed ∨ x.held then s
    else if inService s p then
      match x.st with
      | .cold => s.modEngine e fun x => { x with move := .toCool }
      | .cool => s.modEngine e fun x => { x with move := .waking }
      | _ => s
    else
      match x.st with
      | .active => s.modEngine e fun x => { x with move := .retaining }
      | .cool => s.modEngine e fun x => { x with move := .gating }
      | _ => s

/-- The spare engine stands as the granted points ask, or cannot (R82). -/
def guardStands (s : State) : Bool :=
  let x := s.eng.les
  let (want, wp) := spareWant s
  x.move == .none &&
    (x.failed || x.held || x.serves.isSome || x.burnish || (x.st == want && (want != .warm || x.shadows == wp)))

/-- The application at the head of a port's list is in place: EV_MODE_APPLIED (Table 3.11). -/
def finishApp (p : Lp) (a : ModeApp) (s : State) : State :=
  emit 0x8101 (lpT p) [w32 (lpT p), w32 (modeWord a.point), w32 a.adjust, w32 a.source]
    (s.modMode p fun m => { m with apps := m.apps.drop 1 })

/-- An application that waits for the spare engine to reach its state (R89) ends when it does. -/
def settleApps (s : State) : State :=
  lineports.foldl (fun s p =>
    match (s.port p).mode.apps with
    | a :: _ => if a.begun && guardStands s then finishApp p a s else s
    | [] => s) s

/-- Every engine starts the transition its standing asks for. -/
def steer (s : State) : State := settleApps (steerSpare (steerServing (steerServing s .lp0) .lp1))

end Sys2Proof.Machine
end

