-- ==== Sys2Proof/Machine/MateLink.lean ====
section
/-!
DEFINITION. Sys2Proof/Machine/MateLink.lean: the mate link's sending side, which protection and the command service use:
APS records, HEARTBEATs and GOODBYE (R342 to R350).
-/
namespace Sys2Proof.Machine
open Sys2Proof

/-- Protection of a line port. -/
def State.protPort (s : State) : Lp → ProtPort
  | .lp0 => s.prot.lp0
  | .lp1 => s.prot.lp1

def State.modProtPort (s : State) (p : Lp) (f : ProtPort → ProtPort) : State :=
  match p with
  | .lp0 => s.modProt fun x => { x with lp0 := f x.lp0 }
  | .lp1 => s.modProt fun x => { x with lp1 := f x.lp1 }

def State.aps (s : State) (p : Lp) : Aps := (s.protPort p).aps

def State.modAps (s : State) (p : Lp) (f : Aps → Aps) : State :=
  s.modProtPort p fun x => { x with aps := f x.aps }

/-- The mate role: GRAIN4 strap 0 is primary. -/
def isPrimary (s : State) : Bool := !s.pr.straps.getLsbD 4

/-! ## APS records (Tables 12.8 and 13.5) -/

/-- A request selects protection (Table 12.9); `manual` tells which for code 7. -/
def selectsProt (req : Nat) (manual : Bool) : Bool :=
  req == 14 || req == 11 || req == 9 || req == 5 || req == 1 || (req == 7 && manual)

/-- The highest local request of a port in a group (R330): its own inputs after HOLD_OFF. -/
def localReq (a : Aps) : Nat :=
  let cmd := match a.cmd with | 1 => 15 | 2 => 14 | 3 | 4 => 7 | _ => 0
  let sf := if a.sf then (if a.cfg.role = 1 then 13 else 11) else 0
  let sd := if a.sd then (if a.cfg.role = 1 then 10 else 9) else 0
  let wtr := if a.wtrOn then 5 else if a.dnr then 1 else 0
  max (max cmd sf) (max sd wtr)

/-- Code 7 of the request in force asks for protection: from the own command, the mate's record or the far end. -/
def manualProt (a : Aps) : Bool :=
  if a.cmd = 3 then true
  else if a.cmd = 4 then false
  else match a.mate with
    | some r => if r.request = 7 then (r.bytes.getD 1 0).getLsbD 0
      else (match a.rxAcc with | some b => (b.getD 1 0).getLsbD 0 | none => false)
    | none => (match a.rxAcc with | some b => (b.getD 1 0).getLsbD 0 | none => false)

/-- Bytes 8 to 11 of the header (Table 12.8). -/
def protBytes (a : Aps) : List Byte :=
  if a.cfg.group = 0 then [0, 0, 0, 0]
  else [w8 (a.request * 16 + onBit (a.cfg.bidir == 1) 3 + onBit (a.cfg.revert == 1) 2 + onBit (a.cfg.role == 1) 1),
        w8 (b01 (selectsProt a.request (manualProt a))), w8 (b01 a.prot), w8 a.cfg.group]

/-- The 8 bytes of a port's APS record. The places of SF, SD and the request in byte 4 are the model's (log entry 34). -/
def apsBytes (a : Aps) : List Byte :=
  protBytes a ++ [w8 (onBit a.sf 7 + onBit a.sd 6 + localReq a), 0, 0, 0]

/-- The 16 bytes of an APS burst. -/
def apsPayload (s : State) : List Byte := apsBytes (s.aps .lp0) ++ apsBytes (s.aps .lp1)

/-- FSW PHASE POWER (R19): 0 none, 1 READY, 2 SERVICE, 3 DARK or entering or leaving it. -/
def powerNum (s : State) : Nat :=
  if s.pr.sleepEntry || s.pr.waking then 3
  else match s.pr.power with | .none => 0 | .ready => 1 | .service => 2 | .dark => 3

/-- The 32 bytes of a HEARTBEAT. -/
def heartbeatPayload (s : State) : List Byte :=
  apsPayload s ++ [w8 (powerNum s + onBit s.fw.pause.isSome 2)] ++ List.replicate 15 0

/-- The link sends bursts of Table 13.5 other than TRAIN. -/
def linkTalks (s : State) : Bool := s.mate.st == .up || s.mate.st == .resume

/-- A HEARTBEAT. -/
def sendHeartbeat (ackOnly : Bool) (s : State) : State :=
  sendBurst 1 (onBit ackOnly 2) 0 (heartbeatPayload s) s

/-- An APS burst, on a change of a group's state (R350). -/
def sendAps (s : State) : State := if s.mate.st = .up then sendBurst 2 0 0 (apsPayload s) s else s

/-- GOODBYE (R349), in a state in which the link talks. -/
def sendGoodbye (cause : Nat) (s : State) : State :=
  if linkTalks s then sendBurst 5 0 0 (beBytes 4 cause) s else s

end Sys2Proof.Machine
end

