-- ==== Sys2Proof/Machine/Aps.lean ====
section
/-!
DEFINITION. Sys2Proof/Machine/Aps.lean: mate-pair protection: the selector's inputs, the request in force, the selector
and its decision (R328 to R332).
-/
namespace Sys2Proof.Machine
open Sys2Proof

/-- The mate is silent (R331, R349): MATE_DOWN is raised. -/
def mateSilent (s : State) : Bool := raised s 0x8B10 0x90 0

/-- The accepted far request. -/
def farReq (a : Aps) : Nat := match a.rxAcc with | some b => (b.getD 0 0).toNat / 16 | none => 0

/-- The group runs bidirectional (R329, R330). -/
def bidirNow (s : State) (p : Lp) : Bool := (s.aps p).cfg.bidir == 1 && !raised s 0x8A14 (lpT p) 0

/-- The request in force: the highest of the own and the mate's local requests, and in bidirectional mode the far
request when it is higher; with its source (EV_APS). -/
def inForce (s : State) (p : Lp) : Nat × Nat :=
  let a := s.aps p
  let own := localReq a
  let mate := if mateSilent s then 0 else match a.mate with | some r => r.request | none => 0
  let l := max own mate
  let cmd := decide (own = l) && a.cmd ≠ 0 && (l == 15 || l == 14 || l == 7)
  let far := if bidirNow s p then farReq a else 0
  if l < far then (far, 1) else (l, if cmd then 3 else if mateSilent s then 2 else 0)

/-- The selector of the group as this device sets it: protection selected, and this device selected. -/
def selector (s : State) (p : Lp) (req : Nat) : Bool × Bool :=
  let a := s.aps p
  let isProt := a.cfg.role == 1
  if mateSilent s then
    let self := if isProt then !a.sf else (farReq a == 13 || farReq a == 10)
    (self == isProt, self)
  else
    let prot := if isPrimary s then selectsProt req (manualProt a)
      else match a.mate with | some r => (r.bytes.getD 2 0).getLsbD 0 | none => a.prot
    (prot, prot == isProt)

/-- Wait-to-restore and DO_NOT_REVERT (R330): a cleared SF_W or SD_W on protection starts one of them at the device that
decides; a higher request ends them. -/
def restoreState (p : Lp) (s : State) : State :=
  let a := s.aps p
  let req := (inForce s p).1
  let was := a.request == 11 || a.request == 9
  if 5 < req then s.modAps p fun a => { a with wtr := none, wtrOn := false, dnr := false }
  else if was && a.prot && decide (req < 5) && (isPrimary s || mateSilent s) then
    if a.cfg.revert = 0 then s.modAps p fun a => { a with dnr := true }
    else if a.cfg.wtr = 0 then s
    else s.modAps p fun a => { a with wtr := some (s.now + secT a.cfg.wtr), wtrOn := true }
  else s

/-- APS_DECISION (R330): the request in force and the selector follow the inputs; a change is reported, counted and sent
to the mate. -/
def apsDecide (p : Lp) (s : State) : State :=
  if (s.aps p).cfg.group = 0 then s
  else
    let s := restoreState p s
    let a := s.aps p
    let (req, src) := inForce s p
    let (prot, self) := selector s p req
    let split := mateSilent s && self && (farReq a == 13 || farReq a == 10)
    let changed := decide (req ≠ a.request) || decide (prot ≠ a.prot) || decide (self ≠ a.self)
    let s := s.modAps p fun a => { a with request := req, source := src, prot, self }
    let s := alarmIf split 0x8A15 (lpT p) 0 [] s
    let s := if prot ≠ a.prot then lpCount s p 0x0A24 1 else s
    if changed then
      sendAps (emit 0x8A03 (lpT p) [w32 a.cfg.group, w32 req, w32 (b01 prot), w32 src] s)
    else s

/-- The selector's own inputs as they stand: SF, SD, command and wait-to-restore (R328). -/
def apsRaw (s : State) (p : Lp) (sf sd : Bool) : Bool × Bool × Nat × Bool :=
  let x := s.protPort p
  let cool := match x.tk with | some t => t.kind == 2 | none => false
  let lost := raised s 0x8A13 (lpT p) 0
  let sf := sf || cool || lost || x.aps.injSf.isSome
  (sf, sd && !sf && x.aps.cfg.sdEn == 1, x.aps.command, x.aps.wtr.isSome)

/-- The inputs take effect, whatever HOLD_OFFs run. -/
def apsTake (p : Lp) (sf sd : Bool) (s : State) : State :=
  let (f, d, c, w) := apsRaw s p sf sd
  apsDecide p (s.modAps p fun a => { a with sf := f, sd := d, cmd := c, wtrOn := w, hold := {} })

/-- An input's HOLD_OFF after a change: it runs from the change, and stops when the input is back as it was taken. -/
def holdFrom (same : Bool) (end_ : Nat) (o : Option Nat) : Option Nat :=
  if same then none else match o with | some t => some t | none => some end_

/-- After a change of an input: it takes effect when its HOLD_OFF expires, at once with a HOLD_OFF of 0. -/
def apsInput (p : Lp) (sf sd : Bool) (s : State) : State :=
  let a := s.aps p
  let (f, d, c, w) := apsRaw s p sf sd
  let end_ := s.hk + usT (100 * a.cfg.holdOff)
  if a.cfg.group = 0 then s
  else if a.cfg.holdOff = 0 ∧ (f, d, c, w) ≠ (a.sf, a.sd, a.cmd, a.wtrOn) then apsTake p sf sd s
  else s.modAps p fun a => { a with hold :=
    { sf := holdFrom (f == a.sf) end_ a.hold.sf, sd := holdFrom (d == a.sd) end_ a.hold.sd,
      cmd := holdFrom (c == a.cmd) end_ a.hold.cmd, wtr := holdFrom (w == a.wtrOn) end_ a.hold.wtr } }

/-- The inputs whose HOLD_OFF has expired take effect. -/
def apsExpire (p : Lp) (sf sd : Bool) (s : State) : State :=
  let (f, d, c, w) := apsRaw s p sf sd
  let run (o : Option Nat) : Option Nat := if due o s.hk then none else o
  let h := (s.aps p).hold
  if due h.sf s.hk || due h.sd s.hk || due h.cmd s.hk || due h.wtr s.hk then
    apsDecide p (s.modAps p fun a => { a with
      sf := if due h.sf s.hk then f else a.sf, sd := if due h.sd s.hk then d else a.sd,
      cmd := if due h.cmd s.hk then c else a.cmd, wtrOn := if due h.wtr s.hk then w else a.wtrOn,
      hold := { sf := run h.sf, sd := run h.sd, cmd := run h.cmd, wtr := run h.wtr } })
  else s

/-- A port delivers its received client traffic to the host: outside a group, or selected (R328). -/
def delivers (s : State) (p : Lp) : Bool := (s.aps p).cfg.group == 0 || (s.aps p).self

end Sys2Proof.Machine
end

