-- ==== Sys2Proof/Machine/Numeric.lean ====
section
/-!
DEFINITION. Sys2Proof/Machine/Numeric.lean: decibels, Q and BER_LOG in whole numbers (R153, R154), where the
manual gives a logarithm. Numbers are fixed point, in units of 2^-256, where a logarithm needs them.
-/
namespace Sys2Proof.Machine

/-- 1 in fixed point. -/
def fpOne : Nat := 2 ^ 256

/-- 10^(1/2000), one step of 0.005 dB, in fixed point. -/
def fpStep : Nat :=
  115925476575789266629971247887516010220087218369938896992226973846969372399420

/-- 2/sqrt(pi) in fixed point. -/
def fpTwoRootPi : Nat :=
  130657381209852114387528029350014196574164286124850014242073919076264802271585

/-- 10^(n/2000) in fixed point, for n below 2^fuel. -/
def fpPow : Nat → Nat → Nat
  | 0, _ => fpOne
  | f + 1, n =>
    if n = 0 then fpOne
    else
      let h := fpPow f (n / 2)
      let q := (h * h) >>> 256
      if n % 2 = 1 then (q * fpStep) >>> 256 else q

/-- 10^(n/2000) in fixed point, for n below 2^17. -/
def pow10 (n : Nat) : Nat := fpPow 17 n

/-- The largest number below 2^k above acc that satisfies a condition that holds up to some point. -/
def searchMax (p : Nat → Bool) : Nat → Nat → Nat
  | 0, acc => acc
  | k + 1, acc => if p (acc + 2 ^ k) then searchMax p k (acc + 2 ^ k) else searchMax p k acc

/-- 10 log10 of a fixed-point number of at least 1, in 0.01 dB, rounded down (DEDUCED: the example of R153 reads 3,259
where the exact value is 32.595; log entry 22). -/
def db10 (v : Nat) : Nat := searchMax (fun m => decide (pow10 m ≤ v)) 16 0 / 2

/-- The alternating sum of the series of erf: terms from number n on, for a term and the square of the argument. -/
def erfSum (x2 : Nat) : Nat → Nat → Nat → Int
  | 0, _, _ => 0
  | f + 1, n, t => ((t / (2 * n + 1) : Nat) : Int) - erfSum x2 f (n + 1) (((t * x2) >>> 256) / (n + 1))

/-- erfc of the square root of a fixed-point number up to 50, in fixed point. -/
def erfcRoot (x2 : Nat) : Int :=
  (fpOne : Int) - (erfSum x2 300 0 (Nat.sqrt (x2 * 2 ^ 256)) * (fpTwoRootPi : Int)) / ((2 ^ 256 : Nat) : Int)

/-- Q = 20 log10(sqrt 2 * erfcinv(2 * BER)) in 0.01 dB, BER being n / c with 0 < 2 n < c (R154), to the nearest
step (log entry 22). -/
def qOf (n c : Nat) : Int :=
  let x2 (m : Nat) : Nat := pow10 m / 10 ^ 28 / 2
  let m := searchMax (fun m => decide (m ≤ 60000) && decide (((2 * n * fpOne / c : Nat) : Int) ≤ erfcRoot (x2 m))) 16 0
  (((m + 1) / 2 : Nat) : Int) - 28000

/-- BER_LOG = round(-100 log10 BER), BER being n / c with 0 < n (R152). -/
def berLogOf (n c : Nat) : Nat :=
  (searchMax (fun m => decide (10 ^ m * n ^ 200 ≤ c ^ 200)) 13 0 + 1) / 2

/-- OSNR in 0.01 dB from SNR and transceiver SNR in 0.01 dB and SR in MBd; 0xFFFF when the SNR is not below that of the
transceiver (R153). -/
def osnrOf (snr trx sr : Nat) : Nat :=
  if trx ≤ snr then 0xFFFF
  else
    let a := pow10 (2 * snr)
    let b := pow10 (2 * trx)
    db10 (a * b / (b - a) * sr / 12500)

end Sys2Proof.Machine
end

