-- ==== Sys2Proof/Machine/Samples.lean ====
section
/-!
DEFINITION. Sys2Proof/Machine/Samples.lean: converter samples: sample values and channel mapping (R108, R109), the slice
sequencer and the gap interpolator (R97, R98, R104), received power (R110) and the blocks of the sample tap (R118 to
R120).
-/
namespace Sys2Proof.Machine
open Sys2Proof

/-! ## Sample values (R108, R109) -/

/-- A value held to lo..hi. -/
def satI (lo hi v : Int) : Int := max lo (min hi v)

/-- The 10-bit two's complement range of a chuck sample. -/
def sat10 (v : Int) : Int := satI (-512) 511 v

/-- The chuck sample of an 8-bit offset-binary code and the correction to it in quarter codes: full scale is -512 to +511,
the two extra bits keep the fraction of the correction (R108). -/
def adcValue (code : Byte) (correction : Int) : Int := sat10 (4 * ((code.toNat : Int) - 128) + correction)

/-- A sample at code 0 or 255 counts as clipped (R112). -/
def clipped (code : Byte) : Bool := code == 0 || code == 255

/-- Division by a power of two to the nearest, ties away from zero. -/
def roundAway (k : Nat) (v : Int) : Int :=
  if 0 ≤ v then ((v.natAbs + 2 ^ (k - 1)) / 2 ^ k : Nat) else -(((v.natAbs + 2 ^ (k - 1)) / 2 ^ k : Nat) : Int)

/-- What the DAC takes of a 10-bit sample: its most significant 8 bits, rounded to nearest with ties away from zero; +128,
which has no code, is held at +127 (log entry 125). -/
def dacCode8 (v : Int) : Int := satI (-128) 127 (roundAway 2 v)

/-- Samples in a datapath cycle of a channel, the oldest in the lowest position: position `j` of cycle `n` is this sampling
instant of the 384 GS/s grid (R108). -/
def instantOf (n j : Nat) : Nat := 256 * n + j

/-- The sampling instants that have passed at a time in ticks of 1/192 GHz. -/
def instantsAt (t : Nat) : Nat := 2 * t

/-- The mapping of Table 4.5 on the samples of XI, XQ, YI and YQ: INVERT, then IQ_SWAP_X and IQ_SWAP_Y, then XY_SWAP. The
negative of -512 is held at +511 (log entry 125). -/
def mapChannels (m : Nat) (x : List Int) : List Int :=
  let v (i : Nat) : Int := if bit m i then sat10 (-(x.getD i 0)) else x.getD i 0
  let xs := if bit m 4 then [v 1, v 0] else [v 0, v 1]
  let ys := if bit m 5 then [v 3, v 2] else [v 2, v 3]
  if bit m 6 then ys ++ xs else xs ++ ys

/-! ## The slice sequencer (R97, R98, R104) -/

/-- A list turned left by `n`. -/
def turn {α : Type} (n : Nat) (l : List α) : List α := l.drop (n % max 1 l.length) ++ l.take (n % max 1 l.length)

/-- The order at the start: the pool in ascending index, all free equally long; with fewer than 96 slices the instants
until the first is free again find none. -/
def seqStart (pool : List Nat) (k : Nat) : Seq :=
  { base := k, slots := pool.map some ++ List.replicate (96 - pool.length) none }

/-- The slice that takes an instant; none where no slice is free and the gap interpolator fills the sample. -/
def seqSlice (q : Seq) (k : Nat) : Option Nat := (q.slots[(k - q.base) % max 1 q.slots.length]?).join

/-- The order as seen from instant `k` on. -/
def seqFrom (q : Seq) (k : Nat) : Seq := { base := k, slots := turn (k - q.base) q.slots }

/-- Instants a slice that stands at place `j` of an order of `n` places still converts: it is busy for 96 periods. -/
def busyFor (n j : Nat) : Nat := j - (n - 96)

/-- A slice leaves the order at the first instant from `k` on at which it is free; the others keep theirs (R98). -/
def seqRemove (i k : Nat) (q : Seq) : Seq :=
  let q := seqFrom q k
  match q.slots.idxOf? (some i) with
  | none => q
  | some j =>
    let q := seqFrom q (k + busyFor q.slots.length j)
    { q with slots := if 97 ≤ q.slots.length then q.slots.filter fun x => x != some i
                      else q.slots.map fun x => if x = some i then none else x }

/-- The first instant that finds no free slice takes a value. -/
def fillFirst (i : Nat) : List (Option Nat) → List (Option Nat)
  | [] => []
  | none :: r => some i :: r
  | some x :: r => some x :: fillFirst i r

/-- Instants from `a` up to `b` that find no free slice: the gap interpolator fills them (R104). -/
def gapsBetween (q : Seq) (a b : Nat) : Nat :=
  let n := q.slots.length
  if n = 0 then 0
  else (b - a) / n * (q.slots.filter fun x => x.isNone).length
    + ((List.range ((b - a) % n)).filter fun i => (seqSlice q (a + i)).isNone).length

/-- Interpolated instants of a port not yet counted in INTERP_COUNT. -/
def interpDue (s : State) (p : Lp) : Nat :=
  ((s.port p).conv.seqs.map fun q => gapsBetween q q.base (instantsAt s.hk)).foldl (· + ·) 0

/-- A slice that has been free longest joins the order: it takes the first instant without a slice, else the next one. -/
def seqInsert (i k : Nat) (q : Seq) : Seq :=
  let q := seqFrom q k
  { q with slots := if q.slots.contains none then fillFirst i q.slots else some i :: q.slots }

/-- The 8 converted samples nearest to instant `k`, as offsets, from which the gap interpolator fills it (R104). -/
def nearestConverted (q : Seq) (k : Nat) : List Int :=
  (((List.range 96).map fun d => [-((d + 1 : Nat) : Int), ((d + 1 : Nat) : Int)]).flatten.filter fun d =>
    (seqSlice q ((k : Int) + d).toNat).isSome).take 8

/-! ## Received power (R110) -/

/-- A level in 0.01 dBFS as a linear power, in fixed point above -327.68 dBFS. -/
def levelLin (p : Int) : Nat := pow10 (2 * (p + 32768)).toNat

/-- The linear sum of the channels' powers. -/
def powerLin (ps : List Int) : Nat := (ps.map levelLin).foldl (· + ·) 0

/-- The received power in 0.01 dBFS: the sum of the channels relative to the full scale of one, rounded down (log entry
22). -/
def receivedPower (ps : List Int) : Int :=
  ((searchMax (fun m => decide (pow10 m ≤ powerLin ps)) 17 0 / 2 : Nat) : Int) - 32768

/-! ## Outputs to the DACs (R106) -/

/-- What the DAC outputs of a line port carry (Table 4.4). -/
inductive DacOut where
  | floating
  /-- Quiescent at mid-scale. -/
  | quiet
  /-- The transmit samples of an engine. -/
  | engine (n : Nat)
  /-- The last sample of an engine that was switched out, on each channel. -/
  | held (n : Nat)
deriving DecidableEq, Repr

/-- Table 4.4: SYNTH_UNLOCK goes before a hold (Table 4.8). -/
def dacOut (s : State) (p : Lp) : DacOut :=
  if !s.pr.powered then .floating
  else if !running s || !inService s p || raised s 0x8214 (lpT p) 0 then .quiet
  else
    let live : DacOut := match servingEng s p with
      | some e => if (s.engine e).st == .active then .engine (engNum e) else .quiet
      | none => .quiet
    match (s.protPort p).tk with
    | some t => if t.step == .gap || t.step == .hold || t.step == .released then .held (engNum t.out) else live
    | none => live

/-- The sample each DAC channel holds, where it carries no samples of an engine. -/
def dacRest (s : State) (p : Lp) : Option (List Int) :=
  match dacOut s p with
  | .quiet => some [0, 0, 0, 0]
  | .held _ => some (s.port p).conv.dacHeld
  | _ => none

/-- The codes the DACs take then, in pin order, after the mapping (R108, R109). -/
def dacCodes (s : State) (p : Lp) : Option (List Int) :=
  (dacRest s p).map fun x => (mapChannels (s.port p).conv.cfg.txMap x).map dacCode8

/-! ## Blocks of the sample tap (R118 to R120) -/

/-- Channels captured. -/
def tapChans (t : Tap) : Nat := (List.range 4).foldl (fun a i => a + b01 (bit t.chMask i)) 0

/-- Bytes per sample. -/
def tapB (t : Tap) : Nat := if t.format = 0 then 2 else 1

/-- Samples in a 64-byte block. -/
def tapPerBlock (t : Tap) : Nat := 64 / tapB t

/-- Buffer size in bytes. -/
def tapSize (t : Tap) : Nat := 2 ^ t.bufLog2

/-- Write rate in GB/s (R118); one that is no whole number is rounded up (log entry 126). -/
def tapRate (t : Tap) : Nat := ceilDiv (tapChans t * 384 * tapB t) (2 ^ t.decim)

/-- The tap is writing. -/
def tapWriting (t : Tap) : Bool := t.st == .armed || t.st == .triggered

/-- Samples per channel at the output rate since writing began: 384 GS/s is 2 samples a tick. -/
def tapSamples (t : Tap) (now : Nat) : Nat := instantsAt (now - t.since) / 2 ^ t.decim

/-- Bytes written so far: the blocks of a round, one of each channel, fill together (R120). -/
def tapBytes (t : Tap) (now : Nat) : Nat :=
  if tapWriting t then tapSamples t now / tapPerBlock t * tapChans t * 64 else t.written

/-- The place in the stream of bytes of sample `j` of the first channel captured. -/
def tapPlace (t : Tap) (j : Nat) : Nat := j / tapPerBlock t * tapChans t * 64 + j % tapPerBlock t * tapB t

/-- The first sample of the datapath cycle that runs now (R121). -/
def tapCycleSample (t : Tap) (now : Nat) : Nat := 256 * ((now - t.since) / dpT 1) / 2 ^ t.decim

/-- The number of enabled channel `i`, in pin order. -/
def tapChannel (t : Tap) (i : Nat) : Nat := ((List.range 4).filter fun c => bit t.chMask c).getD i 0

/-- What the port's DACs carry at the time of sample `j` (POINT DAC): the last change recorded before it. -/
def tapSpan (t : Tap) (j : Nat) : TapSpan :=
  (t.spans.filter fun x => decide (instantsAt (x.at_ - t.since) ≤ j)).getLastD {}

/-- The signal of a capture: a free value of 24 bits (log entry 127). -/
def tapRaw (t : Tap) (ch j : Nat) : Int := sgn 24 (Config.tapSignal t.base ch j).toNat

/-- A sample as the tap takes it: 10 bits left-aligned in 16, or the decimator's output, 24 bits rounded to 16 with
saturation (R119, Table 4.7). At POINT DAC a held output repeats its last sample, and a quiescent one is 0 (R107, R123). -/
def tapSample16 (t : Tap) (ch j : Nat) : Int :=
  if t.decim = 0 then
    64 * (match if t.point = 0 then none else (tapSpan t j).rest with
      | some x => x.getD ch 0
      | none => tapRaw t ch j % 1024 - 512)
  else satI (-32768) 32767 ((tapRaw t ch j + 128) / 256)

/-- The bytes of a sample, little-endian: 16 bits, or their upper 8. -/
def tapSampleBytes (t : Tap) (ch j : Nat) : List Byte :=
  let v := uns 16 (tapSample16 t ch j)
  if t.format = 0 then [w8 v, w8 (v / 256)] else [w8 (v / 256)]

/-- The block last written to block `b` of the buffer, counted from the start of writing. -/
def tapBlockAt (t : Tap) (b : Nat) : Option Nat :=
  let nb := t.written / 64
  let sb := tapSize t / 64
  if nb ≤ b then none else some (b + (nb - 1 - b) / sb * sb)

/-- The 64 bytes of block `b` of the buffer: samples of one channel, oldest first; a block the capture did not reach holds
free values. -/
def tapBlock (t : Tap) (b : Nat) : List Byte :=
  match tapBlockAt t b with
  | some k =>
    let ch := tapChannel t (k % max 1 (tapChans t))
    let j := k / max 1 (tapChans t) * tapPerBlock t
    ((List.range (tapPerBlock t)).map fun i => tapSampleBytes t ch (j + i)).flatten
  | none => (List.range 16).map (fun i => wordBytes (Config.tapSignal t.base 4 (16 * b + i))) |>.flatten

/-- Word `n` of the buffer; one with an uncorrectable HBM error reads 0xDEAD_DEAD (R122). -/
def tapWord (t : Tap) (n : Nat) : Word :=
  if SMap.get false t.bad n then 0xDEADDEAD#32
  else (bytesToWords (tapBlock t (n / 16))).getD (n % 16) 0

/-- Words of the buffer from word `n` on, and how many of them are in error. -/
def tapWords (t : Tap) (n len : Nat) : List Word := (List.range len).map fun i => tapWord t (n + i)
def tapErrors (t : Tap) (n len : Nat) : Nat :=
  (t.bad.filter fun x => x.2 && decide (n ≤ x.1) && decide (x.1 < n + len)).length

/-- A change of what the DACs carry is noted in a capture at POINT DAC (Table 4.7). -/
def noteDac (p : Lp) (s : State) : State :=
  let t := (s.port p).conv.tap
  let rest := dacRest s p
  if tapWriting t && t.point == 1 && decide (((t.spans.getLast?).bind fun x => x.rest) ≠ rest) then
    s.modTap p fun t => { t with spans := t.spans ++ [{ at_ := s.hk, rest := rest : TapSpan }] }
  else s

/-- The last sample of the outgoing engine on each DAC channel: that which a capture at POINT DAC recorded, else a free
value of 10 bits. -/
def holdDac (p : Lp) (s : State) : State :=
  let t := (s.port p).conv.tap
  if tapWriting t && t.point == 1 && t.decim == 0 then
    let last := instantsAt (s.hk - t.since) - 1
    s.modConv p fun c => { c with dacHeld := (List.range 4).map (fun ch => tapSample16 t ch last / 64) }
  else
    let (ws, s) := freeWs 4 s
    s.modConv p fun c => { c with dacHeld := ws.map (fun w => (w.toNat % 1024 : Int) - 512) }

end Sys2Proof.Machine
end

