-- ==== Sys2Proof/Machine/Signal.lean ====
section
/-!
DEFINITION. Sys2Proof/Machine/Signal.lean: the arithmetic of the transmit chain and of carrier recovery: I/Q pre-correction
(R129), pre-emphasis (R130), the crossfade of a change (R132) and the carrier phase from the pilots (R141).
-/
namespace Sys2Proof.Machine
open Sys2Proof

/-! ## Sine and cosine in fixed point -/

/-- pi in fixed point. -/
def fpPi : Nat := 363771576891766324280234942777729862653393377328392429958772151117938894466185

/-- The alternating series from term number n on, for a term and the square of the argument. -/
def trigSum (x2 : Nat) : Nat → Nat → Nat → Int
  | 0, _, _ => 0
  | f + 1, n, t => (t : Int) - trigSum x2 f (n + 2) (((t * x2) >>> 256) / ((n + 1) * (n + 2)))

/-- An angle of `a` hundredths of a degree in radians. -/
def fpAngle (a : Nat) : Nat := a * fpPi / 18000

/-- sin and cos of a signed angle in 0.01 degrees. -/
def fpSin (a : Int) : Int :=
  let x := fpAngle a.natAbs
  let v := trigSum ((x * x) >>> 256) 40 1 x
  if a < 0 then -v else v

def fpCos (a : Int) : Int :=
  let x := fpAngle a.natAbs
  trigSum ((x * x) >>> 256) 40 0 fpOne

/-! ## The transmit chain (R129, R130, R132) -/

/-- k = 10^(G/20) for G in 0.01 dB. -/
def gainOf (g : Int) : Nat := if 0 ≤ g then pow10 g.toNat else fpOne * fpOne / pow10 g.natAbs

/-- The I/Q pre-correction in fixed point: I' = I and Q' = (Q / k - I sin Phi) / cos Phi (R129; the precision of the
arithmetic is log entry 131). -/
def iqCorrect (g phi i q : Int) : Int × Int :=
  (i * (fpOne : Int), (q * ((fpOne * fpOne / gainOf g : Nat) : Int) - i * fpSin phi) * (fpOne : Int) / fpCos phi)

/-- The FIR input of a channel from the I and Q of its polarisation. -/
def firInput (d : DspTx) (ch : Nat) (x : Int × Int) : Int :=
  let y := iqCorrect (d.gain.getD (ch / 2) 0) (d.phase.getD (ch / 2) 0) x.1 x.2
  if ch % 2 = 0 then y.1 else y.2

/-- The pre-emphasis sum over the 16 newest inputs, newest first, in 1/1,024 (R130). -/
def firSum (taps xs : List Int) : Int := (List.zipWith (· * ·) taps xs).foldl (· + ·) 0

/-- A channel's output before rounding for the 16 newest pairs of I and Q, in 1/256 codes. -/
def txSum (d : DspTx) (ch : Nat) (win : List (Int × Int)) : Int :=
  firSum (d.preemph.getD ch []) (win.map (firInput d ch))

/-- The output rounded to 10 bits, before saturation, `n` of 1,024 cycles into a crossfade from parameters `old`: ties go
away from zero as in R108 (log entry 131). -/
def txRounded (old new : DspTx) (n ch : Nat) (win : List (Int × Int)) : Int :=
  roundAway 284 (txSum old ch win * (1024 - n : Int) + txSum new ch win * n)

/-- The 10-bit sample sent to the chuck. -/
def txSample (old new : DspTx) (n ch : Nat) (win : List (Int × Int)) : Int := sat10 (txRounded old new n ch win)

/-- The sample saturates: it counts in TX_SAT_COUNT. -/
def txSaturates (old new : DspTx) (n ch : Nat) (win : List (Int × Int)) : Bool :=
  txSample old new n ch win != txRounded old new n ch win

/-- Datapath cycles into the crossfade of the last change, 1,024 when it is over (R132). -/
def fadeCycles (d : Dsp) (now : Nat) : Nat :=
  match d.fadeAt with | some t => min 1024 ((now - t) / dpT 1) | none => 1024

/-- A change of the transmit parameters: a crossfade from those in force (R132). One that comes within a crossfade fades
from the parameters the last change set (DESIGN CHOICE, log entry 132). -/
def setTx (p : Lp) (x : DspTx) (s : State) : State :=
  s.modDsp p fun d =>
    if { x with cdPre := d.tx.cdPre } = d.tx then { d with tx := x }
    else { d with tx := x, txOld := d.tx, fadeAt := some s.hk }

/-! ## Carrier phase (R141), in 1/65,536 of a turn -/

/-- The mean of the phases of the last CPR_AVG pilots. -/
def pilotPhase (phases : List Int) (avg : Nat) : Int :=
  (phases.take avg).foldl (· + ·) 0 / (max 1 (min avg phases.length) : Nat)

/-- The phase at symbol `i` of the 64 between two pilots. -/
def symbolPhase (a b : Int) (i : Nat) : Int := a + (b - a) * i / 64

/-- Quarter turns a carried phase slipped against the absolute phase of the next pilot block. -/
def slipQuarters (carried pilot : Int) : Int := (pilot - carried + 8192) / 16384

end Sys2Proof.Machine
end

