-- ==== Sys2Proof/Machine/Demap.lean ====
section
/-!
DEFINITION. Sys2Proof/Machine/Demap.lean: the receive methods of chapter 07 for symbols: the phase of pilot and header slots
and the judgement of pilots (R198), max-log likelihood ratios, the list search over shell sequences and the deinterleaver
(R199). Received dimensions are whole numbers, 256 to the unit of amplitude.
-/
namespace Sys2Proof.Machine
open Sys2Proof

/-! ## Phases, in 1/65,536 of a turn (R141, R198) -/

/-- A complex number in whole numbers. -/
abbrev Cpx := Int × Int

def cpxMul (a b : Cpx) : Cpx := (a.1 * b.1 - a.2 * b.2, a.1 * b.2 + a.2 * b.1)
def cpxAdd (a b : Cpx) : Cpx := (a.1 + b.1, a.2 + b.2)
def cpxConj (a : Cpx) : Cpx := (a.1, -a.2)

/-- The phase of a number in the first quadrant: the largest angle that does not pass it. -/
def quadrantPhase (z : Cpx) : Int :=
  let ok (m : Nat) : Bool :=
    let x := m * fpPi / 32768
    let x2 := (x * x) >>> 256
    decide (z.1 * trigSum x2 40 1 x ≤ z.2 * trigSum x2 40 0 fpOne)
  (searchMax ok 14 0 : Nat)

/-- The phase of a number, 0 for zero. -/
def phaseOf (z : Cpx) : Int :=
  if 0 < z.1 ∧ 0 ≤ z.2 then quadrantPhase z
  else if z.1 ≤ 0 ∧ 0 < z.2 then 16384 + quadrantPhase (z.2, -z.1)
  else if z.1 < 0 ∧ z.2 ≤ 0 then 32768 + quadrantPhase (-z.1, -z.2)
  else if 0 ≤ z.1 ∧ z.2 < 0 then 49152 + quadrantPhase (-z.2, z.1)
  else 0

/-- The two polarisations of four dimensions. -/
def polX (d : List Int) : Cpx := (d.getD 0 0, d.getD 1 0)
def polY (d : List Int) : Cpx := (d.getD 2 0, d.getD 3 0)

/-- The phase at a known pilot, from both polarisations. -/
def knownPhase (z e : List Int) : Int :=
  phaseOf (cpxAdd (cpxMul (polX z) (cpxConj (polX e))) (cpxMul (polY z) (cpxConj (polY e))))

/-- The fourth power. -/
def cpx4 (z : Cpx) : Cpx := let y := cpxMul z z; cpxMul y y

/-- The phase at a header slot by the fourth power, whose fourfold ambiguity the phase at the known pilots on either side,
`near`, resolves (R198). The fourth power of a QPSK point is negative. -/
def headerPhase (z : List Int) (near : Int) : Int :=
  let q := (phaseOf (cpxAdd (cpx4 (polX z)) (cpx4 (polY z))) - 32768) / 4
  q + (near - q + 8192) / 16384 * 16384

/-- The phases of pilot slots in order; a header slot takes the mean of the known pilots before and after it. -/
def slotPhases : Option Int → List PilotSlot → List Int
  | _, [] => []
  | before, x :: r =>
    if x.expect.isEmpty then
      let after := (r.find? fun y => !y.expect.isEmpty).map fun y => knownPhase y.z y.expect
      let near := match before, after with
        | some a, some b => a + ((b - a + 32768) % 65536 - 32768) / 2
        | some a, none => a
        | none, some b => b
        | none, none => 0
      headerPhase x.z near :: slotPhases before r
    else
      let a := knownPhase x.z x.expect
      a :: slotPhases (some a) r

/-! ## Pilot lock (R146, R198) -/

/-- What a pilot slot is judged against: the known pilot, or the re-encoded header symbol once the frame's robust header has
decoded with both CRCs good; until then the nearest QPSK point. -/
def slotExpect (hdr : Option (List Byte × Word × Bool × Bool × Nat)) (x : PilotSlot) : Option (List Int) :=
  if x.expect.isEmpty then
    match hdr with
    | some (h, loc, true, true, _) => some (onDims (((headerCode (robustWord h loc)).drop (4 * x.symbol)).take 4))
    | _ => none
  else some x.expect

/-- The pilot symbol falls in its decision region; a point is in the region of the point nearest to it. -/
def slotGood (hdr : Option (List Byte × Word × Bool × Bool × Nat)) (x : PilotSlot) : Bool :=
  match slotExpect hdr x with
  | some e => (List.zipWith (fun a b => decide (0 < a * b)) x.z e).all id
  | none => true

/-- Pilots of a list that fall in their regions. -/
def goodSlots (hdr : Option (List Byte × Word × Bool × Bool × Nat)) (xs : List PilotSlot) : Nat :=
  (xs.filter (slotGood hdr)).length

/-! ## Likelihood ratios of a block (R199); a ratio is positive towards 0 -/

/-- The least squared distance of a dimension to the points of given amplitudes, of either sign. -/
def near2 (y : Int) (ps : List Int) : Int :=
  ps.foldl (fun m a => min m ((y - 256 * a) * (y - 256 * a))) (2 ^ 64)

/-- Points of a dimension by shell and fine bit, both signs. -/
def pointsOf (rate : Nat) (shell fine : Bool) : List Int :=
  let a : Int := (amplitude rate shell fine : Nat)
  [a, -a]

/-- The amplitudes of the constellation. -/
def levels (rate : Nat) : List Int := if is64 rate then [1, 3, 5, 7] else [1, 3]

/-- The max-log ratio of the sign bit and of the fine bit. -/
def signLlr (rate : Nat) (y : Int) : Int := near2 y ((levels rate).map (- ·)) - near2 y (levels rate)
def fineLlr (rate : Nat) (y : Int) : Int :=
  near2 y (pointsOf rate false true ++ pointsOf rate true true) - near2 y (pointsOf rate false false ++ pointsOf rate true false)

/-- The costs of shell bit 0 and of shell bit 1. -/
def shellCost (rate : Nat) (y : Int) : Int × Int :=
  (near2 y (pointsOf rate false false ++ pointsOf rate false true),
   near2 y (pointsOf rate true false ++ pointsOf rate true true))

/-- The cheapest `n` of two lists in rising order. -/
def cheapest : Nat → List (Int × List Bool) → List (Int × List Bool) → List (Int × List Bool)
  | 0, _, _ => []
  | n + 1, a :: as, b :: bs => if a.1 ≤ b.1 then a :: cheapest n as (b :: bs) else b :: cheapest n (a :: as) bs
  | n + 1, [], bs => bs.take (n + 1)
  | n + 1, as, [] => as.take (n + 1)

/-- Continuations with a bit put before them. -/
def withBit (b : Bool) (c : Int) (l : List (Int × List Bool)) : List (Int × List Bool) :=
  l.map fun x => (x.1 + c, b :: x.2)

/-- The trellis from a position on: for each remaining weight the 16 cheapest sequences, free of the first excluded sequence,
and those that have followed it so far. `costs` are those of the positions, `excl` its bits there. -/
def listSearch (w : Nat) : List (Int × Int) → List Bool → List (List (Int × List Bool) × List (Int × List Bool))
  | [], _ => List.replicate (w + 1) ([(0, [])], [])
  | c :: cs, excl =>
    let next := listSearch w cs excl.tail
    (List.range (w + 1)).map fun v =>
      let here := next.getD v ([], [])
      let less : List (Int × List Bool) × List (Int × List Bool) := if v = 0 then ([], []) else next.getD (v - 1) ([], [])
      (cheapest 16 (withBit false c.1 here.1) (withBit true c.2 less.1),
       if excl.headD false then cheapest 16 (withBit false c.1 here.1) (withBit true c.2 less.2)
       else withBit false c.1 here.2)

/-- The 16 most likely shell sequences of a block. -/
def shellList (rate : Nat) (ys : List Int) : List (Int × List Bool) :=
  let w := wMax rate
  let k := blockK rate
  let r := (listSearch w (ys.map (shellCost rate)) (dmSteps 96 (2 ^ k) w)).getD w ([], [])
  if 2 ^ k < sequencesN 96 w then r.2 else r.1

/-- The index of a shell sequence: the matcher undone (R191). -/
def dmIndex : List Bool → Nat → Nat
  | [], _ => 0
  | b :: bs, w => if b then sequencesN bs.length w + dmIndex bs (w - 1) else dmIndex bs w

/-- The cheapest cost among sequences of a list of (cost, index) whose input bit has a value, and whether there is one. -/
def bestOf (l : List (Int × Nat)) (i : Nat) (v : Bool) : Option Int :=
  l.foldl (fun m x => if x.2.testBit i == v then some (match m with | some a => min a x.1 | none => x.1) else m) none

/-- The ratio of the matcher input bit of weight 2^i: the max-log difference, or the decoder's limit,
above 0, where all agree. -/
def inputLlr (l : List (Int × Nat)) (i : Nat) : Int :=
  match bestOf l i true, bestOf l i false with
  | some a, some b => a - b
  | none, _ => (Config.llrLimit : Int) + 1
  | some _, none => -(Config.llrLimit : Int) - 1

/-- The b ratios of a block from its 96 dimensions, in the order of its coded bits. -/
def demap (rate : Nat) (ys : List Int) : List Int :=
  let seqs := (shellList rate ys).map fun x => (x.1, dmIndex x.2 (wMax rate))
  let k := blockK rate
  ys.map (signLlr rate) ++ (if is64 rate then ys.map (fineLlr rate) else [])
    ++ (List.range k).map fun i => inputLlr seqs (k - 1 - i)

/-- A group's hard decisions in the order of its coded bits: its blocks, less the bits before its first. A ratio of 0 reads
as 0. -/
def hardBits (rate off : Nat) (blocks : List (List Int)) : List Bool :=
  (((blocks.map (demap rate)).flatten.drop off).take 73728).map fun r => decide (r < 0)

/-- Every eighth bit from the first on. -/
def everyEighth : Nat → List Bool → List Bool
  | 0, _ => []
  | n + 1, bs => bs.headD false :: everyEighth n (bs.drop 8)

/-- Codeword `c` of a group deinterleaved (R189): its bit q of the group is bit 4,097 q + 1,152 c modulo 9,216; 7,169 is the
inverse of 4,097. -/
def deinterleave (c : Nat) (group : List Bool) : BitVec 9216 :=
  let row := (everyEighth 9216 (group.drop c)).toArray
  BitVec.ofNat 9216 ((List.range 9216).foldr (fun p n =>
    2 * n + b01 (row.getD ((p + 9216 - 1152 * c % 9216) * 7169 % 9216) false)) 0)

end Sys2Proof.Machine
end

