-- ==== Sys2Proof/Machine/ClkSel.lean ====
section
/-!
DEFINITION. Sys2Proof/Machine/ClkSel.lean: the reference candidates of the clock unit, their loss, and selection (R361 to R368).
-/
namespace Sys2Proof.Machine
open Sys2Proof

def State.modClk (s : State) (f : Clk → Clk) : State := { s with clk := f s.clk }

/-- Candidate `i`. -/
def cand (s : State) (i : Nat) : Cand := s.clk.cands.getD i {}

/-- Past WTR, valid, qualified and of PRIORITY other than 0 (R364). -/
def selectable (c : Cand) : Bool := c.valid && c.qual && c.wtr.isNone && c.prio != 0

/-- The sum of a full set of 8 windows in ppb: 8 times the average (R363). -/
def candSum (c : Cand) : Option Int :=
  if c.windows.length = 8 then some (c.windows.foldl (· + ·) 0) else none

/-- The average as a word in ppb, rounded down; with fewer than 8 windows there is none: a free value. -/
def candAvg (c : Cand) (s : State) : Word × State :=
  match candSum c with
  | some t => (wI (t / 8), s)
  | none => freeW s

/-- Status bits of a candidate (CLK_STATUS word 12 + c); a part of a second of WTR counts whole. -/
def candBits (s : State) (c : Cand) : Nat :=
  let left := match c.wtr with | some e => ceilDiv (e - s.hk) (secT 1) | none => 0
  onBit c.valid 0 + onBit c.qual 1 + onBit c.wtr.isSome 2 + onBit (selectable c) 3 + c.prio % 16 * 2 ^ 4
    + left % 4096 * 2 ^ 8 + c.windows.length % 16 * 2 ^ 20

/-- CAND_FAIL of candidate `i` (Table 14.8). A candidate of PRIORITY 0 raises none (R362). -/
def candAlarm (i : Nat) (s : State) : State :=
  let c := cand s i
  alarmIf (c.prio != 0 && !(c.valid && c.qual)) 0x8C13 0xA0 i [w32 i] s

/-- A candidate changed: EV_CAND_STATE if its validity, qualification or selectability did, and CAND_FAIL. -/
def setCand (i : Nat) (c : Cand) (s : State) : State :=
  let o := cand s i
  let s := s.modClk fun k => { k with cands := k.cands.set i c }
  let s := if o.valid != c.valid || o.qual != c.qual || selectable o != selectable c then
      let (a, s) := candAvg c s
      emit 0x8C02 0xA0 [w32 i, w32 (candBits s c), a] s
    else s
  candAlarm i s

/-! ## Selection (R366 to R368) -/

/-- Candidate `i` goes before candidate `j`: a smaller PRIORITY number; at equal PRIORITY the selected one, then the lower
index. -/
def ranksBefore (s : State) (i j : Nat) : Bool :=
  let p := (cand s i).prio
  let q := (cand s j).prio
  decide (p < q) || (p == q && s.clk.selected != some j && (s.clk.selected == some i || decide (i < j)))

/-- The highest-ranked selectable candidate. -/
def bestCand (s : State) : Option Nat :=
  (List.range 8).foldl (fun b i =>
    if selectable (cand s i) then
      match b with
      | none => some i
      | some j => if ranksBefore s i j then some i else some j
    else b) none

/-- The selected candidate is selectable. -/
def selectedGood (s : State) : Bool := match s.clk.selected with | some i => selectable (cand s i) | none => false

/-- The candidate selection asks for; none: holdover or free run. -/
def wanted (s : State) : Option Nat :=
  match s.clk.mode with
  | .holdover => none
  | .manual i => if selectable (cand s i) then some i else bestCand s
  | .auto => if s.clk.cfg.revertive = 0 ∧ selectedGood s then s.clk.selected else bestCand s

/-- MANUAL ends when its candidate stops being selectable (R368). -/
def endManual (s : State) : State :=
  match s.clk.mode with
  | .manual i => if selectable (cand s i) then s else s.modClk fun k => { k with mode := .auto }
  | _ => s

/-- The clock unit follows a candidate. -/
def clkTracks (s : State) : Bool := s.clk.st == .acquiring || s.clk.st == .locked

/-- The selection is made again: a switch, or the entry to holdover, begins if another outcome is asked for, and
completes with CLK_SWITCH_COMPLETE. A switch already in progress keeps its cause. -/
def reselect (cause : Nat) (s : State) : State :=
  let s := endManual s
  let change := match wanted s with
    | some i => s.clk.selected != some i
    | none => clkTracks s
  if change && s.clk.switching.isNone then s.modClk fun k => { k with switching := some cause } else s

/-- A candidate is invalidated: disqualified at once, and the selected one's loss starts a switch (R361, R363, R366). -/
def candLost (i : Nat) (s : State) : State :=
  let c := cand s i
  if !c.valid then s
  else
    reselect 0 (setCand i { c with valid := false, qual := false, windows := [], wtr := none }
      (ctrAdd s (sel 0xA0 0 0x0C05) 1))

end Sys2Proof.Machine
end

