-- ==== Sys2Proof/Machine/LineState.lean ====
section
/-!
DEFINITION. Sys2Proof/Machine/LineState.lean: what follows from a change of a line port's conditions: sample tap triggers,
defects and their masks, signal fail and degrade (R121, R223 to R226), and acquisition entries (R147 to R149).
-/
namespace Sys2Proof.Machine
open Sys2Proof

/-! ## Sample tap -/

def tapStNum : TapSt → Nat
  | .idle => 0
  | .armed => 1
  | .triggered => 2
  | .done => 3
  | .aborted => 4

/-- A 64-bit number as LO and HI words. -/
def nat64 (n : Nat) : List Word := [w32 n, w32 (n / 2 ^ 32)]

/-- The tap changes state: EV_TAP_STATE (Table 4.11). -/
def setTap (p : Lp) (st : TapSt) (cause : Nat) (s : State) : State :=
  let t := (s.port p).conv.tap
  if t.st = st then s
  else
    let n := tapBytes t s.hk
    let t' : Tap := match st with
      | .armed => { t with st, since := s.hk, written := 0, trigAt := 0, spans := [], base := s.freeCtr, bad := [] }
      | .triggered => { t with st, trigAt := tapPlace t (tapCycleSample t s.hk) }
      | _ => { t with st, written := n }
    let s := if st = .armed then { s with freeCtr := s.freeCtr + 1 } else s
    noteDac p <| emit 0x8203 (lpT p) ([w32 (tapStNum t.st), w32 (tapStNum st)] ++ nat64 (t'.trigAt % tapSize t) ++ [w32 cause])
      (s.modTap p fun _ => t')

/-- A trigger reaches the tap; ignored unless it is ARMED (R121). -/
def tapFire (p : Lp) (s : State) : State :=
  if (s.port p).conv.tap.st = .armed then setTap p .triggered 0 s else s

/-- An event selected in EVT_MASK triggers the tap in EVENT mode (Table 4.7). -/
def tapEvent (p : Lp) (i : Nat) (s : State) : State :=
  let t := (s.port p).conv.tap
  if t.trigger = 2 ∧ bit t.evtMask i then tapFire p s else s

/-- SYNTH_UNLOCK or the port leaving service aborts a capture, in ARMED and TRIGGERED (R121; DESIGN CHOICE, log entry
128). -/
def tapAbort (p : Lp) (cause : Nat) (s : State) : State :=
  if tapWriting (s.port p).conv.tap then setTap p .aborted cause s else s

/-! ## Defects, SF and SD -/

/-- An alarm of a port is raised on any of its four channels. -/
def anyChan (s : State) (code t : Nat) : Bool := (List.range 4).any fun i => raised s code t i

/-- TRACK or LOCK_HOLD (R220). -/
def tracking (s : State) (p : Lp) : Bool :=
  (s.port p).dsp.acq.st == .track || (s.port p).dsp.acq.st == .lockHold

/-- TIM before masks (R223). -/
def timCond (f : Frame) : Bool :=
  match f.traceAcc with
  | some t => decide (1 ≤ f.cfg.timLen) && decide (t.take f.cfg.timLen ≠ f.cfg.expTrace.take f.cfg.timLen)
  | none => false

/-- PLM before masks (R223). -/
def plmCond (f : Frame) : Bool :=
  match f.labelAcc with
  | some l => f.cfg.plmEnable == 1 && decide (l ≠ if f.cfg.expLabel = 0x100 then f.txLabel else f.cfg.expLabel)
  | none => false

/-- The defects present: LOS, OOF, LOF, AIS, RDI, TIM, PLM in bits 0 to 6 (Table 8.5 with its masks; R111, R233). -/
def defectsOf (s : State) (p : Lp) : Nat :=
  let f := (s.port p).frame
  let c := (s.port p).conv
  let svc := inService s p
  let inh := f.inhibit.isSome
  let los := svc && c.los && !c.loop
  let oof := svc && f.align != .inFrame && tracking s p && !inh && !los
  let lof := svc && f.lof && !inh && !los
  let m := los || oof || lof
  let ais := svc && f.ais && !m
  let rdi := svc && f.rdi && !m
  let tim := svc && timCond f && !m && !ais
  let plm := svc && plmCond f && !m && !ais
  onBit los 0 + onBit oof 1 + onBit lof 2 + onBit ais 3 + onBit rdi 4 + onBit tim 5 + onBit plm 6

/-- Signal fail (R225). -/
def sfOf (s : State) (p : Lp) : Bool :=
  let d := (s.port p).frame.defects
  let t := lpT p
  inService s p && (bit d 0 || bit d 1 || bit d 2 || bit d 6
    || (bit d 5 && (s.port p).frame.cfg.timAction == 1)
    || raised s 0x8214 t 0 || anyChan s 0x8212 t
    || raised s 0x8310 t 0 || raised s 0x8311 t 0
    || raised s 0x8511 t 0 || raised s 0x8710 t 0)

/-- Signal degrade (R225). -/
def sdOf (s : State) (p : Lp) : Bool :=
  inService s p && !sfOf s p && (anyChan s 0x8211 (lpT p) || raised s 0x8510 (lpT p) 0)

/-- The LOF timer follows OOF and IN_FRAME (Table 8.5): it starts when the condition towards a change begins and stops
when it breaks. -/
def lofTimerOf (s : State) (p : Lp) : Option Nat :=
  let f := (s.port p).frame
  let want := if f.lof then f.align == .inFrame else bit (defectsOf s p) 1
  if !want then none else match f.lofTimer with | some t => some t | none => some (s.hk + msT 3)

/-- Alarms of the defects follow them (Table 8.15). -/
def defectAlarms (p : Lp) (new : Nat) (s : State) : State :=
  (List.range 7).foldl (fun s i => alarmIf (bit new i) (0x8610 + i) (lpT p) 0 [] s) s

/-- SF_DISAGREE holds (R312): a WARM spare shadows the port in TRACK, the serving engine reports ACQ_FAIL, DSP_UNLOCK or
FEC_EXCESS, and the port shows neither LOS nor CONV_FAIL or SYNTH_UNLOCK. -/
def disagrees (s : State) (p : Lp) : Bool :=
  let t := lpT p
  inService s p && (s.port p).dsp.spareAcq.st == .track
    && (match shadowEng s p with | some e => (s.engine e).st == .warm && !(s.engine e).burnish | none => false)
    && (raised s 0x8310 t 0 || raised s 0x8311 t 0 || raised s 0x8511 t 0)
    && !bit (s.port p).frame.defects 0 && !anyChan s 0x8212 t && !raised s 0x8214 t 0

/-- The 10 us towards SF_DISAGREE start when the condition begins and stop when it breaks. -/
def disagreeTimer (p : Lp) (s : State) : State :=
  let on := disagrees s p
  let end_ (o : Option Nat) : Option Nat := match o with | some t => some t | none => some (s.hk + usT 10)
  s.modProtPort p fun x => { x with disagree := if on then end_ x.disagree else none }

/-- The serving engine's acquisition is in TRACK. -/
def inTrack (s : State) (p : Lp) : Bool := (s.port p).dsp.acq.st == .track

/-- The line-recovered clock of a port is lost outside TRACK and under CONV_LOOP (Table 14.1, R139). -/
def lineClock (p : Lp) (s : State) : State :=
  if inTrack s p && !(s.port p).conv.loop then s else candLost (6 + lpNum p) s

/-- A line port's defects, SF and SD brought up to date after any change of its conditions (R224 to R226, R238). -/
def refreshPort (p : Lp) (s : State) : State :=
  let s := lineClock p s
  let old := (s.port p).frame.defects
  let new := defectsOf s p
  let s := s.modFrame p fun f => { f with defects := new, lofTimer := lofTimerOf s p }
  let s := defectAlarms p new s
  let s := if bit new 1 && !bit old 1 then
      tapEvent p 3 (lpCount (s.modFrame p fun f => { f with acc := { f.acc with oofEntries := f.acc.oofEntries + 1 } })
        p 0x0608 1)
    else s
  let s := if bit new 0 && !bit old 0 then tapEvent p 0 s else s
  let s := if bit new 2 && !bit old 2 then releasePortLocks (ibPort p) s else s
  let sf := sfOf s p
  let sd := sdOf s p
  apsInput p sf sd (disagreeTimer p ((noteDac p s).modFrame p fun f => { f with
    sf := sf, sd := sd,
    acc := { f.acc with defects := f.acc.defects ||| new ||| onBit sf 7 ||| onBit sd 8 } }))

/-! ## Acquisition (R145 to R149) -/

/-- Codes of Table 5.6. -/
def acqNum : AcqSt → Nat
  | .idle => 0
  | .waitSignal => 1
  | .cdSearch => 2
  | .freqAcq => 3
  | .cma => 4
  | .pilotSync => 5
  | .ddConverge => 6
  | .track => 7
  | .profileLoad => 8
  | .lockHold => 9

/-- A port's acquisition, of the serving engine or of a spare. -/
def acqOf (s : State) (p : Lp) (spare : Bool) : Acq :=
  if spare then (s.port p).dsp.spareAcq else (s.port p).dsp.acq

def modAcq (s : State) (p : Lp) (spare : Bool) (f : Acq → Acq) : State :=
  s.modDsp p fun d => if spare then { d with spareAcq := f d.spareAcq } else { d with acq := f d.acq }

/-- What the receive processing of the serving engine or of a spare applies. -/
def recvOf (s : State) (p : Lp) (spare : Bool) : Recv :=
  if spare then (s.port p).dsp.spareRecv else (s.port p).dsp.recv

def modRecv (p : Lp) (spare : Bool) (f : Recv → Recv) (s : State) : State :=
  s.modDsp p fun d => if spare then { d with spareRecv := f d.spareRecv } else { d with recv := f d.recv }

/-- The equaliser holds the coefficients it has now: free values, 64 taps of four filters (log entry 5). -/
def holdEq (p : Lp) (spare : Bool) (s : State) : State :=
  { modRecv p spare (fun r => { r with eqBase := s.freeCtr }) s with freeCtr := s.freeCtr + 256 }

/-- A profile of a port is valid. -/
def profileOf (s : State) (p : Lp) (i : Nat) : Profile := SMap.get {} (s.port p).dsp.profiles i

/-- Every estimate of a port loses its VALID bit (R152). -/
def unvalidate (e : Estimates) : Estimates :=
  { e with vOsnr := false, vBer := false, vCd := false, vDgd := false, vFreq := false, vSop := false }

/-- The alarms of Table 5.14 clear when the port goes IDLE (R160). -/
def clearDspAlarms (p : Lp) (s : State) : State :=
  (List.range 7).foldl (fun s i => clearAlarm (0x8310 + i) (lpT p) 0 [] s) s

/-- The alignment goes to HUNT (Table 8.4): the decoder stops (R203), and EV_ALIGN_STATE is raised on a change. -/
def toHunt (p : Lp) (s : State) : State :=
  let f := (s.port p).frame
  let num := match f.align with | .hunt => 0 | .confirm => 1 | .inFrame => 2
  let s := s.modFrame p fun f => { f with align := .hunt, badRun := 0, robust := [], rxBip := none,
                                          prevErrored := false, traceNext := none, traceBuf := [] }
  let s := s.modCod p fun c => { c with grid := none, restarts := [], cw := 0, bytes := [], flagged := [], last := none }
  if num = 0 then s else emit 0x8601 (lpT p) [w32 num, w32 0, w32 f.lastRecord] s

/-- EV_ACQ_STATE of the serving engine (Table 5.13). -/
def acqEvent (p : Lp) (prev : AcqSt) (s : State) : State :=
  let a := (s.port p).dsp.acq
  emit 0x8301 (lpT p) [w32 (acqNum prev), w32 (acqNum a.st), w32 (b01 a.onProfile), w32 a.profile, w32 a.lastUs] s

/-- An acquisition enters a state; LOCK_HOLD freezes the equaliser (R148). Leaving TRACK and LOCK_HOLD takes the alignment to HUNT; outside
TRACK the estimates are not valid. EV_ACQ_STATE on TRACK, WAIT_SIGNAL and LOCK_HOLD. -/
def enterAcq (p : Lp) (spare : Bool) (st : AcqSt) (s : State) : State :=
  let prev := (acqOf s p spare).st
  let s := modAcq s p spare fun a => { a with st, stFrom := s.hk }
  let s := if st = .lockHold then holdEq p spare s else s
  if spare then
    if st = .track then s else s.modDsp p fun d => { d with spareEst := unvalidate d.spareEst, spareWhole := false }
  else
    let s := if st = .track then s else s.modDsp p fun d => { d with est := unvalidate d.est, wholeTrack := false }
    let s := if st = .track ∨ st = .lockHold then s else toHunt p s
    let s := if prev ≠ st ∧ (st = .track ∨ st = .waitSignal ∨ st = .lockHold) then acqEvent p prev s else s
    refreshPort p s

/-- Every DSP_ACQUIRE outstanding on a port ends with a final state (Table 5.11). -/
def acquireDone (p : Lp) (st : AcqSt) (s : State) : State :=
  let a := (s.port p).dsp.acq
  s.host.deferred.foldl (fun s' _ => completeUnit 0x0307 (lpT p) stOk 0
    [w32 (acqNum st), w32 (b01 a.onProfile), w32 ((s.hk - a.from_) / 192000)] s') s

/-- The port's acquisition goes IDLE (R147, R160). -/
def acqIdle (p : Lp) (spare : Bool) (s : State) : State :=
  if (acqOf s p spare).st = .idle then s
  else if spare then
    s.modDsp p fun d => { d with spareAcq := {}, spareEst := unvalidate d.spareEst, spareWhole := false }
  else
    let s := acquireDone p .idle s
    let s := modAcq s p false fun a => { a with st := .idle, onProfile := false, profile := 31, held := none,
                                                stFrom := s.hk }
    let s := s.modDsp p fun d => { d with est := unvalidate d.est, wholeTrack := false, dgdLow := false,
                                          dgdSum := 0, dgdCount := 0, cdOut := none, cdIn := none,
                                          sopSlow := none, dgdWindow := none }
    refreshPort p (clearDspAlarms p (toHunt p s))

/-- The cold path within an acquisition that goes on: CD_SEARCH (ACQ_STARTS counts). -/
def fallCold (p : Lp) (spare : Bool) (s : State) : State :=
  let s := modAcq s p spare fun a => { a with onProfile := false, profile := 31, coldFrom := s.hk }
  let s := if spare then s else lpCount s p 0x0301 1
  enterAcq p spare .cdSearch s

/-- An acquisition begins on the cold path. -/
def startCold (p : Lp) (spare : Bool) (s : State) : State :=
  fallCold p spare (modAcq s p spare fun a => { a with from_ := s.hk })

/-- The profile path begins with profile `i`: PROFILE_LOAD. -/
def startProfile (p : Lp) (spare : Bool) (i : Nat) (s : State) : State :=
  let s := modAcq s p spare fun a => { a with onProfile := true, profile := i, from_ := s.hk }
  let s := if spare then s else lpCount s p 0x0301 1
  enterAcq p spare .profileLoad s

/-- The order of R149: PROFILE_NEXT if valid (then cleared), else LAST, else the cold path. -/
def startByOrder (p : Lp) (s : State) : State :=
  let d := (s.port p).dsp
  if d.profileNext ≠ 31 ∧ (profileOf s p d.profileNext).valid then
    startProfile p false d.profileNext (s.modDsp p fun d => { d with profileNext := 31 })
  else if (profileOf s p 16).valid then startProfile p false 16 s
  else startCold p false s

/-- An engine that starts as a spare uses LAST or the cold path and leaves PROFILE_NEXT (R149). -/
def startByLast (p : Lp) (spare : Bool) (s : State) : State :=
  if (profileOf s p 16).valid then startProfile p spare 16 s else startCold p spare s

/-- An engine begins to run on the port: WAIT_SIGNAL, and on from there when the loss-of-signal condition is clear, or
CONV_LOOP brings the port's own samples, and the synthesiser is locked (R110, R116, R147). -/
def acqBegin (p : Lp) (spare last : Bool) (s : State) : State :=
  if spare then spareBegin p s
  else
    let s := enterAcq p false .waitSignal s
    let c := (s.port p).conv
    if (c.los && !c.loop) || c.synth != .locked then s
    else if last then startByLast p false s else startByOrder p s

/-- WAIT_SIGNAL ends: the path DSP_ACQUIRE held, else the order of R149. -/
def acqSignal (p : Lp) (s : State) : State :=
  let s := if (s.port p).dsp.acq.st = .waitSignal then
      match (s.port p).dsp.acq.held with
      | some (onP, i) =>
        let s := modAcq s p false fun a => { a with held := none }
        if onP then startProfile p false i s else startCold p false s
      | none => startByOrder p s
    else s
  if (s.port p).dsp.spareAcq.st = .waitSignal then startByLast p true s else s

end Sys2Proof.Machine
end

