-- ==== Sys2Proof/Machine/Dsp.lean ====
section
/-!
DEFINITION. Sys2Proof/Machine/Dsp.lean: Transmit and Receive Signal Processing: parameters, filter sizing, acquisition,
path profiles, estimates and alarms, and the opcodes of Table 5.11.
-/
namespace Sys2Proof.Machine
open Sys2Proof

/-! ## Derived quantities -/

/-- SR of the point in force in MBd (R127, R86). -/
def portSr (s : State) (p : Lp) : Nat := srMBd (s.port p).mode.running

/-- The CD range of the point in force (R78). -/
def portCd (s : State) (p : Lp) : Nat := cdOf (s.port p).mode.running

/-- k * (310 / SR)^2, rounded down (R131). -/
def srScale (k sr : Nat) : Nat := k * (310000 * 310000) / (sr * sr)

/-- PRE_MAX in ps/nm (R131). -/
def preMax (sr : Nat) : Nat := min 20000 (srScale 2000 sr)

/-- A value held within plus or minus a limit. -/
def clampI (v : Int) (lim : Nat) : Int := max (-(lim : Int)) (min (lim : Int) v)

/-- N_CD for a CD range of cd / k (R134, R142): every factor exact. -/
def nCd (cd k sr roll f : Nat) : Nat :=
  ceilDiv (cd * 299792458 * sr * (100 + roll) * 2 * sr) (k * f * f * 1000 * 1000 * 1000 * 100)

/-- NOV / 256. -/
def nov256 (n : Nat) : Nat := ceilDiv n 256

/-- The least power of 2 from 2^k on that is not below n, as its exponent, trying `f` exponents. -/
def log2Up (n : Nat) : Nat → Nat → Nat
  | 0, k => k
  | f + 1, k => if n ≤ 2 ^ k then k else log2Up n f (k + 1)

/-- log2 of NFFT: NFFT is at least 4,096 and at most 262,144. -/
def log2Nfft (nov : Nat) : Nat := log2Up (2 * (256 * nov)) 6 12

/-- The number of partial filters of a point (R142). -/
def nlcParts (g : ModePoint) : Nat := if g.nlc then max 1 g.nlcSteps else 1

/-- DSP_STATUS word 5: log2 NFFT and NOV / 256 of the filter in force. -/
def filterWord (s : State) (p : Lp) : Nat :=
  let m := (s.port p).mode
  let rx := (s.port p).dsp.rx
  let nov := nov256 (nCd (cdOf m.running) (nlcParts m.running) (portSr s p) rx.rolloff rx.carrier)
  log2Nfft nov + nov % 2 ^ 13 * 2 ^ 8

/-- Adaptation profile of a REACH: CMA_K, LMS_K, EQ_UPDATE, TR_BW, CPR_AVG (Table 5.3). -/
def reachProfile : Reach → List Nat
  | .metro => [10, 12, 2, 20, 8]
  | .regional => [11, 13, 4, 10, 8]
  | .longhaul => [12, 14, 4, 5, 12]

/-- The effective values of CMA_K, LMS_K, EQ_UPDATE, TR_BW and CPR_AVG (R137). -/
def effective (r : DspRx) (reach : Reach) : List Nat :=
  ([r.cmaK, r.lmsK, r.eqUpdate, r.trBw, r.cprAvg].zip (reachProfile reach)).map fun x =>
    if x.1 = 0 then x.2 else x.1

/-- CD_SET held within the granted range (R135). -/
def clampCd (s : State) (p : Lp) (v : Int) : Int := clampI v (portCd s p)

/-! ## TX_CD_PRECOMP (R131, R132) -/

/-- The time a ramp of a distance takes: 20 ps/nm per ms. -/
def rampTicks (d : Nat) : Nat := d * 9600000

/-- The value the ramp has reached, in whole ps/nm. -/
def rampNow (d : Dsp) (t : Nat) : Int :=
  if d.ramping then
    let k : Int := (((t - d.rampAt) / 9600000 : Nat) : Int)
    if d.rampFrom ≤ d.rampTo then min d.rampTo (d.rampFrom + k) else max d.rampTo (d.rampFrom - k)
  else d.rampTo

/-- The applied value follows the requested one within PRE_MAX, ramping from the value reached. -/
def rampGo (p : Lp) (s : State) : State :=
  let goal := clampI (s.port p).dsp.tx.cdPre (preMax (portSr s p))
  s.modDsp p fun d =>
    let v := rampNow d s.hk
    { d with rampFrom := v, rampAt := s.hk, rampTo := goal, ramping := decide (v ≠ goal) }

/-- SR has changed: a value beyond the new PRE_MAX is applied at its limit at once; the rest ramps (R131). -/
def rampRederive (p : Lp) (s : State) : State :=
  rampGo p (s.modDsp p fun d =>
    let v := clampI (rampNow d s.hk) (preMax (portSr s p))
    { d with rampFrom := v, rampAt := s.hk, rampTo := v, ramping := false })

/-- TX_CD_RAMP_END. -/
def execTxCdRampEnd (p : Lp) (dt : Nat) (s : State) : Host.Outcome State Fault Refusal :=
  let s := advance dt s
  let d := (s.port p).dsp
  .next (if running s && d.ramping && decide (d.rampAt + rampTicks (d.rampTo - d.rampFrom).natAbs ≤ s.hk) then
      s.modDsp p fun d => { d with rampFrom := d.rampTo, ramping := false }
    else s)

/-! ## Profiles (R149 to R151) -/

/-- The principal state or SOP as two words (Table 5.7). -/
def stokesWords (v : List Int) : List Word :=
  [w32 (uns 16 (v.getD 0 0) + uns 16 (v.getD 1 0) * 2 ^ 16), w32 (uns 16 (v.getD 2 0))]

def stokesOf (a b : Nat) : List Int := [sgn 16 a, sgn 16 (a / 2 ^ 16), sgn 16 b]

/-- The words of Table 5.7. -/
def profileWords (x : Profile) : List Word :=
  [w32 (b01 x.valid + 2 * b01 x.byHost), x.label, w32 x.sr, wI x.cd, w32 (x.dgd % 2 ^ 16)] ++ stokesWords x.ps
    ++ stokesWords x.sop ++ [wI x.freqMHz] ++ uptimeWords x.uptime

/-- A profile is put at an index. -/
def putProfile (p : Lp) (i : Nat) (x : Profile) (s : State) : State :=
  s.modDsp p fun d => { d with profiles := SMap.set {} d.profiles i x }

/-- A frequency in MHz from kHz, to the nearest. -/
def mhzOf (k : Int) : Int := (k + 500) / 1000

/-- The present values as a profile. -/
def presentProfile (s : State) (p : Lp) (label : Word) : Profile :=
  let d := (s.port p).dsp
  { valid := true, byHost := false, label, sr := portSr s p, cd := d.recv.cdSet, dgd := d.est.dgd, ps := d.est.ps,
    sop := d.est.sop, freqMHz := mhzOf d.est.freqKHz, uptime := uptime s }

/-- LAST is written: in TRACK with CONV_LOOP off (R150). -/
def writeLast (p : Lp) (s : State) : State :=
  if inTrack s p && !(s.port p).conv.loop then putProfile p 16 (presentProfile s p 0) s else s

/-- LAST_PROFILE_UPDATE (R150): every 10 ms, by engine hardware. -/
def execLastProfileUpdate (p : Lp) (dt : Nat) (s : State) : Host.Outcome State Fault Refusal :=
  let s := advance dt s
  .next (if running s then writeLast p s else s)

/-! ## Alarms with a persistence (Table 5.14) -/

/-- A timer follows a condition: it starts when the condition begins and stops when it ends. -/
def timerIf (b : Bool) (t : Option Nat) (end_ : Nat) : Option Nat :=
  if b then (match t with | some e => some e | none => some end_) else none

/-- The timers of CD_OUT_OF_RANGE follow an estimated CD. -/
def cdTimers (p : Lp) (cd : Int) (s : State) : State :=
  let r := portCd s p
  let out := decide (51 * r < 50 * cd.natAbs)
  let back := raised s 0x8312 (lpT p) 0 && decide (cd.natAbs ≤ r)
  s.modDsp p fun d => { d with cdOut := timerIf out d.cdOut (s.hk + msT 100), cdIn := timerIf back d.cdIn (s.hk + secT 1) }

/-- FREQ_OFFSET_HIGH. -/
def freqAlarm (p : Lp) (f : Int) (s : State) : State :=
  if 3000000 < f.natAbs then raiseAlarm 0x8314 (lpT p) 0 [] s
  else if f.natAbs < 2500000 then clearAlarm 0x8314 (lpT p) 0 [] s
  else s

/-- A 10 s average of DGD is complete: DGD_HIGH. A window without an update has no average. -/
def dgdWindowEnd (p : Lp) (s : State) : State :=
  let d := (s.port p).dsp
  let tol := dgdTol (portSr s p) * 10 * d.dgdCount
  let low := d.dgdCount != 0 && decide (10 * d.dgdSum ≤ 9 * tol)
  let s := s.modDsp p fun d => { d with dgdWindow := some (s.hk + secT 10), dgdSum := 0, dgdCount := 0, dgdLow := low }
  if tol < d.dgdSum then raiseAlarm 0x8313 (lpT p) 0 [] s
  else if low && d.dgdLow then clearAlarm 0x8313 (lpT p) 0 [] s
  else s

/-- DSP_ALARM_TIMER_EXPIRY (R160): `alarm` is the event code of the alarm whose persistence ran out. -/
def dspAlarmTimer (p : Lp) (alarm : Nat) (s : State) : State :=
  let d := (s.port p).dsp
  if alarm = 0x8312 then
    if due d.cdOut s.hk then raiseAlarm 0x8312 (lpT p) 0 [] (s.modDsp p fun d => { d with cdOut := none })
    else if due d.cdIn s.hk then clearAlarm 0x8312 (lpT p) 0 [] (s.modDsp p fun d => { d with cdIn := none })
    else s
  else if alarm = 0x8313 then (if due d.dgdWindow s.hk then dgdWindowEnd p s else s)
  else if alarm = 0x8316 then
    if due d.sopSlow s.hk then clearAlarm 0x8316 (lpT p) 0 [] (s.modDsp p fun d => { d with sopSlow := none }) else s
  else s

def execDspAlarmTimerExpiry (p : Lp) (alarm dt : Nat) (s : State) : Host.Outcome State Fault Refusal :=
  let s := advance dt s
  .next (if running s then dspAlarmTimer p alarm s else s)

/-! ## Acquisition (R145 to R149) -/

/-- The bound of a state on the profile path (Table 5.6). -/
def profileBound : AcqSt → Option Nat
  | .profileLoad => some (usT 20)
  | .freqAcq => some (usT 40)
  | .cma => some (usT 150)
  | .pilotSync => some (usT 40)
  | .ddConverge => some (usT 40)
  | _ => none

/-- A cold-path state that is not TRACK. -/
def coldState : AcqSt → Bool
  | .cdSearch | .freqAcq | .cma | .pilotSync | .ddConverge => true
  | _ => false

/-- The cold sum. -/
def coldSum : Nat := usT 19900

/-- The next state of Table 5.6. -/
def acqNext : AcqSt → AcqSt
  | .cdSearch | .profileLoad => .freqAcq
  | .freqAcq => .cma
  | .cma => .pilotSync
  | .pilotSync => .ddConverge
  | _ => .track

/-- What DSP_UNLOCK and ACQ_FAIL raised clears at TRACK (Table 5.14). -/
def clearAcqAlarms (p : Lp) (s : State) : State :=
  refreshPort p (clearAlarm 0x8311 (lpT p) 0 [] (clearAlarm 0x8310 (lpT p) 0 [] s))

/-- The serving engine's start-up ends 1 s after the first TRACK (R163). -/
def markFirstTrack (p : Lp) (spare : Bool) (s : State) : State :=
  match (if spare then shadowEng s p else servingEng s p) with
  | some e => s.modEngine e fun x => match x.startup with
    | some none => { x with startup := some (some (s.hk + secT 1)) }
    | _ => x
  | none => s

/-- TRACK is reached with the values acquisition found. -/
def reachTrack (p : Lp) (spare : Bool) (m : EstMeas) (s : State) : State :=
  let a := acqOf s p spare
  let s := markFirstTrack p spare (modAcq s p spare fun a => { a with lastUs := (s.hk - a.from_) / 192000 })
  if spare then enterAcq p true .track (s.modDsp p fun d => { d with
    spareEst := { d.spareEst with dgd := m.dgd, ps := m.ps, sop := m.sop, freqKHz := m.freqKHz } })
  else
    let s := lpCount s p (if a.onProfile then 0x0303 else 0x0302) 1
    let s := s.modDsp p fun d => { d with
        est := { d.est with dgd := m.dgd, ps := m.ps, sop := m.sop, freqKHz := m.freqKHz } }
    let s := clearAcqAlarms p (enterAcq p false .track s)
    writeLast p (acquireDone p .track s)

/-- PROFILE_LOAD: CD_SET, held to the granted range, bulk PMD, SOP and frequency offset of the profile (R151). -/
def loadProfile (p : Lp) (spare : Bool) (s : State) : State :=
  let x := profileOf s p (acqOf s p spare).profile
  modRecv p spare (fun r => { r with
    cdSet := clampCd s p x.cd, dgd := x.dgd, ps := x.ps, sop := x.sop, freqKHz := 1000 * x.freqMHz }) s

/-- The DGD the bulk PMD correction removes: up to 3.5 times the mean tolerance (R136). -/
def bulkDgd (s : State) (p : Lp) (dgd : Nat) : Nat := min dgd (35 * dgdTol (portSr s p))

/-- The I/Q imbalance corrected: within 3 dB and 15 degrees (R133). -/
def takeIq (m : EstMeas) (r : Recv) : Recv :=
  { r with iqGain := (List.range 2).map fun i => clampI (m.iqGain.getD i 0) 300,
           iqPhase := (List.range 2).map fun i => clampI (m.iqPhase.getD i 0) 1500 }

/-- The receive skew applied: the running estimate, or RX_SKEW as set (R133). -/
def appliedSkew (s : State) (p : Lp) (spare : Bool) : List Int :=
  if (s.port p).dsp.rx.skewAuto = 1 then (recvOf s p spare).skew else (s.port p).dsp.rx.skew

/-- Pilot lock holds or is reached: at least 3/4 of the last 1,024 pilots are in their regions (R146). -/
def pilotsGood (n : Nat) : Bool := decide (3 * 1024 ≤ 4 * n)

/-- Pilot lock is lost: fewer than 1/2 are. -/
def pilotsLost (n : Nat) : Bool := decide (2 * n < 1024)

/-- Pilot slots of a list that are good on a port. -/
def goodPilots (s : State) (p : Lp) (xs : List PilotSlot) : Nat := goodSlots (s.port p).cod.hdr xs

/-- Cycle slips among carried phases and the pilots of the next pilot block each: the pilot phase is averaged over CPR_AVG
pilots (R141). -/
def slipCount (s : State) (p : Lp) (xs : List (Int × List PilotSlot)) : Nat :=
  let avg := (effective (s.port p).dsp.rx (s.port p).mode.running.reach).getD 4 1
  (xs.filter fun x => !x.2.isEmpty && slipQuarters x.1 (pilotPhase (slotPhases none x.2.reverse).reverse avg) % 4 != 0).length

/-- A state's work is complete with the values found: the frequency offset within 3.5 GHz on the cold path and within
200 MHz of the profile's on the profile path, the timing loop within 200 ppm, pilot lock (Table 5.6, R139, R140, R146). -/
def workDone (s : State) (p : Lp) (spare : Bool) (m : EstMeas) : Bool :=
  let a := acqOf s p spare
  match a.st with
  | .freqAcq => if a.onProfile then decide ((m.freqKHz - (recvOf s p spare).freqKHz).natAbs ≤ 200000)
                else decide (m.freqKHz.natAbs ≤ 3500000)
  | .pilotSync => decide (m.timing.natAbs ≤ 20000)
  | .ddConverge => pilotsGood (goodPilots s p m.pilots)
  | _ => true

/-- What a state's work leaves (Table 5.6). -/
def workLeaves (p : Lp) (spare : Bool) (m : EstMeas) (s : State) : State :=
  match (acqOf s p spare).st with
  | .cdSearch =>
    let s := modRecv p spare (fun r => takeIq m { r with cdSet := clampCd s p m.cd, skew := (s.port p).dsp.rx.skew }) s
    if spare then s else cdTimers p m.cd s
  | .profileLoad => loadProfile p spare s
  | .freqAcq => modRecv p spare (fun r => { r with freqKHz := m.freqKHz }) s
  | .cma => modRecv p spare (fun r => { r with dgd := bulkDgd s p m.dgd, ps := m.ps, sop := m.sop }) s
  | .pilotSync => modRecv p spare (fun r => { r with timing := m.timing }) s
  | _ => s

/-- A state's work is done (R147, R135, R151). -/
def acqAdvance (p : Lp) (spare : Bool) (m : EstMeas) (s : State) : State :=
  let a := acqOf s p spare
  let s := workLeaves p spare m s
  if acqNext a.st = .track then reachTrack p spare m s else enterAcq p spare (acqNext a.st) s

/-- ACQ_STATE_COMPLETE (R147): within the bound of the state on its path. -/
def execAcqStateComplete (p : Lp) (spare : Bool) (m : EstMeas) (dt : Nat) (s : State) :
    Host.Outcome State Fault Refusal :=
  let s := advance dt s
  let a := acqOf s p spare
  let inTime := if a.onProfile then
      (match profileBound a.st with | some b => decide (s.hk ≤ a.stFrom + b) | none => false)
    else coldState a.st && decide (s.hk ≤ a.coldFrom + coldSum)
  .next (if running s && inTime && workDone s p spare m then pump (acqAdvance p spare m s) else s)

/-- A profile-path bound expires: EV_ACQ_STATE, ACQ_PROFILE_FALLBACK, CD_SEARCH. -/
def profileFallback (p : Lp) (spare : Bool) (s : State) : State :=
  if spare then fallCold p true s
  else
    let a := (s.port p).dsp.acq
    let s := lpCount s p 0x0304 1
    fallCold p false (emit 0x8301 (lpT p)
      [w32 (acqNum a.st), w32 (acqNum .cdSearch), w32 1, w32 a.profile, w32 a.lastUs] s)

/-- ACQ_PROFILE_BOUND_EXPIRY (R147). -/
def execAcqProfileBoundExpiry (p : Lp) (spare : Bool) (dt : Nat) (s : State) : Host.Outcome State Fault Refusal :=
  let s := advance dt s
  let a := acqOf s p spare
  .next (match profileBound a.st with
    | some b => if running s && a.onProfile && decide (a.stFrom + b ≤ s.hk) then profileFallback p spare s else s
    | none => s)

/-- The cold sum expires: ACQ_FAIL, DSP_ACQUIRE ends in the state it expired in, CD_SEARCH again (R147, R158). -/
def coldExpire (p : Lp) (spare : Bool) (s : State) : State :=
  if spare then fallCold p true s
  else
    let s := lpCount s p 0x0305 1
    let s := refreshPort p (raiseAlarm 0x8310 (lpT p) 0 [] s)
    fallCold p false (acquireDone p (s.port p).dsp.acq.st s)

/-- ACQ_COLD_SUM_EXPIRY (R147). -/
def execAcqColdSumExpiry (p : Lp) (spare : Bool) (dt : Nat) (s : State) : Host.Outcome State Fault Refusal :=
  let s := advance dt s
  let a := acqOf s p spare
  .next (if running s && !a.onProfile && coldState a.st && decide (a.coldFrom + coldSum ≤ s.hk) then
      pump (coldExpire p spare s)
    else s)

/-- TRACK is left for good: DSP_UNLOCK, and the order of R149 (a spare: LAST or cold). -/
def unlockPort (p : Lp) (spare : Bool) (s : State) : State :=
  if spare then startByLast p true s
  else startByOrder p (refreshPort p (raiseAlarm 0x8311 (lpT p) 0 [] s))

/-- PILOT_LOCK_LOST (R146 to R148), with the last 1,024 pilot slots. -/
def execPilotLockLost (r : Receiver) (slots : List PilotSlot) (dt : Nat) (s : State) : Host.Outcome State Fault Refusal :=
  let s := advance dt s
  .next (if running s && pilotsLost (goodPilots s r.port slots) && (acqOf s r.port r.spare).st == .track then
      if (s.port r.port).dsp.rx.lockHold = 0 then unlockPort r.port r.spare s
      else enterAcq r.port r.spare .lockHold (if r.spare then s else lpCount s r.port 0x0306 1)
    else s)

/-- LOCK_HOLD has run out. -/
def holdOver (s : State) (p : Lp) (a : Acq) : Bool := decide (a.stFrom + usT (s.port p).dsp.rx.lockHold ≤ s.hk)

/-- PILOT_LOCK_REGAINED (R146, R147). -/
def execPilotLockRegained (r : Receiver) (slots : List PilotSlot) (dt : Nat) (s : State) : Host.Outcome State Fault Refusal :=
  let s := advance dt s
  let a := acqOf s r.port r.spare
  .next (if running s && pilotsGood (goodPilots s r.port slots) && a.st == .lockHold && !holdOver s r.port a then
      if r.spare then enterAcq r.port true .track s
      else writeLast r.port (clearAcqAlarms r.port (enterAcq r.port false .track (lpCount s r.port 0x0307 1)))
    else s)

/-- LOCK_HOLD_EXPIRY (R147, R148). -/
def execLockHoldExpiry (p : Lp) (spare : Bool) (dt : Nat) (s : State) : Host.Outcome State Fault Refusal :=
  let s := advance dt s
  let a := acqOf s p spare
  .next (if running s && a.st == .lockHold && holdOver s p a then unlockPort p spare s else s)

/-- A RATE or INTEROP change: every state but IDLE reacquires, by the order of R149, a spare by LAST (R147). -/
def reacquire (p : Lp) (s : State) : State :=
  let s := if (s.port p).dsp.acq.st = .idle then s else startByOrder p s
  if (s.port p).dsp.spareAcq.st = .idle then s else startByLast p true s

/-! ## Slow loops and estimates -/

/-- RX_SKEW_ESTIMATE (R133): every 100 ms in TRACK, with RX_SKEW_AUTO on. -/
def execRxSkewEstimate (r : Receiver) (skew : List Int) (dt : Nat) (s : State) :
    Host.Outcome State Fault Refusal :=
  let s := advance dt s
  let d := (s.port r.port).dsp
  .next (if running s && d.rx.skewAuto == 1 && (acqOf s r.port r.spare).st == .track then
      let k := (List.range 4).map fun i => clampI (skew.getD i 0) 200
      let s := modRecv r.port r.spare (fun v => { v with skew := k }) s
      s.modDsp r.port fun d => if r.spare then { d with spareEst := { d.spareEst with skew := k } }
                          else { d with est := { d.est with skew := k } }
    else s)

/-- CD_TRACK_UPDATE (R135): a residual above 20 * (310 / SR)^2 moves CD_SET, held at the range edge. -/
def execCdTrackUpdate (r : Receiver) (residual : Int) (dt : Nat) (s : State) :
    Host.Outcome State Fault Refusal :=
  let s := advance dt s
  let sr := portSr s r.port
  let cd := (recvOf s r.port r.spare).cdSet
  let new := clampCd s r.port (cd + residual)
  .next (if running s && (acqOf s r.port r.spare).st == .track then
      let s := if r.spare then s else cdTimers r.port (cd + residual) s
      if 20 * (310000 * 310000) < residual.natAbs * (sr * sr) ∧ new ≠ cd then
        let s := modRecv r.port r.spare (fun v => { v with cdSet := new }) s
        if r.spare then s else lpCount s r.port 0x0309 1
      else s
    else s)

/-- BULK_PMD_UPDATE (R136): every 1 ms in TRACK, the principal states and the DGD up to 3.5 times the tolerance; on the
serving engine the SOP rate of the millisecond drives SOP_FAST, and its DGD the 10 s average. -/
def execBulkPmdUpdate (r : Receiver) (b : BulkPmd) (sopRate dt : Nat) (s : State) :
    Host.Outcome State Fault Refusal :=
  let s := advance dt s
  .next (if running s && (acqOf s r.port r.spare).st == .track then
      let s := modRecv r.port r.spare (fun v => { v with dgd := bulkDgd s r.port b.dgd, ps := b.ps }) s
      if r.spare then s
      else
        let s := s.modDsp r.port fun d => { d with
          dgdSum := d.dgdSum + b.dgd, dgdCount := d.dgdCount + 1, dgdWindow := timerIf true d.dgdWindow (s.hk + secT 10) }
        let s := if 20000 < sopRate then raiseAlarm 0x8316 (lpT r.port) 0 [] s else s
        let slow := raised s 0x8316 (lpT r.port) 0 && decide (sopRate < 10000)
        s.modDsp r.port fun d => { d with sopSlow := timerIf slow d.sopSlow (s.hk + secT 1) }
    else s)

/-- NLC_ADAPT_UPDATE (R142): scale in 1/1,024 of nominal, within 0 to 4 times. -/
def execNlcAdaptUpdate (r : Receiver) (scale dt : Nat) (s : State) : Host.Outcome State Fault Refusal :=
  let s := advance dt s
  .next (if running s && (acqOf s r.port r.spare).st == .track && (s.port r.port).mode.running.nlc
      && (s.port r.port).dsp.rx.nlcAdapt == 1 then
      modRecv r.port r.spare (fun v => { v with nlcScale := min 4096 scale }) s
    else s)

/-- The perturbation coefficients of a step over its window of 128 symbols: the nominal ones derived from the span
parameters, scaled while NLC_ADAPT is on (R142). -/
def nlcCoefs (s : State) (p : Lp) (spare : Bool) : List Int :=
  let rx := (s.port p).dsp.rx
  let k : Nat := if rx.nlcAdapt = 1 then (recvOf s p spare).nlcScale else 1024
  (List.range 128).map fun i => sgn 32 (Config.nlcCoef rx.nlcSpans rx.nlcKm rx.nlcLaunch i).toNat * k / 1024

/-- The 10 ms estimates are taken over with their VALID bits. -/
def takeEst (m : EstMeas) (e : Estimates) : Estimates :=
  { e with cd := m.cd, dgd := m.dgd, ps := m.ps, sop := m.sop, sopRate := m.sopRate, freqKHz := m.freqKHz,
           timing := m.timing, vCd := true, vDgd := true, vFreq := true, vSop := true,
           updates := (e.updates + 1) % 256 }

/-- ESTIMATE_UPDATE (R152): in TRACK. -/
def execEstimateUpdate (p : Lp) (spare : Bool) (m : EstMeas) (dt : Nat) (s : State) :
    Host.Outcome State Fault Refusal :=
  let s := advance dt s
  .next (if running s && (acqOf s p spare).st == .track then
      let s := modRecv p spare (fun r => takeIq m { r with freqKHz := m.freqKHz, timing := m.timing, sop := m.sop }) s
      if spare then s.modDsp p fun d => { d with spareEst := takeEst m d.spareEst }
      else freqAlarm p m.freqKHz (lpCount (s.modDsp p fun d => { d with est := takeEst m d.est }) p 0x0308 (slipCount s p m.slips))
    else s)

/-- The transceiver SNR in force in 0.01 dB (R153): SNR_TRX 0 selects the device's stored value for the RATE. -/
def snrTrxOf (s : State) (p : Lp) : Nat :=
  let v := (s.port p).dsp.rx.snrTrx
  if v = 0 then Config.snrTrx (s.port p).mode.running.rate else v

/-- The per-second estimates from the SNR and the bits corrected and coded bits of the interval (R152 to R154). A BER of
1/2 or more has no Q in the manual: a free value (log entry 5). -/
def secondEst (snr trx sr corr coded : Nat) (free : Word) (e : Estimates) : Estimates :=
  { e with snr, osnr := osnrOf snr trx sr,
           q := if corr = 0 then 0x7FFF else if 2 * corr < coded then uns 16 (qOf corr coded) else free.toNat % 2 ^ 16,
           berLog := if corr = 0 then 0xFFFF else berLogOf corr coded,
           corrected := BitVec.ofNat 64 corr, coded := BitVec.ofNat 64 coded, vOsnr := true, vBer := true,
           updates := (e.updates + 1) % 256 }

/-- OSNR_LOW at a boundary (Table 5.14). -/
def osnrAlarm (p : Lp) (s : State) : State :=
  let d := (s.port p).dsp
  let a := d.rx.osnrAlarm
  if a ≠ 0 ∧ d.est.osnr < 10 * a then raiseAlarm 0x8315 (lpT p) 0 [] s
  else if 10 * a + 50 ≤ d.est.osnr then clearAlarm 0x8315 (lpT p) 0 [] s
  else s

/-- The signal processing's part of a 1-second boundary (R152). -/
def dspSecond (p : Lp) (snr : Nat) (s : State) : State :=
  let d := (s.port p).dsp
  if !inTrack s p then s.modDsp p fun d => { d with wholeTrack := false }
  else if !d.wholeTrack then
    s.modDsp p fun d => { d with wholeTrack := true, est := { d.est with vOsnr := false, vBer := false } }
  else
    let (f, s) := freeW s
    let c := (s.port p).cod
    osnrAlarm p (s.modDsp p fun d => { d with
      est := secondEst snr (snrTrxOf s p) (portSr s p) c.iCorr c.iCoded f d.est })

/-! ## Configuration opcodes -/

/-- TX parameters in force: words 4 to 13 of DSP_TX_CONFIG. -/
def txWords (x : DspTx) : List Word :=
  [w32 x.rolloff] ++ x.skew.map wI ++ x.gain.map wI ++ x.phase.map wI ++ [wI x.cdPre]

/-- The TX parameters after a command. -/
def txOf (c : Cmd) (x : DspTx) : DspTx :=
  { x with rolloff := pick c 0 x.rolloff, skew := (List.range 4).map fun i => pickI c (1 + i) (x.skew.getD i 0),
           gain := (List.range 2).map fun i => pickI c (5 + i) (x.gain.getD i 0),
           phase := (List.range 2).map fun i => pickI c (7 + i) (x.phase.getD i 0), cdPre := pickI c 9 x.cdPre }

/-- A selected word of a CHANGE_MASK command in range; an unselected one is not looked at. -/
def selOk (c : Cmd) (i : Nat) (b : Bool) : Nat × Bool := (4 + i, !bit (c.w 3) i || b)

/-- A selected word must be present. -/
def selPresent (c : Cmd) (i : Nat) : Bool := decide (i + 1 < c.params.length)

/-- A selected unsigned and a selected signed word in a range. -/
def selU (c : Cmd) (i lo hi : Nat) : Nat × Bool := selOk c i (selPresent c i && within (c.w (4 + i)) lo hi)
def selI (c : Cmd) (i : Nat) (lo hi : Int) : Nat × Bool :=
  selOk c i (selPresent c i && withinI (sgn 32 (c.w (4 + i))) lo hi)

/-- The same where 0 is accepted besides the range. -/
def selZ (c : Cmd) (i lo hi : Nat) : Nat × Bool :=
  selOk c i (selPresent c i && (within (c.w (4 + i)) lo hi || c.w (4 + i) == 0))

/-- TX_CD_PRECOMP lies within the bound of the port's symbol rate: the offending word. -/
def preRangeBad (s : State) (t : Nat) (c : Cmd) : Option Nat :=
  if bit (c.w 3) 9 && decide (preMax (portSr s (lpOfT t)) < (sgn 32 (c.w 13)).natAbs) then some 13 else none

/-- DSP_TX_CONFIG (R128, R131, R132). Word 3 of the reply is not given: reserved, 0 (log entry 24). -/
def dspTxConfigOp : OpSpec where
  code := 0x0301
  targets := isLpT
  both := true
  flags := 15
  nparams := 1
  badParam := fun _ c => firstBad ([selU c 0 1 10] ++ (List.range 4).map (fun i => selI c (1 + i) (-200) 200)
    ++ [selI c 5 (-300) 300, selI c 6 (-300) 300, selI c 7 (-1500) 1500, selI c 8 (-1500) 1500,
        selI c 9 (-20000) 20000])
  unitBad := preRangeBad
  resLen := fun _ _ _ => 12
  run := fun s t c =>
    let p := lpOfT t
    let pm := preMax (portSr s p)
    match preRangeBad s t c with
    | some w => refuse s stBadParam w
    | none =>
      let x := txOf c (s.port p).dsp.tx
      let s := setTx p x s
      let s := if bit (c.w 3) 9 then rampGo p s else s
      okRes s ([0] ++ txWords x ++ [wI (clampI x.cdPre pm)])
def execDspTxConfig (c : Cmd) (s : State) : Host.Outcome State Fault Refusal := .next (serve dspTxConfigOp c s)

/-- The 16 taps of words 4 to 11. -/
def preemphOf (c : Cmd) : List Int :=
  (List.range 16).map fun i => sgn 16 (c.w (4 + i / 2) / 2 ^ (16 * (i % 2)))

/-- 16 taps as 8 words. -/
def preemphWords (t : List Int) : List Word :=
  (List.range 8).map fun i => w32 (uns 16 (t.getD (2 * i) 0) + uns 16 (t.getD (2 * i + 1) 0) * 2 ^ 16)

/-- DSP_TX_PREEMPH (R130). -/
def dspTxPreemphOp : OpSpec where
  code := 0x0302
  targets := isLpT
  flags := 6
  nparams := 9
  badParam := fun _ c => firstBad ((3, decide (c.w 3 % 16 ≠ 0)) :: (List.range 8).map fun i =>
    (4 + i, withinI (sgn 16 (c.w (4 + i))) (-2048) 2047 && withinI (sgn 16 (c.w (4 + i) / 2 ^ 16)) (-2048) 2047))
  resLen := fun _ _ _ => 8
  run := fun s t c =>
    let taps := preemphOf c
    let p := lpOfT t
    let x := (s.port p).dsp.tx
    let s := setTx p { x with
      preemph := (List.range 4).map fun ch => if bit (c.w 3) ch then taps else x.preemph.getD ch [] } s
    okRes s (preemphWords taps)
def execDspTxPreemph (c : Cmd) (s : State) : Host.Outcome State Fault Refusal := .next (serve dspTxPreemphOp c s)

/-- RX parameters: words 4 to 22. -/
def rxWords (x : DspRx) : List Word :=
  [w32 x.rolloff, w32 x.carrier, w32 x.skewAuto] ++ x.skew.map wI ++
  [w32 x.cmaK, w32 x.lmsK, w32 x.eqUpdate, w32 x.trBw, w32 x.cprAvg, w32 x.lockHold, w32 x.nlcSpans, w32 x.nlcKm,
   wI x.nlcLaunch, w32 x.nlcAdapt, w32 x.osnrAlarm, w32 x.snrTrx]

def rxOf (c : Cmd) (x : DspRx) : DspRx :=
  { rolloff := pick c 0 x.rolloff, carrier := pick c 1 x.carrier, skewAuto := pick c 2 x.skewAuto,
    skew := (List.range 4).map fun i => pickI c (3 + i) (x.skew.getD i 0), cmaK := pick c 7 x.cmaK,
    lmsK := pick c 8 x.lmsK, eqUpdate := pick c 9 x.eqUpdate, trBw := pick c 10 x.trBw, cprAvg := pick c 11 x.cprAvg,
    lockHold := pick c 12 x.lockHold, nlcSpans := pick c 13 x.nlcSpans, nlcKm := pick c 14 x.nlcKm,
    nlcLaunch := pickI c 15 x.nlcLaunch, nlcAdapt := pick c 16 x.nlcAdapt, osnrAlarm := pick c 17 x.osnrAlarm,
    snrTrx := pick c 18 x.snrTrx }

/-- DSP_RX_CONFIG (R143). Switching RX_SKEW_AUTO on starts the estimate from RX_SKEW (R133). -/
def dspRxConfigOp : OpSpec where
  code := 0x0303
  targets := isLpT
  both := true
  flags := 15
  nparams := 1
  badParam := fun _ c => firstBad ([selU c 0 1 10, selU c 1 184500 196700, selU c 2 0 1]
    ++ (List.range 4).map (fun i => selI c (3 + i) (-200) 200)
    ++ [selZ c 7 6 20, selZ c 8 6 20, selZ c 9 1 64, selZ c 10 1 50, selZ c 11 1 32, selU c 12 0 100, selU c 13 1 64,
        selU c 14 10 150, selI c 15 (-50) 100, selU c 16 0 1, selZ c 17 100 400, selZ c 18 1000 3500])
  resLen := fun _ _ _ => 25
  run := fun s t c =>
    let p := lpOfT t
    let old := (s.port p).dsp.rx
    let x := rxOf c old
    let start (r : Recv) : Recv := if old.skewAuto = 0 ∧ x.skewAuto = 1 then { r with skew := x.skew } else r
    let s := s.modDsp p fun d => { d with rx := x, recv := start d.recv, spareRecv := start d.spareRecv }
    okRes s ([0] ++ rxWords x ++ (effective x (s.port p).mode.running.reach).map w32)
def execDspRxConfig (c : Cmd) (s : State) : Host.Outcome State Fault Refusal := .next (serve dspRxConfigOp c s)

/-! ## Status and estimates -/

/-- ACQ_STATE (Table 5.9, offset 0x08). -/
def acqWord (s : State) (p : Lp) : Nat :=
  let d := (s.port p).dsp
  acqNum d.acq.st + b01 d.acq.onProfile * 2 ^ 4 + d.acq.profile * 2 ^ 5 + onBit (decide (d.profileNext ≠ 31)) 10
    + min 0xFFFF (d.acq.lastUs / 10) * 2 ^ 16

/-- The estimate words of the line port block, offsets 0x10 to 0x1C (Table 5.9). -/
def estimateFsw (s : State) (p : Lp) : List Nat :=
  let e := (s.port p).dsp.est
  [e.osnr % 2 ^ 16 + e.q % 2 ^ 16 * 2 ^ 16, uns 32 e.cd, e.dgd % 2 ^ 16 + uns 16 (mhzOf e.freqKHz) * 2 ^ 16,
   e.berLog % 2 ^ 16 + onBit e.vOsnr 16 + onBit e.vBer 17 + onBit e.vCd 18 + onBit e.vDgd 19 + onBit e.vFreq 20
     + e.updates % 256 * 2 ^ 24]

/-- DSP_STATUS. -/
def dspStatusOp : OpSpec where
  code := 0x0304
  targets := isLpT
  both := true
  flags := 8
  resLen := fun _ _ _ => 8
  run := fun s t _ =>
    let p := lpOfT t
    let d := (s.port p).dsp
    okRes s [w32 (acqWord s p), wI (clampCd s p d.recv.cdSet), w32 (filterWord s p),
      w32 (reachTaps (s.port p).mode.running.reach), w32 (b01 d.ramping), wI (rampNow d s.hk), w32 d.profileNext,
      w32 (b01 (inTrack s p))]
def execDspStatus (c : Cmd) (s : State) : Host.Outcome State Fault Refusal := .next (serve dspStatusOp c s)

/-- A WARM spare shadows the port. -/
def warmShadow (s : State) (p : Lp) : Bool :=
  match shadowEng s p with
  | some e => (s.engine e).st == .warm
  | none => false

/-- Words 3 to 19 of DSP_ESTIMATES. -/
def estimateWords (e : Estimates) : List Word :=
  [w32 (onBit e.vOsnr 0 + onBit e.vBer 1 + onBit e.vCd 2 + onBit e.vDgd 3 + onBit e.vFreq 4 + onBit e.vSop 5),
   w32 e.osnr, w32 e.snr, wI (sgn 16 e.q), w32 e.berLog] ++ lohi e.corrected ++ lohi e.coded
  ++ [wI e.cd, w32 e.dgd, w32 (uns 16 (e.sop.getD 0 0) + uns 16 (e.sop.getD 1 0) * 2 ^ 16),
      w32 (uns 16 (e.sop.getD 2 0) + e.sopRate % 2 ^ 16 * 2 ^ 16), wI e.freqKHz, wI e.timing,
      w32 (uns 16 (e.skew.getD 0 0) + uns 16 (e.skew.getD 1 0) * 2 ^ 16),
      w32 (uns 16 (e.skew.getD 2 0) + uns 16 (e.skew.getD 3 0) * 2 ^ 16)]

/-- DSP_ESTIMATES. -/
def dspEstimatesOp : OpSpec where
  code := 0x0305
  targets := isLpT
  both := true
  flags := 8
  nparams := 1
  badParam := fun _ c => firstBad [(3, within (c.w 3) 0 1)]
  resLen := fun _ _ _ => 17
  run := fun s t c =>
    let p := lpOfT t
    let d := (s.port p).dsp
    if c.w 3 = 1 then
      if warmShadow s p then okRes s (estimateWords d.spareEst) else refuse s stBadState 0x0101
    else okRes s (estimateWords d.est)
def execDspEstimates (c : Cmd) (s : State) : Host.Outcome State Fault Refusal := .next (serve dspEstimatesOp c s)

/-- DSP_SNR_SPECTRUM (R155). -/
def dspSnrSpectrumOp : OpSpec where
  code := 0x0306
  targets := isLpT
  nparams := 1
  badParam := fun _ c => firstBad [(3, within (c.w 3) 1 1000)]
  resLen := fun _ _ _ => 33
  run := fun s t c =>
    let p := lpOfT t
    if !inTrack s p then refuse s stBadState 0x0102
    else { st := s.modDsp p fun d => { d with spectrum := d.spectrum ++ [s.hk + msT (c.w 3)] }, settled := false }
def execDspSnrSpectrum (c : Cmd) (s : State) : Host.Outcome State Fault Refusal := .next (serve dspSnrSpectrumOp c s)

/-- Bin width in MHz: SR * (1 + RX_ROLLOFF) / 128, to the nearest (the example of R155 reads 2,543 MHz). -/
def binWidth (sr roll : Nat) : Nat := (2 * sr * (100 + roll) + 12800) / 25600

/-- DSP_SNR_SPECTRUM_DONE: the 128 measured bins in 0.25 dB; a bin with no valid value reads 0xFF. -/
def execDspSnrSpectrumDone (p : Lp) (bins : List Nat) (dt : Nat) (s : State) : Host.Outcome State Fault Refusal :=
  let s := advance dt s
  .next (match (s.port p).dsp.spectrum with
    | e :: rest =>
      if running s && decide (e ≤ s.hk) then
        let s := s.modDsp p fun d => { d with spectrum := rest }
        let b (i : Nat) : Nat := min 255 (bins.getD i 255)
        let ws := (List.range 32).map fun i =>
          w32 (b (4 * i) + b (4 * i + 1) * 2 ^ 8 + b (4 * i + 2) * 2 ^ 16 + b (4 * i + 3) * 2 ^ 24)
        pump (completeUnit 0x0306 (lpT p) stOk 0 (w32 (binWidth (portSr s p) (s.port p).dsp.rx.rolloff) :: ws) s)
      else s
    | [] => s)

/-- DSP_ACQUIRE (R147, R148): a commanded reacquisition by the path it names. -/
def dspAcquireOp : OpSpec where
  code := 0x0307
  targets := isLpT
  nparams := 2
  badParam := fun _ c => firstBad [(3, within (c.w 3) 0 1), (4, within (c.w 4) 0 16)]
  resLen := fun _ _ _ => 3
  run := fun s t c =>
    let p := lpOfT t
    let st := (s.port p).dsp.acq.st
    if !inService s p || st == .idle then refuse s stBadState 0x0103
    else if c.w 3 = 1 && !(profileOf s p (c.w 4)).valid then refuse s stBadState 0x0104
    else if st == .waitSignal then
      { st := modAcq s p false fun a => { a with held := some (c.w 3 == 1, c.w 4) }, settled := false }
    else { st := s, settled := false }
  after := fun s c =>
    let p := lpOfT c.target
    if (s.port p).dsp.acq.st = .waitSignal then s
    else if c.w 3 = 1 then startProfile p false (c.w 4) s else startCold p false s
def execDspAcquire (c : Cmd) (s : State) : Host.Outcome State Fault Refusal := .next (serve dspAcquireOp c s)

/-! ## Profiles by command -/

/-- DSP_PROFILE_STORE. -/
def dspProfileStoreOp : OpSpec where
  code := 0x0308
  targets := isLpT
  nparams := 2
  badParam := fun _ c => firstBad [(3, within (c.w 3) 0 15)]
  resLen := fun _ _ _ => 12
  run := fun s t c =>
    let p := lpOfT t
    if !inTrack s p then refuse s stBadState 0x0100
    else
      let x := presentProfile s p (w32 (c.w 4))
      okRes (putProfile p (c.w 3) x s) (profileWords x)
def execDspProfileStore (c : Cmd) (s : State) : Host.Outcome State Fault Refusal := .next (serve dspProfileStoreOp c s)

/-- The profile a DSP_PROFILE_WRITE brings: words 4 to 15 are words 0 to 11 of Table 5.7. -/
def profileOfCmd (c : Cmd) (up : Nat) : Profile :=
  { valid := bit (c.w 4) 0, byHost := true, label := w32 (c.w 5), sr := 0, cd := sgn 32 (c.w 7), dgd := c.w 8 % 2 ^ 16,
    ps := stokesOf (c.w 9) (c.w 10), sop := stokesOf (c.w 11) (c.w 12), freqMHz := sgn 32 (c.w 13), uptime := up }

/-- DSP_PROFILE_WRITE. -/
def dspProfileWriteOp : OpSpec where
  code := 0x0309
  targets := isLpT
  flags := 6
  nparams := 13
  badParam := fun _ c => firstBad [(3, within (c.w 3) 0 15)]
  resLen := fun _ _ _ => 12
  run := fun s t c =>
    let x := profileOfCmd c (uptime s)
    okRes (putProfile (lpOfT t) (c.w 3) x s) (profileWords x)
def execDspProfileWrite (c : Cmd) (s : State) : Host.Outcome State Fault Refusal := .next (serve dspProfileWriteOp c s)

/-- DSP_PROFILE_READ. -/
def dspProfileReadOp : OpSpec where
  code := 0x030A
  targets := isLpT
  flags := 8
  nparams := 1
  badParam := fun _ c => firstBad [(3, within (c.w 3) 0 16)]
  resLen := fun _ _ _ => 12
  run := fun s t c => okRes s (profileWords (profileOf s (lpOfT t) (c.w 3)))
def execDspProfileRead (c : Cmd) (s : State) : Host.Outcome State Fault Refusal := .next (serve dspProfileReadOp c s)

/-- DSP_PROFILE_SELECT (R149). -/
def dspProfileSelectOp : OpSpec where
  code := 0x030B
  targets := isLpT
  flags := 14
  nparams := 1
  badParam := fun _ c => firstBad [(3, within (c.w 3) 0 15 || c.w 3 == 31)]
  resLen := fun _ _ _ => 1
  run := fun s t c =>
    let p := lpOfT t
    if c.w 3 ≠ 31 && !(profileOf s p (c.w 3)).valid then refuse s stBadState 0x0104
    else okRes (s.modDsp p fun d => { d with profileNext := c.w 3 }) [w32 (c.w 3)]
def execDspProfileSelect (c : Cmd) (s : State) : Host.Outcome State Fault Refusal :=
  .next (serve dspProfileSelectOp c s)

/-- Mask of the valid profiles. -/
def validMask (s : State) (p : Lp) : Nat :=
  (List.range 17).foldl (fun a i => a + onBit (profileOf s p i).valid i) 0

/-- DSP_PROFILE_CLEAR (R150). -/
def dspProfileClearOp : OpSpec where
  code := 0x030C
  targets := isLpT
  flags := 4
  nparams := 1
  resLen := fun _ _ _ => 1
  run := fun s t c =>
    let p := lpOfT t
    let s := (List.range 17).foldl (fun s i => if bit (c.w 3) i then putProfile p i {} s else s) s
    okRes s [w32 (validMask s p)]
def execDspProfileClear (c : Cmd) (s : State) : Host.Outcome State Fault Refusal := .next (serve dspProfileClearOp c s)

/-- The equaliser adapts: CMA, DD_CONVERGE and what follows but for LOCK_HOLD (Table 5.6, R148). -/
def adapting (a : AcqSt) : Bool := a == .cma || a == .pilotSync || a == .ddConverge || a == .track

/-- DSP_EQ_READ (R137): the taps the equaliser has adapted to are free values (log entry 5), which stand while it does not
adapt. -/
def dspEqReadOp : OpSpec where
  code := 0x030D
  targets := isLpT
  nparams := 2
  badParam := fun _ c => firstBad [(3, within (c.w 3) 0 1), (4, within (c.w 4) 0 3)]
  resLen := fun s t _ => 1 + reachTaps (s.port (lpOfT t)).mode.running.reach
  run := fun s t c =>
    let p := lpOfT t
    if c.w 3 = 1 && !warmShadow s p then refuse s stBadState 0x0101
    else
      let spare := c.w 3 == 1
      let n := reachTaps (s.port p).mode.running.reach
      let s := if adapting (acqOf s p spare).st then holdEq p spare s else s
      let b := (recvOf s p spare).eqBase + 64 * c.w 4
      okRes s (w32 n :: (List.range n).map fun i => Config.freeWord (b + i))
def execDspEqRead (c : Cmd) (s : State) : Host.Outcome State Fault Refusal := .next (serve dspEqReadOp c s)

/-- DSP_COUNTERS (Table 5.12). -/
def dspCountersOp : OpSpec := countersOp 0x030E isLpT true false (idRange 0x0301 0x030A)
def execDspCounters (c : Cmd) (s : State) : Host.Outcome State Fault Refusal := .next (serve dspCountersOp c s)

end Sys2Proof.Machine
end

