-- ==== Sys2Proof/Machine/Coding.lean ====
section
/-!
DEFINITION. Sys2Proof/Machine/Coding.lean: Coding, Shaping and the Symbol Frame of a line port: the transmit stream, the
decoder's grid, codewords, the judgement of robust headers, alarms, and the opcodes of Table 7.9.
-/
namespace Sys2Proof.Machine
open Sys2Proof

/-- The point in force on a port. -/
def runningPoint (s : State) (p : Lp) : ModePoint := (s.port p).mode.running

/-- RATE / 100 in force. -/
def portRate (s : State) (p : Lp) : Nat := (runningPoint s p).rate

/-! ## Transmit stream (R185, R188, R194) -/

/-- The stream starts afresh at its origin. -/
def newOrigin (p : Lp) (s : State) : State :=
  s.modFrame p (fun f => { f with txNum := 0, txBlock := 0, txBip := 0 }) |>.modCod p fun c => { c with tx := { running := true } }

/-- The stream stops: the port is out of service. -/
def stopStream (p : Lp) (s : State) : State := s.modCod p fun c => { c with tx := {} }

/-- A frame's 65,536 coded bytes are encoded and sent: its locator, the chain, the pilot generators, and the symbols of its
slots, those of the block it starts in with the bits the frame before left there. -/
def sendCoded (rate : Nat) (bs : List Byte) (t : TxStream) : TxStream :=
  let g := frameGrid rate t.n
  let prev := if t.restart then 0 else t.chain
  let words := frameWords 64 bs prev
  let loc := locator g.lag g.bitOffset rate t.restart
  let first := frameSlot rate t.n
  let next := frameSlot rate (t.n + 1)
  let lead := pilotFrom first - t.pilotSlot
  let sX := pilotAfter lead t.sX
  let sY := pilotAfter lead t.sY
  let pilots := pilotFrom next - pilotFrom first
  let stream := t.tail.take g.bitOffset ++ (List.range 589824).map (codedBit words)
  let blocks := frameBlock (t.n + 1) (blockB rate) - frameBlock t.n (blockB rate)
  { t with
    n := t.n + 1, chain := words.getLastD prev, restart := false, sX := pilotAfter pilots sX, sY := pilotAfter pilots sY,
    pilotSlot := pilotFrom next, frame := bs, locator := loc, before := prev, tail := stream.drop (blocks * blockB rate),
    firstSlot := first,
    symbols := slotsFrom (headerAt g.anchor (headerCode (robustWord (bs.take 32) loc))) (next - first) first sX sY
      (payloadSymbols rate blocks stream) }

/-! ## Decoder -/

/-- The decoder's window in codewords, and the passes a codeword receives at each position of it (Table 7.6). -/
def windowOf (g : ModePoint) : Nat := if g.low then 7 else 12
def passesPer (g : ModePoint) : Nat := if g.low then 2 else 4

/-- I_MAX of a point: the passes at every position of the window (Table 7.6). -/
def iMax (g : ModePoint) : Nat := windowOf g * passesPer g

/-- The effective cap of passes; ITER_CAP does not apply in ZR800 (R205). -/
def iterCap (g : ModePoint) (c : FecCfg) : Nat :=
  if g.zr800 || c.iterCap == 0 then iMax g else min c.iterCap (iMax g)

/-- The release delay in ns of a point: constant while the point and ITER_CAP are unchanged, the same under both settings of
POWER (R201), within the bound of Table 7.6; the value is not given (log entry 5). -/
def releaseDelay (g : ModePoint) (c : FecCfg) : Nat :=
  min (if g.low then 3000 else 10000) (Config.releaseDelay (modeWord { g with economy := false }) (iterCap g c))

/-- The release delay now: while it steps down after a change from STANDARD to LOW, a value between the two (R207, log entry
141). -/
def delayNow (now : Nat) (g : ModePoint) (c : Coding) : Nat :=
  let new := releaseDelay g c.cfg
  match c.step with
  | some (old, at_) =>
    if new < old ∧ now < at_ + nsT old then max new (min old (Config.stepDelay old new (now - at_))) else new
  | none => new

/-- After a change from LOW to STANDARD nothing is released until the pipeline has filled: the longer delay less the shorter
(R207, Table 3.8). -/
def filling (now : Nat) (g : ModePoint) (c : Coding) : Bool :=
  match c.step with
  | some (old, at_) => decide (old < releaseDelay g c.cfg) && decide (now < at_ + nsT (releaseDelay g c.cfg - old))
  | none => false

/-- Codewords in flight: the release delay divided by the codeword period (Table 7.6). The codeword length of the 800ZR
format is not given. -/
def inFlight (now : Nat) (g : ModePoint) (c : Coding) : Nat :=
  if g.zr800 then Config.zrInFlight
  else min 4096 (delayNow now g c * srMBd g * hMilli g * 63 / (64 * 9216 * 1000000))

/-- The effective cap and POWER ECONOMY in force from now on for the codewords admitted (R207). -/
def noteCap (p : Lp) (s : State) : State :=
  let g := runningPoint s p
  s.modCod p fun c => { c with caps := ((s.hk, iterCap g c.cfg, g.economy) :: c.caps).take 16 }

/-- What was in force when a codeword released now was admitted: the release delay before. -/
def capOf (now : Nat) (g : ModePoint) (c : Coding) : Nat × Bool :=
  let admitted := now - nsT (delayNow now g c)
  match c.caps.find? fun x => decide (x.1 ≤ admitted) with
  | some x => x.2
  | none => (c.caps.getLast?.map fun x => x.2).getD (iterCap g c.cfg, g.economy)

/-- The decoder runs: from the first good header to HUNT (R203); in ZR800 while the port tracks. -/
def decoderRuns (s : State) (p : Lp) : Bool :=
  (s.port p).cod.grid.isSome || ((runningPoint s p).zr800 && inService s p && tracking s p)

/-- A port's histogram bin 0 to 15, and 16 for uncorrectable codewords: its place among the counters. -/
def histKey (p : Lp) (i : Nat) : Nat := sel (lpT p) 0xFE (0x0520 + i)

/-- Histogram bin width. -/
def histW (g : ModePoint) : Nat := if g.low then 1 else 3

/-- FEC_EXCESS: uncorrectable codewords of the last 100 us, the newest first. -/
def excessStep (p : Lp) (s : State) : State :=
  let c := (s.port p).cod
  let l := (s.hk :: c.excess).filter fun t => decide (s.hk < t + usT 100)
  let l := l.take c.cfg.sfUncorr
  let s := s.modCod p fun c => { c with excess := l, excessClear := some (s.hk + msT 1) }
  if c.cfg.sfUncorr ≤ l.length then refreshPort p (raiseAlarm 0x8511 (lpT p) 0 [] s) else s

/-- How the decoder left a codeword: converged, passes to convergence, bits corrected to 1 and to 0, its coded bits. -/
structure CwResult where
  conv : Bool
  passes : Nat
  ones : Nat
  zeros : Nat
  bits : Nat

/-- The predecessor a codeword is judged with: all zeros for the first of a frame whose decoded header carries CHAIN_RESTART
(R188); the decoder's soft values, seen in its estimate, where the predecessor is erased (R203) or was uncorrectable (R202);
and the codeword released before it. -/
def predecessor (c : Coding) (x : CodewordRx) : BitVec 9216 :=
  if c.cw % 64 == 0 && c.restarts.headD false then 0
  else if c.fresh then x.prior
  else c.last.getD x.prior

/-- The result of a NATIVE codeword: converged where a pass within the cap left the checks of its block rows and of the next
codeword's satisfied (R200); corrected bits against the input's hard decisions (R204). -/
def nativeResult (rate cap : Nat) (c : Coding) (x : CodewordRx) : CwResult :=
  let input := deinterleave (c.cw % 8) (hardBits rate x.off x.blocks)
  { conv := decide (1 ≤ x.passes) && decide (x.passes ≤ cap) && checksHold x.out (predecessor c x) && checksHold x.next x.out
    passes := x.passes
    ones := onesOf (x.out &&& ~~~input)
    zeros := onesOf (input &&& ~~~x.out)
    bits := 9216 }

/-- The result of a codeword of the 800ZR format. -/
def zrResult (cap passes : Nat) (conv : Bool) (ones zeros : Nat) : CwResult :=
  { conv := conv && decide (passes ≤ cap), passes := max 1 passes, ones, zeros,
    bits := Config.zrCodewordBits }

/-- The counters, the histogram and the interval's numbers of a released codeword (R201, R202, R204). -/
def countCodeword (p : Lp) (g : ModePoint) (cap : Nat) (economy : Bool) (r : CwResult) (s : State) : State :=
  let early := economy && r.conv
  let s := lpCount s p 0x0501 1
  let s := lpCount (lpCount s p 0x0506 (if early then r.passes else cap)) p 0x0507 (if early then cap - r.passes else 0)
  if r.conv then
    let s := lpCount (lpCount (lpCount s p 0x0503 r.ones) p 0x0504 r.zeros) p 0x0505 r.bits
    let s := if g.zr800 then s else ctrAdd s (histKey p (min 15 ((r.passes - 1) / histW g))) 1
    s.modCod p fun c => { c with iConv := c.iConv + 1, iPasses := c.iPasses + r.passes,
                                 iCorr := c.iCorr + r.ones + r.zeros, iCoded := c.iCoded + r.bits }
  else
    let s := lpCount s p 0x0502 1
    let s := if g.zr800 then s else ctrAdd s (histKey p 16) 1
    excessStep p (s.modCod p fun c => { c with iUncorr := c.iUncorr + 1 })

/-- A codeword's information bytes join those of its frame, with the UNCORR flag where it has not converged, and it is the
next one's predecessor (R202). -/
def passOn (p : Lp) (conv : Bool) (x : BitVec 9216) (s : State) : State :=
  s.modCod p fun c =>
    let c := if c.cw = 64 then { c with cw := 0, bytes := [], flagged := [] } else c
    { c with
             cw := c.cw + 1, bytes := c.bytes ++ infoBytes x, flagged := if conv then c.flagged else c.flagged ++ [c.cw],
             fresh := false, last := if conv then some x else none }

/-- A codeword of the 800ZR format that has not converged marks its frame (R234). -/
def flagZr (p : Lp) (conv : Bool) (s : State) : State :=
  s.modCod p fun c => { c with cw := c.cw + 1, flagged := if conv then c.flagged else c.flagged ++ [c.cw] }

/-- CODEWORD_RELEASE (R200 to R204): a codeword of a stream that a RATE or INTEROP change has ended is released at that
stream's point (R207). On a ZR800 port the decoder's verdict and the bits it corrected to 1 and to 0 come with it (log entry
143). -/
def codewordRelease (p : Lp) (x : CodewordRx) (zrConv : Bool) (zrOnes zrZeros : Nat) (s : State) : State :=
  let c := (s.port p).cod
  let old : Option ModePoint := match c.drain with | some (t, g) => if s.hk < t then some g else none | none => none
  let g := old.getD (runningPoint s p)
  let (cap, economy) := capOf s.hk g c
  let r := if g.zr800 then zrResult cap x.passes zrConv zrOnes zrZeros else nativeResult g.rate cap c x
  let r := { r with conv := r.conv && !c.spoil }
  let s := countCodeword p g cap economy r (s.modCod p fun c => { c with spoil := false })
  if old.isSome then s else if g.zr800 then flagZr p r.conv s else passOn p r.conv x.out s

/-- Codewords leave the decoder: it runs and its pipeline is not filling, or the old stream drains. -/
def releases (s : State) (p : Lp) : Bool :=
  let c := (s.port p).cod
  (match c.drain with | some (t, _) => decide (s.hk < t) | none => false)
    || (decoderRuns s p && !filling s.hk (runningPoint s p) c)

def execCodewordRelease (p : Lp) (x : CodewordRx) (zrConv : Bool) (zrOnes zrZeros dt : Nat) (s : State) :
    Host.Outcome State Fault Refusal :=
  let s := advance dt s
  .next (if running s && releases s p then codewordRelease p x zrConv zrOnes zrZeros s else s)

/-- FEC_EXCESS_CLEAR_TIMER: 1 ms without an uncorrectable codeword. -/
def execFecExcessClearTimer (p : Lp) (dt : Nat) (s : State) : Host.Outcome State Fault Refusal :=
  let s := advance dt s
  .next (if running s && due (s.port p).cod.excessClear s.hk then
      refreshPort p (clearAlarm 0x8511 (lpT p) 0 [] (s.modCod p fun c => { c with excessClear := none, excess := [] }))
    else s)

/-! ## Robust headers (R203) -/

/-- A locator agrees with the prediction: LAG, BIT_OFFSET and RATE_CODE; without a prediction, RATE_CODE. -/
def locMatches (s : State) (p : Lp) (w : Word) : Bool :=
  locRate w == portRate s p &&
    match (s.port p).cod.grid with
    | some g => locLag w == g.lag && locOffset w == g.bitOffset
    | none => true

/-- LINE_RATE_MISMATCH (Table 7.11). -/
def rateRun (p : Lp) (ok : Bool) (s : State) : State :=
  let s := s.modCod p fun c =>
    { c with badRate := if ok then 0 else min 5 (c.badRate + 1), goodRate := if ok then min 5 (c.goodRate + 1) else 0 }
  let c := (s.port p).cod
  if c.badRate = 5 then raiseAlarm 0x8512 (lpT p) 0 [] s
  else if c.goodRate = 5 then clearAlarm 0x8512 (lpT p) 0 [] s
  else s

/-- A decoded robust header is recorded and counted; whether it is a good robust copy (R219). -/
def judgeHeader (p : Lp) (h : List Byte) (w : Word) (anchor : Nat) (s : State) : Bool × State :=
  let crcs := hcrcGood h && locGood w
  let a := match (s.port p).cod.grid with | some g => g.anchor | none => anchor % 2 ^ 32
  let m := locMatches s p w
  let known := (s.port p).cod.grid.isSome
  let s := s.modCod p fun c => { c with hdr := some (h, w, hcrcGood h, locGood w, a) }
  if crcs then
    let s := rateRun p (locRate w == portRate s p) (lpCount s p 0x0508 1)
    (m && copyGood h, if m then s else lpCount s p 0x050A 1)
  else (false, if known then lpCount s p 0x0509 1 else s)

/-! ## One-second part -/

/-- FEC_DEGRADE at a boundary: an interval in which no codeword converged is passed over (R210). -/
def fecDegrade (p : Lp) (s : State) : State :=
  let c := (s.port p).cod
  if c.iConv = 0 then s
  else
    let log := if c.iCorr = 0 then 0xFFFF else berLogOf c.iCorr c.iCoded
    let bad := decide (log ≤ c.cfg.sdBerLog)
    let good := decide (c.cfg.sdBerLog + 10 < log)
    let s := s.modCod p fun c =>
      { c with degRun := if bad then c.degRun + 1 else 0, clrRun := if good then c.clrRun + 1 else 0 }
    let d := (s.port p).cod
    if c.cfg.sdSeconds ≤ d.degRun then refreshPort p (raiseAlarm 0x8510 (lpT p) 0 [] s)
    else if c.cfg.sdSeconds ≤ d.clrRun then refreshPort p (clearAlarm 0x8510 (lpT p) 0 [] s)
    else s

/-- The coding's part of a 1-second boundary (Table 7.7): the interval's numbers are latched and cleared. The mean is
rounded down. -/
def fecSecond (p : Lp) (s : State) : State :=
  (fecDegrade p s).modCod p fun c =>
    { c with lastUncorr := min 0xFFFF c.iUncorr, lastMean := if c.iConv = 0 then 0 else min 255 (4 * c.iPasses / c.iConv),
             iUncorr := 0, iConv := 0, iPasses := 0, iCorr := 0, iCoded := 0 }

/-! ## Fast status window words (Table 7.7) -/

/-- HDR_OK. -/
def hdrOk (c : Coding) : Bool := match c.hdr with | some (_, _, a, b, _) => a && b | none => false

def fecFsw (s : State) (p : Lp) : List Nat :=
  let c := (s.port p).cod
  let g := runningPoint s p
  let t := lpT p
  [c.lastUncorr + c.lastMean * 2 ^ 16 + onBit (hdrOk c) 24 + onBit g.economy 25 + onBit g.zr800 26
     + onBit (raised s 0x8510 t 0) 27 + onBit (raised s 0x8511 t 0) 28,
   (delayNow s.hk g c / 10) % 2 ^ 16 + inFlight s.hk g c % 2 ^ 16 * 2 ^ 16]

/-! ## Opcodes -/

/-- FEC_CONFIG. -/
def fecConfigOp : OpSpec where
  code := 0x0501
  targets := isLpT
  both := true
  flags := 15
  nparams := 1
  badParam := fun _ c => firstBad [selZ c 0 4 48, selU c 1 150 400, selU c 2 1 10, selU c 3 1 4096]
  resLen := fun _ _ _ => 6
  run := fun s t c =>
    let p := lpOfT t
    let o := (s.port p).cod.cfg
    let x : FecCfg := { iterCap := pick c 0 o.iterCap, sdBerLog := pick c 1 o.sdBerLog, sdSeconds := pick c 2 o.sdSeconds,
                        sfUncorr := pick c 3 o.sfUncorr }
    okRes (noteCap p (s.modCod p fun k => { k with cfg := x }))
      [0, w32 x.iterCap, w32 x.sdBerLog, w32 x.sdSeconds, w32 x.sfUncorr, w32 (iterCap (runningPoint s p) x)]
def execFecConfig (c : Cmd) (s : State) : Host.Outcome State Fault Refusal := .next (serve fecConfigOp c s)

/-- FEC_STATUS. In ZR800, b, k and W_MAX have no meaning and no value in the manual: free values (log entry 5). -/
def fecStatusOp : OpSpec where
  code := 0x0502
  targets := isLpT
  both := true
  flags := 8
  resLen := fun _ _ _ => 9
  run := fun s t _ =>
    let p := lpOfT t
    let c := (s.port p).cod
    let g := runningPoint s p
    let (f, s) := if g.zr800 then freeWs 3 s else ([w32 (blockB g.rate), w32 (blockK g.rate), w32 (wMax g.rate)], s)
    okRes s ([w32 ((if g.zr800 then 2 else if is64 g.rate then 1 else 0) + g.rate * 4)] ++ f
      ++ [w32 (iMax g), w32 (iterCap g c.cfg), w32 (delayNow s.hk g c), w32 (inFlight s.hk g c),
          w32 (onBit g.economy 0 + onBit (hdrOk c) 1 + onBit (decoderRuns s p) 2)])
def execFecStatus (c : Cmd) (s : State) : Host.Outcome State Fault Refusal := .next (serve fecStatusOp c s)

/-- FEC_HISTOGRAM. -/
def fecHistogramOp : OpSpec where
  code := 0x0503
  targets := isLpT
  flags := 8
  nparams := 1
  resLen := fun _ _ _ => 35
  run := fun s t c =>
    let p := lpOfT t
    if (runningPoint s p).zr800 then refuse s stBadState 0x0100
    else
      let ws := w32 (histW (runningPoint s p)) :: ((List.range 17).map fun i => lohi (ctr s (histKey p i))).flatten
      okRes (if bit (c.w 3) 0 then (List.range 17).foldl (fun s i => ctrClear s (histKey p i)) s else s) ws
def execFecHistogram (c : Cmd) (s : State) : Host.Outcome State Fault Refusal := .next (serve fecHistogramOp c s)

/-- FEC_HDR_READ. -/
def fecHdrReadOp : OpSpec where
  code := 0x0504
  targets := isLpT
  flags := 8
  resLen := fun _ _ _ => 11
  run := fun s t _ =>
    let p := lpOfT t
    if (runningPoint s p).zr800 then refuse s stBadState 0x0100
    else match (s.port p).cod.hdr with
      | none => refuse s stBadState 0x0101
      | some (h, w, a, b, n) =>
        okRes s (((List.range 8).map fun i => w32 (beNat ((h.drop (4 * i)).take 4)))
          ++ [w, w32 (onBit a 0 + onBit b 1), w32 n])
def execFecHdrRead (c : Cmd) (s : State) : Host.Outcome State Fault Refusal := .next (serve fecHdrReadOp c s)

/-- FEC_COUNTERS (Table 7.10). -/
def fecCountersOp : OpSpec := countersOp 0x0505 isLpT true false (idRange 0x0501 0x050A)
def execFecCounters (c : Cmd) (s : State) : Host.Outcome State Fault Refusal := .next (serve fecCountersOp c s)

end Sys2Proof.Machine
end

