-- ==== Sys2Proof/Machine/Gcm.lean ====
section
/-!
DEFINITION. Sys2Proof/Machine/Gcm.lean: AES-256 (FIPS 197) and AES-256-GCM (NIST SP 800-38D) with a 96-bit IV and a 128-bit
tag, as line encryption, flash and updates use it (R239, R404, R414). PRESUMED: the manual cites the standards (log entry 6).
-/
namespace Sys2Proof.Machine
open Sys2Proof

/-! ## AES-256 -/

/-- Doubling in the field of AES. -/
def aesDouble (x : Byte) : Byte := if x.getLsbD 7 then (x <<< 1) ^^^ 0x1B else x <<< 1

/-- The product in the field of AES, over the low `n` bits of `y`. -/
def aesMulBits : Nat → Byte → Byte → Byte
  | 0, _, _ => 0
  | n + 1, x, y => (if y.getLsbD 0 then x else 0) ^^^ aesMulBits n (aesDouble x) (y >>> 1)

def aesMul (x y : Byte) : Byte := aesMulBits 8 x y

/-- The multiplicative inverse, 0 for 0: the power 254. -/
def aesInv (x : Byte) : Byte :=
  let x2 := aesMul x x
  let x4 := aesMul x2 x2
  let x8 := aesMul x4 x4
  let x16 := aesMul x8 x8
  let x32 := aesMul x16 x16
  let x64 := aesMul x32 x32
  aesMul (aesMul (aesMul x64 x64) (aesMul x64 x32)) (aesMul (aesMul x16 x8) (aesMul x4 x2))

/-- SubBytes of one byte. -/
def aesSub (x : Byte) : Byte :=
  let y := aesInv x
  y ^^^ y.rotateLeft 1 ^^^ y.rotateLeft 2 ^^^ y.rotateLeft 3 ^^^ y.rotateLeft 4 ^^^ 0x63

/-- Bytes combined one by one. -/
def xorBytes (a b : List Byte) : List Byte := a.zipWith (· ^^^ ·) b

/-- Key expansion: words of four bytes, the newest first, from word `i` on; `rc` is the next round constant. -/
def aesExpand : Nat → Nat → Byte → List (List Byte) → List (List Byte)
  | 0, _, _, l => l
  | n + 1, i, rc, l =>
    let t := l.headD []
    let t := if i % 8 = 0 then
        match t with
        | a :: r => xorBytes ((r ++ [a]).map aesSub) [rc, 0, 0, 0]
        | [] => []
      else if i % 8 = 4 then t.map aesSub else t
    aesExpand n (i + 1) (if i % 8 = 0 then aesDouble rc else rc) (xorBytes (l.getD 7 []) t :: l)

/-- The fifteen round keys of a 32-byte key. -/
def aesKeys (key : List Byte) : List (List Byte) :=
  let first := ((List.range 8).map fun i => (key.drop (4 * i)).take 4).reverse
  let ws := (aesExpand 52 8 1 first).reverse
  (List.range 15).map fun i => ((ws.drop (4 * i)).take 4).flatten

/-- ShiftRows on the 16 bytes of a state, column after column. -/
def aesShift (b : List Byte) : List Byte := (List.range 16).map fun i => b.getD ((i + 4 * (i % 4)) % 16) 0

/-- MixColumns: byte `i` of each column of four. -/
def aesMix (b : List Byte) : List Byte :=
  (List.range 16).map fun i =>
    let c := i / 4 * 4
    let x (j : Nat) : Byte := b.getD (c + (i + j) % 4) 0
    aesDouble (x 0) ^^^ (aesDouble (x 1) ^^^ x 1) ^^^ x 2 ^^^ x 3

/-- The rounds with the round keys that are left. -/
def aesRounds : List (List Byte) → List Byte → List Byte
  | [], b => b
  | [k], b => xorBytes (aesShift (b.map aesSub)) k
  | k :: ks, b => aesRounds ks (xorBytes (aesMix (aesShift (b.map aesSub))) k)

/-- One block under round keys. -/
def aesBlock (ks : List (List Byte)) (b : List Byte) : List Byte := aesRounds (ks.drop 1) (xorBytes b (ks.headD []))

/-! ## GCM -/

/-- The product of GHASH, over the `n` bits of `x` from the most significant on. -/
def ghashMulBits : Nat → BitVec 128 → BitVec 128 → BitVec 128
  | 0, _, _ => 0
  | n + 1, x, v =>
    (if x.getMsbD 0 then v else 0) ^^^
      ghashMulBits n (x <<< 1) (if v.getLsbD 0 then (v >>> 1) ^^^ (0xE1 <<< 120) else v >>> 1)

/-- A block of at most 16 bytes, filled with zeros behind. -/
def gcmWord (b : List Byte) : BitVec 128 := BitVec.ofNat 128 (beNat ((b ++ List.replicate (16 - b.length) 0).take 16))

/-- GHASH over `n` blocks of bytes. -/
def ghash (h : BitVec 128) : Nat → List Byte → BitVec 128 → BitVec 128
  | 0, _, y => y
  | n + 1, bs, y => ghash h n (bs.drop 16) (ghashMulBits 128 (y ^^^ gcmWord (bs.take 16)) h)

/-- Whole blocks that bytes take. -/
def gcmBlocks (bs : List Byte) : Nat := (bs.length + 15) / 16

/-- Counter mode over `n` blocks from counter `i`. -/
def gcmCtr (ks : List (List Byte)) (iv : List Byte) : Nat → Nat → List Byte → List Byte
  | 0, _, _ => []
  | n + 1, i, bs =>
    xorBytes (bs.take 16) (aesBlock ks (iv ++ beBytes 4 i)) ++ gcmCtr ks iv n (i + 1) (bs.drop 16)

/-- The tag of a ciphertext. -/
def gcmTag (ks : List (List Byte)) (iv aad ct : List Byte) : List Byte :=
  let h := gcmWord (aesBlock ks (List.replicate 16 0))
  let y := ghash h (gcmBlocks ct) ct (ghash h (gcmBlocks aad) aad 0)
  let y := ghash h 1 (beBytes 8 (8 * aad.length) ++ beBytes 8 (8 * ct.length)) y
  xorBytes (beBytes 16 y.toNat) (aesBlock ks (iv ++ beBytes 4 1))

/-- AES-256-GCM: key, IV of 12 bytes, associated data and plaintext give the ciphertext and the 16-byte tag. -/
def gcmSeal (key iv aad pt : List Byte) : List Byte × List Byte :=
  let ks := aesKeys key
  let ct := gcmCtr ks iv (gcmBlocks pt) 2 pt
  (ct, gcmTag ks iv aad ct)

/-- Opening: the plaintext, or nothing when the tag does not match. -/
def gcmOpen (key iv aad ct tag : List Byte) : Option (List Byte) :=
  let ks := aesKeys key
  if gcmTag ks iv aad ct = tag then some (gcmCtr ks iv (gcmBlocks ct) 2 ct) else none

end Sys2Proof.Machine
end

