-- ==== Sys2Proof/Machine/Hash.lean ====
section
/-!
DEFINITION. Sys2Proof/Machine/Hash.lean: SHA-384 (FIPS 180-4) and HMAC-SHA-384, which the manual names for image, kernel and
session values (R3, R164, R242, R244, R411). PRESUMED: the manual cites the standards (log entry 6).
-/
namespace Sys2Proof.Machine
open Sys2Proof

/-- The round constants of SHA-384: the fractions of the cube roots of the first eighty primes. -/
def shaK0 : List U64 :=
  [0x428a2f98d728ae22, 0x7137449123ef65cd, 0xb5c0fbcfec4d3b2f, 0xe9b5dba58189dbbc,
   0x3956c25bf348b538, 0x59f111f1b605d019, 0x923f82a4af194f9b, 0xab1c5ed5da6d8118,
   0xd807aa98a3030242, 0x12835b0145706fbe, 0x243185be4ee4b28c, 0x550c7dc3d5ffb4e2,
   0x72be5d74f27b896f, 0x80deb1fe3b1696b1, 0x9bdc06a725c71235, 0xc19bf174cf692694]

/-- Constants 16 to 31. -/
def shaK1 : List U64 :=
  [0xe49b69c19ef14ad2, 0xefbe4786384f25e3, 0x0fc19dc68b8cd5b5, 0x240ca1cc77ac9c65,
   0x2de92c6f592b0275, 0x4a7484aa6ea6e483, 0x5cb0a9dcbd41fbd4, 0x76f988da831153b5,
   0x983e5152ee66dfab, 0xa831c66d2db43210, 0xb00327c898fb213f, 0xbf597fc7beef0ee4,
   0xc6e00bf33da88fc2, 0xd5a79147930aa725, 0x06ca6351e003826f, 0x142929670a0e6e70]

/-- Constants 32 to 47. -/
def shaK2 : List U64 :=
  [0x27b70a8546d22ffc, 0x2e1b21385c26c926, 0x4d2c6dfc5ac42aed, 0x53380d139d95b3df,
   0x650a73548baf63de, 0x766a0abb3c77b2a8, 0x81c2c92e47edaee6, 0x92722c851482353b,
   0xa2bfe8a14cf10364, 0xa81a664bbc423001, 0xc24b8b70d0f89791, 0xc76c51a30654be30,
   0xd192e819d6ef5218, 0xd69906245565a910, 0xf40e35855771202a, 0x106aa07032bbd1b8]

/-- Constants 48 to 63. -/
def shaK3 : List U64 :=
  [0x19a4c116b8d2d0c8, 0x1e376c085141ab53, 0x2748774cdf8eeb99, 0x34b0bcb5e19b48a8,
   0x391c0cb3c5c95a63, 0x4ed8aa4ae3418acb, 0x5b9cca4f7763e373, 0x682e6ff3d6b2b8a3,
   0x748f82ee5defb2fc, 0x78a5636f43172f60, 0x84c87814a1f0ab72, 0x8cc702081a6439ec,
   0x90befffa23631e28, 0xa4506cebde82bde9, 0xbef9a3f7b2c67915, 0xc67178f2e372532b]

/-- Constants 64 to 79. -/
def shaK4 : List U64 :=
  [0xca273eceea26619c, 0xd186b8c721c0c207, 0xeada7dd6cde0eb1e, 0xf57d4f7fee6ed178,
   0x06f067aa72176fba, 0x0a637dc5a2c898a6, 0x113f9804bef90dae, 0x1b710b35131c471b,
   0x28db77f523047d84, 0x32caab7b40c72493, 0x3c9ebe0a15c9bebc, 0x431d67c49c100d4c,
   0x4cc5d4becb3e42b6, 0x597f299cfc657e2a, 0x5fcb6fab3ad6faec, 0x6c44198c4a475817]

/-- All eighty. -/
def shaK : List U64 := shaK0 ++ shaK1 ++ shaK2 ++ shaK3 ++ shaK4

/-- The initial hash value of SHA-384: its eight words, first to last. -/
def shaInit : List U64 :=
  [0xcbbb9d5dc1059ed8, 0x629a292a367cd507, 0x9159015a3070dd17, 0x152fecd8f70e5939,
   0x67332667ffc00b31, 0x8eb44a8768581511, 0xdb0c2e0d64f98fa7, 0x47b5481dbefa4fa4]

/-- The exclusive or of rotations to the right, and of a shift where one is given. -/
def shaSigma (rots : List Nat) (shift : Option Nat) (x : U64) : U64 :=
  rots.foldl (fun y n => y ^^^ x.rotateRight n) (match shift with | some n => x >>> n | none => 0)

/-- A bit of `y` where that of `x` is 1, else of `z`; and the value at least two of three bits have. -/
def shaChoose (x y z : U64) : U64 := z ^^^ (x &&& (y ^^^ z))
def shaMajor (x y z : U64) : U64 := (x &&& (y ||| z)) ||| (y &&& z)

/-- One round with constant `k` and message word `w`: every word of the state moves one place on, the fifth takes the first
sum, and the new first word takes both. -/
def shaRound (s : List U64) (k w : U64) : List U64 :=
  let v (i : Nat) : U64 := s.getD i 0
  let first := w + k + v 7 + shaChoose (v 4) (v 5) (v 6) + shaSigma [14, 18, 41] none (v 4)
  let second := shaMajor (v 0) (v 1) (v 2) + shaSigma [28, 34, 39] none (v 0)
  (first + second) :: (s.take 3 ++ (v 3 + first) :: (s.drop 4).take 3)

/-- The next message word from the sixteen before it. -/
def shaNext (w : List U64) : U64 :=
  w.getD 0 0 + shaSigma [1, 8] (some 7) (w.getD 1 0) + w.getD 9 0 + shaSigma [19, 61] (some 6) (w.getD 14 0)

/-- The rounds over the constants, with a window of sixteen message words. -/
def shaRounds : List U64 → List U64 → List U64 → List U64
  | [], _, s => s
  | k :: ks, w, s => shaRounds ks (w.drop 1 ++ [shaNext w]) (shaRound s k (w.getD 0 0))

/-- One block of sixteen words. -/
def shaBlock (s : List U64) (w : List U64) : List U64 := List.zipWith (· + ·) s (shaRounds shaK w s)

/-- The message padded to whole blocks: a 1 bit, zeros, the length in bits as 128 bits. -/
def shaPad (bs : List Byte) : List Byte :=
  bs ++ [0x80] ++ List.replicate ((239 - bs.length % 128) % 128) 0 ++ beBytes 16 (8 * bs.length)

/-- Sixteen 64-bit words, most significant byte first, from the front of the bytes. -/
def shaWords (bs : List Byte) : List U64 :=
  (List.range 16).map fun i => BitVec.ofNat 64 (beNat ((bs.drop (8 * i)).take 8))

/-- The blocks of a padded message, `n` of them. -/
def shaBlocks : Nat → List Byte → List U64 → List U64
  | 0, _, s => s
  | n + 1, bs, s => shaBlocks n (bs.drop 128) (shaBlock s (shaWords bs))

/-- SHA-384 of bytes, 48 bytes. -/
def sha384Bytes (bs : List Byte) : List Byte :=
  let m := shaPad bs
  let s := shaBlocks (m.length / 128) m shaInit
  ((s.take 6).map fun x => beBytes 8 x.toNat).flatten

/-- SHA-384 of little-endian words as twelve words, most significant word first (Table 6.3, R410). -/
def sha384 (ws : List Word) : List Word :=
  let d := sha384Bytes (wordsToBytes ws)
  (List.range 12).map fun i => BitVec.ofNat 32 (beNat ((d.drop (4 * i)).take 4))

/-- HMAC-SHA-384 of a key and a message, in bytes (R242, R244). -/
def hmacSha384 (key msg : List Byte) : List Byte :=
  let k := if 128 < key.length then sha384Bytes key else key
  let k := k ++ List.replicate (128 - k.length) 0
  sha384Bytes (k.map (· ^^^ 0x5C) ++ sha384Bytes (k.map (· ^^^ 0x36) ++ msg))

end Sys2Proof.Machine
end

