-- ==== Sys2Proof/Machine/Crypto.lean ====
section
/-!
DEFINITION. Sys2Proof/Machine/Crypto.lean: Line Encryption: key slots, sessions, the handshake, segments, zeroisation, and
the opcodes of Table 9.6 (R239 to R260).
-/
namespace Sys2Proof.Machine
open Sys2Proof

/-- CIPHER in force on a port. -/
def cipherOn (s : State) (p : Lp) : Bool := (s.port p).mode.running.cipher && inService s p

/-- The cipher core of the engine that serves a port sleeps: CIPHER is not granted ON, or the engine is COLD or COOL (Table
1.10). -/
def cipherAsleep (s : State) (p : Lp) : Bool :=
  !(s.port p).mode.granted.cipher || match servingEng s p with
    | some e => (s.engine e).st == .cold || (s.engine e).st == .cool
    | none => true

/-! ## Key slots (R242) -/

/-- A slot feeds a transmit session, a receive session or a handshake. -/
def slotInUse (k : Crypto) (i : Nat) : Bool :=
  let on (o : Option Session) : Bool := match o with | some x => x.slot == i | none => false
  on k.tx || on k.rx || on k.rxPend || (match k.hs with | some h => h.slot == i | none => false)
    || (match k.deriving_ with | some o => o.slot == i | none => false)

/-- Slot states: 0 EMPTY, 1 LOADED, 2 IN_USE. -/
def slotState (k : Crypto) (i : Nat) : Nat :=
  match k.slots.getD i none with
  | none => 0
  | some _ => if slotInUse k i then 2 else 1

/-- KEY_ID of a slot; an EMPTY slot reads 0. -/
def slotId (k : Crypto) (i : Nat) : Nat := match k.slots.getD i none with | some x => x.keyId | none => 0

/-- EV_KEY_SLOT for every slot whose state changed since `old`. -/
def slotEvents (p : Lp) (old : Crypto) (s : State) : State :=
  (List.range 4).foldl (fun s i =>
    let k := (s.port p).crypto
    if slotState old i = slotState k i then s
    else emit 0x8702 (lpT p) [w32 i, w32 (slotState k i), w32 (max (slotId old i) (slotId k i))] s) s

/-- The keys and sessions of a port change. -/
def setCrypto (p : Lp) (f : Crypto → Crypto) (s : State) : State :=
  slotEvents p (s.port p).crypto (s.modCrypto p f)

/-- EV_KEY_SESSION (Table 9.8). -/
def sessionEvent (p : Lp) (rx : Bool) (x : Session) (cause : Nat) (s : State) : State :=
  emit 0x8701 (lpT p) [w32 (b01 rx), w32 x.slot, w32 x.session, w32 cause] s

/-- The bytes of an ASCII string. -/
def ascii (l : List Nat) : List Byte := l.map w8

/-- KEY_CHECK: HMAC over "VLF-KCV". -/
def keyCheck (key : List Byte) : Word :=
  w32 (beNat ((hmacSha384 key (ascii [86, 76, 70, 45, 75, 67, 86])).take 4))

/-- The derivation of R244: "VLF-SESSION" between the counter and the zero byte. -/
def deriveSession (key : List Byte) (keyId session slot : Nat) (nonce : List Byte) : Session :=
  let out := hmacSha384 key (beBytes 4 1 ++ ascii [86, 76, 70, 45, 83, 69, 83, 83, 73, 79, 78] ++ [0]
    ++ beBytes 4 keyId ++ beBytes 4 session ++ nonce ++ beBytes 4 320)
  { session, slot, key := out.take 32, salt := (out.drop 32).take 4, check := w32 (beNat ((out.drop 36).take 4)) }

/-- The session of a slot of a port. -/
def slotSession (k : Crypto) (slot session : Nat) (nonce : List Byte) : Option Session :=
  (k.slots.getD slot none).map fun x => deriveSession x.key x.keyId session slot nonce

/-! ## Handshake (R244, R246, R248) -/

/-- RNG_FAIL is raised. -/
def rngBad (s : State) : Bool := raised s 0x8715 0 0

/-- A handshake fails: KEY_ACTIVATE completes with its result (R246). A handshake of the re-derivation has no command. -/
def failHandshake (p : Lp) (result : Nat) (s : State) : State :=
  match (s.port p).crypto.hs with
  | none => s
  | some h =>
    let s := setCrypto p (fun k => { k with hs := none }) (lpCount s p 0x070A 1)
    if h.cause = 0 then completeUnit 0x0704 (lpT p) stOk 0 [w32 result, w32 h.session] s else s

/-- SESSION after `n` (R244). -/
def nextSessionNum (n : Nat) : Nat := if n = 0xFFFFFFFF then 1 else n + 1

/-- A handshake starts: it takes the next SESSION; without a working random bit generator it fails with result 5. -/
def startHandshake (p : Lp) (slot cause : Nat) (s : State) : State :=
  let k := (s.port p).crypto
  let hs (nonce : List Byte) : Handshake :=
    { slot, session := k.nextSession, nonce, derived := none, cause, unknownRun := 0,
      deadline := s.hk + msT k.hsTimeout, armed := false }
  let next := nextSessionNum k.nextSession
  if rngBad s then
    failHandshake p 5 (setCrypto p (fun k => { k with nextSession := next, hs := some (hs []) }) s)
  else
    let (ws, s) := freeWs 4 s
    setCrypto p (fun k => { k with nextSession := next, hs := some (hs ((ws.map wordBytesBE).flatten)) }) s

/-- SESSION_DERIVED (R244): the offer's session at the initiating end, or the far offer's pending session. -/
def execSessionDerived (p : Lp) (rx : Bool) (dt : Nat) (s : State) : Host.Outcome State Fault Refusal :=
  let s := advance dt s
  let k := (s.port p).crypto
  .next (if !running s then s
    else if rx then
      match k.deriving_ with
      | some o => setCrypto p (fun k => { k with deriving_ := none, rxPend := slotSession k o.slot o.session o.nonce }) s
      | none => s
    else match k.hs with
      | some h =>
        if h.derived.isNone then
          setCrypto p (fun k => { k with hs := some { h with derived := slotSession k h.slot h.session h.nonce } }) s
        else s
      | none => s)

/-- HANDSHAKE_TIMEOUT (R246): result 1. -/
def execHandshakeTimeout (p : Lp) (dt : Nat) (s : State) : Host.Outcome State Fault Refusal :=
  let s := advance dt s
  .next (match (s.port p).crypto.hs with
    | some h => if running s && decide (h.deadline ≤ s.hk) then pump (failHandshake p 1 s) else s
    | none => s)

/-- A step of 2^16 of RESERVED (R253). -/
def reserveStep : U64 := 0x10000

/-- The switch to the offered session (R246, step 4). -/
def switchSession (p : Lp) (h : Handshake) (x : Session) (s : State) : State :=
  let s := setCrypto p (fun k => { k with tx := some x, txCounter := 0, txPhase := !k.txPhase, reserved := reserveStep,
                                          exhausted := false, hs := none }) s
  let s := clearAlarm 0x8711 (lpT p) 0 [] (clearAlarm 0x8714 (lpT p) 0 [] (lpCount s p 0x0708 1))
  let s := sessionEvent p false x h.cause s
  if h.cause = 0 then completeUnit 0x0704 (lpT p) stOk 0 [0, w32 h.session] s else s

/-- HANDSHAKE_SWITCH: at a cycle boundary of the transmitted frames. -/
def execHandshakeSwitch (p : Lp) (dt : Nat) (s : State) : Host.Outcome State Fault Refusal :=
  let s := advance dt s
  .next (match (s.port p).crypto.hs with
    | some h => match h.derived with
      | some x =>
        if running s && h.armed && (s.port p).frame.txNum % 16 == 0 then pump (switchSession p h x s) else s
      | none => s
    | none => s)

/-- 2^64 - 2^32 and 2^64 - 16 (R248). -/
def rederiveAt : Nat := 2 ^ 64 - 2 ^ 32
def exhaustAt : Nat := 2 ^ 64 - 16

/-- COUNTER_REDERIVE (R248): a handshake on the slot in force, again after each failure. -/
def execCounterRederive (p : Lp) (dt : Nat) (s : State) : Host.Outcome State Fault Refusal :=
  let s := advance dt s
  let k := (s.port p).crypto
  .next (match k.tx with
    | some x =>
      if running s && decide (rederiveAt ≤ k.txCounter.toNat) && k.hs.isNone then startHandshake p x.slot 1 s else s
    | none => s)

/-- KEY_EXHAUST (R248). -/
def execKeyExhaust (p : Lp) (dt : Nat) (s : State) : Host.Outcome State Fault Refusal :=
  let s := advance dt s
  let k := (s.port p).crypto
  .next (if running s && k.tx.isSome && decide (exhaustAt ≤ k.txCounter.toNat) && !k.exhausted then
      raiseAlarm 0x8711 (lpT p) 0 [] (s.modCrypto p fun k => { k with exhausted := true })
    else s)

/-! ## The crypto session channel (R245, Table 9.1) -/

def sessionNum (o : Option Session) : Nat := match o with | some x => x.session | none => 0

/-- The message a cycle starting now carries. -/
def cryptoMessage (k : Crypto) : List Byte :=
  let offer := match k.hs with | some h => if h.derived.isSome then some h else none | none => none
  let st := if k.hs.isSome then 1 else if k.tx.isSome then 2 else 0
  [w8 1, w8 st, w8 (onBit k.keyUnknown 0 + onBit k.exhausted 1), 0] ++ beBytes 4 (sessionNum k.tx)
    ++ (match offer with
      | some h => beBytes 4 h.session ++ beBytes 4 (slotId k h.slot) ++ (h.nonce ++ List.replicate 16 0).take 16
      | none => List.replicate 24 0)
    ++ (match k.rxPend with
      | some x => beBytes 4 x.session ++ wordBytesBE x.check
      | none => List.replicate 8 0)
    ++ (if k.tx.isSome then beBytes 8 k.txCounter.toNat else List.replicate 8 0)

/-- A far offer that is new (R246, step 2). -/
def takeOffer (p : Lp) (msg : List Byte) (s : State) : State :=
  let k := (s.port p).crypto
  let offer := beNat ((msg.drop 8).take 4)
  let id := beNat ((msg.drop 12).take 4)
  if offer = 0 ∨ offer = k.lastOffer then s.modCrypto p fun k => { k with lastOffer := offer }
  else
    match (List.range 4).find? fun i => slotState k i != 0 && slotId k i == id with
    | some i => setCrypto p (fun k => { k with
        lastOffer := offer, keyUnknown := false, rxPend := none,
        deriving_ := some { session := offer, slot := i, nonce := (msg.drop 16).take 16 } }) s
    | none => s.modCrypto p fun k => { k with lastOffer := offer, keyUnknown := true }

/-- The far end's answer to the own offer (R246, step 3). -/
def takeAck (p : Lp) (msg : List Byte) (s : State) : State :=
  match (s.port p).crypto.hs with
  | none => s
  | some h => match h.derived with
    | none => s
    | some x =>
      let run := if (msg.getD 2 0).getLsbD 0 then h.unknownRun + 1 else 0
      let s := s.modCrypto p fun k => { k with hs := some { h with unknownRun := run } }
      if beNat ((msg.drop 32).take 4) = h.session then
        if beNat ((msg.drop 36).take 4) = x.check.toNat then
          s.modCrypto p fun k => { k with hs := some { h with unknownRun := run, armed := true } }
        else failHandshake p 3 (raiseAlarm 0x8714 (lpT p) 0 [] s)
      else if 3 ≤ run then failHandshake p 2 (raiseAlarm 0x8714 (lpT p) 0 [] s)
      else s

/-- The receive COUNTER is synchronised (R250): in SYNC it takes the announced value; else a differing value enters
SYNC, which the next taken message leaves. -/
def takeCounter (p : Lp) (msg : List Byte) (own : U64) (s : State) : State :=
  let k := (s.port p).crypto
  let far : U64 := BitVec.ofNat 64 (beNat ((msg.drop 40).take 8))
  let differs := k.rx.isSome && far != own
  if k.sync then
    lpCount (s.modCrypto p fun k => { k with
      sync := false, rxCounter := if differs then k.rxCounter + (far - own) else k.rxCounter }) p 0x070B (b01 differs)
  else s.modCrypto p fun k => { k with sync := differs }

/-- CRYPTO_CYCLE_RECEIVED: a message of 16 frames with a header of record is taken. -/
def execCryptoCycleReceived (p : Lp) (dt : Nat) (s : State) : Host.Outcome State Fault Refusal :=
  let s := advance dt s
  .next (match (s.port p).crypto.cycle with
    | some (msg, own) =>
      if running s then
        let s := s.modCrypto p fun k => { k with cycle := none }
        pump (takeAck p msg (takeOffer p msg (takeCounter p msg own s)))
      else s
    | none => s)

/-- Bytes 13 to 15 of a header of record collected: a cycle of 16 frames with headers makes a message. -/
def collectMessage (p : Lp) (h : Option (List Byte)) (s : State) : State :=
  match h with
  | none => s.modCrypto p fun k => { k with msg := none }
  | some h =>
    let f := (h.getD 4 0).toNat % 16
    let part := (h.drop 13).take 3
    s.modCrypto p fun k =>
      if f = 0 then { k with msg := some part, msgCount := k.rxCounter }
      else match k.msg with
        | none => k
        | some m =>
          if m.length = 3 * f then
            if f = 15 then { k with msg := none, cycle := some (m ++ part, k.msgCount) }
            else { k with msg := some (m ++ part) }
          else { k with msg := none }

/-! ## Sessions ending -/

/-- The sessions and the handshake of a port end (R241, R256); a KEY_ACTIVATE in progress completes with `status` and
`detail`, or with result 4 under zeroisation. -/
def endSessions (p : Lp) (zeroised : Bool) (s : State) : State :=
  let k := (s.port p).crypto
  let s := match k.hs with
    | some h =>
      let s := setCrypto p (fun k => { k with hs := none }) (lpCount s p 0x070A 1)
      if h.cause = 0 then
        if zeroised then completeUnit 0x0704 (lpT p) stOk 0 [4, w32 h.session] s
        else completeUnit 0x0704 (lpT p) stBadState 0x0107 [] s
      else s
    | none => s
  let s := setCrypto p (fun k => { k with tx := none, rx := none, rxPend := none, deriving_ := none }) s
  let s := match k.tx with | some x => sessionEvent p false x 3 s | none => s
  match k.rx with | some x => sessionEvent p true x 3 s | none => s

/-- CIPHER OFF or SERVICE 0 takes effect: AUTH_FAIL clears when the port leaves service (R252). -/
def cryptoOff (p : Lp) (s : State) : State :=
  let s := endSessions p false s
  let s := s.modCrypto p fun k => { k with
    sync := true, msg := none, cycle := none, blankRun := 0, fails := 0, goodRun := 0, delivered := none }
  clearAlarm 0x8713 (lpT p) 0 [] (if inService s p then s else clearAlarm 0x8710 (lpT p) 0 [] s)

/-! ## Zeroisation (R254, R255) -/

/-- Every key, session and handshake of a port is erased. -/
def erasePort (p : Lp) (s : State) : State :=
  setCrypto p (fun k => { k with slots := [none, none, none, none] })
    (endSessions p true (s.modCrypto p fun k => { k with delivered := none }))

/-- Every key slot and session is erased, and KEY_ZEROISED is raised; outside the running states it waits for the next
command-ready. -/
def zeroise (s : State) : State :=
  let s := erasePort .lp1 (erasePort .lp0 s)
  if running s then raiseAlarm 0x8712 0 0 [] s
  else { s with keys := { s.keys with zeroisedDue := true } }

/-- Some tamper detector is asserted. -/
def tampered (s : State) : Bool := s.keys.voltage || s.keys.clock || s.keys.temperature || s.keys.lid

def setTamper (t : Tamper) (on : Bool) (k : KeyStore) : KeyStore :=
  match t with
  | .voltage => { k with voltage := on }
  | .clock => { k with clock := on }
  | .temperature => { k with temperature := on }
  | .lid => { k with lid := on }

/-- TAMPER_DETECTED: the key store runs in every powered state. -/
def execTamperDetected (source : Tamper) (dt : Nat) (s : State) : Host.Outcome State Fault Refusal :=
  let s := advance dt s
  .next (if s.pr.powered then pump (zeroise { s with keys := setTamper source true s.keys }) else s)

/-- TAMPER_DETECTOR_CLEAR. -/
def execTamperDetectorClear (source : Tamper) (dt : Nat) (s : State) : Host.Outcome State Fault Refusal :=
  let s := advance dt s
  .next (if s.pr.powered then { s with keys := setTamper source false s.keys } else s)

/-- RNG_HEALTH_FAIL (R244). -/
def execRngHealthFail (dt : Nat) (s : State) : Host.Outcome State Fault Refusal :=
  let s := advance dt s
  .next (if running s then
      raiseAlarm 0x8715 0 0 [] { s with keys := { s.keys with rngGood := some (s.hk + secT 1) } }
    else s)

/-- RNG_FAIL_CLEAR_TIMER: 1 s of passing tests. -/
def execRngFailClearTimer (dt : Nat) (s : State) : Host.Outcome State Fault Refusal :=
  let s := advance dt s
  .next (if running s && due s.keys.rngGood s.hk then
      clearAlarm 0x8715 0 0 [] { s with keys := { s.keys with rngGood := none } }
    else s)

/-! ## Segments (R239, R247, R249 to R253) -/

/-- The IV of a segment: SALT and COUNTER. -/
def segmentIv (x : Session) (n : U64) : List Byte := x.salt ++ beBytes 8 n.toNat

/-- A transmitted segment: the payload area from its 65,488 bytes of plaintext, whether it is blank, and the state. The
blank area carries idle blocks, given as `idle`. -/
def sealSegment (p : Lp) (plain idle : List Byte) (s : State) : List Byte × Bool × State :=
  let k := (s.port p).crypto
  match k.tx with
  | some x =>
    if k.txCounter.toNat < exhaustAt then
      let (c, t) := gcmSeal x.key (segmentIv x k.txCounter) [] plain
      let s := s.modCrypto p fun k => { k with
        reserved := if k.txCounter < k.reserved then k.reserved else k.txCounter + reserveStep,
        txCounter := k.txCounter + 1 }
      (c ++ t, false, lpCount s p 0x0701 1)
    else (idle ++ List.replicate 16 0, true, lpCount s p 0x0702 1)
  | none => (idle ++ List.replicate 16 0, true, lpCount s p 0x0702 1)

/-- The pending receive session becomes current (R249). -/
def promote (p : Lp) (x : Session) (s : State) : State :=
  let s := setCrypto p (fun k => { k with rx := some x, rxPend := none, rxCounter := 0 }) s
  sessionEvent p true x 2 (lpCount s p 0x0709 1)

/-- A segment opened under a session. -/
def openSegment (x : Session) (n : U64) (area : List Byte) : Option (List Byte) :=
  gcmOpen x.key (segmentIv x n) [] (area.take 65488) ((area.drop 65488).take 16)

/-- A segment fails, with its cause of Table 9.2 (R251, R252). -/
def failSegment (p : Lp) (cause : Nat) (s : State) : State :=
  let s := lpCount s p 0x0704 1
  let s := s.modCrypto p fun k => { k with fails := k.fails + 1, failedNow := k.failedNow + 1, goodRun := 0,
                                           delivered := none, failCause := some cause }
  if 3 ≤ (s.port p).crypto.fails then raiseAlarm 0x8710 (lpT p) 0 [] s else s

/-- A frame judged without a failed segment. -/
def passSegment (p : Lp) (reset : Bool) (area : Option (List Byte)) (s : State) : State :=
  let s := s.modCrypto p fun k => { k with
    goodRun := k.goodRun + 1, delivered := area, fails := if reset then 0 else k.fails }
  if (s.port p).crypto.authClear ≤ (s.port p).crypto.goodRun then clearAlarm 0x8710 (lpT p) 0 [] s else s

/-- The header's key phase and the pending session (R249): a toggled phase promotes. -/
def phaseStep (p : Lp) (h : Option (List Byte)) (s : State) : State :=
  match h with
  | none => s
  | some h =>
    let st := h.getD 7 0
    let k := (s.port p).crypto
    let phase := st.getLsbD 4
    let s := s.modCrypto p fun k => { k with rxPhase := phase, rxEnc := st.getLsbD 5 }
    match k.rxPend with
    | some x => if cipherOn s p && st.getLsbD 5 && phase != k.rxPhase then promote p x s else s
    | none => s

/-- CRYPTO_NO_SESSION: blank segments in 16 consecutive frames. -/
def blankStep (p : Lp) (blank : Bool) (s : State) : State :=
  let s := s.modCrypto p fun k => { k with blankRun := if blank then min 16 (k.blankRun + 1) else 0 }
  if (s.port p).crypto.blankRun = 16 then raiseAlarm 0x8713 (lpT p) 0 [] s else s

/-- The session a segment is opened under: for a headerless frame at a cycle start with a pending session, the one that
verifies (R249). -/
def openWith (p : Lp) (x : Session) (headerless cycleStart : Bool) (area : List Byte) (s : State) :
    Option (List Byte) × State :=
  let k := (s.port p).crypto
  let own := openSegment x k.rxCounter area
  match k.rxPend with
  | some y =>
    if headerless && cycleStart && own.isNone then
      match openSegment y 0 area with
      | some a =>
        let s := promote p y s
        (some a, s.modCrypto p fun k => { k with rxPhase := !k.rxPhase })
      | none => (none, s)
    else (own, s)
  | none => (own, s)

/-- Table 9.2: a received frame's segment is judged, from its header of record, the FRAME_NUM it stands at, whether any
byte of the area is marked UNCORR, and the descrambled area. `delivered` then holds the area that leaves the tag hold,
none where the segment was replaced or idle blocks are delivered. -/
def judgeSegment (p : Lp) (h : Option (List Byte)) (num : Nat) (uncorr : Bool) (area : List Byte) (s : State) : State :=
  let on := cipherOn s p
  let s := phaseStep p h s
  let k := (s.port p).crypto
  let enc := k.rxEnc
  let blank := enc && (match h with | some h => (h.getD 12 0).getLsbD 7 | none => false)
  let s := if on then blankStep p blank s else s
  let next (s : State) : State :=
    if on && enc && !blank then s.modCrypto p fun k => { k with rxCounter := k.rxCounter + 1 } else s
  if !on && !enc then passSegment p true (some area) s
  else if uncorr then next (passSegment p false none (lpCount s p 0x0706 1))
  else if on && enc && k.sync then next (passSegment p false none (lpCount s p 0x0707 1))
  else if on && enc then
    match k.rx with
    | none => if blank then passSegment p false none (lpCount s p 0x0705 1) else next (failSegment p 1 s)
    | some x =>
      if blank then failSegment p 2 s
      else
        let (r, s) := openWith p x h.isNone (num % 16 == 0) area s
        match r with
        | some a => next (clearAlarm 0x8713 (lpT p) 0 [] (passSegment p true (some a) (lpCount s p 0x0703 1)))
        | none => next (failSegment p 0 s)
  else failSegment p (if on then 3 else 4) s

/-! ## Status (Table 9.5) -/

def cipherWord (s : State) (p : Lp) : Nat :=
  let k := (s.port p).crypto
  let on := cipherOn s p
  let tx := if !on then 0 else if k.hs.isSome then 2 else if k.tx.isSome then 3 else 1
  let rx := if !on then 0 else if k.rx.isNone then 1 else if k.sync then 2 else 3
  let slot (o : Option Session) : Nat := match o with | some x => x.slot | none => 0
  tx + rx * 2 ^ 2 + onBit k.txPhase 4 + onBit k.rxPhase 5 + slot k.tx * 2 ^ 6 + slot k.rx * 2 ^ 8
    + (List.range 4).foldl (fun a i => a + onBit (slotState k i != 0) (10 + i)) 0 + onBit k.rxPend.isSome 14
    + onBit (raised s 0x8712 0 0) 15 + min 255 k.fails * 2 ^ 16 + min 255 k.failedLast * 2 ^ 24

/-- The encryption's part of a 1-second boundary. -/
def cryptoSecond (p : Lp) (s : State) : State :=
  s.modCrypto p fun k => { k with failedLast := k.failedNow, failedNow := 0 }

/-! ## Opcodes -/

/-- CRYPTO_LOCK is held by the commanding port. -/
def holdsCrypto (s : State) (c : Cmd) : Bool := match lockHolder s .crypto with | some (q, _) => q == c.port | none => false

/-- KEY_LOCK. -/
def keyLockOp : OpSpec where
  code := 0x0701
  targets := fun t => t == 0
  lock := some .crypto
  resLen := fun _ _ _ => 1
  run := fun s _ c =>
    if c.port == .pcie || c.port == .spi then okRes (setLock s .crypto (some (c.port, s.hk))) [w32 (portCode c.port)]
    else refuse s stBadState 0x0103
def execKeyLock (c : Cmd) (s : State) : Host.Outcome State Fault Refusal := .next (serve keyLockOp c s)

/-- KEY_UNLOCK. -/
def keyUnlockOp : OpSpec where
  code := 0x0702
  targets := fun t => t == 0
  lock := some .crypto
  run := fun s _ c =>
    if c.port == .pcie || c.port == .spi then okRes (releaseLock .crypto 0 s) [] else refuse s stBadState 0x0103
def execKeyUnlock (c : Cmd) (s : State) : Host.Outcome State Fault Refusal := .next (serve keyUnlockOp c s)

/-- KEY_LOAD (R242, R243, R255). -/
def keyLoadOp : OpSpec where
  code := 0x0703
  targets := isLpT
  lock := some .crypto
  nparams := 10
  badParam := fun _ c => firstBad [(3, within (c.w 3) 0 3), (4, c.w 4 != 0)]
  resLen := fun _ _ _ => 1
  run := fun s t c =>
    let p := lpOfT t
    let k := (s.port p).crypto
    if !holdsCrypto s c then refuse s stBadState 0x0100
    else if tampered s then refuse s stBadState 0x0102
    else if slotState k (c.w 3) == 2 then refuse s stBadState 0x0104
    else if (List.range 4).any fun i => i != c.w 3 && slotState k i != 0 && slotId k i == c.w 4 then
      refuse s stBadState 0x0105
    else
      let key := ((List.range 8).map fun i => beBytes 4 (c.w (5 + i))).flatten
      let check := keyCheck key
      let s := setCrypto p (fun k => { k with slots := setAt k.slots (c.w 3) (some { key, keyId := c.w 4, check }) }) s
      okRes (clearAlarm 0x8712 0 0 [] s) [check]
def execKeyLoad (c : Cmd) (s : State) : Host.Outcome State Fault Refusal := .next (serve keyLoadOp c s)

/-- KEY_ACTIVATE (R246). -/
def keyActivateOp : OpSpec where
  code := 0x0704
  targets := isLpT
  lock := some .crypto
  nparams := 1
  badParam := fun _ c => firstBad [(3, within (c.w 3) 0 3)]
  resLen := fun _ _ _ => 2
  run := fun s t c =>
    let p := lpOfT t
    let k := (s.port p).crypto
    if !holdsCrypto s c then refuse s stBadState 0x0100
    else if k.hs.isSome then refuse s stBadState 0x0101
    else if slotState k (c.w 3) == 0 then refuse s stBadState 0x0106
    else if !cipherOn s p then refuse s stBadState 0x0107
    else { st := clearAlarm 0x8714 t 0 [] s, settled := false }
  after := fun s c => startHandshake (lpOfT c.target) (c.w 3) 0 s
def execKeyActivate (c : Cmd) (s : State) : Host.Outcome State Fault Refusal := .next (serve keyActivateOp c s)

/-- KEY_ZEROISE (R243, R254). -/
def keyZeroiseOp : OpSpec where
  code := 0x0705
  targets := fun t => t == 0
  run := fun s _ c =>
    if c.port == .ib0 || c.port == .ib1 then refuse s stBadState 0x0108 else okRes (zeroise s) []

/-- A KEY_ZEROISE that waits in a receive queue: its last word has been received, and the erase has been done (Table 9.3). -/
def keyZeroiseWaits (s : State) (c : Cmd) : Bool :=
  ((s.host.rxq.get c.port).any fun k => carries 0x0705 c k.words) && c.port != .ib0 && c.port != .ib1

/-- A KEY_ZEROISE packet in a receive queue that it has just entered: the erase takes place at once, in hardware, also during a
firmware pause (R254, Table 9.4). -/
def eraseOnReceipt (p : Port) (before : Nat) (ws : List Word) (s : State) : State :=
  let w2 := (ws.getD 2 0).toNat
  if before < (s.host.rxq.get p).length ∧ p ≠ .ib0 ∧ p ≠ .ib1 ∧ bits (ws.getD 1 0).toNat 16 16 = 0x0705
      ∧ bits w2 24 8 = 0 ∧ crc32cWords ws.dropLast = ws.getLastD 0 then zeroise s
  else s

def execKeyZeroise (c : Cmd) (s : State) : Host.Outcome State Fault Refusal :=
  let op : OpSpec := if keyZeroiseWaits s c then
      { keyZeroiseOp with run := fun s _ _ => okRes s [] }
    else keyZeroiseOp
  .next (eraseOnReceipt c.port (s.host.rxq.get c.port).length (cmdWords 0x0705 c) (serve op c s))

/-- KEY_ERASE: none of the named slots when one of them is IN_USE. A bit of MASK above the four slots is out of range (log
entry 120). -/
def keyEraseOp : OpSpec where
  code := 0x0706
  targets := isLpT
  lock := some .crypto
  nparams := 1
  badParam := fun _ c => firstBad [(3, decide (c.w 3 < 16))]
  resLen := fun _ _ _ => 1
  run := fun s t c =>
    let p := lpOfT t
    let k := (s.port p).crypto
    if !holdsCrypto s c then refuse s stBadState 0x0100
    else if (List.range 4).any fun i => bit (c.w 3) i && slotState k i == 2 then refuse s stBadState 0x0104
    else
      let s := setCrypto p (fun k => { k with
        slots := (List.range 4).map fun i => if bit (c.w 3) i then none else k.slots.getD i none }) s
      let k := (s.port p).crypto
      okRes s [w32 ((List.range 4).foldl (fun a i => a + onBit (slotState k i == 0) i) 0)]
def execKeyErase (c : Cmd) (s : State) : Host.Outcome State Fault Refusal := .next (serve keyEraseOp c s)

/-- KEY_STATUS. -/
def keyStatusOp : OpSpec where
  code := 0x0707
  targets := isLpT
  both := true
  flags := 8
  resLen := fun _ _ _ => 22
  run := fun s t _ =>
    let p := lpOfT t
    let k := (s.port p).crypto
    let check (i : Nat) : Word := match k.slots.getD i none with | some x => x.check | none => 0
    let holder := match lockHolder s .crypto with | some (q, _) => portCode q | none => 0
    okRes s ([w32 (cipherWord s p)] ++ (List.range 4).map (fun i => w32 (slotState k i))
      ++ (List.range 4).map (fun i => w32 (slotId k i)) ++ (List.range 4).map check
      ++ [w32 (sessionNum k.tx), w32 (sessionNum k.rx)] ++ lohi k.txCounter ++ lohi k.rxCounter ++ lohi k.reserved
      ++ [w32 holder])
def execKeyStatus (c : Cmd) (s : State) : Host.Outcome State Fault Refusal := .next (serve keyStatusOp c s)

/-- CIPHER_CONFIG. -/
def cipherConfigOp : OpSpec where
  code := 0x0708
  targets := isLpT
  both := true
  flags := 15
  nparams := 1
  badParam := fun _ c => firstBad [selU c 0 1 10000, selU c 1 1 1024]
  resLen := fun _ _ _ => 3
  run := fun s t c =>
    let p := lpOfT t
    let o := (s.port p).crypto
    let a := pick c 0 o.hsTimeout
    let b := pick c 1 o.authClear
    okRes (s.modCrypto p fun k => { k with hsTimeout := a, authClear := b }) [0, w32 a, w32 b]
def execCipherConfig (c : Cmd) (s : State) : Host.Outcome State Fault Refusal := .next (serve cipherConfigOp c s)

/-- CIPHER_COUNTERS (Table 9.7). -/
def cipherCountersOp : OpSpec := countersOp 0x0709 isLpT true false (idRange 0x0701 0x070B)
def execCipherCounters (c : Cmd) (s : State) : Host.Outcome State Fault Refusal := .next (serve cipherCountersOp c s)

end Sys2Proof.Machine
end

