-- ==== Sys2Proof/Machine/Clients.lean ====
section
/-!
DEFINITION. Sys2Proof/Machine/Clients.lean: host ports and lanes as the other units see them: configuration in force,
mapping, placement and fault signalling (R261 to R264, R273 to R277), and what of a line port is delivered (R226, R304).
-/
namespace Sys2Proof.Machine
open Sys2Proof

def State.lane (s : State) (n : Nat) : HostLane := SMap.get {} s.lanes n

def State.modLane (s : State) (n : Nat) (f : HostLane → HostLane) : State :=
  { s with lanes := SMap.set {} s.lanes n (f (s.lane n)) }

def State.hport (s : State) (n : Nat) : HostPort := SMap.get {} s.hports n

def State.modHport (s : State) (n : Nat) (f : HostPort → HostPort) : State :=
  { s with hports := SMap.set {} s.hports n (f (s.hport n)) }

/-- TARGET codes of lanes and host ports (Table 1.13). -/
def hlT (n : Nat) : Nat := 0x20 + n
def hpT (n : Nat) : Nat := 0x40 + n

def isHlT (t : Nat) : Bool := within t 0x20 0x3F
def isHpT (t : Nat) : Bool := within t 0x40 0x7F

/-- Host ports 0 to 31 are lane ports; 32 to 63 are relay ports. -/
def isLanePort (n : Nat) : Bool := decide (n < 32)

/-- The defaults of a host port (Table 10.6). -/
def hpDefault (n : Nat) : HpCfg :=
  let line : Lp := if n < 16 ∨ (32 ≤ n ∧ n < 48) then .lp0 else .lp1
  { enable := false, type := 2, laneRate := 2, firstLane := 2 * n % 32, line, firstSlot := 4 * (n % 8), ilt := true,
    retries := 8, laneHold := 200, lfOnSf := false, relayFrom := line.other, mtu := 9600 }

def hpCfg (s : State) (n : Nat) : HpCfg := ((s.hport n).cfg).getD (hpDefault n)

def hlCfg (s : State) (n : Nat) : HlCfg := ((s.lane n).cfg).getD {}

/-- Lanes of a port type at a lane rate (Table 10.1). -/
def laneCount (type rate : Nat) : Option Nat :=
  let row := match rate with
    | 2 => [0, 1, 2, 4, 8]
    | 1 => [1, 2, 4, 8, 0]
    | _ => [2, 4, 8, 0, 0]
  match row.getD type 0 with | 0 => none | n => some n

/-- Tributary slots of a type, and its rate in Mb/s. -/
def typeSlots (type : Nat) : Nat := 2 ^ type
def typeMb (type : Nat) : Nat := 100000 * 2 ^ type

/-- The lanes of a lane port's configuration. -/
def cfgLanes (c : HpCfg) : List Nat := (List.range ((laneCount c.type c.laneRate).getD 0)).map fun i => c.firstLane + i

/-- The lanes of a lane port. -/
def portLanes (s : State) (n : Nat) : List Nat := if isLanePort n then cfgLanes (hpCfg s n) else []

/-- Host ports in ascending order. -/
def hostPorts : List Nat := List.range 64

/-- The enabled lane port a lane belongs to. -/
def laneOwner (s : State) (lane : Nat) : Option Nat :=
  (List.range 32).find? fun n => (hpCfg s n).enable && (portLanes s n).contains lane

/-- The line port and first slot a host port is mapped to now (R264; Table 10.5). -/
def hpMap (s : State) (n : Nat) : Lp × Nat := ((s.hport n).mapped).getD ((hpCfg s n).line, (hpCfg s n).firstSlot)

/-- The granted CLIENT in force on a line port is PACKET. -/
def packetOn (s : State) (p : Lp) : Bool := (s.port p).mode.running.packet

/-- A host port follows CLIENT PACKET. -/
def isPacket (s : State) (n : Nat) : Bool := packetOn s (hpMap s n).1

/-- A host port is unplaced: a relay port by R263, a TRANSPARENT lane port by R274 and R275. -/
def unplacedOf (s : State) (n : Nat) : Bool :=
  let c := hpCfg s n
  let (l, slot) := hpMap s n
  let g := (s.port l).mode.running
  c.enable && if isLanePort n then
      !g.packet && if g.zr800 then
          !((c.type == 3 && slot == 0) || (c.type == 2 && (slot == 0 || slot == 4)))
        else decide (g.rate < slot + typeSlots c.type)
    else !(packetOn s c.line && packetOn s c.relayFrom)

/-- A host port is in local fault for R217 (R277). -/
def inLocalFault (s : State) (n : Nat) : Bool :=
  let h := s.hport n
  isLanePort n && (h.st == .localFault || h.st == .disabled || (h.st == .training && h.wasUp)
    || (portLanes s n).all fun i => !(s.lane i).locked)

/-- A COOL takeover of a port is in progress (R316). -/
def coolTakeover (s : State) (p : Lp) : Bool :=
  match (s.protPort p).tk with | some t => t.kind == 2 | none => false

/-- The downstream action of Table 8.6 applies to a port: SF, AIS, a COOL takeover, ENGINE_LOST or the inhibit time. -/
def downstream (s : State) (p : Lp) : Bool :=
  let f := (s.port p).frame
  f.sf || bit f.defects 3 || coolTakeover s p || raised s 0x8A13 (lpT p) 0 || f.inhibit.isSome

/-- A gap or hold of a takeover is in progress on a port. -/
def inGap (s : State) (p : Lp) : Bool :=
  match (s.protPort p).tk with
  | some t => t.step == .gap || t.step == .hold || t.step == .released
  | none => false

/-- What a lane port sends toward the host (Tables 10.3, 10.4, 10.5, R276). -/
inductive HostSignal where
  | electricalIdle | training | received | clientData | idle | localFault | remoteFault
deriving DecidableEq, Repr

/-- The signal of a lane port (R268, R276, R278; R328 for a group that is not selected). A PACKET port in LOCAL_FAULT under the
downstream action sends what the action asks for (log entry 145). -/
def hostSignal (s : State) (n : Nat) : HostSignal :=
  let h := s.hport n
  let c := hpCfg s n
  let (l, _) := hpMap s n
  if h.st = .disabled then .electricalIdle
  else if h.loopback = 3 then .received
  else if h.st = .training ∧ c.ilt ∧ c.laneRate = 2 then .training
  else if isPacket s n then
    if downstream s l then (if c.lfOnSf then .localFault else .idle)
    else if h.st = .localFault then .remoteFault else .clientData
  else if h.unplaced || !inService s l || (delivers s l && downstream s l) then .localFault
  else if inGap s l then .idle else .clientData

/-- A lane port sends local fault toward the host. -/
def sendsLf (s : State) (n : Nat) : Bool := isLanePort n && hostSignal s n == .localFault

/-- A lane port passes what it receives from the host: it is UP, placed, and its mapping is in effect (R271, R274). -/
def passesRx (s : State) (n : Nat) : Bool :=
  let h := s.hport n
  h.st == .up && !h.unplaced && !h.joins

/-- An engine delivers a port's transmit samples: it serves it ACTIVE and no gap or DAC hold is in progress (R304). -/
def transmits (s : State) (p : Lp) : Bool :=
  inService s p
    && (match servingEng s p with | some e => (s.engine e).st == .active | none => false)
    && (match (s.protPort p).tk with
      | some t => t.step != .gap && t.step != .hold && t.step != .released
      | none => true)

/-- A host port is UP and can carry frames. -/
def hpUp (s : State) (n : Nat) : Bool := (s.hport n).st == .up && !(s.hport n).unplaced

/-- EV_HP_STATE (Table 10.8). -/
def hpNum : HpSt → Nat
  | .disabled => 0
  | .training => 1
  | .aligning => 2
  | .up => 3
  | .localFault => 4

def hpEvent (n : Nat) (prev : HpSt) (cause : Nat) (s : State) : State :=
  let h := s.hport n
  emit 0x8801 (hpT n) [w32 (hpNum prev), w32 (hpNum h.st), w32 (b01 h.unplaced), w32 cause] s

end Sys2Proof.Machine
end

