-- ==== Sys2Proof/Machine/TmQueues.lean ====
section
/-!
DEFINITION. Sys2Proof/Machine/TmQueues.lean: the traffic manager's clock, token buckets, packet-buffer cells and banks,
queues and flushes (R284, R291 to R297, R299, R306).
-/
namespace Sys2Proof.Machine
open Sys2Proof

def State.modTm (s : State) (f : Tm → Tm) : State := { s with tm := f s.tm }

/-- The traffic manager clock runs: an enabled host port is in PACKET client mode (Table 1.5). -/
def tmRuns (s : State) : Bool := hostPorts.any fun n => (hpCfg s n).enable && isPacket s n

/-- Traffic manager cycles so far (1.5 GHz). -/
def tmNow (s : State) : Nat :=
  s.tm.cycles + (match s.tm.since with | some t => (s.hk - t) / 128 | none => 0)

/-- Times measured on the traffic manager clock that are running move on by `n` ticks for which it was gated (R12). -/
def shiftTm (n : Nat) (m : Tm) : Tm :=
  { m with
    gates := m.gates.map fun e => (e.1, { e.2 with changeAt := e.2.changeAt + n, restartAt := e.2.restartAt.map (· + n) })
    outputs := m.outputs.map fun e => (e.1, { e.2 with busy := if e.2.busy = 0 then 0 else e.2.busy + n })
    banks := m.banks.map fun b => { b with emptyFrom := b.emptyFrom.map (· + n) }
    poolLow := m.poolLow.map (· + n) }

/-- The clock starts or stops. -/
def steerTm (s : State) : State :=
  match s.tm.since, tmRuns s with
  | none, true => s.modTm fun m =>
      { shiftTm (s.hk - m.stopped) m with since := some s.hk, sampleAt := s.hk + usT m.cfg.sampleUs }
  | some _, false => s.modTm fun m => { m with cycles := tmNow s, since := none, stopped := s.hk }
  | _, _ => s

/-! ## Buckets (R291, R299) -/

/-- A bucket filled for `n` cycles at a rate in Mb/s, toward a cap in bytes. The fraction of a token is dropped only
when the value is next used (log entry 35). -/
def fillBucket (v : Int) (rate cap n : Nat) : Int :=
  let full : Int := (cap * 1024 : Nat)
  min full (v + ((n * rate * 1024 / 12000 : Nat) : Int))

/-- Both buckets as they stand at cycle `now`. -/
def bucketsAt (b : Buckets) (cir cbs pir pbs now : Nat) : Buckets :=
  { c := fillBucket b.c cir cbs (now - b.at_), p := fillBucket b.p pir pbs (now - b.at_), at_ := now }

/-- Buckets after TOKEN_RESET: 0 FULL, 1 ZERO (R300). -/
def resetBuckets (mode cbs pbs now : Nat) : Buckets :=
  if mode = 1 then { c := 0, p := 0, at_ := now }
  else { c := ((cbs * 1024 : Nat) : Int), p := ((pbs * 1024 : Nat) : Int), at_ := now }

def profileOfTm (s : State) (i : Nat) : Policer := SMap.get {} s.tm.profiles i

/-- The policer of R291 on a frame of `len` bytes. -/
def police (s : State) (prof : Nat) (b : Buckets) (len : Nat) (col : Colour) : Colour × Buckets :=
  if prof = 0 then (.green, b)
  else
    let f := profileOfTm s prof
    let b := bucketsAt b f.cir f.cbs f.pir f.pbs (tmNow s)
    let a : Int := (len * 1024 : Nat)
    if (f.aware && col == .red) || decide (b.p < a) then (.red, b)
    else if (f.aware && col == .yellow) || decide (b.c < a) then (.yellow, { b with p := b.p - a })
    else (.green, { b with p := b.p - a, c := b.c - a })

/-! ## Queues -/

/-- Queue numbers (R284). -/
def queueNo (dir port cls : Nat) : Nat := 512 * dir + 8 * port + cls

def queueOf (s : State) (q : Nat) : Queue := SMap.get {} s.tm.queues q

def modQueue (q : Nat) (f : Queue → Queue) (s : State) : State :=
  s.modTm fun m => { m with queues := SMap.set {} m.queues q (f (SMap.get {} m.queues q)) }

/-- Depth in bytes. -/
def depth (k : Queue) : Nat := k.frames.foldl (fun a f => a + f.bytes.length) 0

/-- The selector of a queue's counter (R308). -/
def queueSel (q id : Nat) : Nat := sel (hpT (q % 512 / 8)) (8 * (q / 512) + q % 8) id

def queueCount (q id n : Nat) (s : State) : State := ctrAdd s (queueSel q id) n

def tmCount (id n : Nat) (s : State) : State := ctrAdd s (sel 0x80 0 id) n

/-! ## Cells and banks (R293, R296) -/

/-- Cells of the packet buffer, and of a bank. -/
def totalCells : Nat := 121634816
def bankCells : Nat := 30408704

/-- Cells a frame occupies. -/
def cellsOf (len : Nat) : Nat := ceilDiv len 256

/-- Cells in use in a bank. -/
def bankUsed (s : State) (b : Nat) : Nat :=
  s.tm.queues.foldl (fun a q => q.2.frames.foldl (fun a f => a + f.cells.getD b 0) a) 0

/-- Cells in use. -/
def cellsUsed (s : State) : Nat := (List.range 4).foldl (fun a b => a + bankUsed s b) 0

/-- New cells are packed: every line port with CLIENT PACKET has POWER granted ECONOMY. -/
def packing (s : State) : Bool :=
  (lineports.any fun p => packetOn s p) && lineports.all fun p => !packetOn s p || (s.port p).mode.running.economy

def bankOf (s : State) (b : Nat) : TmBank := s.tm.banks.getD b {}

def modBank (b : Nat) (f : TmBank → TmBank) (s : State) : State :=
  s.modTm fun m => { m with banks := m.banks.set b (f (m.banks.getD b {})) }

/-- Cells of a frame placed: striped over the banks in turn, or packed in the lowest-index awake bank with room. -/
def placeCells (pack : Bool) (awake : List Bool) : Nat → List Nat → Nat → List Nat × Nat
  | 0, free, k => (free, k)
  | n + 1, free, k =>
    let order := if pack then (List.range 4).filter (fun b => awake.getD b false) ++ List.range 4
      else (List.range 4).map fun i => (k + i) % 4
    match order.find? fun b => decide (0 < free.getD b 0) with
    | some b => placeCells pack awake n (free.set b (free.getD b 0 - 1)) (if pack then k else (b + 1) % 4)
    | none => (free, k)

/-- The cells of a frame per bank, and the stripe after them. -/
def allocCells (s : State) (n : Nat) : List Nat × Nat :=
  let free := (List.range 4).map fun b => bankCells - bankUsed s b
  let awake := s.tm.banks.map fun b => b.st == .awake
  let (left, k) := placeCells (packing s) awake n free s.tm.stripe
  ((List.range 4).map fun b => free.getD b 0 - left.getD b 0, k)

/-- Banks after a change of cells or of packing: a bank whose queues hold no cell starts its 1 ms; without packing every
bank wakes; with it a further bank wakes when the awake ones pass 75 % of their cells or bandwidth. -/
def steerBanks (s : State) : State :=
  let s := (List.range 4).foldl (fun s b =>
    modBank b (fun k => { k with emptyFrom := if bankUsed s b = 0 then (match k.emptyFrom with
      | some t => some t
      | none => some s.hk) else none }) s) s
  if packing s then
    let awake := (List.range 4).filter fun b => (bankOf s b).st == .awake
    let used := awake.foldl (fun a b => a + bankUsed s b) 0
    let high := decide (3 * bankCells * awake.length < 4 * used) || decide (3 * 800 * awake.length < 4 * s.tm.hbmGBs)
    let waking := (List.range 4).any fun b => (bankOf s b).st == .waking
    match high && !waking, (List.range 4).find? fun b => (bankOf s b).st == .asleep with
    | true, some b => modBank b (fun k => { k with st := .waking }) s
    | _, _ => s
  else (List.range 4).foldl (fun s b =>
    modBank b (fun k => { k with st := if k.st == .asleep then .waking else k.st }) s) s

/-- TM_POOL_HIGH and its clear time (Table 11.10). -/
def poolAlarm (s : State) : State :=
  let used := cellsUsed s
  let lim := s.tm.cfg.poolGreen
  let s := if totalCells * lim ≤ 100 * used then raiseAlarm 0x8911 0x80 0 [] s else s
  let low := raised s 0x8911 0x80 0 && decide (100 * used < totalCells * (lim - 5))
  s.modTm fun m => { m with poolLow := if low then (match m.poolLow with
    | some t => some t
    | none => some (s.hk + secT 1)) else none }

/-- Everything that follows a change of the cells in use. -/
def cellsChanged (s : State) : State := poolAlarm (steerBanks s)

/-! ## Flush (R306) -/

/-- Frames of the named queues are discarded, counted in FLUSH_DROPS; how many. -/
def flushQueues (qs : List Nat) (s : State) : Nat × State :=
  let n := qs.foldl (fun a q => a + (queueOf s q).frames.length) 0
  if n = 0 then (0, s)
  else (n, cellsChanged (tmCount 0x0907 n (qs.foldl (fun s q => modQueue q (fun k => { k with frames := [] }) s) s)))

/-- A flush that follows a change of unit state: EV_TM_FLUSH. -/
def flushFor (unit cause : Nat) (qs : List Nat) (s : State) : State :=
  let (n, s) := flushQueues qs s
  emit 0x8901 0x80 [w32 unit, w32 cause, w32 n] s

/-- The queues of a host port in a direction. -/
def portQueues (dir n : Nat) : List Nat := (List.range 8).map fun c => queueNo dir n c

/-- A host port that line port `l` feeds (R285). -/
def fedFrom (s : State) (l : Lp) (n : Nat) : Bool :=
  if isLanePort n then (hpMap s n).1 == l else (hpCfg s n).relayFrom == l

/-- A line port leaves PACKET. -/
def flushLine (l : Lp) (s : State) : State :=
  let toLine := hostPorts.filter fun n => (hpMap s n).1 == l
  let toHost := hostPorts.filter fun n => fedFrom s l n
  let o := 64 + lpNum l
  let s := s.modTm fun m => { m with outputs := SMap.set {} m.outputs o { SMap.get {} m.outputs o with stream := [] } }
  flushFor o 0 ((toLine.map (portQueues 0)).flatten ++ (toHost.map (portQueues 1)).flatten) s

/-- A relay port becomes unplaced. -/
def flushRelay (n : Nat) (s : State) : State := flushFor n 1 (portQueues 0 n ++ portQueues 1 n) s

/-- A host port leaves UP. -/
def flushDown (n : Nat) (s : State) : State := if isPacket s n then flushFor n 2 (portQueues 1 n) s else s

end Sys2Proof.Machine
end

