-- ==== Sys2Proof/Machine/TmClassify.lean ====
section
/-!
DEFINITION. Sys2Proof/Machine/TmClassify.lean: classification of frames, the flow table, policing and admission
(R285 to R297).
-/
namespace Sys2Proof.Machine
open Sys2Proof

/-! ## Parsing (R286, R287) -/

def byteAt (bs : List Byte) (i : Nat) : Nat := (bs.getD i 0).toNat
def half (bs : List Byte) (i : Nat) : Nat := byteAt bs i * 256 + byteAt bs (i + 1)

/-- A TPID the parser passes over. -/
def isTpid (t : Nat) : Bool := t == 0x8100 || t == 0x88A8 || t == 0x9100

/-- Where the EtherType stands after at most two tags. -/
def etherAt (bs : List Byte) : Nat :=
  if isTpid (half bs 12) then (if isTpid (half bs 16) then 20 else 16) else 12

/-- The outermost tag's control word, if the frame is tagged. -/
def outerTag (bs : List Byte) : Option Nat := if isTpid (half bs 12) then some (half bs 14) else none

/-- VLAN, PCP and DEI of a frame. -/
def vlanOf (bs : List Byte) : Nat := match outerTag bs with | some t => t % 4096 | none => 4096
def pcpOf (bs : List Byte) : Nat := match outerTag bs with | some t => t / 8192 | none => 0
def deiOf (bs : List Byte) : Bool := match outerTag bs with | some t => t.testBit 12 | none => false

/-- TCP or UDP. -/
def isL4 (proto : Nat) : Bool := proto == 6 || proto == 17

/-- The ports of an IPv6 packet: its next header, where that header stands, extension headers still passed over. -/
def v6Ports (bs : List Byte) : Nat → Nat → Nat → List Byte
  | 0, nh, i => if isL4 nh then (bs.drop i).take 4 else [0, 0, 0, 0]
  | n + 1, nh, i =>
    if isL4 nh then (bs.drop i).take 4
    else if nh = 44 then
      if half bs (i + 2) / 8 ≠ 0 ∨ half bs (i + 2) % 2 = 1 then [0, 0, 0, 0] else v6Ports bs n (byteAt bs i) (i + 8)
    else if nh = 0 ∨ nh = 43 ∨ nh = 60 then v6Ports bs n (byteAt bs i) (i + 8 * (byteAt bs (i + 1) + 1))
    else if nh = 51 then v6Ports bs n (byteAt bs i) (i + 4 * (byteAt bs (i + 1) + 2))
    else [0, 0, 0, 0]

/-- The bytes HASH runs over, of an IP packet that begins at `i` (R287). -/
def hashBytes (bs : List Byte) (i : Nat) (v6 : Bool) : List Byte :=
  if v6 then
    (bs.drop (i + 8)).take 32 ++ [w8 (byteAt bs (i + 6))] ++ v6Ports bs 2 (byteAt bs (i + 6)) (i + 40)
  else
    let proto := byteAt bs (i + 9)
    let frag := half bs (i + 6) % 16384 ≠ 0
    let l4 := i + 4 * (byteAt bs i % 16)
    (bs.drop (i + 12)).take 8 ++ [w8 proto] ++ (if isL4 proto ∧ ¬frag then (bs.drop l4).take 4 else [0, 0, 0, 0])

/-- The key of a frame from a source (Table 11.2). -/
def flowKey (source : Nat) (bs : List Byte) : FlowKey :=
  let i := etherAt bs
  let ty := half bs i
  let b := i + 2
  if ty = 0xAEFE ∧ byteAt bs b / 16 = 1 ∧ byteAt bs (b + 1) ≤ 2 then
    { type := 1, source, vlan := vlanOf bs, value := half bs (b + 4) }
  else if ty = 0x0800 ∨ ty = 0x86DD then
    { type := 2, source, vlan := vlanOf bs, value := (crc32c (hashBytes bs b (ty == 0x86DD))).toNat }
  else { type := 0, source, vlan := vlanOf bs, value := 0 }

/-! ## Flow table (R288 to R290) -/

/-- Entries of the table. -/
def flowMax : Nat := 524288

/-- Valid entries. -/
def flowCount (s : State) : Nat := s.tm.flows.length

def flowAt (s : State) (i : Nat) : Option Flow := SMap.get none s.tm.flows i

def setFlow (i : Nat) (f : Option Flow) (s : State) : State :=
  s.modTm fun m => { m with flows := SMap.set none m.flows i f }

/-- The index of a key's entry. -/
def findFlow (s : State) (k : FlowKey) : Option Nat :=
  (s.tm.flows.find? fun e => match e.2 with | some f => f.key == k | none => false).map fun e => e.1

/-- The n-th index not in use, of a table with rising indexes, counting from `i`. -/
def nthFree : SMap (Option Flow) → Nat → Nat → Nat
  | [], i, n => i + n
  | (j, _) :: r, i, n => if i + n < j then i + n else nthFree r (j + 1) (n - (j - i))

/-- A free index for a new entry. The manual does not say which: a free value chooses (log entry 5). -/
def newIndex (s : State) : Nat × State :=
  let (f, s) := freeW s
  (nthFree s.tm.flows 0 (f.toNat % (flowMax - flowCount s)), s)

/-- Buckets FULL of a profile. -/
def fullBuckets (s : State) (prof : Nat) : Buckets :=
  let f := profileOfTm s prof
  resetBuckets 0 f.cbs f.pbs (tmNow s)

/-- An entry is made (R288). -/
def newFlow (s : State) (key : FlowKey) (cls dest prof : Nat) (static_ : Bool) : Flow :=
  { key, cls, dest, prof, static_, bk := fullBuckets s prof, lastHit := s.clk.seq, passed := 0, bytes := 0, red := 0 }

/-- FLOW_TABLE_FULL clears below 523,264 valid entries (Table 11.10). -/
def tableAlarm (s : State) : State := if flowCount s < 523264 then clearAlarm 0x8910 0x80 0 [] s else s

def srcCfg (s : State) (i : Nat) : SrcCfg := SMap.get {} s.tm.sources i

/-- The overflow buckets of a source. -/
def ovfBuckets (s : State) (src : Nat) : Buckets :=
  (SMap.get none s.tm.ovf src).getD (fullBuckets s (srcCfg s src).ovfProf)

/-- What a frame is handled by: an entry or the overflow path, with class, DEST and profile. -/
structure Handling where
  entry : Option Nat
  cls : Nat
  dest : Nat
  prof : Nat
  bk : Buckets

/-- A configured class: 8 takes the PCP of the outermost tag. -/
def classOf (cfg : Nat) (bs : List Byte) : Nat := if cfg = 8 then pcpOf bs else cfg

/-- The overflow path of a source (R289). -/
def overflowPath (s : State) (src : Nat) (bs : List Byte) : Handling :=
  let c := srcCfg s src
  { entry := none, cls := classOf c.ovfClass bs, dest := c.ovfDest, prof := c.ovfProf, bk := ovfBuckets s src }

/-- FLOW_LEARNED (R289): a miss with learning on and room in the table makes an entry. -/
def learnFlow (src : Nat) (k : FlowKey) (bs : List Byte) (s : State) : Handling × State :=
  let c := srcCfg s src
  let f := newFlow s k (classOf c.learnClass bs) c.learnDest c.learnProf false
  let (i, s) := newIndex s
  ({ entry := some i, cls := f.cls, dest := f.dest, prof := f.prof, bk := f.bk },
   tmCount 0x0901 1 (setFlow i (some f) s))

/-- A frame is classified: hit, learned, or on the overflow path. -/
def classify (src : Nat) (bs : List Byte) (s : State) : Handling × State :=
  let k := flowKey src bs
  let hit := match findFlow s k with
    | some i => (match flowAt s i with
      | some f => if s.hk < f.lostUntil then none else some (i, f)
      | none => none)
    | none => none
  match hit with
  | some (i, f) =>
    ({ entry := some i, cls := f.cls, dest := f.dest, prof := f.prof, bk := f.bk },
     setFlow i (some { f with lastHit := s.clk.seq }) s)
  | none =>
    if (findFlow s k).isSome then (overflowPath s src bs, tmCount 0x0904 1 s)
    else if (srcCfg s src).learn = 0 then (overflowPath s src bs, tmCount 0x0904 1 s)
    else if flowCount s < flowMax then learnFlow src k bs s
    else (overflowPath s src bs, tmCount 0x0903 1 (raiseAlarm 0x8910 0x80 0 [] s))

/-- The buckets and counters of what handled a frame, after policing. -/
def policed (h : Handling) (src len : Nat) (red : Bool) (bk : Buckets) (s : State) : State :=
  match h.entry with
  | some i => match flowAt s i with
    | some f => setFlow i (some { f with
        bk, passed := if red then f.passed else f.passed + 1,
        bytes := if red then f.bytes else f.bytes + BitVec.ofNat 64 len, red := if red then f.red + 1 else f.red }) s
    | none => s
  | none => if h.prof = 0 then s else s.modTm fun m => { m with ovf := SMap.set none m.ovf src (some bk) }

/-- FLOW_AGING at a boundary (R290): learned entries whose last hit lies AGE_TIME or more intervals back. -/
def ageFlows (s : State) : State :=
  let old (f : Flow) : Bool := !f.static_ && decide (s.tm.cfg.age ≤ s.clk.seq - f.lastHit)
  let n := (s.tm.flows.filter fun e => match e.2 with | some f => old f | none => false).length
  if n = 0 ∨ s.tm.since.isNone then s
  else tableAlarm (tmCount 0x0902 n (s.modTm fun m => { m with flows := m.flows.filter fun e => match e.2 with
    | some f => !old f
    | none => false }))

/-! ## Paths and admission (R285, R294) -/

/-- A host port can take frames toward the host. -/
def hostTakes (s : State) (n : Nat) : Bool := hpUp s n

/-- The path of a frame from a source with the given DEST: the queue's direction and host port, if there is one. -/
def framePath (s : State) (src dest : Nat) : Option (Nat × Nat) :=
  if src < 64 then
    let l := (hpMap s src).1
    if inService s l && packetOn s l && !(s.hport src).unplaced then some (0, src) else none
  else
    let l := lpOf (src - 64)
    if inService s l && packetOn s l && decide (dest < 64) && fedFrom s l dest && hostTakes s dest then some (1, dest)
    else none

/-- The counter of the first condition of R294 a frame fails, if any. -/
def admitFails (s : State) (q : Nat) (len : Nat) (col : Colour) : Option Nat :=
  let k := queueOf s q
  let d := depth k + len
  let used := cellsUsed s
  if k.cfg.maxDepth * 1024 < d then some 0x0984
  else if col == .yellow && decide (k.cfg.yellow * 1024 < d) then some 0x0985
  else if col == .yellow && decide (totalCells * s.tm.cfg.poolGreen ≤ 100 * used) then some 0x0985
  else if totalCells - used < cellsOf len then some 0x0984
  else none

end Sys2Proof.Machine
end

