-- ==== Sys2Proof/Machine/Traffic.lean ====
section
/-!
DEFINITION. Sys2Proof/Machine/Traffic.lean: scheduling, time windows, sampling and the opcodes of the Traffic Manager
(R286, R298 to R309).
-/
namespace Sys2Proof.Machine
open Sys2Proof

/-! ## Time windows (R301, R302) -/

def gateOf (s : State) (o : Nat) : Gate := SMap.get {} s.tm.gates o

def modGate (o : Nat) (f : Gate → Gate) (s : State) : State :=
  s.modTm fun m => { m with gates := SMap.set {} m.gates o (f (SMap.get {} m.gates o)) }

/-- A class may start in a gate state: 0 CLOSED, 1 OPEN, 2 PROTECTED. -/
def gateAllows (express st cls : Nat) : Bool :=
  decide (7 < express) || (if cls = express then st != 0 else st != 2)

/-- The state of an entry of a schedule. -/
def entryState (c : Sched) (i : Nat) : Nat := (c.entries.getD i (0, 1)).2
def entryNs (c : Sched) (i : Nat) : Nat := (c.entries.getD i (0, 1)).1

/-- The class may start now. -/
def gateOpen (g : Gate) (cls : Nat) : Bool := gateAllows g.sched.express (entryState g.sched g.entry) cls

/-- Time from `t` on until the class is forbidden, following entry `i`, over at most `n` further entries. -/
def untilClosed (g : Gate) (cls : Nat) : Nat → Nat → Nat → Option Nat
  | 0, _, _ => none
  | n + 1, i, t =>
    let i := if i + 1 < g.sched.entries.length then i + 1 else 0
    let cut := match g.restartAt with | some r => decide (r ≤ t) | none => false
    let i := if cut then 0 else i
    if gateAllows g.sched.express (entryState g.sched i) cls then untilClosed g cls n i (t + nsT (entryNs g.sched i))
    else some t

/-- The housekeeping time of the next gate change that forbids a class that may start now. -/
def closesAt (g : Gate) (cls : Nat) : Option Nat :=
  let first := match g.restartAt with | some r => min r g.changeAt | none => g.changeAt
  if 7 < g.sched.express then none else untilClosed g cls g.sched.entries.length g.entry first

/-- The rate of an output in Mb/s (R302). -/
def outputMb (s : State) (o : Nat) : Nat :=
  if o < 64 then typeMb (hpCfg s o).type
  else
    let p := lpOf (o - 64)
    let g := (s.port p).mode.running
    let blocks := if g.cipher then 2038 else 2039
    if g.zr800 then 800000 else blocks * 256 * 310000 * 12 * 63 * g.rate / (64 * 589824 * 32)

/-- A: the frame's length with the overhead (R299). -/
def shaped (s : State) (f : QFrame) : Nat := f.bytes.length + s.tm.cfg.overhead

/-- The frame fits before the gate forbids its class (R302). -/
def fits (s : State) (o cls a : Nat) : Bool :=
  match closesAt (gateOf s o) cls with
  | none => true
  | some t => decide (a * 8 * 192000 ≤ (t - s.hk) * outputMb s o)

/-! ## Scheduling (R298, R299) -/

/-- A queue's shaper buckets now. -/
def shaperNow (s : State) (k : Queue) : Buckets := bucketsAt k.bk k.cfg.cir k.cfg.cbs k.cfg.pir k.cfg.pbs (tmNow s)

def peakOk (s : State) (k : Queue) : Bool := k.cfg.pir == 0 || decide (0 ≤ (shaperNow s k).p)
def commOk (s : State) (k : Queue) : Bool := decide (0 < k.cfg.cir) && decide (0 ≤ (shaperNow s k).c) && peakOk s k

/-- The queues of a class an output serves, in order of host port. -/
def outQueues (s : State) (o cls : Nat) : List Nat :=
  if o < 64 then [queueNo 1 o cls]
  else (hostPorts.filter fun n => (hpMap s n).1 == lpOf (o - 64)).map fun n => queueNo 0 n cls

/-- The gate rule lets a queue's head frame start. -/
def mayStart (s : State) (o cls q : Nat) : Bool :=
  let k := queueOf s q
  match k.frames with
  | [] => false
  | f :: _ => gateOpen (gateOf s o) cls && (k.cfg.overrun == 1 || fits s o cls (shaped s f))

/-- The queues of a class that one pass may take. -/
def candidates (s : State) (o : Nat) (committed : Bool) (cls : Nat) : List Nat :=
  (outQueues s o cls).filter fun q =>
    (if committed then commOk s (queueOf s q) else peakOk s (queueOf s q)) && mayStart s o cls q

/-- The classes, highest first. -/
def classes : List Nat := [7, 6, 5, 4, 3, 2, 1, 0]

/-- A pass: the highest class with a candidate, and its candidates. -/
def pass (s : State) (o : Nat) (committed : Bool) : Option (Nat × List Nat) :=
  (classes.find? fun c => !(candidates s o committed c).isEmpty).map fun c => (c, candidates s o committed c)

/-- Both passes: class, candidates, committed. -/
def select (s : State) (o : Nat) : Option (Nat × List Nat × Bool) :=
  match pass s o true with
  | some (c, qs) => some (c, qs, true)
  | none => (pass s o false).map fun x => (x.1, x.2, false)

/-- Deficit round robin among candidate queues: from the port of the turn on, a queue whose deficit covers its head frame,
each visit adding one MTU (R298). The queue, and the deficits. -/
def drr (s : State) : Nat → List Nat → SMap Nat → Option Nat × SMap Nat
  | 0, _, d => (none, d)
  | _, [], d => (none, d)
  | n + 1, q :: r, d =>
    let len := match (queueOf s q).frames with | f :: _ => f.bytes.length | [] => 0
    if len ≤ SMap.get 0 d q then (some q, d)
    else drr s n (r ++ [q]) (SMap.set 0 d q (SMap.get 0 d q + (hpCfg s (q % 512 / 8)).mtu))

/-- The queue an output serves among candidates of a class. -/
def pickQueue (s : State) (o cls : Nat) (qs : List Nat) : Option Nat × SMap Nat :=
  if o < 64 then (qs.head?, s.tm.deficits)
  else
    let turn := SMap.get 0 (SMap.get {} s.tm.outputs o).turn cls
    let order := (qs.filter fun q => decide (turn ≤ q)) ++ qs.filter fun q => decide (q < turn)
    drr s (2 * qs.length + 1) order s.tm.deficits

/-- An output is free to select: the previous frame is handed on, and it can send. -/
def outputFree (s : State) (o : Nat) : Bool :=
  decide ((SMap.get {} s.tm.outputs o).busy ≤ s.hk) &&
    if o < 64 then hpUp s o && isPacket s o
    else packetOn s (lpOf (o - 64)) && transmits s (lpOf (o - 64))

/-! ## Arrival (R286 to R297) -/

/-- A frame admitted to a queue; cut-through when its queue is empty and its output can select it at once (R295). -/
def enqueue (q o : Nat) (bs : List Byte) (col : Colour) (s : State) : State :=
  let f : QFrame := { bytes := bs, colour := col, at_ := tmNow s, cells := [0, 0, 0, 0], cut := true }
  let s := queueCount q 0x0981 bs.length (queueCount q 0x0980 1 s)
  let t := modQueue q (fun k => { k with frames := k.frames ++ [f] }) s
  let cut := (queueOf s q).frames.isEmpty && outputFree t o &&
    match select t o with | some (c, qs, _) => (pickQueue t o c qs).1 == some q | none => false
  if cut then queueCount q 0x0987 1 t
  else
    let (cells, k) := allocCells s (cellsOf bs.length)
    cellsChanged ((modQueue q (fun k => { k with frames := k.frames ++ [{ f with cells, cut := false }] }) s).modTm
      fun m => { m with stripe := k, hbmBytes := m.hbmBytes + bs.length })

/-- A frame that reached the traffic manager from a source, with its input colour. -/
def takeFrame (src : Nat) (bs : List Byte) (col : Colour) (staging : Bool) (s : State) : State :=
  let (h, s) := classify src bs s
  match framePath s src h.dest with
  | none => tmCount 0x0905 1 s
  | some (dir, port) =>
    if 64 ≤ src ∧ (hpCfg s port).mtu < bs.length then tmCount 0x0909 1 s
    else
      let q := queueNo dir port h.cls
      let (c, bk) := police s h.prof h.bk bs.length col
      let s := policed h src bs.length (c == .red) bk s
      if c = .red then queueCount q 0x0986 1 s
      else if staging then tmCount 0x0906 1 s
      else match admitFails s q bs.length c with
        | some id => queueCount q id 1 s
        | none => enqueue q (if dir = 0 then 64 + lpNum (hpMap s port).1 else port) bs c s

/-- A host port's counter. -/
def hpCount (n id k : Nat) (s : State) : State := ctrAdd s (sel (hpT n) 0 id) k

/-- A frame from a lane port's PCS: counted; one with a bad check sequence or longer than the MTU goes no further. -/
def arriveHost (n : Nat) (f : TmFrame) (staging : Bool) (s : State) : State :=
  let len := f.bytes.length
  let s := hpCount n 0x0802 len (hpCount n 0x0801 1 s)
  let s := if len < 64 then hpCount n 0x0804 1 s else s
  if f.badFcs then hpCount n 0x0803 1 s
  else if (hpCfg s n).mtu < len then hpCount n 0x0805 1 s
  else takeFrame n f.bytes (if deiOf f.bytes then .yellow else .green) staging s

/-- A frame from a line port's payload grid (R303, R226, R328). -/
def arriveLine (p : Lp) (f : TmFrame) (staging : Bool) (s : State) : State :=
  if downstream s p then s
  else if !delivers s p then tmCount 0x0905 1 s
  else if f.badFcs || f.errored then tmCount 0x0908 1 s
  else takeFrame (64 + lpNum p) f.bytes (if deiOf f.bytes then .yellow else .green) staging s

/-- TM_FRAME_ARRIVAL. Relay ports are sources only of the frames that re-enter (TM_FRAME_SELECT). -/
def execTmFrameArrival (source : Nat) (f : TmFrame) (stagingFull : Bool) (dt : Nat) (s : State) :
    Host.Outcome State Fault Refusal :=
  let s := advance dt s
  .next (if running s && s.tm.since.isSome then
      if decide (source < 32) && isPacket s source && (s.hport source).st == .up then arriveHost source f stagingFull s
      else if (source == 64 || source == 65) && packetOn s (lpOf (source - 64)) && inService s (lpOf (source - 64)) then
        arriveLine (lpOf (source - 64)) f stagingFull s
      else s
    else s)

/-! ## Selection -/

/-- Head frames the gate rule holds are counted once (R302). -/
def markHeld (o : Nat) (s : State) : State :=
  classes.foldl (fun s c => (outQueues s o c).foldl (fun s q =>
    let k := queueOf s q
    match k.frames with
    | f :: r =>
      if !f.held && peakOk s k && gateOpen (gateOf s o) c && k.cfg.overrun != 1 && !fits s o c (shaped s f) then
        queueCount q 0x0988 1 (modQueue q (fun k => { k with frames := { f with held := true } :: r }) s)
      else s
    | [] => s) s) s

/-- The subtraction from the buckets of a queue of host port `n`, never below minus its MTU and overhead (R299). -/
def spend (s : State) (k : Queue) (n : Nat) (committed : Bool) (a : Nat) : Buckets :=
  let b := shaperNow s k
  let floor : Int := -(((hpCfg s n).mtu + s.tm.cfg.overhead) * 1024 : Nat)
  let less (v : Int) : Int := max (min v floor) (v - (a * 1024 : Nat))
  { b with c := if committed then less b.c else b.c, p := if k.cfg.pir = 0 then b.p else less b.p }

/-! ## The Ethernet stream of a line output (R303, IEEE 802.3 64b/66b) -/

/-- The 64 bits of up to eight octets, the first lowest. -/
def octets64 (bs : List Byte) : BitVec 64 := BitVec.ofNat 64 (bs.foldr (fun b n => 256 * n + b.toNat) 0)

/-- Block types of a terminate block after 0 to 7 octets of data. -/
def termTypes : List Byte := [0x87, 0x99, 0xAA, 0xB4, 0xCC, 0xD2, 0xE1, 0xFF]

/-- Data blocks and the terminate block of the rest of a frame. -/
def dataBlocks : Nat → List Byte → List (Bool × BitVec 64)
  | 0, _ => []
  | n + 1, bs =>
    if bs.length < 8 then [(false, octets64 (termTypes.getD bs.length 0 :: bs))]
    else (true, octets64 (bs.take 8)) :: dataBlocks n (bs.drop 8)

/-- A frame as 64b/66b blocks: it starts at the first octet of a block with the preamble and the start-of-frame delimiter, and
one block of idle follows it (the gap between frames: log entry 148). -/
def frameBlocks66 (bs : List Byte) : List (Bool × BitVec 64) :=
  (false, octets64 [0x78, 0x55, 0x55, 0x55, 0x55, 0x55, 0x55, 0xD5]) :: dataBlocks (bs.length / 8 + 1) bs ++ [idle66]

/-- A frame leaves on an output: counted, and re-entering from a relay port with its colour (R292). -/
def sendFrame (o : Nat) (f : QFrame) (s : State) : State :=
  let len := f.bytes.length
  let wire := ceilDiv (shaped s f * 8 * 192000) (outputMb s o)
  let s := s.modTm fun m => { m with
    outputs := SMap.set {} m.outputs o { SMap.get {} m.outputs o with busy := s.hk + wire, last := f.bytes },
    hbmBytes := if f.cut then m.hbmBytes else m.hbmBytes + len }
  if o < 64 then
    let s := hpCount o 0x0807 len (hpCount o 0x0806 1 s)
    if isLanePort o then s
    else takeFrame o f.bytes f.colour false (hpCount o 0x0802 len (hpCount o 0x0801 1 s))
  else s.modTm fun m =>
    let x := SMap.get {} m.outputs o
    { m with outputs := SMap.set {} m.outputs o { x with stream := x.stream ++ frameBlocks66 f.bytes } }

/-- An output selects its next frame (R298). A frame with an uncorrectable cell is discarded at dequeue (Table 12.6). -/
def selectFrame (o : Nat) (s : State) : State :=
  let s := markHeld o s
  match select s o with
  | none => s
  | some (cls, qs, committed) =>
    let (q, d) := pickQueue s o cls qs
    let s := s.modTm fun m => { m with deficits := d }
    match q with
    | none => s
    | some q =>
      let k := queueOf s q
      match k.frames with
      | [] => s
      | f :: r =>
        let len := f.bytes.length
        let s := modQueue q (fun x => { x with frames := r }) s
        if f.bad then cellsChanged (ctrAdd s (sel 0 0 0x0A03) 1)
        else
          let s := modQueue q (fun x => { x with bk := spend s k (q % 512 / 8) committed (shaped s f) }) s
          let s := queueCount q 0x0983 len (queueCount q 0x0982 1 s)
          let s := if o < 64 then s else s.modTm fun m =>
            { m with deficits := SMap.set 0 m.deficits q (if r.isEmpty then 0 else SMap.get 0 m.deficits q - len),
                     outputs := SMap.set {} m.outputs o
                       { SMap.get {} m.outputs o with turn := SMap.set 0 (SMap.get {} m.outputs o).turn cls q } }
          sendFrame o f (cellsChanged s)

/-- TM_FRAME_SELECT. -/
def execTmFrameSelect (output dt : Nat) (s : State) : Host.Outcome State Fault Refusal :=
  let s := advance dt s
  .next (if running s && s.tm.since.isSome && decide (output < 66) && outputFree s output then selectFrame output s else s)

/-- GATE_CHANGE (R301): the next entry, or entry 0 at the restart. -/
def execGateChange (output dt : Nat) (s : State) : Host.Outcome State Fault Refusal :=
  let s := advance dt s
  let g := gateOf s output
  let restart := due g.restartAt s.hk
  .next (if running s && s.tm.since.isSome && decide (output < 66) && decide (g.sched.express < 8) && !g.sched.entries.isEmpty
      && (restart || decide (g.changeAt ≤ s.hk)) then
      let at_ := if restart then g.restartAt.getD 0 else g.changeAt
      let i := if restart then 0 else if g.entry + 1 < g.sched.entries.length then g.entry + 1 else 0
      modGate output (fun g => { g with
        entry := i, changeAt := at_ + nsT (entryNs g.sched i),
        restartAt := if restart then none else g.restartAt }) s
    else s)

/-- Where a schedule stands `off` ns into a cycle: the entry and the ns left in it. -/
def schedPos (c : Sched) : Nat → Nat → Nat → Nat × Nat
  | 0, i, _ => (i, 0)
  | n + 1, i, off => if off < entryNs c i then (i, entryNs c i - off) else schedPos c n (i + 1) (off - entryNs c i)

/-- The gates' part of a boundary, while the traffic manager clock runs, at housekeeping time `t`, of interval `seq`: a pending schedule takes effect, and a new
cycle begins OFFSET_NS later. Until then a new schedule runs as if its cycles had begun one second earlier (log
entry 36). -/
def gateBoundary (t seq : Nat) (s : State) : State :=
  if s.tm.since.isNone then s else s.tm.gates.foldl (fun s e =>
    let o := e.1
    let g := gateOf s o
    match g.next with
    | some c =>
      let cyc := c.entries.foldl (fun a x => a + x.1) 0
      let (i, left) := schedPos c c.entries.length 0 ((1000000000 - c.offset) % (max 1 cyc))
      emit 0x8902 0x80 [w32 o, w32 seq] (modGate o (fun _ =>
        { sched := c, next := none, entry := i, changeAt := t + nsT left, restartAt := some (t + nsT c.offset) }) s)
    | none =>
      if g.sched.entries.isEmpty then s
      else modGate o (fun g => { g with restartAt := some (t + nsT g.sched.offset) }) s) s

/-! ## Sampling (R305) -/

/-- Sojourn of a queue's head frame in cycles. -/
def sojourn (s : State) (k : Queue) : Nat := match k.frames with | f :: _ => tmNow s - f.at_ | [] => 0

/-- QUEUE_DEPTH_SAMPLE. -/
def execQueueDepthSample (dt : Nat) (s : State) : Host.Outcome State Fault Refusal :=
  let s := advance dt s
  .next (if running s && s.tm.since.isSome && decide (s.tm.sampleAt ≤ s.hk) then
      s.tm.queues.foldl (fun s e => modQueue e.1 (fun k => { k with
          maxD := max k.maxD (depth k), sumD := k.sumD + depth k, maxS := max k.maxS (sojourn s k) }) s)
        (s.modTm fun m => { m with sampleAt := m.sampleAt + usT m.cfg.sampleUs, samples := m.samples + 1 })
    else s)

/-- Cycles to ns. -/
def cyclesNs (n : Nat) : Nat := n * 2 / 3

/-- TM_DELAY_HIGH of a queue after an interval with maximum sojourn `ms` in cycles (Table 11.10). -/
def delayAlarm (q ms : Nat) (s : State) : State :=
  let a := (queueOf s q).cfg.delayAlarm
  let t := hpT (q % 512 / 8)
  let sub := 8 * (q / 512) + q % 8
  if a ≠ 0 ∧ a * 3000 < 2 * ms then raiseAlarm 0x8912 t sub [w32 q] s
  else if a = 0 ∨ 10 * 2 * ms ≤ 9 * a * 3000 then clearAlarm 0x8912 t sub [w32 q] s
  else s

/-- The traffic manager's part of a boundary: aging, queue statistics, delay alarms, bandwidth; `us` the interval's
length in us. -/
def tmSecond (us : Nat) (s : State) : State :=
  let s := ageFlows s
  let n := s.tm.samples
  let s := s.tm.queues.foldl (fun s e =>
    let ms := (queueOf s e.1).maxS
    delayAlarm e.1 ms (modQueue e.1 (fun k => { k with
      lMaxD := k.maxD, lMeanD := k.sumD / max 1 n, lMaxS := k.maxS, maxD := 0, sumD := 0, maxS := 0 }) s)) s
  s.modTm fun m => { m with
    samples := 0, lSamples := m.samples, hbmGBs := m.hbmBytes / (max 1 us * 1000), hbmBytes := 0 }

/-! ## Banks -/

/-- TM_BANK_SLEEP (R296). -/
def execTmBankSleep (bank dt : Nat) (s : State) : Host.Outcome State Fault Refusal :=
  let s := advance dt s
  let k := bankOf s bank
  let idle := match k.emptyFrom with | some t => decide (t + msT 1 ≤ s.hk) | none => false
  .next (if running s && s.tm.since.isSome && decide (bank < 4) && packing s && k.st == .awake && idle
      && !keptAwake s 0x80 then
      modBank bank (fun k => { k with st := .asleep }) s
    else s)

/-- TM_BANK_WAKE_DONE. -/
def execTmBankWakeDone (bank dt : Nat) (s : State) : Host.Outcome State Fault Refusal :=
  let s := advance dt s
  .next (if running s && decide (bank < 4) && (bankOf s bank).st == .waking then
      modBank bank (fun k => { k with st := .awake, emptyFrom := k.emptyFrom.map fun _ => s.hk }) s
    else s)

/-- TM_POOL_HIGH_CLEAR_TIMER. -/
def execTmPoolHighClearTimer (dt : Nat) (s : State) : Host.Outcome State Fault Refusal :=
  let s := advance dt s
  .next (if running s && s.tm.since.isSome && due s.tm.poolLow s.hk then
      clearAlarm 0x8911 0x80 0 [] (s.modTm fun m => { m with poolLow := none })
    else s)

/-! ## Opcodes (Table 11.6) -/

def isTmT (t : Nat) : Bool := t == 0x80

/-- The value of selector-style CHANGE_MASK: bit i selects word 5 + i. -/
def pick5 (c : Cmd) (i old : Nat) : Nat := if bit (c.w 3) i then c.w (5 + i) else old

/-- A selected word 5 + i is present and in range. -/
def sel5 (c : Cmd) (i lo hi : Nat) : Nat × Bool :=
  (5 + i, !bit (c.w 3) i || (decide (i + 2 < c.params.length) && within (c.w (5 + i)) lo hi))

/-- TM_CONFIG. -/
def tmConfigOp : OpSpec where
  code := 0x0901
  targets := isTmT
  flags := 14
  nparams := 1
  badParam := fun _ c => firstBad [selU c 0 1 3600, selU c 1 1 1000, selU c 2 50 100, selU c 3 0 63]
  resLen := fun _ _ _ => 5
  run := fun s _ c =>
    let o := s.tm.cfg
    let x : TmCfg := { age := pick c 0 o.age, sampleUs := pick c 1 o.sampleUs, poolGreen := pick c 2 o.poolGreen,
                       overhead := pick c 3 o.overhead }
    okRes (poolAlarm (s.modTm fun m => { m with cfg := x }))
      [0, w32 x.age, w32 x.sampleUs, w32 x.poolGreen, w32 x.overhead]
def execTmConfig (c : Cmd) (s : State) : Host.Outcome State Fault Refusal := .next (serve tmConfigOp c s)

/-- TM_SOURCE_CONFIG. Results start at word 3: two reserved words, then words 5 to 11 (log entry 24). -/
def tmSourceConfigOp : OpSpec where
  code := 0x0902
  targets := isTmT
  flags := 6
  nparams := 2
  badParam := fun _ c => firstBad [(4, within (c.w 4) 0 65), sel5 c 0 0 1, sel5 c 1 0 4095, sel5 c 2 0 8, sel5 c 3 0 63,
    sel5 c 4 0 4095, sel5 c 5 0 8, sel5 c 6 0 63]
  resLen := fun _ _ _ => 9
  run := fun s _ c =>
    let o := srcCfg s (c.w 4)
    let x : SrcCfg := { learn := pick5 c 0 o.learn, learnProf := pick5 c 1 o.learnProf, learnClass := pick5 c 2 o.learnClass,
                        learnDest := pick5 c 3 o.learnDest, ovfProf := pick5 c 4 o.ovfProf,
                        ovfClass := pick5 c 5 o.ovfClass, ovfDest := pick5 c 6 o.ovfDest }
    let s := s.modTm fun m => { m with
      sources := SMap.set {} m.sources (c.w 4) x,
      ovf := if x.ovfProf = o.ovfProf then m.ovf else SMap.set none m.ovf (c.w 4) none }
    okRes s [0, 0, w32 x.learn, w32 x.learnProf, w32 x.learnClass, w32 x.learnDest, w32 x.ovfProf,
      w32 x.ovfClass, w32 x.ovfDest]
def execTmSourceConfig (c : Cmd) (s : State) : Host.Outcome State Fault Refusal := .next (serve tmSourceConfigOp c s)

/-- TM_POLICER_PROFILE: the profile, and the buckets of every entry and overflow path that names it (R300). -/
def tmPolicerProfileOp : OpSpec where
  code := 0x0903
  targets := isTmT
  flags := 6
  nparams := 7
  badParam := fun _ c => firstBad [(3, within (c.w 3) 1 4095), (4, within (c.w 4) 0 3300000), (5, within (c.w 5) 64 16777215),
    (6, within (c.w 6) (c.w 4) 3300000), (7, within (c.w 7) 64 16777215), (9, within (c.w 9) 0 1)]
  resLen := fun _ _ _ => 7
  run := fun s _ c =>
    let i := c.w 3
    let x : Policer := { cir := c.w 4, cbs := c.w 5, pir := c.w 6, pbs := c.w 7, aware := bit (c.w 8) 0, reset := c.w 9 }
    let bk := resetBuckets x.reset x.cbs x.pbs (tmNow s)
    let named (e : Nat × Option Flow) : Bool := match e.2 with | some f => f.prof == i | none => false
    let n := (s.tm.flows.filter named).length
    let ovfs := (List.range 66).filter fun src => (srcCfg s src).ovfProf == i
    let s := s.modTm fun m => { m with
      profiles := SMap.set {} m.profiles i x,
      flows := m.flows.map fun e => if named e then (e.1, e.2.map fun f => { f with bk }) else e,
      ovf := ovfs.foldl (fun o src => SMap.set none o src (some bk)) m.ovf }
    okRes s [0, w32 x.cir, w32 x.cbs, w32 x.pir, w32 x.pbs, w32 (b01 x.aware), w32 n]
def execTmPolicerProfile (c : Cmd) (s : State) : Host.Outcome State Fault Refusal := .next (serve tmPolicerProfileOp c s)

/-- A key from two words as words 3 and 4 of Table 11.3; bits the key type does not use are ignored (R9). -/
def keyOf (a b : Nat) : FlowKey :=
  { type := bits a 0 2, source := bits a 8 8, vlan := bits a 16 13,
    value := if bits a 0 2 = 1 then b % 65536 else if bits a 0 2 = 2 then b else 0 }

def keyOk (a : Nat) : Bool := decide (bits a 0 2 ≠ 3) && decide (bits a 8 8 ≤ 65) && decide (bits a 16 13 ≤ 4096)

/-- Words 3 to 5 of an entry. -/
def flowWords (f : Flow) : List Word :=
  [w32 (f.key.type + f.key.source * 2 ^ 8 + f.key.vlan * 2 ^ 16), w32 f.key.value,
   w32 (f.cls + f.dest * 2 ^ 8 + f.prof * 2 ^ 16)]

/-- FLOW_WRITE. -/
def flowWriteOp : OpSpec where
  code := 0x0904
  targets := isTmT
  flags := 6
  nparams := 3
  badParam := fun _ c => firstBad [(3, keyOk (c.w 3))]
  resLen := fun _ _ _ => 2
  run := fun s _ c =>
    let k := keyOf (c.w 3) (c.w 4)
    let f := newFlow s k (bits (c.w 5) 0 3) (bits (c.w 5) 8 6) (bits (c.w 5) 16 12) true
    match findFlow s k with
    | some i => okRes (setFlow i (some f) s) [w32 i, 1]
    | none =>
      if flowMax ≤ flowCount s then refuse s stBadState 0x0100
      else
        let (i, s) := newIndex s
        okRes (setFlow i (some f) s) [w32 i, 0]
def execFlowWrite (c : Cmd) (s : State) : Host.Outcome State Fault Refusal := .next (serve flowWriteOp c s)

/-- The entry FLOW_READ and FLOW_DELETE name: by index in word 4, or by key in words 4 and 5. -/
def namedFlow (s : State) (c : Cmd) : Option Nat :=
  if c.w 3 = 0 then (flowAt s (c.w 4)).map fun _ => c.w 4 else findFlow s (keyOf (c.w 4) (c.w 5))

/-- FLOW_READ. Tc and Tp are in bytes, as the buckets stand after the entry's last frame (log entry 37). -/
def flowReadOp : OpSpec where
  code := 0x0905
  targets := isTmT
  flags := 8
  nparams := 2
  badParam := fun _ c => firstBad [(3, within (c.w 3) 0 1),
    (4, if c.w 3 = 0 then decide (c.w 4 < flowMax) else keyOk (c.w 4)),
    (5, c.w 3 == 0 || decide (3 ≤ c.params.length))]
  resLen := fun _ _ _ => 13
  run := fun s _ c =>
    match namedFlow s c with
    | none => refuse s stBadState 0x0101
    | some i => match flowAt s i with
      | none => refuse s stBadState 0x0101
      | some f =>
        let age := min 0xFFFF (s.clk.seq - f.lastHit)
        okRes s (flowWords f ++ [w32 i, w32 (onBit (decide (f.lostUntil ≤ s.hk)) 0 + onBit f.static_ 1 + age * 2 ^ 16)]
          ++ lohi f.passed ++ lohi f.bytes ++ lohi f.red ++ [wI (f.bk.c / 1024), wI (f.bk.p / 1024)])
def execFlowRead (c : Cmd) (s : State) : Host.Outcome State Fault Refusal := .next (serve flowReadOp c s)

/-- Entries removed by a condition; how many. -/
def removeFlows (q : Flow → Bool) (s : State) : Nat × State :=
  let hit (e : Nat × Option Flow) : Bool := match e.2 with | some f => q f | none => false
  ((s.tm.flows.filter hit).length,
   tableAlarm (s.modTm fun m => { m with flows := m.flows.filter fun e => !hit e }))

/-- FLOW_DELETE. -/
def flowDeleteOp : OpSpec where
  code := 0x0906
  targets := isTmT
  flags := 4
  nparams := 1
  badParam := fun _ c => firstBad [(3, within (c.w 3) 0 3),
    (4, c.w 3 == 3 || (decide (2 ≤ c.params.length) && (if c.w 3 = 0 then decide (c.w 4 < flowMax)
      else if c.w 3 = 1 then keyOk (c.w 4) else within (c.w 4) 0 65))),
    (5, c.w 3 != 1 || decide (3 ≤ c.params.length))]
  resLen := fun _ _ _ => 1
  run := fun s _ c =>
    if c.w 3 ≤ 1 then match namedFlow s c with
      | none => refuse s stBadState 0x0101
      | some i => okRes (tableAlarm (setFlow i none s)) [1]
    else
      let (n, s) := removeFlows (fun f => !f.static_ && (c.w 3 == 3 || f.key.source == c.w 4)) s
      okRes s [w32 n]
def execFlowDelete (c : Cmd) (s : State) : Host.Outcome State Fault Refusal := .next (serve flowDeleteOp c s)

/-- The queues TM_QUEUE_CONFIG selects, lowest number first. -/
def pickedQueues (t : Nat) (c : Cmd) : List Nat :=
  ([0, 1].map fun d => if bit (c.w 4) (8 + d) then
    ((List.range 8).filter fun i => bit (c.w 4) i).map fun i => queueNo d (t - 0x40) i else []).flatten

/-- A queue's configuration after TM_QUEUE_CONFIG. -/
def queueCfgOf (c : Cmd) (o : QueueCfg) : QueueCfg :=
  { maxDepth := pick5 c 0 o.maxDepth, yellow := pick5 c 1 o.yellow, cir := pick5 c 2 o.cir, cbs := pick5 c 3 o.cbs,
    pir := pick5 c 4 o.pir, pbs := pick5 c 5 o.pbs, overrun := pick5 c 6 o.overrun, reset := pick5 c 7 o.reset,
    delayAlarm := pick5 c 8 o.delayAlarm }

def queueCfgWords (x : QueueCfg) : List Word :=
  [x.maxDepth, x.yellow, x.cir, x.cbs, x.pir, x.pbs, x.overrun, x.reset, x.delayAlarm].map w32

/-- TM_QUEUE_CONFIG: selecting any of CIR, CBS, PIR or PBS sets both buckets (R300). -/
def setQueueCfg (c : Cmd) (s : State) (q : Nat) : State :=
  let x := queueCfgOf c (queueOf s q).cfg
  let reset := bits (c.w 3) 2 4 ≠ 0
  let s := modQueue q (fun k => { k with
    cfg := x, bk := if reset then resetBuckets x.reset x.cbs x.pbs (tmNow s) else k.bk }) s
  if x.delayAlarm = 0 then clearAlarm 0x8912 (hpT (q % 512 / 8)) (8 * (q / 512) + q % 8) [w32 q] s else s

/-- The configurations TM_QUEUE_CONFIG gives the selected queues. -/
def queueCfgsOf (s : State) (t : Nat) (c : Cmd) : List QueueCfg := (pickedQueues t c).map fun q => queueCfgOf c (queueOf s q).cfg

/-- YELLOW within MAX_DEPTH, and PIR 0 or at least CIR: the offending word. -/
def queueRangeBad (s : State) (t : Nat) (c : Cmd) : Option Nat :=
  let cfgs := queueCfgsOf s t c
  if cfgs.any fun x => decide (x.maxDepth < x.yellow) then some 6
  else if cfgs.any fun x => x.pir != 0 && decide (x.pir < x.cir) then some 9
  else none

def tmQueueConfigOp : OpSpec where
  code := 0x0907
  targets := isHpT
  all := true
  configured := fun s t => (s.hport (t - 0x40)).cfg.isSome
  flags := 15
  nparams := 2
  badParam := fun _ c => firstBad [(4, decide (bits (c.w 4) 0 8 ≠ 0) && decide (bits (c.w 4) 8 2 ≠ 0)),
    sel5 c 0 1 30408704, sel5 c 1 0 30408704, sel5 c 2 0 3300000, sel5 c 3 0 16777215, sel5 c 4 0 3300000,
    sel5 c 5 0 16777215, sel5 c 6 0 1, sel5 c 7 0 1, sel5 c 8 0 100000]
  unitBad := queueRangeBad
  resLen := fun _ _ _ => 11
  run := fun s t c =>
    match queueRangeBad s t c with
    | some w => refuse s stBadParam w
    | none => okRes ((pickedQueues t c).foldl (setQueueCfg c) s) ([0, 0] ++ queueCfgWords ((queueCfgsOf s t c).getD 0 {}))
def execTmQueueConfig (c : Cmd) (s : State) : Host.Outcome State Fault Refusal := .next (serve tmQueueConfigOp c s)

/-- The output that serves a queue. -/
def queueOutput (s : State) (q : Nat) : Nat :=
  let n := q % 512 / 8
  if q < 512 then 64 + lpNum (hpMap s n).1 else n

/-- TM_QUEUE_STATUS. -/
def tmQueueStatusOp : OpSpec where
  code := 0x0908
  targets := isHpT
  flags := 8
  nparams := 2
  badParam := fun _ c => firstBad [(3, within (c.w 3) 0 1), (4, within (c.w 4) 0 7)]
  resLen := fun _ _ _ => 11
  run := fun s t c =>
    let q := queueNo (c.w 3) (t - 0x40) (c.w 4)
    let k := queueOf s q
    let b := shaperNow s k
    let d := depth k
    let o := queueOutput s q
    let head := k.frames.head?
    let held := match head with | some f => !mayStart s o (c.w 4) q && !f.bytes.isEmpty | none => false
    let cut := match head with | some f => f.cut | none => false
    okRes s [w32 d, w32 (d / 2 ^ 32), w32 k.frames.length, wI (b.c / 1024), wI (b.p / 1024),
      w32 (onBit (commOk s k) 0 + onBit (peakOk s k) 1 + onBit held 2 + onBit cut 3), w32 (cyclesNs (sojourn s k)),
      w32 (k.lMaxD / 1024), w32 (k.lMeanD / 1024), w32 (cyclesNs k.lMaxS), w32 s.tm.lSamples]
def execTmQueueStatus (c : Cmd) (s : State) : Host.Outcome State Fault Refusal := .next (serve tmQueueStatusOp c s)

/-- The schedule TM_GATE_CONFIG gives. -/
def schedOf (c : Cmd) : Sched :=
  { express := c.w 4, offset := c.w 5,
    entries := (List.range (c.w 6)).map fun i => (bits (c.w (7 + i)) 0 30, bits (c.w (7 + i)) 30 2) }

/-- A schedule as words 4 to 22 of TM_GATE_CONFIG. -/
def schedWords (c : Sched) : List Word :=
  [w32 c.express, w32 c.offset, w32 c.entries.length] ++ (List.range 16).map fun i => match c.entries[i]? with
    | some (d, st) => w32 (d + st * 2 ^ 30)
    | none => 0

/-- TM_GATE_CONFIG: the new schedule waits for the next boundary (R301). -/
def tmGateConfigOp : OpSpec where
  code := 0x0909
  targets := isTmT
  flags := 6
  nparams := 4
  badParam := fun _ c => firstBad ([(3, within (c.w 3) 0 65), (4, within (c.w 4) 0 8), (5, within (c.w 5) 0 999999999),
    (6, within (c.w 6) 1 16)]
    ++ (List.range (min 16 (c.w 6))).map (fun i => (7 + i, decide (4 + i < c.params.length)
      && decide (bits (c.w (7 + i)) 0 30 ≠ 0) && decide (bits (c.w (7 + i)) 30 2 ≠ 3)))
    ++ [(7, decide ((schedOf c).entries.foldl (fun a x => a + x.1) 0 ≤ 1000000000))])
  resLen := fun _ _ _ => 21
  run := fun s _ c =>
    let o := c.w 3
    let s := modGate o (fun g => { g with next := some (schedOf c) }) s
    okRes s ([0] ++ schedWords (gateOf s o).sched ++ [1])
def execTmGateConfig (c : Cmd) (s : State) : Host.Outcome State Fault Refusal := .next (serve tmGateConfigOp c s)

/-- TM_STATUS words. -/
def tmStatusWords (s : State) : List Word :=
  let awake := (List.range 4).foldl (fun a b => a + onBit ((bankOf s b).st == .awake) b) 0
  let learned := (s.tm.flows.filter fun e => match e.2 with | some f => !f.static_ | none => false).length
  [w32 (flowCount s), w32 learned, w32 (cellsUsed s), w32 totalCells, w32 (awake + onBit (packing s) 4), w32 s.tm.hbmGBs]

def tmStatusOp : OpSpec where
  code := 0x090A
  targets := isTmT
  flags := 8
  resLen := fun _ _ _ => 6
  run := fun s _ _ => okRes s (tmStatusWords s)
def execTmStatus (c : Cmd) (s : State) : Host.Outcome State Fault Refusal := .next (serve tmStatusOp c s)

/-- Unit counters of TARGET 0x80, and the counters of a host port's 16 queues (Tables 11.7 and 11.8). -/
def tmIds : List Nat := idRange 0x0901 0x0909
def queueIds : List Nat := idRange 0x0980 0x0988

/-- TM_COUNTERS. -/
def tmCountersOp : OpSpec where
  code := 0x090B
  targets := fun t => isTmT t || isHpT t
  all := true
  configured := fun s t => isTmT t || (s.hport (t - 0x40)).cfg.isSome
  flags := 8
  nparams := 1
  resLen := fun _ t _ => if t = 0x80 then 18 else 288
  run := fun s t c =>
    if t = 0x80 then okRes (if bit (c.w 3) 0 then ctrClearAll s t 0 tmIds else s) (ctrWords s t 0 tmIds)
    else
      let ws := ((List.range 16).map fun k => ctrWords s t k queueIds).flatten
      okRes (if bit (c.w 3) 0 then (List.range 16).foldl (fun s k => ctrClearAll s t k queueIds) s else s) ws
def execTmCounters (c : Cmd) (s : State) : Host.Outcome State Fault Refusal := .next (serve tmCountersOp c s)

end Sys2Proof.Machine
end

