-- ==== Sys2Proof/Machine/HostSide.lean ====
section
/-!
DEFINITION. Sys2Proof/Machine/HostSide.lean: Host Lanes and Client Mapping: bring-up, loss of lanes, placement, loopbacks,
SyncE selection, and the opcodes of Table 10.6 (R261 to R283).
-/
namespace Sys2Proof.Machine
open Sys2Proof

/-! ## States (R268 to R271) -/

/-- HL_LOL follows a lane (Table 10.9). -/
def lolAlarm (lane : Nat) (on : Bool) (s : State) : State := alarmIf on 0x8810 (hlT lane) 0 [] s

/-- A lane locks: LANE_HOLD stops and HL_LOL clears. -/
def lockLane (lane : Nat) (s : State) : State :=
  lolAlarm lane false (s.modLane lane fun l => { l with locked := true, holdEnd := none, alone := false })

/-- A lane is not locked, without LANE_HOLD: it sleeps or trains. -/
def dropLane (lane : Nat) (s : State) : State :=
  s.modLane lane fun l => { l with locked := false, holdEnd := none, alone := false }

/-- A SyncE candidate is valid only while its lane is locked and its port is UP (R279). -/
def synceGood (s : State) (lane : Nat) : Bool :=
  (s.lane lane).locked && match laneOwner s lane with | some n => (s.hport n).st == .up | none => false

/-- The recovered clocks of candidates 4 and 5 are lost with their lane's lock or its port (R279). -/
def hostClocks (s : State) : State :=
  let keep (i : Nat) (l : Option Nat) (s : State) : State :=
    if (match l with | some l => synceGood s l | none => false) then s else candLost i s
  keep 5 s.synce.2 (keep 4 s.synce.1 s)

/-- A host port enters a state: LINK_DOWNS on leaving UP with the flush of R306, HP_LOCAL_FAULT and TRAIN_FAIL, and
EV_HP_STATE with its cause. -/
def setHp (n : Nat) (st : HpSt) (cause : Nat) (s : State) : State :=
  let prev := (s.hport n).st
  if prev = st then s
  else
    let s := s.modHport n fun h => { h with st, wasUp := st == .up || (h.wasUp && st != .disabled) }
    let s := if prev = .up then flushDown n (if isLanePort n then hpCount n 0x080E 1 s else s) else s
    let s := if st = .localFault then raiseAlarm 0x8811 (hpT n) 0 [] s
      else if st = .up then clearAlarm 0x8811 (hpT n) 0 [] s else s
    let s := if st = .up ∨ st = .disabled then clearAlarm 0x8813 (hpT n) 0 [] s else s
    hostClocks (hpEvent n prev cause s)

/-- A training attempt starts (R269). -/
def startAttempt (n : Nat) (s : State) : State :=
  hpCount n 0x080F 1 (s.modHport n fun h => { h with attempt := some s.hk, aligning := none, backoff := none })

/-- Fresh attempts on a lane port, on the named lanes: the port goes to TRAINING. -/
def freshTraining (n : Nat) (lanes : List Nat) (cause : Nat) (s : State) : State :=
  let s := lanes.foldl (fun s i => dropLane i s) s
  startAttempt n (setHp n .training cause (s.modHport n fun h => { h with fails := 0 }))

/-- HP_RETRAIN ends on a port (Table 10.6). -/
def retrainDone (n result : Nat) (s : State) : State :=
  s.host.deferred.foldl (fun s' _ => completeUnit 0x0805 (hpT n) stOk 0 [w32 result] s') s

/-- A port that is disabled: its lanes sleep, and an attempt an HP_RETRAIN waits for has failed (log entry 146). -/
def disablePort (n : Nat) (s : State) : State :=
  let s := (portLanes s n).foldl (fun s i => dropLane i s) s
  retrainDone n 1 (setHp n .disabled 0 (s.modHport n fun h =>
    { h with attempt := none, aligning := none, backoff := none, fails := 0 }))

/-- The backoff after the `n`-th consecutive failed attempt, in ms (R269). -/
def backoffMs (n : Nat) : Nat := if n ≤ 1 then 0 else min 1600 (100 * 2 ^ (n - 2))

/-- A failed attempt: the backoff runs, TRAIN_FAIL after TRAIN_RETRIES (R269). -/
def failAttempt (n : Nat) (s : State) : State :=
  let k := (s.hport n).fails + 1
  let s := s.modHport n fun h => { h with fails := k, attempt := none, aligning := none,
                                          backoff := some (s.hk + msT (backoffMs k)) }
  let s := setHp n .training 2 s
  let r := (hpCfg s n).retries
  retrainDone n 1 (if r ≠ 0 ∧ r ≤ k then raiseAlarm 0x8813 (hpT n) 0 [] s else s)

/-- ILT is in effect (R269). -/
def iltOn (c : HpCfg) : Bool := c.ilt && c.laneRate == 2

/-- HL_CDR_LOCK_LOSS (R271, Table 10.5). Under NEAR_PARALLEL the port does not depend on its lanes (Table 10.4). -/
def lanelost (lane : Nat) (s : State) : State :=
  match laneOwner s lane with
  | none => s
  | some n =>
    let st := (s.hport n).st
    let hold := if st = .up ∨ st = .localFault then some (s.hk + msT (hpCfg s n).laneHold) else none
    let s := hostClocks (lolAlarm lane true
      (s.modLane lane fun l => { l with locked := false, holdEnd := hold, alone := false }))
    if (s.hport n).loopback = 2 then s
    else if st = .up then setHp n .localFault 1 s
    else if st = .aligning ∨ (st = .training ∧ (s.hport n).attempt.isSome) then failAttempt n s
    else s

def execHlCdrLockLoss (lane dt : Nat) (s : State) : Host.Outcome State Fault Refusal :=
  let s := advance dt s
  .next (if running s && decide (lane < 32) && (s.lane lane).locked then lanelost lane s else s)

/-- The CDR tracks an offset of up to 200 ppm (R266). -/
def cdrTracks (m : LaneMeas) : Bool := decide (m.cdr.natAbs ≤ 2000)

/-- What a lane's receiver settled on, with 16 taps of the decision-feedback equaliser at 212.5 Gb/s and 8 below (R266). -/
def settled (rate : Nat) (m : LaneMeas) : LaneMeas := { m with dfe := m.dfe.take (if rate = 2 then 16 else 8) }

/-- HL_SIGNAL_RETURN: within LANE_HOLD the lane relocks from its held values; after it the lane alone retrains. -/
def execHlSignalReturn (lane : Nat) (m : LaneMeas) (dt : Nat) (s : State) : Host.Outcome State Fault Refusal :=
  let s := advance dt s
  let l := s.lane lane
  .next (if running s && decide (lane < 32) && !l.locked && cdrTracks m then
      match laneOwner s lane with
      | none => s
      | some n =>
        if l.holdEnd.isSome && !due l.holdEnd s.hk then
          lockLane lane (s.modLane lane fun l => { l with meas := { l.meas with cdr := m.cdr } })
        else if (l.holdEnd.isSome || l.alone) && (s.hport n).st == .localFault then
          startAttempt n (setHp n .training 1 ((dropLane lane s).modHport n fun h => { h with fails := 0 }))
        else s
    else s)

/-- LANE_HOLD_EXPIRY. -/
def execLaneHoldExpiry (lane dt : Nat) (s : State) : Host.Outcome State Fault Refusal :=
  let s := advance dt s
  .next (if running s && decide (lane < 32) && due (s.lane lane).holdEnd s.hk then
      s.modLane lane fun l => { l with holdEnd := none, alone := true }
    else s)

/-- PCS_ALIGNMENT_LOSS. -/
def execPcsAlignmentLoss (port dt : Nat) (s : State) : Host.Outcome State Fault Refusal :=
  let s := advance dt s
  .next (if running s && decide (port < 32) && (s.hport port).st == .up then setHp port .localFault 1 s else s)

/-- TRAIN_ATTEMPT_START: the backoff has ended. -/
def execTrainAttemptStart (port dt : Nat) (s : State) : Host.Outcome State Fault Refusal :=
  let s := advance dt s
  let h := s.hport port
  .next (if running s && decide (port < 32) && h.st == .training && due h.backoff s.hk then startAttempt port s else s)

/-- TRAIN_ATTEMPT_TIMEOUT: 50 ms without ALIGNING. -/
def execTrainAttemptTimeout (port dt : Nat) (s : State) : Host.Outcome State Fault Refusal :=
  let s := advance dt s
  let h := s.hport port
  .next (if running s && decide (port < 32) && h.st == .training && due (h.attempt.map (· + msT 50)) s.hk then
      pump (failAttempt port s)
    else s)

/-- ALIGNING_TIMEOUT: 10 ms in ALIGNING without UP. -/
def execAligningTimeout (port dt : Nat) (s : State) : Host.Outcome State Fault Refusal :=
  let s := advance dt s
  let h := s.hport port
  .next (if running s && decide (port < 32) && h.st == .aligning && due (h.aligning.map (· + msT 10)) s.hk then
      pump (failAttempt port s)
    else s)

/-- HP_ALIGNING_REACHED: every lane is locked, with what its receiver settled on; a lane that kept lock keeps its adaptation
(R271), as do lanes beyond the list. -/
def execHpAligningReached (port : Nat) (lanes : List LaneMeas) (dt : Nat) (s : State) : Host.Outcome State Fault Refusal :=
  let s := advance dt s
  let h := s.hport port
  .next (if running s && decide (port < 32) && h.st == .training && h.attempt.isSome && lanes.all cdrTracks then
      let ls := portLanes s port
      let s := (ls.zip lanes).foldl (fun s x => s.modLane x.1 fun l =>
        if l.locked then l else { l with meas := settled (hpCfg s port).laneRate x.2 }) s
      let s := ls.foldl (fun s i => lockLane i s) s
      setHp port .aligning 0 (s.modHport port fun h => { h with aligning := some s.hk })
    else s)

/-- HP_UP_REACHED, with the measured skew of at most 180 ns (R270): from ALIGNING, or a realignment from LOCAL_FAULT with every
lane locked; under NEAR_PARALLEL from any state, on the looped blocks (Table 10.4). -/
def execHpUpReached (port skew dt : Nat) (s : State) : Host.Outcome State Fault Refusal :=
  let s := advance dt s
  let h := s.hport port
  let locked := (portLanes s port).all fun i => (s.lane i).locked
  .next (if running s && decide (port < 32) && decide (skew ≤ 180)
      && (((h.st == .aligning || h.st == .localFault) && locked)
        || (h.loopback == 2 && h.st != .disabled && h.st != .up)) then
      let s := s.modHport port fun h => { h with skew, fails := 0, attempt := none, aligning := none, backoff := none }
      pump (retrainDone port 0 (setHp port .up (if h.st = .localFault then 1 else 0) s))
    else s)

/-- REMOTE_FAULT_RECEIVED on a PACKET lane port. -/
def execRemoteFaultReceived (port dt : Nat) (s : State) : Host.Outcome State Fault Refusal :=
  let s := advance dt s
  .next (if running s && decide (port < 32) && isPacket s port && (s.hport port).st == .up then
      raiseAlarm 0x8812 (hpT port) 0 [] (s.modHport port fun h => { h with rfAt := s.hk })
    else s)

/-- REMOTE_FAULT_CLEAR_TIMER: absent for 1 ms. -/
def execRemoteFaultClearTimer (port dt : Nat) (s : State) : Host.Outcome State Fault Refusal :=
  let s := advance dt s
  .next (if running s && decide (port < 32) && decide ((s.hport port).rfAt + msT 1 ≤ s.hk) then
      clearAlarm 0x8812 (hpT port) 0 [] s
    else s)

/-! ## Placement (R263, R274, R275) -/

/-- Placement of one port brought up to date, with the cause of EV_HP_STATE. -/
def refreshPlace (cause : Nat) (s : State) (n : Nat) : State :=
  let u := unplacedOf s n
  if u = (s.hport n).unplaced then s
  else
    let s := s.modHport n fun h => { h with unplaced := u }
    let s := alarmIf u 0x8814 (hpT n) 0 [] s
    hpEvent n (s.hport n).st cause (if u && !isLanePort n then flushRelay n s else s)

/-- Placement of every port, after a change of mode or configuration. -/
def refreshPlaces (cause : Nat) (s : State) : State := steerTm (hostPorts.foldl (refreshPlace cause) s)

/-- A frame boundary of a line port: a mapping to it ends, or a new one to it begins; the change is whole when each line port
concerned has had its boundary (Table 10.5). -/
def mapBoundary (l : Lp) (s : State) : State :=
  hostPorts.foldl (fun s n =>
    let h := s.hport n
    let leaves := match h.mapped with | some (o, _) => o == l | none => false
    let enters := h.joins && (hpCfg s n).line == l
    if leaves || enters then
      let s := s.modHport n fun h => { h with mapped := if leaves then none else h.mapped, joins := h.joins && !enters }
      if (s.hport n).mapped.isNone && !(s.hport n).joins then refreshPlace 0 (hpEvent n (s.hport n).st 0 s) n else s
    else s) s

/-- A lane port whose lanes run at entry to DARK goes to electrical idle; on the wake enabled ports start TRAINING
(Table 10.5). -/
def hostWake (s : State) : State :=
  (List.range 32).foldl (fun s n =>
    if (hpCfg s n).enable then freshTraining n (portLanes s n) 4 s else s) s

/-! ## HL opcodes -/

/-- The signed taps of a TX_FFE word, in units of 1/64. -/
def ffeSum (w : Nat) : Nat := (List.range 4).foldl (fun a i => a + (sgn 8 (bits w (8 * i) 8)).natAbs) 0

def hlWords (x : HlCfg) : List Word :=
  [w32 (onBit x.rxInv 0 + onBit x.txInv 1), w32 x.refsel, w32 x.ffe, w32 x.adapt, w32 x.ctle]

/-- TX_FFE in use: what an ILT partner requested while it is in force, else the setting (Table 10.2). -/
def ffeInUse (s : State) (lane : Nat) : Nat :=
  match laneOwner s lane with
  | some n => if iltOn (hpCfg s n) && (s.lane lane).locked then (s.lane lane).meas.ffe else (hlCfg s lane).ffe
  | none => (hlCfg s lane).ffe

/-- HL_CONFIG. -/
def hlConfigOp : OpSpec where
  code := 0x0801
  targets := isHlT
  all := true
  configured := fun s t => (s.lane (t - 0x20)).cfg.isSome
  flags := 15
  nparams := 1
  badParam := fun _ c => firstBad [(4, !bit (c.w 3) 0 || decide (2 ≤ c.params.length)), selU c 1 0 1,
    (6, !bit (c.w 3) 2 || (decide (4 ≤ c.params.length) && decide (ffeSum (c.w 6) ≤ 64))), selU c 3 0 2, selU c 4 0 40]
  resLen := fun _ _ _ => 7
  run := fun s t c =>
    let n := t - 0x20
    let o := hlCfg s n
    let x : HlCfg := { rxInv := if bit (c.w 3) 0 then bit (c.w 4) 0 else o.rxInv,
                       txInv := if bit (c.w 3) 0 then bit (c.w 4) 1 else o.txInv, refsel := pick c 1 o.refsel,
                       ffe := pick c 2 o.ffe, adapt := pick c 3 o.adapt, ctle := pick c 4 o.ctle }
    let s := s.modLane n fun l => { l with cfg := some x }
    okRes s ([0] ++ hlWords x ++ [w32 (ffeInUse s n)])
def execHlConfig (c : Cmd) (s : State) : Host.Outcome State Fault Refusal := .next (serve hlConfigOp c s)

/-- A lane sleeps while no enabled port owns it, unless DEV_WAKE holds it awake (Table 1.10, R72). -/
def laneAsleep (s : State) (i : Nat) : Bool := (laneOwner s i).isNone && !held s (hlT i)

/-- Rate and owning port of HL_STATUS word 3, [9:2]. For a lane no enabled port owns the manual gives neither: a free value
(log entry 38). -/
def laneOwnerField (s : State) (i : Nat) : Nat × State :=
  match laneOwner s i with
  | some n => ((hpCfg s n).laneRate * 4 + n * 16, s)
  | none => let (f, s) := freeW s; (bits f.toNat 2 8 * 4, s)

/-- HL_STATUS. A lane that has not settled reads the start point of CTLE (Table 10.2). -/
def hlStatusOp : OpSpec where
  code := 0x0802
  targets := isHlT
  all := true
  configured := fun s t => (s.lane (t - 0x20)).cfg.isSome
  flags := 8
  resLen := fun _ _ _ => 6
  run := fun s t _ =>
    let i := t - 0x20
    let l := s.lane i
    let ctle := if (hlCfg s i).adapt = 2 || !(l.locked || l.holdEnd.isSome || l.alone) then (hlCfg s i).ctle
      else l.meas.ctle
    let (own, s') := laneOwnerField s i
    okRes s' [w32 (onBit l.locked 0 + onBit (laneAsleep s i) 1 + own), wI l.meas.cdr, w32 ctle,
      w32 l.meas.eyeH, w32 l.meas.eyeW, w32 (ffeInUse s i)]
def execHlStatus (c : Cmd) (s : State) : Host.Outcome State Fault Refusal := .next (serve hlStatusOp c s)

/-- HL_SYNCE_SELECT. -/
def hlSynceSelectOp : OpSpec where
  code := 0x0807
  targets := isHlT
  flags := 6
  nparams := 2
  badParam := fun _ c => firstBad [(3, within (c.w 3) 4 5)]
  resLen := fun _ _ _ => 2
  run := fun s t c =>
    let i := t - 0x20
    if bit (c.w 4) 0 && (laneOwner s i).isNone then refuse s stBadState 0x0103
    else
      let v (o : Option Nat) : Option Nat := if bit (c.w 4) 0 then some i else if o = some i then none else o
      let s := if c.w 3 = 4 then { s with synce := (v s.synce.1, s.synce.2) } else { s with synce := (s.synce.1, v s.synce.2) }
      okRes (hostClocks s) [w32 (s.synce.1.getD 0xFF), w32 (s.synce.2.getD 0xFF)]
def execHlSynceSelect (c : Cmd) (s : State) : Host.Outcome State Fault Refusal := .next (serve hlSynceSelectOp c s)

/-! ## HP opcodes -/

def hpWords (x : HpCfg) : List Word :=
  [b01 x.enable, x.type, x.laneRate, x.firstLane, lpNum x.line, x.firstSlot, b01 x.ilt, x.retries, x.laneHold, b01 x.lfOnSf,
   lpNum x.relayFrom, x.mtu].map w32

/-- A configuration after HP_CONFIG: lane fields are ignored for relay ports, RELAY_FROM for lane ports (R281). -/
def hpOf (n : Nat) (c : Cmd) (o : HpCfg) : HpCfg :=
  let lane := isLanePort n
  { enable := pick c 0 (b01 o.enable) == 1
    type := pick c 1 o.type
    laneRate := if lane then pick c 2 o.laneRate else o.laneRate
    firstLane := if lane then pick c 3 o.firstLane else o.firstLane
    line := lpOf (pick c 4 (lpNum o.line))
    firstSlot := if lane then pick c 5 o.firstSlot else o.firstSlot
    ilt := if lane then pick c 6 (b01 o.ilt) == 1 else o.ilt
    retries := if lane then pick c 7 o.retries else o.retries
    laneHold := if lane then pick c 8 o.laneHold else o.laneHold
    lfOnSf := if lane then pick c 9 (b01 o.lfOnSf) == 1 else o.lfOnSf
    relayFrom := if lane then o.relayFrom else lpOf (pick c 10 (lpNum o.relayFrom))
    mtu := pick c 11 o.mtu }

/-- The lane group of a lane port's configuration is one of Table 10.1 (R261): the offending word otherwise. -/
def laneGroupBad (x : HpCfg) : Option Nat :=
  match laneCount x.type x.laneRate with
  | none => some 6
  | some l => if x.firstLane % l ≠ 0 ∨ 32 < x.firstLane + l then some 7 else none

/-- Another enabled lane port holds one of the lanes. -/
def lanesHeld (s : State) (n : Nat) (x : HpCfg) : Bool :=
  (List.range 32).any fun m => m != n && (hpCfg s m).enable && (portLanes s m).any fun i => (cfgLanes x).contains i

/-- Slots of enabled TRANSPARENT lane ports mapped to the same line port overlap (R274). -/
def slotsOverlap (s : State) (n : Nat) (x : HpCfg) : Bool :=
  !packetOn s x.line && (List.range 32).any fun m =>
    let y := hpCfg s m
    m != n && y.enable && y.line == x.line && decide (x.firstSlot < y.firstSlot + typeSlots y.type)
      && decide (y.firstSlot < x.firstSlot + typeSlots x.type)

/-- A new configuration takes hold on a port (R281, Table 10.5). -/
def setHpCfg (n : Nat) (x : HpCfg) (s : State) : State :=
  let o := hpCfg s n
  let oldMap := hpMap s n
  let moved := o.enable && (o.line != x.line || o.firstSlot != x.firstSlot)
  let placed := moved && !(s.hport n).unplaced && isLanePort n
  let leaves := placed && (s.port o.line).cod.tx.running
  let joins := placed && (s.port x.line).cod.tx.running
  let retrain := o.type != x.type || o.laneRate != x.laneRate || o.firstLane != x.firstLane || o.ilt != x.ilt
  let s := if o.enable && (!x.enable || retrain) && isLanePort n then
      (portLanes s n).foldl (fun s i => dropLane i s) s else s
  let s := s.modHport n fun h => { h with cfg := some x, mapped := if leaves then some oldMap else none, joins }
  let s := if !isLanePort n then setHp n (if x.enable then .up else .disabled) 0 s
    else if o.enable && !x.enable then disablePort n s
    else if x.enable && (!o.enable || retrain) then freshTraining n (portLanes s n) 0 s
    else s
  let s := if placed && !leaves && !joins then hpEvent n (s.hport n).st 0 s else s
  refreshPlaces 0 s

/-- The lane group a HP_CONFIG brings is one of Table 10.1: the offending word. -/
def hpRangeBad (s : State) (t : Nat) (c : Cmd) : Option Nat :=
  let n := t - 0x40
  if isLanePort n then laneGroupBad (hpOf n c (hpCfg s n)) else none

/-- HP_CONFIG. -/
def hpConfigOp : OpSpec where
  code := 0x0803
  targets := isHpT
  all := true
  configured := fun s t => (s.hport (t - 0x40)).cfg.isSome
  flags := 15
  nparams := 1
  badParam := fun _ c => firstBad [selU c 0 0 1, selU c 1 0 4, selU c 2 0 2, selU c 3 0 31, selU c 4 0 1, selU c 5 0 31,
    selU c 6 0 1, selU c 7 0 255, selU c 8 1 1000, selU c 9 0 1, selU c 10 0 1, selU c 11 1518 9600]
  unitBad := hpRangeBad
  resLen := fun _ _ _ => 13
  run := fun s t c =>
    let n := t - 0x40
    let x := hpOf n c (hpCfg s n)
    match hpRangeBad s t c with
    | some w => refuse s stBadParam w
    | none =>
      if isLanePort n && x.enable && lanesHeld s n x then refuse s stBadState 0x0100
      else if isLanePort n && x.enable && slotsOverlap s n x then refuse s stBadState 0x0101
      else okRes (setHpCfg n x s) (0 :: hpWords x)
def execHpConfig (c : Cmd) (s : State) : Host.Outcome State Fault Refusal := .next (serve hpConfigOp c s)

/-- HP_STATUS. -/
def hpStatusOp : OpSpec where
  code := 0x0804
  targets := isHpT
  all := true
  configured := fun s t => (s.hport (t - 0x40)).cfg.isSome
  flags := 8
  resLen := fun _ _ _ => 5
  run := fun s t _ =>
    let n := t - 0x40
    let h := s.hport n
    let x := hpCfg s n
    let lanes := (portLanes s n).foldl (fun a i => a + onBit (s.lane i).locked (i - x.firstLane)) 0
    okRes s [w32 (hpNum h.st + onBit h.unplaced 3 + onBit (raised s 0x8812 t 0) 4 + onBit (sendsLf s n) 5 + h.loopback * 64
        + onBit (isLanePort n && iltOn x) 8),
      w32 lanes, w32 h.fails, w32 h.skew, wI h.idleLast]
def execHpStatus (c : Cmd) (s : State) : Host.Outcome State Fault Refusal := .next (serve hpStatusOp c s)

def isLanePortT (t : Nat) : Bool := within t 0x40 0x5F

/-- HP_RETRAIN. -/
def hpRetrainOp : OpSpec where
  code := 0x0805
  targets := isLanePortT
  nparams := 1
  badParam := fun s c => firstBad [(3, decide (bits (c.w 3) 8 24 = 0)
    && decide (bits (c.w 3) 0 8 < 2 ^ (portLanes s (c.target - 0x40)).length))]
  run := fun s t c =>
    let n := t - 0x40
    if (hpCfg s n).enable then
      let ls := (portLanes s n).filter fun i => c.w 3 == 0 || bit (c.w 3) (i - (hpCfg s n).firstLane)
      { st := freshTraining n ls 0 s, settled := false }
    else refuse s stBadState 0x0102
def execHpRetrain (c : Cmd) (s : State) : Host.Outcome State Fault Refusal := .next (serve hpRetrainOp c s)

/-- A loopback set or cleared: lanes are not retrained; a port that was UP on a loop that is cleared and has a lane without lock
is in LOCAL_FAULT, each such lane to train alone (R271, R278; log entry 146). -/
def setLoopback (n m : Nat) (s : State) : State :=
  let o := (s.hport n).loopback
  let bad := (portLanes s n).filter fun i => !(s.lane i).locked
  let s := s.modHport n fun h => { h with loopback := m }
  if o = 2 ∧ m ≠ 2 ∧ (s.hport n).st = .up ∧ bad ≠ [] then
    setHp n .localFault 0 (bad.foldl (fun s i => s.modLane i fun l => { l with alone := l.holdEnd.isNone }) s)
  else s

/-- HP_LOOPBACK. -/
def hpLoopbackOp : OpSpec where
  code := 0x0806
  targets := isLanePortT
  flags := 6
  nparams := 1
  badParam := fun _ c => firstBad [(3, within (c.w 3) 0 3)]
  resLen := fun _ _ _ => 1
  run := fun s t c =>
    let n := t - 0x40
    if (hpCfg s n).enable then okRes (setLoopback n (c.w 3) s) [w32 (c.w 3)]
    else refuse s stBadState 0x0102
def execHpLoopback (c : Cmd) (s : State) : Host.Outcome State Fault Refusal := .next (serve hpLoopbackOp c s)

/-- The counters of a host port its monitors alone count, at present: those of frames on a TRANSPARENT port, those of the host
FEC and rate adaptation on any lane port (R282). -/
def monitored (s : State) (n : Nat) : List Nat :=
  if !isLanePort n then []
  else if (s.hport n).st = .up then (if isPacket s n then idRange 0x0808 0x080D else idRange 0x0801 0x080D)
  else if (s.hport n).st = .aligning then idRange 0x0808 0x080B
  else []

/-- What the monitors counted since they were last taken into account is not known before the boundary: free values (log entry
25). -/
def settleHost (n : Nat) (s : State) : State :=
  (monitored s n).foldl (fun s id => let (w, s) := freeW s; hpCount n id w.toNat s) s

/-- HP_COUNTERS (Table 10.7). -/
def hpCountersOp : OpSpec :=
  let op := countersOp 0x0808 isHpT false true (idRange 0x0801 0x080F)
  { op with
    configured := fun s t => (s.hport (t - 0x40)).cfg.isSome
    run := fun s t c => op.run (settleHost (t - 0x40) s) t c }
def execHpCounters (c : Cmd) (s : State) : Host.Outcome State Fault Refusal := .next (serve hpCountersOp c s)

/-- The host side's part of a boundary: what the monitors counted that no reader was given, and the idle blocks of each listed
port. -/
def hostSecond (ms : List (Nat × Nat × Nat)) (s : State) : State :=
  let s := ms.foldl (fun s x => if x.1 < 32 ∧ (monitored s x.1).contains x.2.1 then hpCount x.1 x.2.1 x.2.2 s else s) s
  (List.range 32).foldl (fun s n =>
    let diff := ms.foldl (fun a x => if x.1 = n then
      (if x.2.1 = 0x080C then a + (x.2.2 : Int) else if x.2.1 = 0x080D then a - (x.2.2 : Int) else a) else a) (0 : Int)
    if (s.hport n).idleLast = diff then s else s.modHport n fun h => { h with idleLast := diff }) s

end Sys2Proof.Machine
end

