-- ==== Sys2Proof/Machine/Takeover.lean ====
section
/-!
DEFINITION. Sys2Proof/Machine/Takeover.lean: engine faults, switch-overs to the spare engine, returns to the home engine,
and the comparison of burnishing (R310 to R322, R334).
-/
namespace Sys2Proof.Machine
open Sys2Proof

/-- A switch-over or return runs on a port: a WARM one until its window ends, a COOL one until IN_FRAME (Table 12.11; log
entry 40). -/
def tkBusy (s : State) (p : Lp) : Bool := (s.protPort p).tk.isSome

/-- A switch-over or return runs on either port. -/
def tkRuns (s : State) : Bool := tkBusy s .lp0 || tkBusy s .lp1

def modBurn (s : State) (f : Burn → Burn) : State := s.modProt fun x => { x with burn := f x.burn }

/-- Burnishing runs. -/
def burnRuns (s : State) : Bool := s.prot.burn.phase != .none

/-- Phase codes of Table 12.12. -/
def burnNum : BurnPhase → Nat
  | .acquire => 1
  | .shadow => 2
  | .loop => 3
  | _ => 0

/-! ## Ends of burnishing and of PROT_ENGINE_RESTORE -/

/-- PROT_ENGINE_RESTORE ends with a result (Table 12.14); the standing of the engines follows. -/
def finishRestore (result : Nat) (s : State) : State :=
  match s.prot.restore with
  | none => s
  | some r =>
    let s := s.modProt fun x => { x with restore := none }
    askResolve 0 (completeUnit 0x0A04 (engT r.e) stOk 0 [w32 result] s)

/-- EV_BURNISH: port, phase, result. -/
def burnEvent (result : Nat) (s : State) : State :=
  let b := s.prot.burn
  emit 0x8A02 0x1A [w32 (lpNum b.port), w32 (burnNum b.phase), w32 result] s

/-- Burnishing ends before its time: result 1 mismatch, 2 interrupted. The restore of LES that asked for it ends with
result 3. What LES acquired stays. -/
def endBurn (result : Nat) (s : State) : State :=
  let b := s.prot.burn
  if b.phase = .none then s
  else
    let s := if b.phase = .leave then s else modBurn (burnEvent result s) fun b => { b with passed := false }
    let s := modBurn s fun b => { b with phase := .none, left := [], recent := [] }
    match s.prot.restore with
    | some r => if r.stage = .burnish then finishRestore 3 s else s
    | none => s

/-- Burnishing ends before its time, and LES drops the port. -/
def stopBurn (result : Nat) (s : State) : State :=
  if s.prot.burn.phase = .none then s
  else acqIdle s.prot.burn.port true ((endBurn result s).modEngine .les fun x => { x with burnish := false })

/-- LES leaves WARM for COOL retention. -/
def lesToCool (s : State) : State :=
  let x := s.eng.les
  let s := match x.shadows with | some p => acqIdle p true s | none => s
  let s := s.modEngine .les fun x => { x with shadows := none, move := .none }
  if x.st = .warm then setEngSt .les .cool s else s

/-! ## Engines leaving service (R310) -/

/-- ENGINE_FAIL with its cause and INJECTED. -/
def failAlarm (e : Eng) (cause : Nat) (injected : Bool) (s : State) : State :=
  raiseAlarm 0x8A10 (engT e) 0 [w32 cause, w32 (b01 injected)] s

/-- An engine goes to COLD and is held there: ENGINE_FAILED but for FORCED; power-gating follows. -/
def goCold (e : Eng) (cause : Nat) (s : State) : State :=
  let s := match (s.engine e).shadows with | some p => acqIdle p true s | none => s
  let s := s.modEngine e fun x => { x with
    serves := none, shadows := none, dualActive := false, held := true, failed := x.failed || cause != 7, move := .gating }
  setEngSt e .cold s

/-- An engine switched out is held COLD: ENGINE_FAIL but for FORCED. -/
def holdCold (e : Eng) (cause : Nat) (injected : Bool) (s : State) : State :=
  let s := goCold e cause s
  if cause = 7 then s else failAlarm e cause injected s

/-- A port in service is left without an engine: ENGINE_LOST. -/
def losePort (p : Lp) (s : State) : State :=
  refreshPort p (acqIdle p false (raiseAlarm 0x8A13 (lpT p) 0 [] s))

/-! ## Decision (R311 to R313, R316, R318, R334) -/

/-- The kind of takeover the spare engine can make of a port now: 1 WARM, 2 COOL. -/
def spareKind (s : State) (p : Lp) : Option Nat :=
  let x := s.eng.les
  let b := s.prot.burn
  if !spareAvailable s || (s.port p).mode.running.guard == .none then none
  else if x.st == .warm && x.shadows == some p && (!x.burnish || (b.phase == .shadow && b.port == p)) then some 1
  else if x.st == .cool || x.st == .warm then some 2
  else none

/-- What a fault of the serving engine does where no switch-over follows, for causes 0 and 1 (Tables 12.5 and 12.6):
`rx` and `tx` tell the directions the fault touches. -/
def markFrames (p : Lp) (cause : Nat) (rx tx : Bool) (s : State) : State :=
  let s := if rx then s.modFrame p fun f => { f with
      rxMark := true, markUntil := if cause = 1 then s.hk + msT 1 else f.markUntil } else s
  if tx then lpCount s p 0x0A23 1 else s

/-- A switch-over of port `p` begins: D is accepted now. -/
def beginTk (p : Lp) (kind : Nat) (out inn : Eng) (cause : Nat) (injected : Bool) (s : State) : State :=
  s.modProtPort p fun x => { x with tk := some { kind, out, inn, cause, injected, decided := s.hk } }

/-- A cause without a takeover (Tables 12.5, 12.6, 12.11): frames are marked for causes 0 and 1, else the port is left
without an engine. -/
def failAlone (p : Lp) (e : Eng) (cause : Nat) (injected rx tx : Bool) (s : State) : State :=
  if cause = 0 ∨ cause = 1 then markFrames p cause rx tx s
  else losePort p (askResolve 4 (holdCold e cause injected s))

/-- A cause is decided: a switch-over, or what Table 12.11 says without a spare. -/
def decideTk (p : Lp) (e : Eng) (cause : Nat) (injected rx tx : Bool) (s : State) : State :=
  if (s.engine e).serves ≠ some p ∨ !inService s p then s
  else match (if e = .les then none else spareKind s p) with
    | some k => beginTk p k e .les cause injected (if k = 1 then endBurn 2 s else stopBurn 2 s)
    | none => failAlone p e cause injected rx tx s

/-- Waiting requests are decided, in order, until one runs. -/
def nextWaiting : Nat → State → State
  | 0, s => s
  | n + 1, s =>
    match s.prot.waiting with
    | [] => s
    | w :: r =>
      if tkRuns s then s
      else nextWaiting n (decideTk w.p w.out w.cause w.injected true true (s.modProt fun x => { x with waiting := r }))

/-- A return that waited for a switch-over begins (R319, Table 12.11). -/
def tryReturn (s : State) : State :=
  match s.prot.restore with
  | some r =>
    match (s.engine r.e).shadows with
    | some p =>
      if r.stage = .back ∧ !tkRuns s ∧ s.eng.les.serves = some p ∧ (s.engine r.e).st = .warm then
        beginTk p 3 .les r.e 7 false s
      else s
    | none => s
  | none => s

/-- The recovery time of R179 runs for 1 s on an engine that runs. -/
def markRecovery (e : Eng) (s : State) : State :=
  let x := s.engine e
  if x.st = .warm ∨ x.st = .active then s.modEngine e fun x => { x with recovery := some (s.hk + secT 1) } else s

/-- A switch-over or return ends on a port: its record, EV_SWITCHOVER, the command that asked for it, R84, and what waited
for it. -/
def endTk (p : Lp) (t : Takeover) (gap : Nat) (abandoned : Bool) (s : State) : State :=
  let up := uptime s
  let cycles := if t.kind = 2 ∧ !abandoned then (t.resumed - t.cut) / 128 else gap
  let s := s.modProtPort p fun x => { x with
    tk := none, lastKind := t.kind, lastCause := t.cause, lastMarker := t.marker, lastGap := cycles, lastUp := up,
    count := (x.count + 1) % 256 }
  let frames := if t.kind = 2 then 0 else
    (t.marker + 255) % 256 + t.marker * 2 ^ 8 + t.rxNum * 2 ^ 16 + (t.rxNum + 1) % 256 * 2 ^ 24
  let s := emit 0x8A01 (lpT p) [w32 (lpNum p), w32 (engNum t.out), w32 (engNum t.inn), w32 t.kind, w32 t.cause,
    w32 (b01 t.injected), w32 t.marker, w32 frames, w32 gap, w32 (b01 abandoned)] s
  let s := askResolve 4 s
  let s := if t.kind = 3 then finishRestore (if abandoned then 2 else 0) s
    else completeUnit 0x0A03 (lpT p) stOk 0 [w32 t.kind, w32 gap] s
  let s := markRecovery t.inn (markRecovery t.out (refreshPort p s))
  pump (tryReturn (nextWaiting s.prot.waiting.length (steer s)))

/-- LES, or a home engine returning, faults before it has taken over: abandoned, and the port has no engine. -/
def abandonTk (p : Lp) (t : Takeover) (cause : Nat) (injected : Bool) (s : State) : State :=
  let s := holdCold t.inn cause injected s
  let s := if t.kind = 2 ∧ t.step ≠ .decided then s else holdCold t.out t.cause t.injected s
  endTk p t 0 true (losePort p (s.modProtPort p fun x => { x with tk := none }))

/-- The switch-over whose incoming engine is `e` and which has not handed over yet. -/
def incomingOn (s : State) (e : Eng) : Option (Lp × Takeover) :=
  let on (p : Lp) : Option (Lp × Takeover) := match (s.protPort p).tk with
    | some t => if t.inn = e ∧ t.step ≠ .window then some (p, t) else none
    | none => none
  match on .lp0 with | some x => some x | none => on .lp1

/-- The engine is being switched out: a second cause is ignored (Table 12.11). -/
def outgoing (s : State) (e : Eng) : Bool :=
  lineports.any (fun p => match (s.protPort p).tk with | some t => t.out == e | none => false)
    || s.prot.waiting.any fun w => w.out == e

/-- The engine is powered, or being powered up. -/
def engPowered (s : State) (e : Eng) : Bool := (s.engine e).st != .cold || (s.engine e).move == .toCool

/-- A switch-over of a port was decided for a fault in this datapath cycle. -/
def decidedNow (s : State) (p : Lp) : Option Takeover :=
  match (s.protPort p).tk with
  | some t => if t.step = .decided ∧ t.kind ≠ 3 ∧ t.cause ≠ 7 ∧ t.decided / 128 = s.hk / 128 then some t else none
  | none => none

/-- A fault of an engine in service. Of two engines that fail in the same cycle, LP0's is taken over, and LP1's has no
takeover (Table 12.11); otherwise a later cause waits for a switch-over that runs. -/
def servingFault (p : Lp) (e : Eng) (cause : Nat) (injected rx tx : Bool) (s : State) : State :=
  match p, decidedNow s p.other with
  | .lp0, some t =>
    let s := s.modProtPort .lp1 fun x => { x with tk := none }
    failAlone .lp1 t.out t.cause t.injected true true (decideTk .lp0 e cause injected rx tx s)
  | .lp1, some _ => failAlone .lp1 e cause injected rx tx s
  | _, none =>
    if tkRuns s then s.modProt fun x => { x with waiting := x.waiting ++ [{ p, out := e, cause, injected }] }
    else decideTk p e cause injected rx tx s

/-- A fault of a powered engine that serves no port takes it to COLD (log entry 41); one of LES raises SPARE_DEGRADED
(Table 1.2). -/
def idleFault (e : Eng) (cause : Nat) (injected : Bool) (s : State) : State :=
  let s := if e = .les then goCold e cause (raiseAlarm 0x8A11 0x1A 0 [] (stopBurn 2 s)) else holdCold e cause injected s
  let s := match s.prot.restore with
    | some r => if r.e = e then finishRestore 2 s else s
    | none => s
  askResolve 0 s

/-- A cause of Table 12.1 is accepted for engine `e`; `rx` and `tx` tell the directions a fault of causes 0 and 1
touches. -/
def engineFault (e : Eng) (cause : Nat) (injected rx tx : Bool) (s : State) : State :=
  if outgoing s e then s
  else match incomingOn s e with
    | some (p, t) => abandonTk p t cause injected s
    | none =>
      if !engPowered s e then s
      else match (s.engine e).serves with
        | some p => if inService s p then servingFault p e cause injected rx tx s else s
        | none => idleFault e cause injected s

/-- ENGINE_FAULT_DETECTED: BUDGET (R80: the engine's own AVAIL is short for the port it serves or shadows), SAMPLES_LOST,
RAIL, and causes 0 and 1 where a detector reports them. -/
def execEngineFaultDetected (e : Eng) (cause dt : Nat) (s : State) : Host.Outcome State Fault Refusal :=
  let s := advance dt s
  let x := s.engine e
  let short := match (if x.serves.isSome then x.serves else if e = .les ∧ x.burnish then none else x.shadows) with
    | some p => decide (availOf x < reachCost (s.port p).mode.granted.reach + 4)
    | none => false
  .next (if running s && (cause == 0 || cause == 1 || (cause == 2 && short) || cause == 4 || cause == 5) then
      pump (engineFault e cause false true true s)
    else s)

/-- ENGINE_HEARTBEAT_MISSING: cause 3. -/
def execEngineHeartbeatMissing (e : Eng) (dt : Nat) (s : State) : Host.Outcome State Fault Refusal :=
  let s := advance dt s
  .next (if running s then pump (engineFault e 3 false true true s) else s)

/-- SF_DISAGREE_TIMER (R312): the condition has held for 10 us. -/
def execSfDisagreeTimer (p : Lp) (dt : Nat) (s : State) : Host.Outcome State Fault Refusal :=
  let s := advance dt s
  .next (if running s && due (s.protPort p).disagree s.hk && disagrees s p then
      match servingEng s p with
      | some e => pump (engineFault e 6 false true true (s.modProtPort p fun x => { x with disagree := none }))
      | none => s
    else s)

/-! ## The cut (R313, R316) -/

/-- Changes of the takeover of a port. -/
def modTk (p : Lp) (f : Takeover → Takeover) (s : State) : State :=
  s.modProtPort p fun x => { x with tk := x.tk.map f }

/-- The cut of a WARM takeover or return: ownership passes and DUAL_ACTIVE is set. A bad stream-position store makes the
next frame start from the zero predecessor (Table 12.6, memory 13; R317). -/
def cutWarm (p : Lp) (t : Takeover) (s : State) : State :=
  let s := s.modEngine t.out fun x => { x with serves := none, dualActive := true }
  let s := s.modEngine t.inn fun x => { x with serves := some p, shadows := none, burnish := false, dualActive := true }
  let s := if s.prot.streamBad then s.modCod p fun c => { c with tx := { c.tx with restart := true } } else s
  let s := if t.kind = 1 then askResolve 4 s else s
  (modTk p (fun t => { t with
      step := .gap, cut := s.hk, rxNum := ((s.port p).frame.lastGood.getD 255 + 1) % 256 }) s).modFrame p fun f =>
    { f with acc := { f.acc with overlap := true } }

/-- LES begins to acquire on a port by LAST or the cold path, under R147. -/
def takeAcq (p : Lp) (s : State) : State :=
  let c := (s.port p).conv
  if (c.los && !c.loop) || c.synth != .locked then enterAcq p false .waitSignal s else startByLast p false s

/-- The cut of a COOL takeover: the outgoing engine reads COLD, and LES is given the port. -/
def cutCool (p : Lp) (t : Takeover) (s : State) : State :=
  let s := lesToCool (holdCold t.out t.cause t.injected s)
  let s := s.modEngine .les fun x => { x with serves := some p, burnish := false, move := .none }
  askResolve 4 (takeAcq p (modTk p (fun t => { t with step := .hold, cut := s.hk }) s))

/-- SWITCHOVER_CUT: 8 cycles after D at the latest, at once where the transmit words are lost. -/
def execSwitchoverCut (p : Lp) (dt : Nat) (s : State) : Host.Outcome State Fault Refusal :=
  let s := advance dt s
  .next (match (s.protPort p).tk with
    | some t =>
      if running s && t.step == .decided && (t.cause == 4 || decide (t.decided + dpT 8 ≤ s.hk)) then
        let s := tapEvent p 2 (holdDac p s)
        pump (refreshPort p (if t.kind = 2 then cutCool p t s else cutWarm p t s))
      else s
    | none => s)

/-! ## WARM takeover (R313 to R315) -/

/-- WARM_GAP_END: 80 cycles after C the incoming engine's samples reach the DACs; the port runs on with what that engine
acquired. -/
def execWarmGapEnd (p : Lp) (dt : Nat) (s : State) : Host.Outcome State Fault Refusal :=
  let s := advance dt s
  .next (match (s.protPort p).tk with
    | some t =>
      if running s && t.step == .gap && decide (t.cut + dpT 80 ≤ s.hk) then
        let s := setEngSt t.inn .active s
        let s := modTk p (fun t => { t with step := .window, marker := (s.port p).frame.txNum, resumed := s.hk }) s
        let was := inTrack s p
        let s := s.modDsp p fun d =>
          if d.spareAcq.st = .idle then d
          else { d with acq := d.spareAcq, spareAcq := {}, recv := d.spareRecv,
                        est := { d.spareEst with updates := d.est.updates } }
        let s := if !was && inTrack s p then acquireDone p .track s else s
        pump (refreshPort p s)
      else s
    | none => s)

/-- The alarms only the outgoing engine raised clear (R315). -/
def clearOutgoing (p : Lp) (s : State) : State :=
  if (s.port p).dsp.acq.st = .track then
    refreshPort p (clearAlarm 0x8511 (lpT p) 0 [] (clearAlarm 0x8311 (lpT p) 0 [] (clearAlarm 0x8310 (lpT p) 0 [] s)))
  else s

/-- The outgoing engine leaves ACTIVE: held COLD, or LES to COOL after a return. -/
def switchOut (t : Takeover) (s : State) : State :=
  if t.kind = 3 then
    setEngSt t.out .cool (s.modEngine t.out fun x => { x with dualActive := false, move := .retaining })
  else holdCold t.out t.cause t.injected s

/-- DUAL_ACTIVE_WINDOW_END: the parting marker's frame has ended. -/
def execDualActiveWindowEnd (p : Lp) (dt : Nat) (s : State) : Host.Outcome State Fault Refusal :=
  let s := advance dt s
  .next (match (s.protPort p).tk with
    | some t =>
      if running s && t.step == .window && t.windowEnd != 0 && decide (t.windowEnd ≤ s.hk) then
        let s := s.modEngine t.inn fun x => { x with dualActive := false }
        endTk p t 80 false (lpCount (clearOutgoing p (switchOut t s)) p 0x0A20 1)
      else s
    | none => s)

/-! ## COOL takeover (R316, R317) -/

/-- COOL_TAKEOVER_LES_RELEASED: LES runs with LAST and the stream state; PROFILE_LOAD ends at FREQ_ACQ. -/
def execCoolTakeoverLesReleased (p : Lp) (dt : Nat) (s : State) : Host.Outcome State Fault Refusal :=
  let s := advance dt s
  .next (match (s.protPort p).tk with
    | some t =>
      if running s && t.step == .hold then
        let s := modTk p (fun t => { t with step := .released }) (setEngSt t.inn .active s)
        let s := checkIdle t.inn (replaceRoles t.inn (s.modEngine t.inn fun x => { x with startup := some none }))
        if (s.port p).dsp.acq.st = .profileLoad then
          enterAcq p false .freqAcq (loadProfile p false s)
        else s
      else s
    | none => s)

/-- Payload blocks of a frame (Table 8.2). -/
def frameBlocks (enc : Bool) : Nat := if enc then 2038 else 2039

/-- Words as bits, most significant first. -/
def wordBits (ws : List Word) : List Bool := ((ws.map wordBytesBE).flatten.map byteBits).flatten

/-- COOL_TAKEOVER_TRANSMIT: the parting marker is the next frame; the frames skipped since the cut are consumed, and COUNTER
starts at RESERVED. The bits of a skipped frame in the block the marker starts in are free (log entry 140). -/
def execCoolTakeoverTransmit (p : Lp) (skipped dt : Nat) (s : State) : Host.Outcome State Fault Refusal :=
  let s := advance dt s
  .next (match (s.protPort p).tk with
    | some t =>
      if running s && t.step == .released then
        let n := frameBlocks (cipherOn s p)
        let s := lpCount s p 0x0A22 skipped
        let s := s.modFrame p fun f => { f with txNum := (f.txNum + skipped) % 256, txBlock := f.txBlock + skipped * n }
        let (ws, s) := freeWs 9 s
        let s := s.modCod p fun c => { c with tx := { c.tx with
          n := c.tx.n + skipped, restart := true, tail := if skipped = 0 then c.tx.tail else wordBits ws } }
        let s := s.modCrypto p fun k => if k.tx.isSome then { k with txCounter := k.reserved } else k
        noteDac p (modTk p (fun t => { t with step := .acquiring, marker := (s.port p).frame.txNum, resumed := s.hk }) s)
      else s
    | none => s)

/-- A COOL takeover is complete at IN_FRAME (Table 12.3, step 5). -/
def coolComplete (p : Lp) (s : State) : State :=
  match (s.protPort p).tk with
  | some t =>
    if t.kind = 2 ∧ t.step = .acquiring then endTk p t ((t.resumed - t.cut) / 192000) false (lpCount s p 0x0A21 1) else s
  | none => s

/-! ## Comparison of burnishing and of a WARM spare (R320, R321) -/

/-- The port on which the spare engine is compared now. -/
def comparedPort (s : State) : Option Lp :=
  let b := s.prot.burn
  if burnRuns s then (if b.phase = .shadow ∨ b.phase = .loop then some b.port else none)
  else if s.eng.les.st = .warm ∧ s.eng.les.serves.isNone then s.eng.les.shadows else none

/-- The key of a pending injection: KIND, TARGET, LOCATION. -/
def injKey (kind target loc : Nat) : Nat := kind * 2 ^ 24 + target * 2 ^ 16 + loc

def injPending (s : State) (k : Nat) : Nat := SMap.get 0 s.prot.inject k

/-- One pending injection acts: INJECTIONS counts. -/
def useInjection (k : Nat) (s : State) : State :=
  let n := injPending s k
  if n = 0 then s
  else ctrAdd (s.modProt fun x => { x with inject := SMap.set 0 x.inject k (n - 1) }) (sel 0 0 0x0A06) 1

/-- Three mismatches in eight consecutive compared frames: SPARE_DEGRADED, and LES returns to COOL. -/
def degradeSpare (s : State) : State :=
  let s := stopBurn 1 (raiseAlarm 0x8A11 0x1A 0 [] s)
  askResolve 0 (lesToCool (modBurn s fun b => { b with recent := [] }))

/-- What the serving engine did in the frame in progress leaves it out of the comparison (R321). -/
def excludeFrame (e : Eng) (s : State) : State :=
  match comparedPort s with
  | some p => if servingEng s p = some e then modBurn s fun b => { b with excluded := true } else s
  | none => s

/-- A received frame on a compared port: `good` tells whether the CRCs agree, where they were compared, and `acted` whether a
consequent action was taken in it. It is left out after a replay, a corrected error or an action, and once the serving engine
has failed (R321, Table 12.11); an injection makes it a mismatch. -/
def compareFrame (p : Lp) (good : Option Bool) (acted : Bool) (s : State) : State :=
  let out := s.prot.burn.excluded || acted || tkBusy s p
  let s := if comparedPort s = some p then modBurn s fun b => { b with excluded := false } else s
  match comparedPort s, good with
  | some q, some good =>
    if q ≠ p ∨ out then s
    else
    let k := injKey 5 0x1A 0
    let inj := decide (injPending s k ≠ 0)
    let s := if inj then useInjection k s else s
    let bad := inj || !good
    let s := if bad then ctrAdd s (sel 0 0 0x0A05) 1 else s
    let s := modBurn s fun b => { b with
      recent := (bad :: b.recent).take 8, phaseMm := if bad then b.phaseMm + 1 else b.phaseMm }
    if 3 ≤ (s.prot.burn.recent.filter id).length then degradeSpare s else s
  | _, _ => s

end Sys2Proof.Machine
end

