-- ==== Sys2Proof/Machine/Inband.lean ====
section
/-!
DEFINITION. Sys2Proof/Machine/Inband.lean: the byte streams of the in-band command ports in bytes 16 to 27 of the VLF header
(R46, R49, R52).
-/
namespace Sys2Proof.Machine
open Sys2Proof

/-- A byte position holds a candidate word 0: sync 0xC5, version 0x01, LENGTH at most 1,020 (R49). -/
def candidateAt (bs : List Byte) : Bool :=
  (bs.getD 3 0).toNat == 0xC5 && (bs.getD 2 0).toNat == 1
    && decide ((bs.getD 1 0).toNat * 256 + (bs.getD 0 0).toNat ≤ 1020)

/-- Bytes of the packet that begins at a candidate. -/
def packetLen (bs : List Byte) : Nat := 4 * ((bs.getD 1 0).toNat * 256 + (bs.getD 0 0).toNat + 4)

/-- The CRC of a whole packet checks (R52). -/
def crcOk (ws : List Word) : Bool := crc32cWords ws.dropLast == ws.getLastD 0

/-- What the hunt through received bytes finds. -/
inductive Hunted where
  /-- A packet with a good CRC and the bytes after it. -/
  | packet (words : List Word) (rest : List Byte)
  /-- A packet is being collected, or fewer than 4 bytes are left. -/
  | more (rest : List Byte) (collecting : Bool)
deriving DecidableEq, Repr

/-- The hunt, with the number of packets discarded on a CRC failure; `n` is a bound on its steps. -/
def huntBytes : Nat → Nat → List Byte → Nat × Hunted
  | 0, d, bs => (d, .more bs false)
  | n + 1, d, bs =>
    if bs.length < 4 then (d, .more bs false)
    else if candidateAt bs then
      if bs.length < packetLen bs then (d, .more bs true)
      else
        let ws := bytesToWords (bs.take (packetLen bs))
        if crcOk ws then (d, .packet ws (bs.drop (packetLen bs))) else huntBytes n (d + 1) (bs.drop 1)
    else huntBytes n d (bs.drop 1)

/-- The management channel bytes of a received frame. -/
def inbandTake (p : Lp) (h : List Byte) (s : State) : State :=
  s.modInband p fun i => { i with rx := i.rx ++ (h.drop 16).take 12 }

/-- INBAND_DISCARD counts. -/
def inbandDrop (n : Nat) (s : State) : State := s.modHost fun h => { h with inbandDiscard := h.inbandDiscard + BitVec.ofNat 32 n }

/-- Bytes of the whole good packets of a stream, up to a bound on their number, the packets discarded on a CRC failure or
because they are still being collected. -/
def wholePackets : Nat → List Byte → List Byte × Nat
  | 0, _ => ([], 0)
  | n + 1, bs =>
    let (d, r) := huntBytes (bs.length + 1) 0 bs
    match r with
    | .packet ws rest => let x := wholePackets n rest; (wordsToBytes ws ++ x.1, d + x.2)
    | .more _ c => ([], d + b01 c)

/-- A frame lost to OOF, or headerless, ends the packet being collected, which is discarded (R49, R219); packets already
whole stay. -/
def inbandLost (p : Lp) (s : State) : State :=
  let bs := (s.inband p).rx
  let (keep, d) := wholePackets bs.length bs
  inbandDrop d (s.modInband p fun i => { i with rx := keep })

/-- The next 12 bytes of the transmitted management channel, 0x00 between packets. -/
def inbandNext (s : State) (p : Lp) : List Byte := ((s.inband p).tx ++ List.replicate 12 0).take 12

end Sys2Proof.Machine
end

