-- ==== Sys2Proof/Machine/LineFrame.lean ====
section
/-!
DEFINITION. Sys2Proof/Machine/LineFrame.lean: Line Frame, Overhead and Performance Monitoring: alignment, received and
transmitted frames, and the opcodes of Table 8.12 but for those of performance monitoring (R211 to R226, R233 to R238).
-/
namespace Sys2Proof.Machine
open Sys2Proof

/-! ## Alignment (R220, Table 8.4) -/

/-- Alignment codes of Table 8.11. -/
def alignNum : Align → Nat
  | .hunt => 0
  | .confirm => 1
  | .inFrame => 2

/-- FRAME_NUM of a header. -/
def frameNum (h : List Byte) : Nat := (h.getD 4 0).toNat

/-- A received frame can be told from others: the serving engine tracks the port's signal. -/
def receives (s : State) (p : Lp) : Bool := running s && inService s p && tracking s p

/-- The port reaches IN_FRAME: EV_ALIGN_STATE, the inhibit time ends (R233), the receive COUNTER awaits its message
(R250), and a COOL takeover is complete (R316). -/
def reachInFrame (p : Lp) (num : Nat) (s : State) : State :=
  let s := s.modFrame p fun f => { f with align := .inFrame, badRun := 0, inhibit := none }
  let s := s.modCrypto p fun k => { k with sync := true, msg := none }
  let s := emit 0x8601 (lpT p) [1, 2, w32 num] s
  coolComplete p (refreshPort p s)

/-- The port goes to HUNT from CONFIRM or IN_FRAME: the packet being collected is discarded (R49). -/
def loseFrame (p : Lp) (s : State) : State := refreshPort p (toHunt p (inbandLost p s))

/-- The FRAME_NUM the next robust header to be decoded should carry. -/
def nextNum (f : Frame) : Option Nat := f.lastGood.map fun n => (n + f.robust.length + 1) % 256

/-- The grid moves on by one frame. -/
def stepGrid (p : Lp) (s : State) : State :=
  let r := portRate s p
  s.modCod p fun c => { c with grid := c.grid.map (nextGrid r) }

/-- CHAIN_RESTART of a decoded header is kept for its frame (R188). -/
def keepRestart (p : Lp) (b : Bool) (s : State) : State := s.modCod p fun c => { c with restarts := c.restarts ++ [b] }

/-- A decoded robust header (R203, R219, R220): a good one in HUNT is a candidate, the next one confirms it. -/
def robustHeader (p : Lp) (h : List Byte) (loc : Word) (anchor : Nat) (s : State) : State :=
  let f := (s.port p).frame
  let (good, s) := judgeHeader p h loc anchor s
  let restart := hcrcGood h && locGood loc && locRestart loc
  match f.align with
  | .hunt =>
    if good then
      let g : RxGrid := { lag := locLag loc, bitOffset := locOffset loc, anchor := anchor % 2 ^ 32 }
      let s := s.modCod p fun c => { c with
        grid := some (nextGrid (portRate s p) g), fresh := true, restarts := [locRestart loc], cw := 0, bytes := [],
        flagged := [], last := none }
      refreshPort p (s.modFrame p fun f => { f with
        align := .confirm, robust := [some h], lastGood := some ((frameNum h + 255) % 256), badRun := 0 })
    else s
  | .confirm =>
    if good && nextNum f == some (frameNum h) then
      reachInFrame p (frameNum h) ((keepRestart p restart (stepGrid p s)).modFrame p fun f =>
        { f with robust := f.robust ++ [some h] })
    else loseFrame p s
  | .inFrame =>
    (keepRestart p restart (stepGrid p s)).modFrame p fun f =>
      { f with robust := f.robust ++ [if good then some h else none] }

/-- ROBUST_HEADER_DECODED. -/
def execRobustHeaderDecoded (p : Lp) (header : List Byte) (locator : Word) (anchor dt : Nat) (s : State) :
    Host.Outcome State Fault Refusal :=
  let s := advance dt s
  .next (if receives s p && !(runningPoint s p).zr800 then pump (robustHeader p header locator anchor s) else s)

/-! ## Overhead of a header of record -/

/-- EV_TRACE_ACCEPTED. -/
def acceptEvent (p : Lp) (what : Nat) (s : State) : State :=
  emit 0x8602 (lpT p) [w32 what, w32 (((s.port p).frame.labelAcc).getD 0)] s

/-- A complete trace cycle: the third in a row with the same string accepts it (R222). -/
def traceCycle (p : Lp) (str : List Byte) (s : State) : State :=
  let f := (s.port p).frame
  let run := if str = f.traceLast then min 3 (f.traceRun + 1) else 1
  let s := s.modFrame p fun f => { f with traceLast := str, traceRun := run, traceNext := none, traceBuf := [] }
  if run = 3 ∧ f.traceAcc ≠ some str then
    acceptEvent p 1 (s.modFrame p fun f => { f with traceAcc := some str })
  else s

/-- TRACE of a header of record (R222). -/
def takeTrace (p : Lp) (h : List Byte) (s : State) : State :=
  let i := frameNum h % 64
  let b := h.getD 6 0
  let f := (s.port p).frame
  if i = 0 then s.modFrame p fun f => { f with traceBuf := [b], traceNext := some 1 }
  else if f.traceNext = some i then
    if i = 63 then traceCycle p (f.traceBuf ++ [b]) s
    else s.modFrame p fun f => { f with traceBuf := f.traceBuf ++ [b], traceNext := some (i + 1) }
  else s.modFrame p fun f => { f with traceBuf := [], traceNext := none }

/-- LABEL of a header of record (R222). -/
def takeLabel (p : Lp) (h : List Byte) (s : State) : State :=
  let l := (h.getD 5 0).toNat
  let f := (s.port p).frame
  let run := if f.labelRun ≠ 0 ∧ l = f.labelLast then min 5 (f.labelRun + 1) else 1
  let s := s.modFrame p fun f => { f with labelLast := l, labelRun := run }
  if run = 5 ∧ f.labelAcc ≠ some l then acceptEvent p 2 (s.modFrame p fun f => { f with labelAcc := some l }) else s

/-- A condition that three values in a row change (Table 8.5). -/
def runOf3 (b on : Bool) (set clr : Nat) : Bool × Nat × Nat :=
  let set' := if b then min 3 (set + 1) else 0
  let clr' := if b then 0 else min 3 (clr + 1)
  (if set' = 3 then true else if clr' = 3 then false else on, set', clr')

/-- STATUS of a header of record: AIS and RDI (Table 8.5). -/
def takeStatus (p : Lp) (h : List Byte) (s : State) : State :=
  let st := h.getD 7 0
  s.modFrame p fun f =>
    let a := runOf3 (st.getLsbD 6) f.ais f.aisRun f.aisClr
    let r := runOf3 (st.getLsbD 7) f.rdi f.rdiRun f.rdiClr
    { f with ais := a.1, aisRun := a.2.1, aisClr := a.2.2, rdi := r.1, rdiRun := r.2.1, rdiClr := r.2.2 }

/-- The accepted protection bytes disagree with the configuration of the group (R329). -/
def apsDisagrees (a : Aps) : Bool :=
  match a.rxAcc with
  | some b =>
    let n := (b.getD 0 0).toNat
    a.cfg.group != 0 && ((b.getD 3 0).toNat != a.cfg.group || bit n 1 != (a.cfg.role == 1)
      || bit n 3 != (a.cfg.bidir == 1) || bit n 2 != (a.cfg.revert == 1))
  | none => false

/-- The 50 ms towards raising or clearing APS_MISMATCH run while the condition and the alarm differ. -/
def apsMismatchTimer (p : Lp) (s : State) : State :=
  let want := apsDisagrees (s.aps p)
  let on := raised s 0x8A14 (lpT p) 0
  s.modAps p fun a => { a with
    mismatch := if want == on then none else match a.mismatch with | some t => some t | none => some (s.hk + msT 50) }

/-- PROT of a header of record: three in a row accept a value; the far request acts at once (R328, R329). -/
def takeProt (p : Lp) (h : List Byte) (s : State) : State :=
  let b := (h.drop 8).take 4
  let a := s.aps p
  let run := if a.rxRun ≠ 0 ∧ b = a.rxLast then min 3 (a.rxRun + 1) else 1
  let s := s.modAps p fun a => { a with rxLast := b, rxRun := run }
  if run = 3 ∧ a.rxAcc ≠ some b then
    apsDecide p (apsMismatchTimer p (s.modAps p fun a => { a with rxAcc := some b }))
  else s

/-- Everything taken only from the header of record (R219). -/
def takeOverhead (p : Lp) (h : List Byte) (s : State) : State :=
  let s := s.modFrame p fun f => { f with lastRecord := frameNum h }
  let s := takeStatus p h (takeLabel p h (takeTrace p h s))
  let s := inbandTake p h (takeProt p h s)
  if cipherOn s p then collectMessage p (some h) s else s

/-- A headerless frame delivers no overhead: the trace cycle, the crypto message and the in-band packet being collected are
discarded (R219, R222, R245). -/
def noOverhead (p : Lp) (s : State) : State :=
  let s := lpCount s p 0x0605 1
  let s := s.modFrame p fun f => { f with
    traceBuf := [], traceNext := none, acc := { f.acc with headerless := f.acc.headerless + 1 } }
  collectMessage p none (inbandLost p s)

/-! ## Received frames (R218 to R220) -/

/-- Errored frames count. -/
def countErrored (p : Lp) (s : State) : State :=
  lpCount (s.modFrame p fun f => { f with acc := { f.acc with errored := f.acc.errored + 1 } }) p 0x0602 1

/-- The BIP16 of the frame before (R213, R218): compared with that of the header of record, when there is one. -/
def takeBip (p : Lp) (h : Option (List Byte)) (s : State) : State :=
  let f := (s.port p).frame
  match f.rxBip with
  | none => s
  | some b =>
    match h with
    | none => lpCount s p 0x0604 1
    | some h =>
      let d := popcount16 (b ^^^ beNat ((h.drop 28).take 2))
      let s := lpCount (s.modFrame p fun f => { f with acc := { f.acc with bip := f.acc.bip + d } }) p 0x0603 d
      if d ≠ 0 ∧ !f.prevErrored then countErrored p s else s

/-- Good or bad frame (R220): the new last FRAME_NUM, whether the frame is bad, and whether its FRAME_NUM skipped. A bad frame
moves the expected FRAME_NUM on by one (log entry 42). -/
def judgeNum (f : Frame) (good : Option (List Byte)) : Nat × Bool × Bool :=
  let want := ((f.lastGood.getD 0) + 1) % 256
  match good with
  | some h => (frameNum h, frameNum h != want, frameNum h != want)
  | none => (want, true, false)

/-- The blocks of an area, each as the bits sent, none for a block with a bit in a codeword of `bad`, counted in bytes from the
header (R215, R218). -/
def blocksOf (n : Nat) (bad : List Nat) (area : List Byte) : List (Option (BitVec 257)) :=
  let all := BitVec.ofNat (8 * 65504) (((area.map byteBits).flatten).foldr (fun b n => 2 * n + b01 b) 0)
  (List.range n).map fun i =>
    let first := (32 + 257 * i / 8) / 1024
    let last := (32 + (257 * i + 256) / 8) / 1024
    if bad.contains first || bad.contains last then none else some (all.extractLsb' (257 * i) 257)

/-- What a judged frame hands to the demapper: nothing under the downstream action; the blocks of the area that left the tag
hold with those of flagged codewords errored; idle blocks for a blank segment; idle blocks marked errored for a replaced one
(R218, R221, R226, R240, R251). -/
def toDemapper (p : Lp) (enc blank : Bool) (bad : List Nat) (s : State) : State :=
  let n := if enc then 2038 else 2039
  let out := if downstream s p then []
    else match (s.port p).crypto.delivered with
      | some a => blocksOf n bad a
      | none => List.replicate n (if blank then some idleBlock else none)
  s.modFrame p fun f => { f with rxBlocks := out }

/-- The deframer's part of a frame received in IN_FRAME: `r` its header of record, `good` a good copy, if any. -/
def inFrameReceived (p : Lp) (r good : Option (List Byte)) (x : RxFrame) (flagged : List Nat)
    (s : State) : State :=
  let f := (s.port p).frame
  let marked := f.rxMark || decide (s.hk < f.markUntil)
  let uncorr := x.uncorr || marked
  let s := lpCount (s.modFrame p fun f => { f with acc := { f.acc with framesIn := f.acc.framesIn + 1 } }) p 0x0601 1
  let s := takeBip p r s
  let s := match r with | some h => takeOverhead p h s | none => noOverhead p s
  let s := if uncorr then countErrored p s else s
  let (num, bad, skip) := judgeNum f good
  let s := lpCount s p 0x0607 (b01 skip)
  let s := judgeSegment p r num (x.uncorr || f.rxReplace) (scramble x.area) s
  let k := (s.port p).crypto
  let blank := (match r with | some h => (h.getD 12 0).getLsbD 7 | none => false)
    && k.rx.isNone && !k.sync && !(x.uncorr || f.rxReplace)
  let s := toDemapper p k.rxEnc blank
    (if marked || (x.uncorr && flagged.isEmpty) then List.range 64 else flagged) s
  let s := s.modFrame p fun f => { f with
    lastGood := some num, badRun := if bad then f.badRun + 1 else 0, rxBip := some (bip16 x.area), prevErrored := uncorr,
    rxMark := false, rxReplace := false }
  let s := compareFrame p x.spare (marked || downstream s p) s
  if (s.port p).frame.badRun = 5 then loseFrame p s else refreshPort p s

/-- A frame as the decoder released it: where its 64 codewords have been released, their bytes and flags; else the operand's,
with the flags of those that have (R202, R218). -/
def releasedFrame (zr : Bool) (c : Coding) (x : RxFrame) : RxFrame :=
  if c.cw = 64 ∧ !zr then
    { x with header := c.bytes.take 32, area := c.bytes.drop 32, conv0 := !c.flagged.contains 0,
             uncorr := !c.flagged.isEmpty }
  else { x with conv0 := x.conv0 && !c.flagged.contains 0, uncorr := x.uncorr || !c.flagged.isEmpty }

/-- VLF_FRAME_RECEIVED on a NATIVE port: the robust copy decoded before it, the header of record, and what follows. -/
def vlfReceived (p : Lp) (x : RxFrame) (s : State) : State :=
  let flagged := (s.port p).cod.flagged
  let x := releasedFrame false (s.port p).cod x
  let s := s.modCod p fun c => { c with cw := 0, bytes := [], flagged := [], restarts := c.restarts.drop 1 }
  let f := (s.port p).frame
  let missing := f.robust.isEmpty
  let rob := (f.robust.head?).getD none
  let s := s.modFrame p fun f => { f with robust := f.robust.drop 1 }
  let s := if missing then stepGrid p s else s
  let s := if missing then s.modCod p fun c => { c with restarts := [] } else s
  let fec := if x.conv0 && copyGood x.header then some x.header else none
  let s := match fec, rob with
    | some a, some b => if a.take 30 = b.take 30 then s else lpCount s p 0x0606 1
    | _, _ => s
  let good := match fec with | some h => some h | none => rob
  match f.align with
  | .hunt => s
  | .confirm =>
    if missing then loseFrame p s
    else s.modFrame p fun f => { f with lastGood := some ((f.lastGood.getD 0 + 1) % 256) }
  | .inFrame => inFrameReceived p good good x flagged s

/-- A frame of the 800ZR format (R234; log entry 43): the operand's header stands for what the format gives in its place, a
frame whose first codeword converged is good, and no BIP, encryption or copies exist. -/
def zrReceived (p : Lp) (x : RxFrame) (s : State) : State :=
  let x := releasedFrame true (s.port p).cod x
  let s := s.modCod p fun c => { c with cw := 0, flagged := [] }
  match (s.port p).frame.align with
  | .hunt => if x.conv0 then refreshPort p (s.modFrame p fun f => { f with align := .confirm, badRun := 0 }) else s
  | .confirm => if x.conv0 then reachInFrame p (frameNum x.header) s else loseFrame p s
  | .inFrame =>
    let s := lpCount (s.modFrame p fun f => { f with acc := { f.acc with framesIn := f.acc.framesIn + 1 } }) p 0x0601 1
    let s := if x.conv0 then
        takeStatus p x.header (takeLabel p x.header (takeTrace p x.header
          (s.modFrame p fun f => { f with lastRecord := frameNum x.header })))
      else s
    let s := if x.uncorr || (s.port p).frame.rxMark then countErrored p s else s
    let s := s.modFrame p fun f => { f with rxMark := false, badRun := if x.conv0 then 0 else f.badRun + 1 }
    if (s.port p).frame.badRun = 5 then loseFrame p s else refreshPort p s

/-- VLF_FRAME_RECEIVED. -/
def execVlfFrameReceived (p : Lp) (x : RxFrame) (dt : Nat) (s : State) : Host.Outcome State Fault Refusal :=
  let s := advance dt s
  .next (if receives s p then pump (if (runningPoint s p).zr800 then zrReceived p x s else vlfReceived p x s) else s)

/-! ## Transmitted frames (R211 to R217, R273) -/

/-- Bits of a block, in the order sent. -/
def blockBits (b : BitVec 257) : List Bool := (List.range 257).map fun i => b.getLsbD i

/-- The payload area, or the plaintext of the segment, from its blocks: blocks, then stuff bits (R215). -/
def areaOf (enc : Bool) (blocks : List (BitVec 257)) : List Byte :=
  let n := if enc then 523904 else 524032
  let bs := (blocks.map blockBits).flatten
  bitsBytes (n / 8) ((bs ++ List.replicate (n - bs.length) false).take n)

/-- Host ports mapped to a line port. -/
def mappedPorts (s : State) (p : Lp) : List Nat := hostPorts.filter fun n => (hpMap s n).1 == p

/-- The transmitted LABEL (Table 8.3). -/
def txLabelOf (s : State) (p : Lp) : Nat :=
  if (mappedPorts s p).isEmpty then 0 else if packetOn s p then 2 else 1

/-- The replacement signal is to be sent (R217, Table 8.6). -/
def replaces (s : State) (p : Lp) : Bool :=
  let f := (s.port p).frame
  bit f.cfg.txForce 0 || (!packetOn s p &&
    ((mappedPorts s p).all (fun n => !(hpCfg s n).enable || (isLanePort n && inLocalFault s n))
      || bit f.defects 6 || (bit f.defects 5 && f.cfg.timAction == 1)))

/-- RDI is to be sent (Table 8.6). -/
def sendsRdi (s : State) (p : Lp) : Bool :=
  let f := (s.port p).frame
  let t := lpT p
  f.defects % 8 != 0 || bit f.cfg.txForce 1 || raised s 0x8310 t 0 || raised s 0x8311 t 0 || raised s 0x8511 t 0
    || raised s 0x8710 t 0

/-- Slot `i` of a line port is occupied by a port that passes data (R271, R273). -/
def slotUsed (s : State) (p : Lp) (i : Nat) : Bool :=
  (List.range 32).any fun n =>
    let (l, first) := hpMap s n
    (hpCfg s n).enable && (passesRx s n || ((s.hport n).mapped.isSome && (s.hport n).st == .up)) && l == p && decide (first ≤ i)
      && decide (i < first + typeSlots (hpCfg s n).type)

/-- The client blocks due in the next frame: those handed over by host ports, or the next of the traffic manager's stream
(R216, R303). -/
def dueBlocks (s : State) (p : Lp) (n : Nat) (blocks : List ClientBlock) : List ClientBlock :=
  if packetOn s p then streamGrid n (SMap.get {} s.tm.outputs (64 + lpNum p)).stream else blocks

/-- The stream moves on by the `n` blocks of a frame. -/
def streamOn (p : Lp) (n : Nat) (s : State) : State :=
  let o := 64 + lpNum p
  if packetOn s p then
    s.modTm fun m =>
      let x := SMap.get {} m.outputs o
      { m with outputs := SMap.set {} m.outputs o { x with stream := x.stream.drop (4 * n) } }
  else s

/-- The client blocks of the next frame, absent where an idle block goes (R216, R273). -/
def gridBlocks (s : State) (p : Lp) (n : Nat) (blocks : List ClientBlock) : List ClientBlock :=
  let f := (s.port p).frame
  let rep := replaces s p
  let pk := packetOn s p
  let used := (List.range 32).map (slotUsed s p)
  let cap := portRate s p
  (List.range n).map fun j =>
    if rep || f.txIdle.contains j || !(pk || used.getD ((f.txBlock + j) % cap) false) then .absent else blocks.getD j .absent

/-- The 257 bits of a block: idle where there is no client block, the error control block for one marked errored (R216,
R272). -/
def blockOf : ClientBlock → BitVec 257
  | .absent => idleBlock
  | .data b => b
  | .errored => errorBlock

/-- Bytes 12 to 15 of the header (R245). -/
def cryptoBytes (s : State) (p : Lp) (blank : Bool) : List Byte :=
  let k := (s.port p).crypto
  if cipherOn s p then w8 (onBit blank 7) :: (k.txMsg.drop (3 * ((s.port p).frame.txNum % 16)) ++ [0, 0, 0]).take 3
  else [0, 0, 0, 0]

/-- The header of the next frame (Table 8.1). -/
def txHeader (s : State) (p : Lp) (rep rdi blank : Bool) : List Byte :=
  let f := (s.port p).frame
  let on := cipherOn s p
  let st := onBit rdi 7 + onBit rep 6 + onBit on 5 + onBit (on && (s.port p).crypto.txPhase) 4
  let h := beBytes 4 marker ++ [w8 f.txNum, w8 (txLabelOf s p), f.cfg.txTrace.getD (f.txNum % 64) 0, w8 st]
    ++ protBytes (s.aps p) ++ cryptoBytes s p blank ++ inbandNext s p ++ beBytes 2 f.txBip
  h ++ beBytes 2 (hcrc h)

/-- The frame of the window of a WARM takeover is the parting marker: its end ends the window (R315). -/
def markWindow (p : Lp) (s : State) : State :=
  match (s.protPort p).tk with
  | some t =>
    if t.step = .window ∧ t.marker = (s.port p).frame.txNum ∧ t.windowEnd = 0 then
      modTk p (fun t => { t with windowEnd := s.hk + frameTicks (runningPoint s p) }) s
    else s
  | none => s

/-- VLF_FRAME_SEND on a NATIVE port. -/
def vlfSend (p : Lp) (blocks : List ClientBlock) (s : State) : State :=
  let enc := cipherOn s p
  let n := frameBlocks enc
  let grid := gridBlocks s p n (dueBlocks s p n blocks)
  let rep := replaces s p
  let rdi := sendsRdi s p
  let idle := List.replicate n idleBlock
  let plain := areaOf enc (grid.map blockOf)
  let s := if (s.port p).frame.txNum % 16 = 0 then s.modCrypto p fun k => { k with txMsg := cryptoMessage k } else s
  let (clear, blank, s) := if enc then sealSegment p plain (areaOf true idle) s else (plain, false, s)
  let s := streamOn p n s
  let area := scramble clear
  let h := txHeader s p rep rdi blank
  let rate := portRate s p
  let s := s.modCod p fun c => { c with tx := sendCoded rate (h ++ area) c.tx }
  let s := s.modInband p fun i => { i with tx := i.tx.drop 12 }
  let idles := if blank then n else (grid.filter fun b => b == .absent).length
  let s := lpCount (lpCount s p 0x0609 1) p 0x060A idles
  s.modFrame p fun f => { f with
    txNum := (f.txNum + 1) % 256, txBlock := f.txBlock + n, txBip := bip16 area, txReplace := rep, txRdi := rdi,
    txLabel := txLabelOf s p, txIdle := [] }

/-- VLF_FRAME_SEND: a frame boundary of the transmit direction (R211; R264: mappings take effect there). In the 800ZR format
the frame's bytes are those of the implementation agreement, which the manual does not give. -/
def execVlfFrameSend (p : Lp) (blocks : List ClientBlock) (dt : Nat) (s : State) :
    Host.Outcome State Fault Refusal :=
  let s := advance dt s
  let held := match (s.protPort p).tk with
    | some t => t.step == .hold || t.step == .released
    | none => false
  let act := match servingEng s p with
    | some e => (s.engine e).st == .active || ((s.protPort p).tk.isSome && !held)
    | none => false
  .next (if running s && inService s p && (s.port p).cod.tx.running && act && !held then
      let s := (markWindow p (mapBoundary p s)).modProt fun x => { x with streamBad := false }
      pump (refreshPort p (if (runningPoint s p).zr800 then
        lpCount (s.modFrame p fun f => { f with
          txNum := (f.txNum + 1) % 256, txReplace := replaces s p, txRdi := sendsRdi s p, txLabel := txLabelOf s p })
          p 0x0609 1
      else vlfSend p blocks s))
    else s)

/-! ## Timers -/

/-- LOF_TIMER_EXPIRY: 3 ms of OOF, or of IN_FRAME (Table 8.5). -/
def execLofTimerExpiry (p : Lp) (dt : Nat) (s : State) : Host.Outcome State Fault Refusal :=
  let s := advance dt s
  .next (if running s && due (s.port p).frame.lofTimer s.hk then
      pump (refreshPort p (s.modFrame p fun f => { f with lof := !f.lof, lofTimer := none }))
    else s)

/-- INHIBIT_TIME_EXPIRY: 25 ms without IN_FRAME (R233). -/
def execInhibitTimeExpiry (p : Lp) (dt : Nat) (s : State) : Host.Outcome State Fault Refusal :=
  let s := advance dt s
  .next (if running s && due (s.port p).frame.inhibit s.hk then
      pump (refreshPort p (s.modFrame p fun f => { f with inhibit := none }))
    else s)

/-- The port's framing leaves service: alignment stops, every defect is absent, the accepted trace and label are cleared
(R223, Table 8.10). -/
def frameOff (p : Lp) (s : State) : State :=
  let s := toHunt p (inbandLost p s)
  s.modFrame p fun f => { f with
    lastGood := none, traceLast := [], traceRun := 0, traceAcc := none, labelRun := 0, labelAcc := none,
    aisRun := 0, aisClr := 0, ais := false, rdiRun := 0, rdiClr := 0, rdi := false, lof := false, lofTimer := none,
    inhibit := none, txReplace := false, txRdi := false, acc := { f.acc with nis := true } }

/-- The inhibit time begins (R233). -/
def beginInhibit (p : Lp) (s : State) : State :=
  s.modFrame p fun f => { f with inhibit := some (s.hk + msT 25), acc := { f.acc with reconfig := true } }

/-! ## Fast status window (Table 8.11) -/

def defectsWord (s : State) (p : Lp) : Nat :=
  let f := (s.port p).frame
  f.defects + onBit f.sf 7 + onBit f.sd 8 + onBit f.erroredLast 9 + onBit f.txReplace 10 + onBit f.txRdi 11
    + alignNum f.align * 2 ^ 12 + onBit f.inhibit.isSome 14 + f.labelAcc.getD 0 * 2 ^ 16 + f.lastRecord * 2 ^ 24

/-! ## Opcodes -/

/-- LF_CONFIG. -/
def lfConfigOp : OpSpec where
  code := 0x0601
  targets := isLpT
  both := true
  flags := 15
  nparams := 1
  badParam := fun _ c => firstBad [selU c 0 0 0x100, selU c 1 0 1, selU c 2 0 64, selU c 3 0 1, selU c 4 0 3]
  resLen := fun _ _ _ => 5
  run := fun s t c =>
    let p := lpOfT t
    let o := (s.port p).frame.cfg
    let x : LfCfg := { o with expLabel := pick c 0 o.expLabel, plmEnable := pick c 1 o.plmEnable,
                              timLen := pick c 2 o.timLen, timAction := pick c 3 o.timAction,
                              txForce := pick c 4 o.txForce }
    okRes (refreshPort p (s.modFrame p fun f => { f with cfg := x }))
      [w32 x.expLabel, w32 x.plmEnable, w32 x.timLen, w32 x.timAction, w32 x.txForce]
def execLfConfig (c : Cmd) (s : State) : Host.Outcome State Fault Refusal := .next (serve lfConfigOp c s)

/-- A 64-byte string as 16 words, byte 4i in [31:24]. -/
def stringWords (bs : List Byte) : List Word :=
  (List.range 16).map fun i => w32 (beNat ((List.range 4).map fun j => bs.getD (4 * i + j) 0))

/-- LF_TRACE_SET. -/
def lfTraceSetOp : OpSpec where
  code := 0x0602
  targets := isLpT
  flags := 6
  nparams := 17
  badParam := fun _ c => firstBad [(3, within (c.w 3) 0 1)]
  resLen := fun _ _ _ => 16
  run := fun s t c =>
    let p := lpOfT t
    let bs := ((List.range 16).map fun i => beBytes 4 (c.w (4 + i))).flatten
    let s := s.modFrame p fun f => { f with
      cfg := if c.w 3 = 0 then { f.cfg with txTrace := bs } else { f.cfg with expTrace := bs } }
    okRes (refreshPort p s) (stringWords bs)
def execLfTraceSet (c : Cmd) (s : State) : Host.Outcome State Fault Refusal := .next (serve lfTraceSetOp c s)

/-- LF_TRACE_GET. -/
def lfTraceGetOp : OpSpec where
  code := 0x0603
  targets := isLpT
  flags := 8
  resLen := fun _ _ _ => 49
  run := fun s t _ =>
    let f := (s.port (lpOfT t)).frame
    okRes s (stringWords (f.traceAcc.getD []) ++ stringWords f.cfg.expTrace ++ stringWords f.cfg.txTrace
      ++ [w32 (onBit f.traceAcc.isSome 0 + onBit (bit f.defects 5) 1)])
def execLfTraceGet (c : Cmd) (s : State) : Host.Outcome State Fault Refusal := .next (serve lfTraceGetOp c s)

/-- Stuff bits of a frame (Table 8.2). -/
def stuffBits (enc : Bool) : Nat := if enc then 138 else 9

/-- Client capacity of a granted point in Mb/s, rounded down (R216). -/
def clientMb (g : ModePoint) : Nat :=
  if g.zr800 then capacityMb g
  else frameBlocks g.cipher * 256 * srMBd g * hMilli g * 63 / (64 * 1000 * 589824)

/-- The number of the present interval (R228). -/
def intervalNum (s : State) : Nat := if s.clk.seq = 0 then 0xFFFFFFFF else (s.clk.seq - 1) % 2 ^ 32

/-- LF_STATUS. In ZR800 the payload grid is absent: word 5 is a free value (log entry 5). -/
def lfStatusOp : OpSpec where
  code := 0x0604
  targets := isLpT
  both := true
  flags := 8
  resLen := fun _ _ _ => 5
  run := fun s t _ =>
    let p := lpOfT t
    let f := (s.port p).frame
    let g := runningPoint s p
    let w4 := f.labelAcc.getD 0 + f.txLabel * 2 ^ 8 + onBit f.labelAcc.isSome 16
    let (w5, s') := if g.zr800 then freeW s else (w32 (frameBlocks g.cipher + stuffBits g.cipher * 2 ^ 16), s)
    okRes s' [w32 (defectsWord s p), w32 w4, w5, w32 (clientMb (s.port p).mode.granted), w32 (intervalNum s)]
def execLfStatus (c : Cmd) (s : State) : Host.Outcome State Fault Refusal := .next (serve lfStatusOp c s)

/-- LF_COUNTERS (Table 8.13). -/
def lfCountersOp : OpSpec := countersOp 0x0609 isLpT true false (idRange 0x0601 0x060B)
def execLfCounters (c : Cmd) (s : State) : Host.Outcome State Fault Refusal := .next (serve lfCountersOp c s)

end Sys2Proof.Machine
end

