-- ==== Sys2Proof/Machine/PerfMon.lean ====
section
/-!
DEFINITION. Sys2Proof/Machine/PerfMon.lean: one-second records and fallback performance data of the line ports, and the
performance monitoring opcodes of Table 8.12 (R227 to R233).
-/
namespace Sys2Proof.Machine
open Sys2Proof

/-! ## Records (R229, Table 8.8) -/

/-- What a boundary brings of the tick: sequence number of the interval that ends, UPTIME at its start, from PPS_IN, SUSPECT,
length in ticks. -/
structure Boundary where
  seq : Nat
  startUp : Nat
  pps : Bool
  suspect : Bool
  length : Nat
deriving DecidableEq, Repr

/-- VALID bits of the estimate word at offset 0x1C. -/
def validBits (s : State) (p : Lp) : Nat := bits ((estimateFsw s p).getD 3 0) 16 8

/-- The record of the interval that ends. Lengths are in ticks of 1/192 GHz; a microsecond has 192,000. -/
def recordOf (s : State) (p : Lp) (b : Boundary) : PmRecord :=
  let e := (s.port p).dsp.est
  let c := (s.port p).cod
  { seq := b.seq, uptime := b.startUp, acc := { (s.port p).frame.acc with
      suspect := b.suspect, uncorr := c.iUncorr, corrected := c.iCorr, coded := c.iCoded }, pps := b.pps, q := e.q,
    berLog := e.berLog, osnr := e.osnr, valid := validBits s p, lengthUs := b.length / 192000,
    expected := b.length / frameTicks (runningPoint s p), readOut := false, evaluated := false }

/-- The accumulators of the interval that begins: the conditions that hold now. -/
def freshAcc (s : State) (p : Lp) : PmAcc :=
  let f := (s.port p).frame
  { defects := f.defects ||| onBit f.sf 7 ||| onBit f.sd 8, nis := !inService s p, reconfig := f.inhibit.isSome,
    overlap := match (s.protPort p).tk with | some t => t.step == .gap || t.step == .window | none => false }

/-- A record joins the 900 newest; one overwritten unread counts, one overwritten before evaluation leaves a mark (R229,
R232). -/
def addRecord (p : Lp) (r : PmRecord) (s : State) : State :=
  let l := (s.port p).frame.records
  if l.length < 900 then s.modFrame p fun f => { f with records := f.records ++ [r] }
  else match l with
    | [] => s
    | o :: rest =>
      lpCount (s.modFrame p fun f => { f with records := rest ++ [r], recordsLost := f.recordsLost || !o.evaluated })
        p 0x060B (b01 !o.readOut)

/-- PM_RECORD_LATCH: the accumulators are latched and cleared in the boundary cycle. With no interval that ends, they are
only cleared. -/
def pmLatch (p : Lp) (b : Option Boundary) (s : State) : State :=
  let s := match b with
    | some b => addRecord p (recordOf s p b) s
    | none => s
  s.modFrame p fun f => { f with erroredLast := b.isSome && decide (f.acc.errored ≠ 0), acc := freshAcc s p }

/-- The 16 words of a record. -/
def recordWords (r : PmRecord) : List Word :=
  let a := r.acc
  let flags := bits a.defects 0 9 + onBit r.pps 9 + onBit a.suspect 10 + onBit a.overlap 11 + onBit a.nis 12
    + onBit a.reconfig 13
  [w32 r.seq, w32 r.uptime, w32 (r.uptime / 2 ^ 32), w32 flags, w32 a.framesIn, w32 a.errored, w32 a.bip, w32 a.uncorr]
    ++ nat64 a.corrected ++ nat64 a.coded
    ++ [w32 (min 0xFFFF a.oofEntries + min 0xFFFF a.headerless * 2 ^ 16), w32 (r.q + r.berLog * 2 ^ 16),
        w32 (r.osnr + r.valid * 2 ^ 16), w32 r.lengthUs]

/-! ## Evaluation (R230 to R232) -/

/-- Classification of a record (Table 8.9). -/
def classifyRecord (ratio : Nat) (b15 b24 : Nat) (r : PmRecord) : PmPending :=
  let a := r.acc
  let nis := a.nis || a.reconfig
  let ses := !nis && (bit a.defects 7 || decide (ratio * r.expected ≤ 100 * a.errored)
    || bit a.defects 0 || bit a.defects 1 || bit a.defects 2 || bit a.defects 3 || bit a.defects 5 || bit a.defects 6)
  { seq := r.seq, nis, ses, es := !nis && !ses && decide (1 ≤ a.errored), rdis := !nis && bit a.defects 4,
    unavail := false, errored := a.errored, uncorr := a.uncorr, suspect := a.suspect, b15, b24 }

/-- The last `n` non-NIS entries of a list, newest first, get the flag `v`. -/
def flagLast (v : Bool) : Nat → List PmPending → List PmPending
  | _, [] => []
  | 0, l => l
  | n + 1, x :: r => if x.nis then x :: flagLast v (n + 1) r else { x with unavail := v } :: flagLast v n r

/-- Unavailable time after one more interval (R231): the ten intervals that decide count as unavailable, or available. -/
def availStep (x : PmPending) (f : Frame) : Frame :=
  if x.nis then { f with pending := f.pending ++ [{ x with unavail := f.unavail }] }
  else
    let ses := if x.ses then min 10 (f.sesRun + 1) else 0
    let ok := if x.ses then 0 else min 10 (f.okRun + 1)
    let turn := if f.unavail then ok == 10 else ses == 10
    let un := f.unavail != turn
    let l := f.pending ++ [{ x with unavail := f.unavail }]
    { f with sesRun := ses, okRun := ok, unavail := un,
             pending := if turn then (flagLast un 10 l.reverse).reverse else l }

/-- An interval is added to its bin. -/
def addToBin (x : PmPending) (b : PmBin) : PmBin :=
  let b := { b with count := b.count + 1, suspect := b.suspect || x.suspect, unavailEnd := x.unavail,
                    errored := b.errored + x.errored, uncorr := b.uncorr + x.uncorr }
  if x.nis then { b with nis := b.nis + 1 }
  else if x.unavail then { b with uas := b.uas + 1 }
  else { b with es := b.es + b01 x.es, ses := b.ses + b01 x.ses, rdis := b.rdis + b01 x.rdis,
                bbe := b.bbe + (if x.es then x.errored else 0) }

def addToBins (first : Nat) (x : PmPending) (l : List PmBin) : List PmBin :=
  l.map fun b => if b.first = first then addToBin x b else b

/-- Intervals pending for ten later non-NIS intervals are added to their bins. -/
def commitPending : Nat → Frame → Frame
  | 0, f => f
  | n + 1, f =>
    match f.pending with
    | [] => f
    | x :: r =>
      if (r.filter fun y => !y.nis).length < 10 then f
      else commitPending n { f with pending := r, bins15 := addToBins x.b15 x f.bins15, bins24 := addToBins x.b24 x f.bins24 }

/-- The first sequence number of the bin of `len` intervals that holds `seq` (R232). -/
def binFirst (seq anchor len : Nat) : Nat := seq - min seq ((seq + 2 ^ 32 - anchor % 2 ^ 32) % 2 ^ 32 % len)

/-- The bin of an interval is the current one: begun if need be, with `keep` completed ones behind it. -/
def openBin (first keep : Nat) (suspect : Bool) (l : List PmBin) : List PmBin :=
  match l with
  | b :: _ => if b.first = first then (if suspect then l.map fun c => if c.first = first then { c with suspect := true } else c else l)
    else ({ first, suspect } :: l).take (keep + 1)
  | [] => [{ first, suspect }]

/-- Completed bins with nothing pending become final: EV_PM_BIN. -/
def finalBins (p : Lp) (kind : Nat) (key : PmPending → Nat) (s : State) (l : List PmBin) : State :=
  let f := (s.port p).frame
  ((l.drop 1).reverse.filter fun b => !b.final && !f.pending.any fun x => key x == b.first).foldl (fun s b =>
    emit 0x8603 (lpT p) [w32 kind, w32 b.first, w32 b.es, w32 b.ses, w32 b.uas, w32 (b01 b.suspect)] s) s

/-- The bins marked final. -/
def markFinal (key : PmPending → Nat) (pend : List PmPending) (l : List PmBin) : List PmBin :=
  match l with
  | [] => []
  | b :: r => b :: r.map fun c => { c with final := c.final || !pend.any fun x => key x == c.first }

/-- PM_BIN_FINAL. -/
def settleBins (p : Lp) (s : State) : State :=
  let f := (s.port p).frame
  let s := finalBins p 3 (fun x => x.b24) (finalBins p 1 (fun x => x.b15) s f.bins15) f.bins24
  s.modFrame p fun f => { f with
    bins15 := markFinal (fun x => x.b15) f.pending f.bins15, bins24 := markFinal (fun x => x.b24) f.pending f.bins24 }

/-- The oldest record not evaluated, and the list with it marked. -/
def nextRecord : List PmRecord → Option (PmRecord × List PmRecord)
  | [] => none
  | r :: l => if r.evaluated then (nextRecord l).map fun x => (x.1, r :: x.2) else some (r, { r with evaluated := true } :: l)

/-- One record evaluated. -/
def evaluateRecord (p : Lp) (r : PmRecord) (l : List PmRecord) (s : State) : State :=
  let c := (s.port p).frame.pmCfg
  let b15 := binFirst r.seq c.binAnchor 900
  let b24 := binFirst r.seq c.binAnchor 86400
  let s := s.modFrame p fun f =>
    let f := { f with records := l, bins15 := openBin b15 96 f.recordsLost f.bins15,
                      bins24 := openBin b24 7 f.recordsLost f.bins24, recordsLost := false }
    commitPending (f.pending.length + 1) (availStep (classifyRecord c.sesRatio b15 b24 r) f)
  settleBins p s

/-- PM_RECORD_EVALUATE: Umcia evaluates the oldest record; after a firmware pause those written during it, in order. -/
def execPmRecordEvaluate (p : Lp) (dt : Nat) (s : State) : Host.Outcome State Fault Refusal :=
  let s := advance dt s
  .next (if running s && s.fw.pause.isNone then
      match nextRecord (s.port p).frame.records with
      | some (r, l) => pump (evaluateRecord p r l s)
      | none => s
    else s)

/-! ## Opcodes -/

/-- PM_HISTORY_READ. With no record held the oldest and newest numbers are free values (log entry 5). -/
def pmHistoryReadOp : OpSpec where
  code := 0x0605
  targets := isLpT
  flags := 8
  nparams := 2
  badParam := fun _ c => firstBad [(4, within (c.w 4) 1 62)]
  resLen := fun _ _ c => 2 + 16 * c.w 4
  run := fun s t c =>
    let p := lpOfT t
    let l := (s.port p).frame.records
    match l.head?, l.getLast? with
    | some o, some n =>
      let got := (l.filter fun r => decide (c.w 3 ≤ r.seq)).take (c.w 4)
      let s := s.modFrame p fun f => { f with records := f.records.map fun r =>
        if (got.any fun g => g.seq == r.seq) then { r with readOut := true } else r }
      okRes s ([w32 o.seq, w32 n.seq] ++ (got.map recordWords).flatten)
    | _, _ => let (ws, s) := freeWs 2 s; okRes s ws
def execPmHistoryRead (c : Cmd) (s : State) : Host.Outcome State Fault Refusal := .next (serve pmHistoryReadOp c s)

/-- The words of a bin. -/
def binWords (b : PmBin) : List Word :=
  [w32 b.first, w32 b.count, w32 (onBit b.suspect 0 + onBit b.final 1 + onBit b.unavailEnd 2), w32 b.es, w32 b.ses,
   w32 b.uas, w32 b.bbe, w32 b.nis, w32 b.rdis] ++ nat64 b.errored ++ nat64 b.uncorr

/-- PM_BIN_READ. -/
def pmBinReadOp : OpSpec where
  code := 0x0606
  targets := isLpT
  flags := 8
  nparams := 2
  badParam := fun _ c => firstBad [(3, within (c.w 3) 0 3),
    (4, if c.w 3 = 1 then within (c.w 4) 0 95 else if c.w 3 = 3 then within (c.w 4) 0 6 else true)]
  resLen := fun _ _ _ => 13
  run := fun s t c =>
    let f := (s.port (lpOfT t)).frame
    let l := if c.w 3 < 2 then f.bins15 else f.bins24
    let b := if c.w 3 % 2 = 0 then l.head? else (l.drop 1)[c.w 4]?
    match b with
    | some b => okRes s (binWords b)
    | none => refuse s stBadState 0x0100
def execPmBinRead (c : Cmd) (s : State) : Host.Outcome State Fault Refusal := .next (serve pmBinReadOp c s)

/-- The current bin carries SUSPECT (R232). -/
def suspectHead : List PmBin → List PmBin
  | [] => []
  | b :: r => { b with suspect := true } :: r

/-- PM_CONFIG. -/
def pmConfigOp : OpSpec where
  code := 0x0607
  targets := isLpT
  both := true
  flags := 7
  nparams := 1
  badParam := fun _ c => firstBad [selOk c 0 (selPresent c 0), selU c 1 1 50]
  resLen := fun _ _ _ => 2
  run := fun s t c =>
    let p := lpOfT t
    let o := (s.port p).frame.pmCfg
    let x : PmCfg := { binAnchor := pick c 0 o.binAnchor, sesRatio := pick c 1 o.sesRatio }
    let s := if x = o then s else s.modFrame p fun f => { f with
      pmCfg := x, bins15 := suspectHead f.bins15, bins24 := suspectHead f.bins24 }
    okRes s [w32 x.binAnchor, w32 x.sesRatio]
def execPmConfig (c : Cmd) (s : State) : Host.Outcome State Fault Refusal := .next (serve pmConfigOp c s)

/-- Bins cleared: the current one begins its counts anew with SUSPECT (Table 8.10). -/
def clearBins : List PmBin → List PmBin
  | [] => []
  | b :: _ => [{ first := b.first, suspect := true }]

/-- PM_CLEAR. A bit of word 3 above the three the manual lists is out of range (log entry 120). -/
def pmClearOp : OpSpec where
  code := 0x0608
  targets := isLpT
  both := true
  flags := 4
  nparams := 1
  badParam := fun _ c => firstBad [(3, within (c.w 3) 0 7)]
  run := fun s t c =>
    okRes (s.modFrame (lpOfT t) fun f => { f with
      records := if bit (c.w 3) 0 then [] else f.records,
      bins15 := if bit (c.w 3) 1 then clearBins f.bins15 else suspectHead f.bins15,
      bins24 := if bit (c.w 3) 2 then clearBins f.bins24 else suspectHead f.bins24 }) []
def execPmClear (c : Cmd) (s : State) : Host.Outcome State Fault Refusal := .next (serve pmClearOp c s)

end Sys2Proof.Machine
end

