-- ==== Sys2Proof/Machine/Spindles.lean ====
section
/-!
DEFINITION. Sys2Proof/Machine/Spindles.lean: Spindles and Performance Counters: faults and role moves, microcode refresh,
customer kernels, performance counters, central reader, and the opcodes of Table 6.9.
-/
namespace Sys2Proof.Machine
open Sys2Proof

/-- SPINDLE_FAULT. -/
def execSpindleFault (e : Eng) (i cause : Nat) (selfTest : Bool) (dt : Nat) (s : State) :
    Host.Outcome State Fault Refusal :=
  let s := advance dt s
  .next (if running s && engRuns s e && decide (i < 96) && decide (cause ≤ 2) && (spnOf s e i).role != 6 then
      spindleFault e i (w32 cause) selfTest s
    else s)

/-- ROLE_WATCHDOG_EXPIRY: cause 3. -/
def execRoleWatchdogExpiry (e : Eng) (i : Nat) (selfTest : Bool) (dt : Nat) (s : State) :
    Host.Outcome State Fault Refusal :=
  let s := advance dt s
  .next (if running s && engRuns s e && decide (i < 96) && within (spnOf s e i).role 1 4 then
      spindleFault e i (w32 3) selfTest s
    else s)

/-- ROLE_MOVE_DONE: the oldest move or restart ends; the recovery time of R179 runs for 1 s. -/
def execRoleMoveDone (e : Eng) (dt : Nat) (s : State) : Host.Outcome State Fault Refusal :=
  let s := advance dt s
  .next (match (s.engine e).moves with
    | _ :: r =>
      if running s && engRuns s e then s.modEngine e fun x => { x with moves := r, recovery := some (s.hk + secT 1) }
      else s
    | [] => s)

/-- The IDLE spindle the rotation tests: the first from `rotation` on, cyclically. -/
def rotationNext (s : State) (e : Eng) : Option Nat :=
  let r := (s.engine e).rotation
  ((List.range 96).map fun i => (r + i) % 96).find? fun i => (spnOf s e i).role == 0

/-- SPINDLE_SELF_TEST_ROTATION: every 10 s the next IDLE spindle; a failed self-test is a fault, cause 4. -/
def execSpindleSelfTestRotation (e : Eng) (pass selfTest : Bool) (dt : Nat) (s : State) :
    Host.Outcome State Fault Refusal :=
  let s := advance dt s
  .next (match rotationNext s e with
    | some i =>
      if running s && engRuns s e && due (s.engine e).testAt s.hk then
        let s := s.modEngine e fun x => { x with rotation := (i + 1) % 96, testAt := some (s.hk + secT 10) }
        if pass then s else spindleFault e i (w32 4) selfTest s
      else s
    | none => s)

/-- SPN_NO_IDLE_CLEAR_TIMER. -/
def execSpnNoIdleClearTimer (e : Eng) (dt : Nat) (s : State) : Host.Outcome State Fault Refusal :=
  let s := advance dt s
  .next (if running s && due (s.engine e).noIdleClear s.hk && hasIdle (s.engine e) then
      clearAlarm 0x8410 (engT e) 0 [] (s.modEngine e fun x => { x with noIdleClear := none })
    else s)

/-- The roles an engine is to refresh to the running image's microcode (R165). -/
def refreshList (s : State) (e : Eng) : List Nat :=
  (List.range 96).filter fun i => within (spnOf s e i).role 1 4 && (spnOf s e i).build != ucodeBuild s

/-- Loads to come that will meet a mismatch (log entry 136). -/
def addBadLoads (e : Eng) (l : List (Nat × Nat)) (s : State) : State :=
  s.modEngine e fun x => { x with
    loadBad := l.foldl (fun m b => if b.1 < 96 then SMap.set 0 m b.1 (SMap.get 0 m b.1 + b.2) else m) x.loadBad }

/-- MICROCODE_REFRESH (R165, R164): the next role is moved to the new microcode, whose load meets `mismatches` digest
mismatches; a second one faults the spindle. Table 6.11 has no cause for that fault: a free value (log entry 5). -/
def execMicrocodeRefresh (e : Eng) (mismatches dt : Nat) (s : State) : Host.Outcome State Fault Refusal :=
  let s := advance dt s
  .next (match (s.engine e).refresh with
    | i :: r =>
      if running s && engRuns s e && s.fw.pause.isNone && (s.engine e).moves.isEmpty then
        let s := s.modEngine e fun x => { x with refresh := r }
        let p := spnOf s e i
        if within p.role 1 4 && p.build != ucodeBuild s then
          let s := addBadLoads e [((highIdle s e).getD i, mismatches)] s
          let (j, ok, s) := moveRole e i s
          if ok then checkIdle e s
          else
            let (f, s) := freeW s
            spindleFault e (if j = 0xFF then i else j) f true s
        else s
      else s
    | [] => s)

/-! ## Performance counters (R171 to R180) -/

/-- CONV_LOOP, a word of the checker test mode or an injection acts on the engine (R179, test). -/
def testActs (s : State) (e : Eng) : Bool :=
  let x := s.engine e
  let loopOn (o : Option Lp) : Bool := match o with | some p => (s.port p).conv.loop | none => false
  loopOn x.serves || loopOn x.shadows || (s.prot.inject.any fun k => k.1 / 2 ^ 16 % 256 == engT e)
    || s.prot.checker.any fun w =>
      w.1 == 1 && w.2.1 == engT e && w.2.2.2.2.2 != Config.secdedCheck w.2.2.2.2.1

/-- Why an engine is central now: 0 not, 1 start-up, 2 test, 3 recovery, 4 forced (R179). -/
def centralCause (s : State) (e : Eng) : Nat :=
  let x := s.engine e
  if x.central then 4
  else if !engRuns s e then 0
  else if x.startup.isSome then 1
  else if testActs s e then 2
  else if x.recovery.isSome || s.fw.pause.isSome then 3
  else 0

/-- Words 6 to 27 of SPN_PERF_READ. -/
def perfWords (x : SpnPerf) : List Word :=
  ([x.cycle, x.ret, x.wst, x.sf, x.sb].map lohi).flatten ++ (x.pcs.map fun v => [w32 v, w32 (v / 2 ^ 32)]).flatten

/-- The counters of a spindle as a read sees them: the image of a central engine, the spindle's own of a direct one. A
central engine without an image yet is read directly (log entry 27). -/
def perfSeen (s : State) (e : Eng) (i : Nat) : Option Nat × SpnPerf :=
  let x := s.engine e
  match (if centralCause s e = 0 then none else x.imageAt) with
  | some a => (some a, SMap.get {} x.image i)
  | none => (none, (spnOf s e i).perf)

/-- A spindle's code reads its counters: a snapshot, or zeros and PERF_DENIED without PERF_USER (R175). -/
def codeReads (e : Eng) (s : State) (i : Nat) : State :=
  if i < 96 && (spnOf s e i).role != 0 && (spnOf s e i).role != 6 then
    let s := settlePerf e i s
    let p := spnOf s e i
    if p.perfUser then setSpn e i { p with perfRead := perfWords (perfSeen s e i).2 } s
    else engCount e 0x0406 1 (setSpn e i { p with perfRead := List.replicate 22 0 } s)
  else s

/-- A kernel writes a word of its mailbox; its watchdog runs from there (R169). -/
def kernelMail (e : Eng) (s : State) (m : KernelMail) : State :=
  let k := SMap.get {} (s.engine e).kernels m.slot
  if m.slot < 8 && m.word < 1024 && k.st == .running then
    let k := { k with mailbox := SMap.set none k.mailbox m.word (some m.value), since := max k.since (s.hk - m.ago) }
    s.modEngine e fun x => { x with kernels := SMap.set {} x.kernels m.slot k }
  else s

/-- ROLE_CHECKPOINT (R163): every 1 ms the state of each role is kept. What the spindles did since the last one comes
with it (log entry 25): their activity, with the mismatches of loads to come (log entry 136), what kernels wrote to their
mailboxes, and the spindles whose code read its counters. -/
def execRoleCheckpoint (e : Eng) (act : List SpnActivity) (mail : List KernelMail) (reads : List Nat)
    (dt : Nat) (s : State) : Host.Outcome State Fault Refusal :=
  let s := advance dt s
  .next (if running s && engRuns s e then
      let s := addBadLoads e (act.map fun x => (x.spindle, x.badLoads)) s
      let s := reads.foldl (codeReads e) (mail.foldl (kernelMail e) (act.foldl (accountSpn e) s))
      s.modEngine e fun x => { x with
        checkpointAt := some s.hk,
        spindles := (List.range 96).foldl (fun m i =>
          let p := SMap.get {} m i
          if within p.role 1 4 then SMap.set {} m i { p with ckpt := p.mem } else m) x.spindles }
    else s)

/-- SPN_COUNTER_OVERFLOW (R174): a counter that wrapped with OVF_EVENT set raises EV_SPN_OVERFLOW. -/
def execSpnCounterOverflow (e : Eng) (i n dt : Nat) (s : State) : Host.Outcome State Fault Refusal :=
  let s := advance dt s
  .next (if running s && decide (n < 6) && bit (spnOf s e i).perf.due n then
      emit 0x8402 (engT e) [w32 i, w32 n]
        (modPerf e i (fun x => { x with due := x.due ^^^ 2 ^ n }) s)
    else s)

/-- The counters of the fixed-function blocks of an engine (chapters Transmit and Receive Signal Processing to Line
Encryption): those of the port it serves, and its own. -/
def blockCounters (s : State) (e : Eng) : SMap U64 :=
  let port (t : Nat) : Bool := match (s.engine e).serves with | some p => t == lpT p | none => false
  s.counters.filter fun x =>
    let t := bits x.1 24 8
    let id := bits x.1 0 16
    (port t && within id 0x0301 0x070B) || (t == engT e && within id 0x0401 0x0408)

/-- The strobe of SWEEP_US is due (R179). -/
def sweepDue (s : State) (e : Eng) : Bool :=
  match (s.engine e).imageAt with
  | some t => decide (t + usT (s.engine e).sweepUs ≤ s.hk)
  | none => true

/-- CENTRAL_SWEEP (R179): every SWEEP_US one strobe copies every counter of the engine into its image. -/
def execCentralSweep (e : Eng) (dt : Nat) (s : State) : Host.Outcome State Fault Refusal :=
  let s := advance dt s
  .next (if running s && engRuns s e && centralCause s e != 0 && sweepDue s e then
      let s := engCount e 0x0408 1 ((List.range 96).foldl (fun s i => settlePerf e i s) s)
      let ctrs := blockCounters s e
      let cyc := engineCycles s e
      s.modEngine e fun x =>
        { x with imageAt := some s.hk, imageCycle := cyc, imageCtrs := ctrs,
                 image := x.spindles.foldl (fun m p => SMap.set {} m p.1 p.2.perf) [] }
    else s)

/-- READER_RECOVERY_EXPIRY (R179). -/
def execReaderRecoveryExpiry (e : Eng) (dt : Nat) (s : State) : Host.Outcome State Fault Refusal :=
  let s := advance dt s
  let x := s.engine e
  .next (if running s then
      s.modEngine e fun y => { y with
        startup := (match x.startup with | some t => if due t s.hk then none else some t | none => none),
        recovery := if due x.recovery s.hk then none else x.recovery }
    else s)

/-! ## Customer kernels (R166 to R170) -/

def kernelOf (s : State) (e : Eng) (i : Nat) : Kernel := SMap.get {} (s.engine e).kernels i

def modKernel (e : Eng) (i : Nat) (f : Kernel → Kernel) (s : State) : State :=
  s.modEngine e fun x => { x with kernels := SMap.set {} x.kernels i (f (SMap.get {} x.kernels i)) }

/-- A slot's kernel runs or is paused. -/
def kernelBusy (k : Kernel) : Bool := k.st == .running || k.st == .paused || k.checking

/-- The image in a staging buffer. -/
def kernelLen (k : Kernel) : Nat := (k.staging.getD 2 0).toNat
def kernelBody (k : Kernel) : List Word := (k.staging.take (kernelLen k / 4)).drop 64
def kernelHash (k : Kernel) : List Word := (k.staging.drop 5).take 12
def kernelSigType (k : Kernel) : Nat := bits (k.staging.getD 1 0).toNat 8 8

/-- Check 1 of R168: magic, length and code length. -/
def kernelHeaderOk (k : Kernel) : Bool :=
  let n := kernelLen k
  k.staging.getD 0 0 == 0x4B524E4C#32 && n % 4 == 0 && within n 256 61440 && decide (n ≤ 4 * k.staging.length)
    && decide (bits (k.staging.getD 3 0).toNat 0 16 ≤ n / 4 - 64)

/-- The checks of R168: result code, or none for SEALED. -/
def kernelCheck (s : State) (k : Kernel) : Option Nat :=
  let sig := kernelSigType k == 1
  if !kernelHeaderOk k then some 1
  else if sha384 (kernelBody k) != kernelHash k then some 2
  else if isSealed s && (!sig || s.sealSt.custKey.isNone) then none
  else if sig then
    match s.sealSt.custKey with
    | some h => if Config.kernelSignatureOk h (k.staging.take 17) ((k.staging.drop 17).take 24) then some 0 else some 3
    | none => some 3
  else some 0

/-- A kernel stops as FAULTED (R169). -/
def faultKernel (e : Eng) (slot cause : Nat) (s : State) : State :=
  let s := engCount e 0x0404 1 (setKernelSt e slot .faulted cause s)
  raiseAlarm 0x8411 (engT e) slot [w32 slot] s

/-- KERNEL_FAULT: causes 1, 2 and 4 of Table 6.11. -/
def execKernelFault (e : Eng) (slot cause dt : Nat) (s : State) : Host.Outcome State Fault Refusal :=
  let s := advance dt s
  .next (if running s && decide (slot < 8) && (kernelOf s e slot).st == .running && (cause == 1 || cause == 2 || cause == 4)
    then faultKernel e slot cause s else s)

/-- KERNEL_WATCHDOG_EXPIRY: cause 3. -/
def execKernelWatchdogExpiry (e : Eng) (slot dt : Nat) (s : State) : Host.Outcome State Fault Refusal :=
  let s := advance dt s
  let k := kernelOf s e slot
  .next (if running s && decide (slot < 8) && k.st == .running && decide (k.since + msT k.watchdogMs ≤ s.hk) then
      faultKernel e slot 3 s
    else s)

/-- KERNEL_NOTE (R170). -/
def execKernelNote (e : Eng) (slot : Nat) (note : Word) (dt : Nat) (s : State) : Host.Outcome State Fault Refusal :=
  let s := advance dt s
  let k := kernelOf s e slot
  .next (if running s && decide (slot < 8) && k.st == .running then
      if s.hk < k.noteUntil then modKernel e slot (fun k => { k with noteMerged := k.noteMerged + 1 }) s
      else emit 0x8404 (engT e) [w32 slot, note, w32 k.noteMerged]
        (modKernel e slot (fun k => { k with noteMerged := 0, noteUntil := s.hk + msT 10 }) s)
    else s)

/-- SPN_KERNEL_START_DONE (R168): the checks end; the kernel runs, or the slot stays stopped. -/
def execSpnKernelStartDone (e : Eng) (slot dt : Nat) (s : State) : Host.Outcome State Fault Refusal :=
  let s := advance dt s
  let k := kernelOf s e slot
  .next (if running s && decide (slot < 8) && k.checking then
      let s := modKernel e slot (fun k => { k with checking := false }) s
      match kernelCheck s k with
      | none => pump (completeUnit 0x0408 (engT e) stSealed 0 [] s)
      | some 0 =>
        let s := modKernel e slot (fun k => { k with since := s.hk }) s
        let s := if (s.engine e).st = .cold then setKernelSt e slot .stopped 5 s
          else setKernelSt e slot (if engRuns s e then .running else .paused) 0 s
        pump (completeUnit 0x0408 (engT e) stOk 0 [0] (clearAlarm 0x8411 (engT e) slot [w32 slot] s))
      | some r => pump (completeUnit 0x0408 (engT e) stOk 0 [w32 r] s)
    else s)

/-! ## Opcodes -/

/-- The spindles of a three-word mask from word `w` on. -/
def maskSpn (c : Cmd) (w : Nat) : List Nat := (List.range 96).filter fun i => bit (c.w (w + i / 32)) (i % 32)

/-- SPN_MAP. -/
def spnMapOp : OpSpec where
  code := 0x0401
  targets := isEngT
  all := true
  flags := 8
  resLen := fun _ _ _ => 121
  run := fun s t _ =>
    let e := engOfT t
    let x := s.engine e
    let used := ((List.range 96).filter fun i => within (spnOf s e i).role 1 3).length
    let role (i : Nat) : Nat := (spnOf s e i).role
    let per (i : Nat) : Word :=
      let p := spnOf s e i
      w32 (onBit (spindleAsleep s e i) 0 + onBit p.perfUser 1 + onBit p.frozen.isSome 2
        + p.build % 2 ^ 16 * 2 ^ 16)
    okRes s ([w32 (availOf x + x.k * 2 ^ 8 + outCount x * 2 ^ 16 + used * 2 ^ 24)]
      ++ (List.range 24).map (fun i => w32 (role (4 * i) + role (4 * i + 1) * 2 ^ 8 + role (4 * i + 2) * 2 ^ 16
          + role (4 * i + 3) * 2 ^ 24))
      ++ (List.range 96).map per)
def execSpnMap (c : Cmd) (s : State) : Host.Outcome State Fault Refusal := .next (serve spnMapOp c s)

/-- A configuration word for counter `n` is in range (R173). -/
def perfCfgOk (n w : Nat) : Bool :=
  let ev := bits w 0 8
  (bit w 16 && decide (n ≠ 0)) ||
    ((decide (ev ≤ 0x0E) || within ev 0x10 0x12)
      && (!bit w 8 || (match occMax ev with | some m => decide (bits w 9 6 < m) | none => false)))

/-- The bits of a configuration word that a counter keeps. -/
def perfCfgMask (n w : Nat) : Nat := w &&& (if n = 0 then 0x00067FFF else 0x00077FFF)

/-- Whether a counter increments in the present cycle, and whether it wraps in it: none where the device alone knows
(R177). A counter that is not enabled or whose EVENT is NONE does not, one of CYCLES does. `below` tells of the wrap of
the counter below, which a chained counter counts. -/
def countsNow (cfg v : Nat) (below : Option Bool) : Option Bool × Option Bool :=
  let inc : Option Bool :=
    if !bit cfg 17 then some false
    else if bit cfg 16 then below
    else if bits cfg 0 8 = 0 then some false
    else if bits cfg 0 8 = 1 then some true
    else none
  let wrap : Option Bool :=
    match inc with
    | some false => some false
    | some true => some (v == 2 ^ 48 - 1)
    | none => if v + 64 < 2 ^ 48 then some false else none
  (inc, wrap)

/-- The same for PC0 to PC5. -/
def countsAll : List Nat → List Nat → Option Bool → List (Option Bool)
  | c :: cs, v :: vs, below =>
    let (inc, wrap) := countsNow c v below
    inc :: countsAll cs vs wrap
  | _, _, _ => []

/-- LOST of the counters `m` of a spindle that are written or cleared now: where an increment or carry falls on the same
cycle (R177); where the model does not know that, a free value (log entry 5). -/
def lostBits (s : State) (e : Eng) (i m : Nat) : Nat × State :=
  let p := spnOf s e i
  if spindleAsleep s e i || p.frozen.isSome then (0, s)
  else
    let l := countsAll p.perf.cfg p.perf.pcs (some false)
    let (f, s) := freeW s
    ((List.range 6).foldl (fun a n =>
      a + onBit (bit m n && (match l.getD n none with | some b => b | none => bit f.toNat n)) n) 0, s)

/-- A counter of one spindle is configured and, with WRITE, written. -/
def perfConfigure (c : Cmd) (e : Eng) (s : State) (i : Nat) : State :=
  let n := c.w 6
  let w := c.w 8
  let s := settlePerf e i s
  let (l, s) := if bit w 0 then lostBits s e i (2 ^ n) else (0, s)
  let s := modPerf e i (fun x => { x with
    cfg := setAt x.cfg n (perfCfgMask n (c.w 7))
    lost := x.lost ||| l
    pcs := if bit w 0 then setAt x.pcs n ((c.w 9 + c.w 10 * 2 ^ 32) % 2 ^ 48) else x.pcs
    ovf := if bit w 0 && bit x.ovf n then x.ovf ^^^ 2 ^ n else x.ovf }) s
  if bit w 1 then setSpn e i { spnOf s e i with perfUser := bit w 2 } s else s

/-- SPN_PERF_CONFIG. An empty spindle mask names no lowest spindle: BAD_PARAM (log entry 26). -/
def spnPerfConfigOp : OpSpec where
  code := 0x0402
  targets := isEngT
  flags := 6
  nparams := 8
  badParam := fun _ c => firstBad [(3, !(maskSpn c 3).isEmpty), (6, within (c.w 6) 0 5), (7, perfCfgOk (c.w 6) (c.w 7))]
  resLen := fun _ _ _ => 1
  run := fun s t c =>
    let e := engOfT t
    let s := (maskSpn c 3).foldl (perfConfigure c e) s
    okRes s [w32 ((spnOf s e ((maskSpn c 3).headD 0)).perf.cfg.getD (c.w 6) 0)]
def execSpnPerfConfig (c : Cmd) (s : State) : Host.Outcome State Fault Refusal := .next (serve spnPerfConfigOp c s)

/-- The counters of a spindle after a clear-after-read. -/
def perfClear (l : Nat) (x : SpnPerf) : SpnPerf :=
  { x with cycle := 0, ret := 0, wst := 0, sf := 0, sb := 0, pcs := [0, 0, 0, 0, 0, 0], ovf := 0, lost := x.lost ||| l }

/-- SPN_PERF_READ (R176, R179). -/
def spnPerfReadOp : OpSpec where
  code := 0x0403
  targets := isEngT
  flags := 8
  nparams := 2
  badParam := fun _ c => firstBad [(3, within (c.w 3) 0 95)]
  resLen := fun _ _ _ => 31
  run := fun s t c =>
    let e := engOfT t
    let s := settlePerf e (c.w 3) s
    let p := spnOf s e (c.w 3)
    let (img, v) := perfSeen s e (c.w 3)
    let age := match img with | some a => min 255 ((s.hk - a) / usT 100) | none => 0
    let flags := onBit img.isSome 0 + onBit p.frozen.isSome 1 + onBit p.perfUser 2 + v.ovf * 2 ^ 8 + v.lost * 2 ^ 16
      + age * 2 ^ 24
    let cyc := if img.isSome then (s.engine e).imageCycle else engineCycles s e
    let ws := [w32 cyc, w32 (cyc / 2 ^ 32), w32 flags] ++ perfWords v ++ v.cfg.map w32
    let s := if bit (c.w 4) 0 then
        let (l, s) := lostBits s e (c.w 3) 63
        modPerf e (c.w 3) (perfClear l) s
      else s
    okRes s ws
def execSpnPerfRead (c : Cmd) (s : State) : Host.Outcome State Fault Refusal := .next (serve spnPerfReadOp c s)

/-- One spindle is frozen or unfrozen; FROZEN_CYCLES counts the freeze (R178). -/
def freezeSpn (on : Bool) (e : Eng) (s : State) (i : Nat) : State :=
  let s := settlePerf e i s
  let p := spnOf s e i
  match p.frozen, on with
  | none, true => setSpn e i { p with frozen := some (engineCycles s e) } s
  | some t, false => engCount e 0x0407 (engineCycles s e - t) (setSpn e i { p with frozen := none } s)
  | _, _ => s

/-- SPN_PERF_FREEZE. -/
def spnPerfFreezeOp : OpSpec where
  code := 0x0404
  targets := isEngT
  flags := 4
  nparams := 4
  badParam := fun _ c => firstBad [(6, within (c.w 6) 0 1)]
  resLen := fun _ _ _ => 2
  run := fun s t c =>
    let e := engOfT t
    let cyc := engineCycles s e
    okRes ((maskSpn c 3).foldl (freezeSpn (c.w 6 == 1) e) s) [w32 cyc, w32 (cyc / 2 ^ 32)]
def execSpnPerfFreeze (c : Cmd) (s : State) : Host.Outcome State Fault Refusal := .next (serve spnPerfFreezeOp c s)

/-- SPN_READER (R179). -/
def spnReaderOp : OpSpec where
  code := 0x0405
  targets := isEngT
  all := true
  flags := 6
  nparams := 2
  badParam := fun _ c => firstBad [(3, within (c.w 3) 0 1), (4, within (c.w 4) 100 10000)]
  resLen := fun _ _ _ => 3
  run := fun s t c =>
    let e := engOfT t
    let s := s.modEngine e fun x => { x with central := c.w 3 == 1, sweepUs := c.w 4 }
    let k := centralCause s e
    okRes s [w32 (c.w 3), w32 (c.w 4), w32 (b01 (decide (k ≠ 0)) + k * 2)]
def execSpnReader (c : Cmd) (s : State) : Host.Outcome State Fault Refusal := .next (serve spnReaderOp c s)

/-- SPN_KERNEL_RESERVE (R166): both line ports are resolved again. -/
def spnKernelReserveOp : OpSpec where
  code := 0x0406
  targets := isEngT
  flags := 6
  nparams := 1
  badParam := fun _ c => firstBad [(3, within (c.w 3) 0 8)]
  resLen := fun _ _ _ => 2
  run := fun s t c =>
    let e := engOfT t
    let k := c.w 3
    if (List.range 8).any fun i => decide (k ≤ i) && (kernelOf s e i).st == .running then refuse s stBadState 0x0105
    else
      let s := if (s.engine e).k = k then s
        else checkIdle e (replaceRoles e (askResolve 1 (s.modEngine e fun x => { x with k })))
      okRes s [w32 k, w32 (availOf (s.engine e))]
def execSpnKernelReserve (c : Cmd) (s : State) : Host.Outcome State Fault Refusal :=
  .next (serve spnKernelReserveOp c s)

/-- SPN_KERNEL_LOAD (R167). Words of the staging buffer between its end and a later offset are free values. -/
def spnKernelLoadOp : OpSpec where
  code := 0x0407
  targets := isEngT
  nparams := 3
  badParam := fun _ c => firstBad [(3, within (c.w 3) 0 7),
    (4, c.w 4 % 4 == 0 && decide (c.w 4 + 4 * (c.params.length - 2) ≤ 61440)), (1020, decide (c.params.length ≤ 1017))]
  resLen := fun _ _ _ => 1
  run := fun s t c =>
    let e := engOfT t
    let k := kernelOf s e (c.w 3)
    if (s.engine e).k ≤ c.w 3 then refuse s stBadState 0x0100
    else if kernelBusy k then refuse s stBadState 0x0106
    else
      let at_ := c.w 4 / 4
      let data := c.params.drop 2
      let (gap, s) := freeWs (at_ - k.staging.length) s
      let st := (k.staging ++ gap).take at_ ++ data ++ k.staging.drop (at_ + data.length)
      let s := setKernelSt e (c.w 3) .loaded 0 (modKernel e (c.w 3) (fun k => { k with staging := st }) s)
      okRes s [w32 (4 * st.length)]
def execSpnKernelLoad (c : Cmd) (s : State) : Host.Outcome State Fault Refusal := .next (serve spnKernelLoadOp c s)

/-- SPN_KERNEL_START (R168). -/
def spnKernelStartOp : OpSpec where
  code := 0x0408
  targets := isEngT
  nparams := 2
  badParam := fun _ c => firstBad [(3, within (c.w 3) 0 7), (4, within (c.w 4) 1 1000)]
  resLen := fun _ _ _ => 1
  run := fun s t c =>
    let e := engOfT t
    if (s.engine e).k ≤ c.w 3 then refuse s stBadState 0x0100
    else if (s.engine e).st == .cold then refuse s stBadState 0x0103
    else if kernelBusy (kernelOf s e (c.w 3)) then refuse s stBadState 0x0106
    else { st := modKernel e (c.w 3) (fun k => { k with checking := true, watchdogMs := c.w 4 }) s, settled := false }
def execSpnKernelStart (c : Cmd) (s : State) : Host.Outcome State Fault Refusal := .next (serve spnKernelStartOp c s)

def kernelStNum : KernelSt → Nat
  | .empty => 0
  | .loaded => 1
  | .running => 2
  | .paused => 3
  | .stopped => 4
  | .faulted => 5

/-- SPN_KERNEL_STOP. -/
def spnKernelStopOp : OpSpec where
  code := 0x0409
  targets := isEngT
  nparams := 1
  badParam := fun _ c => firstBad [(3, within (c.w 3) 0 7)]
  resLen := fun _ _ _ => 1
  run := fun s t c =>
    let e := engOfT t
    let k := kernelOf s e (c.w 3)
    let s := if k.st == .running || k.st == .paused || k.st == .faulted then
        clearAlarm 0x8411 (engT e) (c.w 3) [w32 (c.w 3)] (setKernelSt e (c.w 3) .stopped 0 s)
      else s
    okRes s [w32 (kernelStNum (kernelOf s e (c.w 3)).st)]
def execSpnKernelStop (c : Cmd) (s : State) : Host.Outcome State Fault Refusal := .next (serve spnKernelStopOp c s)

/-- SPN_KERNEL_READ: the mailbox; words the kernel has not written are free values (log entry 5). -/
def spnKernelReadOp : OpSpec where
  code := 0x040A
  targets := isEngT
  nparams := 3
  badParam := fun _ c => firstBad [(3, within (c.w 3) 0 7), (4, within (c.w 4) 0 1023),
    (5, within (c.w 5) 1 1016 && decide (c.w 4 + c.w 5 ≤ 1024))]
  resLen := fun _ _ c => c.w 5
  run := fun s t c =>
    let e := engOfT t
    let m := (kernelOf s e (c.w 3)).mailbox
    okRes s ((List.range (c.w 5)).map fun i => match SMap.get none m (c.w 4 + i) with
      | some w => w
      | none => Config.mailboxWord (engNum e) (c.w 3) (c.w 4 + i))
def execSpnKernelRead (c : Cmd) (s : State) : Host.Outcome State Fault Refusal := .next (serve spnKernelReadOp c s)

/-- SPN_KERNEL_STATUS. -/
def spnKernelStatusOp : OpSpec where
  code := 0x040B
  targets := isEngT
  flags := 8
  nparams := 1
  badParam := fun _ c => firstBad [(3, within (c.w 3) 0 7)]
  resLen := fun _ _ _ => 15
  run := fun s t c =>
    let k := kernelOf s (engOfT t) (c.w 3)
    okRes s ([w32 (kernelStNum k.st), w32 k.cause, w32 (kernelSpindle (s.engine (engOfT t)) (c.w 3))]
      ++ (List.range 12).map fun i => (kernelHash k).getD i 0)
def execSpnKernelStatus (c : Cmd) (s : State) : Host.Outcome State Fault Refusal := .next (serve spnKernelStatusOp c s)

/-- SPN_CUST_KEY_FUSE (R167): once. -/
def spnCustKeyFuseOp : OpSpec where
  code := 0x040C
  targets := fun t => t == 0
  flags := 2
  nparams := 12
  resLen := fun _ _ _ => 12
  run := fun s _ c =>
    match s.sealSt.custKey with
    | some _ => refuse s stBadState 0x0104
    | none => okRes (s.modSeal fun x => { x with custKey := some (c.params.take 12) }) (c.params.take 12)
def execSpnCustKeyFuse (c : Cmd) (s : State) : Host.Outcome State Fault Refusal := .next (serve spnCustKeyFuseOp c s)

/-- FROZEN_CYCLES with the freezes in progress. -/
def frozenCycles (s : State) (e : Eng) : Nat := (ctr s (sel (engT e) 0 0x0407)).toNat + frozenNow s e

/-- The freezes in progress count from now on. -/
def rebaseFrozen (e : Eng) (s : State) : State :=
  let c := engineCycles s e
  s.modEngine e fun x => { x with spindles := x.spindles.map fun p =>
    (p.1, { p.2 with frozen := p.2.frozen.map fun _ => c }) }

/-- SPN_COUNTERS (Table 6.10). -/
def spnCountersOp : OpSpec where
  code := 0x040D
  targets := isEngT
  all := true
  flags := 8
  nparams := 1
  resLen := fun _ _ _ => 16
  run := fun s t c =>
    let e := engOfT t
    let f := frozenCycles s e
    let ws := ctrWords s t 0 (idRange 0x0401 0x0406) ++ [w32 f, w32 (f / 2 ^ 32)] ++ ctrWords s t 0 [0x0408]
    okRes (if bit (c.w 3) 0 then rebaseFrozen e (ctrClearAll s t 0 (idRange 0x0401 0x0408)) else s) ws
def execSpnCounters (c : Cmd) (s : State) : Host.Outcome State Fault Refusal := .next (serve spnCountersOp c s)

end Sys2Proof.Machine
end

