-- ==== Sys2Proof/Machine/Protection.lean ====
section
/-!
DEFINITION. Sys2Proof/Machine/Protection.lean: burnishing, the return of engines and spindles to service, mate-pair
protection by timer and command, error injection, and the protection opcodes of Table 12.14 (R310 to R338).
-/
namespace Sys2Proof.Machine
open Sys2Proof

/-! ## Burnishing (R320 to R322, Table 12.4) -/

/-- LES begins to acquire on a port for burnishing, for at most 300 us. -/
def burnAcquire (p : Lp) (s : State) : State :=
  let s := modBurn s fun b => { b with
    phase := .acquire, port := p, left := b.left.filter (· != p), recent := [], phaseMm := 0, phaseEnd := s.hk + usT 300 }
  let s := s.modEngine .les fun x => { x with burnish := true, shadows := some p, move := .shadowing }
  acqBegin p true true s

/-- The ports burnishing runs on: in service with GUARD COOL or WARM granted, with an ACTIVE engine; the one not burnished
last goes first. -/
def burnPorts (s : State) : List Lp :=
  [s.prot.burn.last.other, s.prot.burn.last].filter fun p =>
    inService s p && (s.port p).mode.granted.guard != .none
      && match servingEng s p with | some e => (s.engine e).st == .active | none => false

/-- Burnishing begins on a list of ports. -/
def startBurn (l : List Lp) (s : State) : State :=
  match l with
  | [] => s
  | p :: r => burnAcquire p (modBurn s fun b => { b with left := r })

/-- BURNISH_PERIOD_TIMER: a period that ends while burnishing, a switch-over or a return runs is skipped. -/
def execBurnishPeriodTimer (dt : Nat) (s : State) : Host.Outcome State Fault Refusal :=
  let s := advance dt s
  let b := s.prot.burn
  .next (if running s && due b.next s.now then
      let s := modBurn s fun b => { b with next := b.next.map fun t => t + secT b.period }
      let x := s.eng.les
      if b.enable == 1 && s.pr.power == .service && x.st == .cool && x.move == .none && !x.held && spareAvailable s
          && !burnRuns s && !tkRuns s && s.prot.restore.isNone then
        pump (startBurn (burnPorts s) s)
      else s
    else s)

/-- The schedule of burnishing runs in SERVICE while BURNISH_ENABLE is 1 (Table 1.11). -/
def burnSchedule (s : State) : State :=
  let on := s.pr.power == .service && s.prot.burn.enable == 1
  modBurn s fun b => { b with
    next := if on then (match b.next with | some t => some t | none => some (s.now + secT b.period)) else none }

/-- A phase completes: EV_BURNISH, BURNISH_PASSES. -/
def passPhase (s : State) : State :=
  ctrAdd (modBurn (burnEvent 0 s) fun b => { b with passes := (b.passes + 1) % 65536 }) (sel 0 0 0x0A04) 1

/-- Shadow lock on the port being burnished ends ACQUIRE; SHADOW lasts 180 ms. -/
def burnLocked (s : State) : State :=
  modBurn (passPhase s) fun b => { b with phase := .shadow, phaseEnd := s.hk + msT 180, phaseMm := 0, recent := [] }

/-- The port in hand is done: the next port, or LES goes to COOL. -/
def burnLeave (s : State) : State :=
  let b := s.prot.burn
  let s := acqIdle b.port true s
  match b.left.filter (inService s) with
  | p :: r => burnAcquire p (modBurn s fun b => { b with last := b.port, left := r })
  | [] =>
    let s := modBurn s fun b => { b with phase := .none, left := [], last := b.port, passed := true, recent := [] }
    let s := lesToCool (s.modEngine .les fun x => { x with burnish := false })
    match s.prot.restore with
    | some r => if r.stage = .burnish then finishRestore 0 (clearAlarm 0x8A11 0x1A 0 [] s) else s
    | none => s

/-- BURNISH_PHASE_END. An ACQUIRE that has no shadow lock at its bound is interrupted (log entry 44). -/
def execBurnishPhaseEnd (dt : Nat) (s : State) : Host.Outcome State Fault Refusal :=
  let s := advance dt s
  let b := s.prot.burn
  .next (if running s && decide (b.phaseEnd ≤ s.hk) then
      match b.phase with
      | .none => s
      | .acquire => pump (lesToCool (stopBurn 2 s))
      | .shadow => pump (modBurn (passPhase s) fun b => { b with phase := .loop, phaseEnd := s.hk + msT 20, phaseMm := 0 })
      | .loop =>
        let s := modBurn (passPhase s) fun b => { b with phase := .leave, phaseEnd := s.hk + usT 10 }
        pump s
      | .leave => pump (burnLeave s)
    else s)

/-! ## Return of an engine to service (R319, R322) -/

/-- The self-test of an engine begins. -/
def beginTest (s : State) : State :=
  s.modProt fun x => { x with restore := x.restore.map fun r => { r with stage := .test, until_ := s.hk + msT 50 } }

def setStage (g : RestoreStage) (s : State) : State :=
  s.modProt fun x => { x with restore := x.restore.map fun r => { r with stage := g } }

/-- LE0 or LE1 passed: it takes its home port back, is given it, or waits. -/
def homeReturns (e : Eng) (p : Lp) (s : State) : State :=
  if s.eng.les.serves = some p then
    if inService s p then
      acqBegin p true true (setStage .back (s.modEngine e fun x => { x with shadows := some p, move := .shadowing }))
    else
      let s := s.modEngine .les fun x => { x with serves := none }
      let s := s.modEngine e fun x => { x with serves := some p }
      steer (finishRestore 0 (askResolve 4 s))
  else
    let s := if (servingEng s p).isNone then s.modEngine e fun x => { x with serves := some p } else s
    steer (finishRestore 1 s)

/-- LES passed: with SPARE_DEGRADED it burnishes one in-service port, if there is one; the alarm clears with that. -/
def lesReturns (s : State) : State :=
  if spareDegraded s then
    match lineports.find? fun p => inService s p
        && (match servingEng s p with | some e => (s.engine e).st == .active | none => false) with
    | some p => burnAcquire p (modBurn (setStage .burnish s) fun b => { b with left := [] })
    | none => steer (finishRestore 0 (clearAlarm 0x8A11 0x1A 0 [] s))
  else steer (finishRestore 0 s)

/-- The self-test passed. -/
def testPassed (e : Eng) (s : State) : State :=
  let s := clearAlarm 0x8A10 (engT e) 0 [] (s.modEngine e fun x => { x with failed := false, held := false })
  match e with
  | .le0 => homeReturns .le0 .lp0 s
  | .le1 => homeReturns .le1 .lp1 s
  | .les => lesReturns s

/-- ENGINE_RESTORE_SELF_TEST_DONE. -/
def execEngineRestoreSelfTestDone (e : Eng) (pass : Bool) (dt : Nat) (s : State) : Host.Outcome State Fault Refusal :=
  let s := advance dt s
  .next (match s.prot.restore with
    | some r =>
      if running s && r.e == e && r.stage == .test then
        if pass then pump (testPassed e s)
        else pump (finishRestore 2 (setEngSt e .cold (s.modEngine e fun x => { x with move := .gating })))
      else s
    | none => s)

/-- PROT_ENGINE_RESTORE. -/
def protEngineRestoreOp : OpSpec where
  code := 0x0A04
  targets := isEngT
  run := fun s t _ =>
    let e := engOfT t
    let x := s.engine e
    if tkRuns s || s.prot.restore.isSome then refuse s stBadState 0x0101
    else if !(x.held || (e == .les && spareDegraded s)) then refuse s stBadState 0x0103
    else
      let s := s.modProt fun y => { y with restore := some { e, stage := .power } }
      let s := if x.st = .cold then
          (if x.move = .none then s.modEngine e fun x => { x with move := .toCool } else s)
        else beginTest (stopBurn 2 s)
      { st := s, settled := false }
def execProtEngineRestore (c : Cmd) (s : State) : Host.Outcome State Fault Refusal :=
  .next (serve protEngineRestoreOp c s)

/-! ## PROT_ENGINE_SWITCH and spindles -/

/-- PROT_ENGINE_SWITCH: cause FORCED. -/
def protEngineSwitchOp : OpSpec where
  code := 0x0A03
  targets := isLpT
  run := fun s t _ =>
    let p := lpOfT t
    if !inService s p then refuse s stBadState 0x0102
    else if tkRuns s then refuse s stBadState 0x0101
    else match servingEng s p, spareKind s p with
      | some e, some k =>
        if e = .les then refuse s stBadState 0x0100
        else { st := beginTk p k e .les 7 false (if k = 1 then endBurn 2 s else stopBurn 2 s), settled := false }
      | _, _ => refuse s stBadState 0x0100
def execProtEngineSwitch (c : Cmd) (s : State) : Host.Outcome State Fault Refusal :=
  .next (serve protEngineSwitchOp c s)

/-- Spindles named by words 3 to 5. -/
def spindleMask (c : Cmd) : List Nat := (List.range 96).filter fun i => bit (c.w (3 + i / 32)) (i % 32)

/-- Three words of a spindle mask. -/
def spindleWords (l : List Nat) : List Word :=
  (List.range 3).map fun w => w32 ((List.range 32).foldl (fun a i => a + onBit (l.contains (32 * w + i)) i) 0)

/-- PROT_SPINDLE_RESTORE. -/
def protSpindleRestoreOp : OpSpec where
  code := 0x0A05
  targets := isEngT
  nparams := 3
  badParam := fun _ c => firstBad [(3, !(spindleMask c).isEmpty)]
  run := fun s t c =>
    let e := engOfT t
    let l := spindleMask c
    if l.all fun i => (spnOf s e i).role == 6 then
      { st := s.modProt fun x => { x with spindles := x.spindles ++ [(e, l)] }, settled := false }
    else refuse s stBadState 0x0104
def execProtSpindleRestore (c : Cmd) (s : State) : Host.Outcome State Fault Refusal :=
  .next (serve protSpindleRestoreOp c s)

/-- A spindle leaves OUT. -/
def spindleBack (e : Eng) (s : State) (i : Nat) : State :=
  let s := setSpn e i { spnOf s e i with role := 0 } s
  emit 0x8A05 (engT e) [w32 (engNum e), w32 i, w32 (outCount (s.engine e))] s

/-- PROT_SPINDLE_RESTORE_DONE: those that passed return to IDLE. -/
def execProtSpindleRestoreDone (e : Eng) (passed : List Nat) (dt : Nat) (s : State) : Host.Outcome State Fault Refusal :=
  let s := advance dt s
  .next (match takeFirst (fun x => x.1 == e) s.prot.spindles with
    | some ((_, l), rest) =>
      if running s then
        let back := l.filter fun i => passed.contains i && (spnOf s e i).role == 6
        let s := back.foldl (spindleBack e) (s.modProt fun x => { x with spindles := rest })
        let s := if back.isEmpty then s else checkIdle e (askResolve 2 s)
        pump (completeUnit 0x0A05 (engT e) stOk 0 (spindleWords back) s)
      else s
    | none => s)

/-! ## Mate-pair protection (R328 to R331) -/

/-- The selector's inputs of a port after a change of its configuration, command or timers. -/
def apsRefresh (p : Lp) (s : State) : State :=
  apsInput p (s.port p).frame.sf (s.port p).frame.sd s

/-- APS_HOLD_OFF_EXPIRY. -/
def execApsHoldOffExpiry (p : Lp) (dt : Nat) (s : State) : Host.Outcome State Fault Refusal :=
  let s := advance dt s
  .next (if running s then pump (apsExpire p (s.port p).frame.sf (s.port p).frame.sd s) else s)

/-- APS_WTR_EXPIRY. -/
def execApsWtrExpiry (p : Lp) (dt : Nat) (s : State) : Host.Outcome State Fault Refusal :=
  let s := advance dt s
  .next (if running s && due (s.aps p).wtr s.now then
      pump (apsRefresh p (s.modAps p fun a => { a with wtr := none }))
    else s)

/-- APS_MISMATCH_TIMER: 50 ms of disagreement, or of agreement. -/
def execApsMismatchTimer (p : Lp) (dt : Nat) (s : State) : Host.Outcome State Fault Refusal :=
  let s := advance dt s
  .next (if running s && due (s.aps p).mismatch s.hk then
      let s := s.modAps p fun a => { a with mismatch := none }
      pump (apsDecide p (alarmIf (apsDisagrees (s.aps p)) 0x8A14 (lpT p) 0 [] s))
    else s)

/-- INJECTED_APS_SF_EXPIRY. -/
def execInjectedApsSfExpiry (p : Lp) (dt : Nat) (s : State) : Host.Outcome State Fault Refusal :=
  let s := advance dt s
  .next (if running s && due (s.aps p).injSf s.hk then
      pump (apsRefresh p (s.modAps p fun a => { a with injSf := none }))
    else s)

/-- The group of a port ends or changes: what it held is dropped. -/
def leaveGroup (p : Lp) (s : State) : State :=
  let s := s.modAps p fun a => { a with
    command := 0, sf := false, sd := false, cmd := 0, wtrOn := false, hold := {}, wtr := none, dnr := false,
    request := 0, source := 0, prot := false, self := false, mismatch := none, mate := none }
  let g := (s.aps p).cfg.group
  let s := s.modMate fun m => { m with mirror := SMap.set none m.mirror g none }
  clearAlarm 0x8B13 0x90 g [w32 g] (clearAlarm 0x8A15 (lpT p) 0 [] (clearAlarm 0x8A14 (lpT p) 0 [] s))

def apsWords (x : ApsCfg) : List Word :=
  [w32 x.group, w32 x.role, w32 x.bidir, w32 x.revert, w32 x.wtr, w32 x.holdOff, w32 x.sdEn]

/-- APS_CONFIG. A new group takes its inputs at once. -/
def apsConfigOp : OpSpec where
  code := 0x0A06
  targets := isLpT
  flags := 6
  nparams := 1
  badParam := fun _ c => firstBad [selU c 0 0 255, selU c 1 0 1, selU c 2 0 1, selU c 3 0 1, selU c 4 0 3600,
    selU c 5 0 100, selU c 6 0 1]
  resLen := fun _ _ _ => 7
  run := fun s t c =>
    let p := lpOfT t
    let o := (s.aps p).cfg
    let x : ApsCfg := { group := pick c 0 o.group, role := pick c 1 o.role, bidir := pick c 2 o.bidir,
                        revert := pick c 3 o.revert, wtr := pick c 4 o.wtr, holdOff := pick c 5 o.holdOff,
                        sdEn := pick c 6 o.sdEn }
    if x.group ≠ 0 ∧ x.group = (s.aps p.other).cfg.group then refuse s stBadState 0x0105
    else
      let s := if x.group = o.group then s else leaveGroup p s
      let s := apsMismatchTimer p (s.modAps p fun a => { a with cfg := x })
      let s := if x.group = 0 then s
        else if x.group = o.group then apsDecide p (apsRefresh p s)
        else apsTake p (s.port p).frame.sf (s.port p).frame.sd s
      okRes s (apsWords x)
def execApsConfig (c : Cmd) (s : State) : Host.Outcome State Fault Refusal := .next (serve apsConfigOp c s)

/-- APS_COMMAND. -/
def apsCommandOp : OpSpec where
  code := 0x0A07
  targets := isLpT
  flags := 8
  nparams := 1
  badParam := fun _ c => firstBad [(3, within (c.w 3) 0 4)]
  resLen := fun _ _ _ => 2
  run := fun s t c =>
    let p := lpOfT t
    if (s.aps p).cfg.group = 0 then refuse s stBadState 0x0106
    else
      let s := apsRefresh p (s.modAps p fun a => { a with command := c.w 3 })
      okRes s [w32 (s.aps p).request, w32 (b01 (s.aps p).prot)]
def execApsCommand (c : Cmd) (s : State) : Host.Outcome State Fault Refusal := .next (serve apsCommandOp c s)

/-! ## Injection (R327, Table 12.7) -/

/-- LOCATION is in range for its kind. -/
def locationOk (kind loc : Nat) : Bool :=
  if kind ≤ 1 then within loc 0 4 else if kind ≤ 3 then within loc 1 13 else true

/-- The kind is valid for the target. -/
def injectValid (kind loc t : Nat) : Bool :=
  match kind with
  | 0 | 1 => isEngT t
  | 2 | 3 => if loc ≤ 4 then isEngT t else if loc ≤ 6 then isLpT t else t == 0
  | 5 => t == 0x1A
  | _ => isLpT t

/-- PROT_INJECT. Kinds 4 and 6 act at once, so none of them is pending. -/
def protInjectOp : OpSpec where
  code := 0x0A08
  targets := fun t => t == 0 || isLpT t || isEngT t
  nparams := 3
  badParam := fun _ c => firstBad [(3, within (c.w 3) 0 6), (4, locationOk (c.w 3) (c.w 4)), (5, within (c.w 5) 1 65535)]
  resLen := fun _ _ _ => 1
  run := fun s t c =>
    let kind := c.w 3
    if !injectValid kind (c.w 4) t then refuse s stBadState 0x0108
    else if kind = 4 then okRes s [0]
    else if kind = 6 then
      let p := lpOfT t
      okRes (apsRefresh p (s.modAps p fun a => { a with injSf := some (s.hk + msT (c.w 5)) })) [0]
    else
      let k := injKey kind t (if kind ≤ 3 then c.w 4 else 0)
      let n := injPending s k + c.w 5
      okRes (s.modProt fun x => { x with inject := SMap.set 0 x.inject k n }) [w32 n]
  after := fun s c =>
    if c.w 3 = 4 then
      let s := ctrAdd s (sel 0 0 0x0A06) 1
      match servingEng s (lpOfT c.target) with
      | some e => engineFault e 8 true true true s
      | none => s
    else if c.w 3 = 6 then ctrAdd s (sel 0 0 0x0A06) 1
    else s
def execProtInject (c : Cmd) (s : State) : Host.Outcome State Fault Refusal := .next (serve protInjectOp c s)

/-! ## Status words and the remaining opcodes -/

/-- PORT_OK: in service and not in SF, and not between the cut of a COOL takeover and its step 5 (R437). -/
def portOk (s : State) (p : Lp) : Bool :=
  inService s p && !(s.port p).frame.sf && !(match (s.protPort p).tk with
    | some t => t.kind == 2 && t.step != .decided
    | none => false)

/-- ENGINE_STATUS of a line port (Table 2.10). -/
def engineStatusLp (s : State) (p : Lp) : Nat :=
  let f (g : Engine → Bool) : Bool := match servingEng s p with | some e => g (s.engine e) | none => false
  let st := match servingEng s p with | some e => engStNum (s.engine e).st | none => 0
  servingNum s p + st * 4 + onBit (f fun x => x.burnish) 5 + onBit (f fun x => x.failed) 6 + onBit (portOk s p) 7
    + onBit (f fun x => x.dualActive) 8 + (match servingEng s p with | some e => (s.engine e).changes % 65536 | none => 0) * 2 ^ 16

/-- ENGINE_STATUS of LES; PORT_OK is that of the port it serves. -/
def engineStatusLes (s : State) : Nat :=
  let x := s.eng.les
  let pt := match x.serves with | some p => some p | none => x.shadows
  let ok := match x.serves with | some p => portOk s p | none => false
  lpField pt + engStNum x.st * 4 + onBit x.burnish 5 + onBit x.failed 6 + onBit ok 7 + onBit x.dualActive 8
    + x.changes % 65536 * 2 ^ 16

/-- SPARE_STATUS (Table 12.12). -/
def spareStatus (s : State) : Nat :=
  let b := s.prot.burn
  burnNum b.phase + onBit (burnRuns s && b.port == .lp1) 2 + onBit (spareDegraded s) 3 + onBit (spareAvailable s) 4
    + onBit b.passed 5 + outCount s.eng.les * 2 ^ 8 + b.passes * 2 ^ 16

/-- PROT_STATUS (Table 12.13). -/
def protStatusWord (s : State) (p : Lp) : Nat :=
  let x := s.protPort p
  let a := x.aps
  x.lastKind + onBit (tkBusy s p) 2 + x.lastCause * 2 ^ 3 + onBit (a.cfg.group != 0) 7 + onBit a.prot 8 + onBit a.self 9
    + a.request * 2 ^ 10 + onBit a.wtr.isSome 14 + onBit (mateSilent s) 15 + a.cfg.group * 2 ^ 16 + x.count * 2 ^ 24

/-- PROT_CONFIG. -/
def protConfigOp : OpSpec where
  code := 0x0A01
  targets := fun t => t == 0
  flags := 14
  nparams := 1
  badParam := fun _ c => firstBad [selU c 0 0 1, selU c 1 10 3600]
  resLen := fun _ _ _ => 2
  run := fun s _ c =>
    let b := s.prot.burn
    let en := pick c 0 b.enable
    let pe := pick c 1 b.period
    let s := modBurn s fun b => { b with enable := en, period := pe, next := if pe = b.period then b.next else none }
    okRes (burnSchedule s) [w32 en, w32 pe]
def execProtConfig (c : Cmd) (s : State) : Host.Outcome State Fault Refusal := .next (serve protConfigOp c s)

/-- PROT_STATUS. While no burnishing is scheduled, and before any mate APS message, the manual states no seconds and no age:
free values (log entry 5). -/
def protStatusOp : OpSpec where
  code := 0x0A02
  targets := fun t => isLpT t || t == 0x1A || t == 0x90
  both := true
  flags := 8
  resLen := fun _ t _ => if isLpT t then 5 else if t = 0x1A then 3 else 2
  run := fun s t _ =>
    if isLpT t then
      let p := lpOfT t
      let x := s.protPort p
      okRes s ([w32 (engineStatusLp s p), w32 (protStatusWord s p), w32 (x.lastMarker + min 0xFFFFFF x.lastGap * 2 ^ 8)]
        ++ uptimeWords x.lastUp)
    else if t = 0x1A then
      let (w, s') := match s.prot.burn.next with
        | some e => (w32 ((e - s.now) / secT 1), s)
        | none => freeW s
      okRes s' [w32 (spareStatus s), w, w32 s.prot.burn.phaseMm]
    else
      let (w, s') := match s.mate.apsAt with
        | some e => (w32 ((s.hk - e) / usT 1), s)
        | none => freeW s
      okRes s' [w32 (onBit (mateSilent s) 0 + onBit (!isPrimary s) 1), w]
def execProtStatus (c : Cmd) (s : State) : Host.Outcome State Fault Refusal := .next (serve protStatusOp c s)

/-- Counter IDs of a unit (Table 12.15). -/
def protIds (t : Nat) : List Nat :=
  if t = 0 then idRange 0x0A01 0x0A06 else if isLpT t then idRange 0x0A20 0x0A24 else idRange 0x0A10 0x0A13

/-- PROT_COUNTERS. -/
def protCountersOp : OpSpec where
  code := 0x0A0A
  targets := fun t => t == 0 || isLpT t || isEngT t
  both := true
  all := true
  flags := 8
  nparams := 1
  resLen := fun _ t _ => 2 * (protIds t).length
  run := fun s t c =>
    let ws := ctrWords s t 0 (protIds t)
    okRes (if bit (c.w 3) 0 then ctrClearAll s t 0 (protIds t) else s) ws
def execProtCounters (c : Cmd) (s : State) : Host.Outcome State Fault Refusal := .next (serve protCountersOp c s)

end Sys2Proof.Machine
end

