-- ==== Sys2Proof/Machine/PortRx.lean ====
section
/-!
DEFINITION. Sys2Proof/Machine/PortRx.lean: packets that arrive on a command port as words: the framing checks 1 to 5 of
Table 2.5 (R40, R54).
-/
namespace Sys2Proof.Machine
open Sys2Proof

/-- Codes of one subject: `n` opcodes from 1 on. -/
def subjectCodes (subj n : Nat) : List Nat := (List.range n).map fun i => subj * 256 + i + 1

/-- The opcodes of the manual (check 5). -/
def knownCodes : List Nat :=
  subjectCodes 0 11 ++ subjectCodes 1 3 ++ subjectCodes 2 14 ++ subjectCodes 3 14 ++ subjectCodes 4 13 ++
    subjectCodes 5 5 ++ subjectCodes 6 9 ++ subjectCodes 7 9 ++ subjectCodes 8 8 ++ subjectCodes 9 11 ++
    subjectCodes 10 10 ++ subjectCodes 11 6 ++ subjectCodes 12 7 ++ subjectCodes 13 15 ++ subjectCodes 14 13 ++
    subjectCodes 15 4

/-- OPCODE and TAG of a packet as received. -/
def rxOpcode (ws : List Word) : Nat := bits (ws.getD 1 0).toNat 16 16
def rxTag (ws : List Word) : BitVec 16 := (ws.getD 1 0).truncate 16

/-- The first failed check of 1 to 5: STATUS and DETAIL. -/
def framingFault (ws : List Word) : Option (Nat × Nat) :=
  let w0 := (ws.getD 0 0).toNat
  let len := bits w0 0 16
  if bits w0 24 8 ≠ 0xC5 then some (stBadLength, 1)
  else if bits w0 16 8 ≠ 1 then some (stBadLength, 2)
  else if 1020 < len ∨ len + 4 ≠ ws.length then some (stBadLength, 3)
  else if crc32cWords ws.dropLast ≠ ws.getLastD 0 then some (stBadCrc, 0)
  else if knownCodes.contains (rxOpcode ws) then none
  else some (stUnknown, 0)

/-- Packets Umcia finds faulty in a port's receive queue are answered and leave it. -/
def answerFaulty (p : Port) (s : State) : State :=
  let q := s.host.rxq.get p
  let s := s.modHost fun h => { h with rxq := h.rxq.put p (q.filter fun k => (framingFault k.words).isNone) }
  q.foldl (fun s k => match framingFault k.words with
    | some (st, det) => sendReply p (replyPkt (rxOpcode k.words) (rxTag k.words) st det []) s
    | none => s) s

/-- Umcia reads the receive queues of all ports again: after a pause, or when it becomes command-ready. -/
def readQueues (s : State) : State := pump (ports.foldl (fun s p => answerFaulty p s) s)

/-- A packet's last word arrives on a port: its receive queue takes it, a valid CRC is activity for a lock (R66), and a
faulty packet is answered. -/
def arrive (p : Port) (ws : List Word) (s : State) : State :=
  let n := (s.host.rxq.get p).length
  let s := eraseOnReceipt p n ws <| rxPush p { words := ws, tooMany := p != .pcie && decide (32 ≤ outstanding s p) } s
  let s := if crc32cWords ws.dropLast = ws.getLastD 0 then lockActivity p s else s
  if umciaReads s then pump (answerFaulty p s) else s

end Sys2Proof.Machine
end

