-- ==== Sys2Proof/Machine/Mate.lean ====
section
/-!
DEFINITION. Sys2Proof/Machine/Mate.lean: the Afvan Mate Link: training, reception, acknowledgement, receiver sleep, rate
changes, configuration mirroring, and the opcodes of Table 13.10 (R339 to R360).
-/
namespace Sys2Proof.Machine
open Sys2Proof

/-- State codes of MATE_STATUS. -/
def mateNum : MateSt → Nat
  | .disabled => 0
  | .training => 1
  | .up => 2
  | .resume => 3

def mateCount (id n : Nat) (s : State) : State := if n = 0 then s else ctrAdd s (sel 0x90 0 id) n

/-- EV_MATE_STATE. -/
def mateEvent (prev : MateSt) (s : State) : State :=
  emit 0x8B01 0x90 [w32 (mateNum prev), w32 (mateNum s.mate.st), w32 s.mate.lastCause, w32 s.mate.goodbye] s

/-- Every deferred command of opcode `code` that waits on unit `t` completes. -/
def completeAll (code t status detail : Nat) (ws : List Word) (s : State) : State :=
  s.host.deferred.foldl (fun x _ => completeUnit code t status detail ws x) s

/-- The link changes state. -/
def setMate (st : MateSt) (s : State) : State :=
  let prev := s.mate.st
  if prev = st then s
  else
    let s := mateEvent prev (s.modMate fun m => { m with st, asleep := false, listenEnd := none, cand := none })
    if prev = .up then releasePortLocks .mate s else s

/-- Both selectors take the mate's silence, or its end, into account (R331). -/
def apsBoth (s : State) : State := apsDecide .lp1 (apsDecide .lp0 s)

/-- MATE_DOWN is raised (R349). -/
def mateDown (s : State) : State :=
  if mateSilent s then s else apsBoth (releasePortLocks .mate (raiseAlarm 0x8B10 0x90 0 [] s))

/-- MATE_DOWN clears with a good burst: a MATE_WAKE_PEER completes, and a wait-to-restore begins anew (R358, Table
12.11). -/
def mateBack (s : State) : State :=
  if mateSilent s then
    let s := clearAlarm 0x8B10 0x90 0 [] s
    let s := lineports.foldl (fun s p => s.modAps p fun a => { a with wtr := a.wtr.map fun _ => s.now + secT a.cfg.wtr }) s
    let s := if s.mate.wakePeer.isSome then
        completeAll 0x0B04 0x90 stOk 0 [0] (s.modMate fun m => { m with wakePeer := none })
      else s
    apsBoth s
  else s

/-! ## Training (R346, R347) -/

/-- Packets being joined are discarded. -/
def dropJoins (s : State) : State :=
  mateCount 0x0B07 s.mate.joins.length (s.modMate fun m => { m with joins := [] })

/-- A training attempt starts in LISTEN. Training begins both directions' sequences anew (log entry 47). -/
def startTraining (s : State) : State :=
  let s := dropJoins (setMate .training s)
  let first := if isPrimary s then usT 100 else msT 50
  let s := s.modMate fun m => { m with
    phase := .listen, phaseEnd := s.hk + first, attempt := some s.hk, backoff := none, resumeFrom := none,
    heartbeat := none, ackDue := none, txSeq := 0, rxSeq := 255, queue := [], unacked := [], nextRate := none,
    rateSent := false, rateSeen := false, poor := false, lowFrom := none, crcs := [] }
  mateCount 0x0B09 1 s

/-- The backoff after the n-th consecutive failure, in ms. -/
def trainBackoff (n : Nat) : Nat := if n ≤ 1 then 0 else min 1600 (50 * 2 ^ (n - 2))

/-- An attempt fails: 0 TIMEOUT, 1 ROLE, 2 MARGIN, 3 PARTNER. A cause ROLE is reported (Table 13.9). While MATE_TRAIN_FAIL is
raised the backoff is 1,600 ms. -/
def failTraining (cause : Nat) (s : State) : State :=
  let m := s.mate
  let n := m.fails + 1
  let role := if cause = 1 then m.roleRun + 1 else 0
  let s := s.modMate fun m => { m with
    phase := .none, attempt := none, fails := n, lastCause := cause, roleRun := role }
  let s := if cause = 1 then mateEvent .training s else s
  let s := if m.retries ≠ 0 ∧ m.retries ≤ n then raiseAlarm 0x8B11 0x90 0 [] s else s
  let wait := if raised s 0x8B11 0x90 0 then 1600 else trainBackoff n
  let s := s.modMate fun m => { m with backoff := some (s.hk + msT wait) }
  let s := if 2 ≤ role then raiseAlarm 0x8B12 0x90 0 [] s else s
  completeAll 0x0B03 0x90 stOk 0 [1, w32 m.rate] s

/-- The link rate changes: EV_MATE_RATE (R356). -/
def setRate (r : Nat) (s : State) : State :=
  let m := s.mate
  let s := s.modMate fun m => { m with
    rate := r, nextRate := none, rateSent := false, rateSeen := false, poor := false, lowFrom := none, crcs := [] }
  if m.rate = r then s
  else emit 0x8B02 0x90 [w32 m.rate, w32 r, w32 (min 255 m.margin), w32 m.partnerMargin] s

/-- The link is UP. -/
def linkUp (s : State) : State :=
  let s := s.modMate fun m => { m with phase := .none, attempt := none, backoff := none, resumeFrom := none, fails := 0,
                                       roleRun := 0 }
  let s := setMate .up s
  let s := clearAlarm 0x8B12 0x90 0 [] (clearAlarm 0x8B11 0x90 0 [] s)
  let s := s.modMate fun m => { m with
    heartbeat := match m.heartbeat with | some t => some t | none => some (s.hk + usT 100) }
  pumpMate 8 (completeAll 0x0B03 0x90 stOk 0 [0, w32 s.mate.rate] s)

/-- The rate announced comes into force once a HEARTBEAT carrying it was sent and one received (R356). -/
def applyRate (s : State) : State :=
  match s.mate.nextRate with
  | some r => if s.mate.rateSent && s.mate.rateSeen then setRate r s else s
  | none => s

/-- The capability word (R346): role, highest RATE_CODE permitted, DEVICE_ID low half. -/
def capability (s : State) : Word :=
  w32 (b01 (!isPrimary s) + s.mate.rateMax * 2 ^ 2 + Config.deviceId.toNat % 2 ^ 16 * 2 ^ 16)

/-- TRAIN bursts are sent at each rate in turn; `n` of them leave in the phase. -/
def sendTrain (n : Nat) (s : State) : State :=
  if n = 0 then s
  else
    let k := min 2044 Config.trainLength
    let pay := wordBytesBE (capability s) ++ prbs31 k (Config.trainSeed (ctr s (sel 0x90 0 0x0B01)).toNat)
    let bs := burstBytes 6 0 0 s.mate.rxSeq 0 (min 255 s.mate.margin) pay
    mateCount 0x0B01 n (s.modMate fun m => { m with tx := (2, burstSymbols 2 false bs) })

/-- What a phase trained is kept per rate. -/
def keepTaps (f : TrainFinds) (s : State) : State :=
  s.modMate fun m => { m with
    echo := if f.echo.isEmpty then m.echo else f.echo.map (·.take 256)
    equal := if f.equal.isEmpty then m.equal else f.equal }

/-- The granted RATE_CODE: the highest not above either RATE_MAX at which both margins reach 6 dB (24 units). -/
def grantedRate (own : Nat) (f : TrainFinds) : Option Nat :=
  [2, 1, 0].find? fun r => decide (r ≤ own) && decide (r ≤ bits f.cap.toNat 2 2) && decide (24 ≤ f.margins.getD r 0)
    && decide (24 ≤ f.peerMargins.getD r 0)

/-- The next phase of the attempt. -/
def nextPhase (ph : TrainPhase) (ms : Nat) (s : State) : State :=
  s.modMate fun m => { m with phase := ph, phaseEnd := s.hk + msT ms }

/-- MATE_TRAIN_PHASE_END (Table 13.7). -/
def trainPhaseEnd (f : TrainFinds) (s : State) : State :=
  let m := s.mate
  let sends := match m.phase with
    | .echoP => isPrimary s
    | .echoS => !isPrimary s
    | .duplex | .grant => true
    | _ => false
  let s := if sends then sendTrain f.sent s else s
  let s := if m.phase = .echoP ∨ m.phase = .echoS ∨ m.phase = .duplex then keepTaps f s else s
  match m.phase with
  | .none | .confirm => s
  | .listen =>
    if isPrimary s then
      if f.heard then failTraining 1 s else if m.phaseEnd ≤ s.hk then nextPhase .echoP 3 s else s
    else if f.heard then nextPhase .echoP 3 s else s
  | .echoP => if f.stopped then failTraining 3 s else nextPhase .echoS 3 s
  | .echoS => if f.stopped then failTraining 3 s else nextPhase .duplex 3 s
  | .duplex =>
    if f.stopped then failTraining 3 s
    else if bits f.cap.toNat 0 2 = b01 (!isPrimary s) then failTraining 1 s
    else match grantedRate m.rateMax f with
      | some r => nextPhase .grant 1 (s.modMate fun m => { m with granted := r })
      | none => failTraining 2 s
  | .grant =>
    if f.stopped then failTraining 3 s
    else sendHeartbeat false ((setRate m.granted s).modMate fun m => { m with
      phase := .confirm, heartbeat := some (s.hk + usT 100) })

def execMateTrainPhaseEnd (f : TrainFinds) (dt : Nat) (s : State) : Host.Outcome State Fault Refusal :=
  let s := advance dt s
  .next (if running s && s.mate.attempt.isSome then pump (trainPhaseEnd f s) else s)

/-- MATE_TRAIN_ATTEMPT_TIMEOUT: not UP 50 ms after the attempt started. -/
def execMateTrainAttemptTimeout (dt : Nat) (s : State) : Host.Outcome State Fault Refusal :=
  let s := advance dt s
  .next (match s.mate.attempt with
    | some t => if running s && decide (t + msT 50 ≤ s.hk) then pump (failTraining 0 s) else s
    | none => s)

/-- MATE_TRAIN_BACKOFF_EXPIRY. -/
def execMateTrainBackoffExpiry (dt : Nat) (s : State) : Host.Outcome State Fault Refusal :=
  let s := advance dt s
  .next (if running s && due s.mate.backoff s.hk && s.mate.st == .training then pump (startTraining s) else s)

/-- MATE_RESUME_TIMEOUT: 50 ms in RESUME. -/
def execMateResumeTimeout (dt : Nat) (s : State) : Host.Outcome State Fault Refusal :=
  let s := advance dt s
  .next (match s.mate.resumeFrom with
    | some t =>
      if running s && s.mate.st == .resume && decide (t + msT 50 ≤ s.hk) then pump (startTraining s) else s
    | none => s)

/-! ## States from outside (R348, R349) -/

/-- The link enters RESUME with its taps held. -/
def toResume (s : State) : State :=
  let s := setMate .resume s
  s.modMate fun m => { m with
    resumeFrom := some s.hk, heartbeat := match m.heartbeat with | some t => some t | none => some (s.hk + usT 100) }

/-- The link is DISABLED: by ENABLE 0, a reset, or DARK. -/
def mateOff (s : State) : State :=
  let s := setMate .disabled (dropJoins s)
  s.modMate fun m => { m with
    phase := .none, attempt := none, backoff := none, resumeFrom := none, heartbeat := none, ackDue := none,
    expect := none, queue := [], unacked := [] }

/-- Command-ready after a reset with ENABLE 1. -/
def mateStart (s : State) : State := if s.mate.enable = 1 then startTraining s else s

/-- Command-ready on a wake from DARK with ENABLE 1. -/
def mateWake (s : State) : State := if s.mate.enable = 1 then toResume s else s

/-- The device is about to enter DARK. -/
def mateDark (s : State) : State := mateOff (sendGoodbye 0 s)

/-- MATE_SILENCE_TIMEOUT: no good burst for 300 us. -/
def execMateSilenceTimeout (dt : Nat) (s : State) : Host.Outcome State Fault Refusal :=
  let s := advance dt s
  let silent := match s.mate.lastGood with | some t => decide (t + usT 300 ≤ s.hk) | none => true
  .next (if running s && silent then
      let s := mateDown s
      pump (if s.mate.st = .up then toResume s else s)
    else s)

/-! ## Sending on schedule -/

/-- MATE_HEARTBEAT_TIMER: every 100 us in UP and RESUME, and from GRANT on. -/
def execMateHeartbeatTimer (dt : Nat) (s : State) : Host.Outcome State Fault Refusal :=
  let s := advance dt s
  .next (if running s && due s.mate.heartbeat s.hk && (linkTalks s || s.mate.phase == .confirm) then
      pumpMate 8 (applyRate (sendHeartbeat false
        (s.modMate fun m => { m with heartbeat := m.heartbeat.map fun t => t + usT 100 })))
    else s)

/-- MATE_ACK_ONLY_TIMER: nothing else was sent for 5 us. -/
def execMateAckOnlyTimer (dt : Nat) (s : State) : Host.Outcome State Fault Refusal :=
  let s := advance dt s
  .next (if running s && due s.mate.ackDue s.hk && linkTalks s then applyRate (sendHeartbeat true s) else s)

/-- The same packet or record as a dropped burst. -/
def sameMsg (b c : SeqBurst) : Bool := b.type == c.type && b.msg == c.msg

/-- An unacknowledged burst is sent again, or dropped with its whole packet or record after the eighth retry. -/
def resend (u : Unacked) (s : State) : State :=
  if u.tries < 8 then
    let s := s.modMate fun m => { m with unacked := m.unacked.map fun v =>
      if v.seq = u.seq then { v with at_ := s.hk, tries := v.tries + 1 } else v }
    mateCount 0x0B06 1 (sendBurst u.b.type 2 u.seq u.b.payload s)
  else
    let s := s.modMate fun m => { m with unacked := m.unacked.filter fun v => !sameMsg v.b u.b,
                                         queue := m.queue.filter fun b => !sameMsg b u.b }
    pumpMate 8 (mateCount 0x0B07 1 s)

/-- MATE_RETRANSMIT_TIMER: the oldest burst not acknowledged for 20 us. -/
def execMateRetransmitTimer (dt : Nat) (s : State) : Host.Outcome State Fault Refusal :=
  let s := advance dt s
  .next (match s.mate.unacked.find? fun u => decide (u.at_ + usT 20 ≤ s.hk) with
    | some u => if running s && s.mate.st == .up then resend u s else s
    | none => s)

/-- MATE_SEGMENT_TIMEOUT: 10 ms from the first segment. -/
def execMateSegmentTimeout (dt : Nat) (s : State) : Host.Outcome State Fault Refusal :=
  let s := advance dt s
  let late (j : Join) : Bool := decide (j.from_ + msT 10 ≤ s.hk)
  .next (if running s then
      mateCount 0x0B07 (s.mate.joins.filter late).length
        (s.modMate fun m => { m with joins := m.joins.filter fun j => !late j })
    else s)

/-! ## Configuration mirroring (R355) -/

/-- The bytes MAP_DIGEST covers. -/
def mapBytes (s : State) (p : Lp) : List Byte :=
  ((hostPorts.filter fun n => (hpCfg s n).line == p).map fun n =>
    let c := hpCfg s n
    [w8 n, w8 (b01 c.enable), w8 c.type, w8 c.laneRate, w8 c.firstSlot]).flatten

/-- The mirror record of a port, as four words (log entry 46). -/
def mirrorRecord (s : State) (p : Lp) : List Word :=
  let a := (s.aps p).cfg
  let m := (s.port p).mode
  [w32 (a.group * 2 ^ 24 + a.role * 2 ^ 16), w32 (modeWord m.granted), w32 (modeWord m.requested), crc32c (mapBytes s p)]

/-- The port of a group. -/
def groupPort (s : State) (g : Nat) : Option Lp := lineports.find? fun p => g != 0 && (s.aps p).cfg.group == g

def mateRecord (s : State) (g : Nat) : Option (List Word) := SMap.get none s.mate.mateMirror g

/-- INTEROP, RATE, CIPHER or CLIENT of the granted words, or the digests, differ. -/
def mirrorDiffers (s : State) (g : Nat) : Bool :=
  match groupPort s g, mateRecord s g with
  | some p, some r =>
    let o := mirrorRecord s p
    ((o.getD 1 0 ^^^ r.getD 1 0) &&& 0x000600FE#32) != 0 || o.getD 3 0 != r.getD 3 0
  | _, _ => false

/-- The second towards a change of MIRROR_MISMATCH runs while the condition and the alarm differ. -/
def mirrorTimer (g : Nat) (s : State) : State :=
  let want := mirrorDiffers s g
  let on := raised s 0x8B13 0x90 g
  let old := SMap.get none s.mate.mirror g
  let t := if want == on then none else match old with | some t => some t | none => some (s.hk + secT 1)
  s.modMate fun m => { m with mirror := SMap.set none m.mirror g t }

/-- MATE_MIRROR_TIMER: a change of a record's content, or 1 s since it was sent. -/
def execMateMirrorTimer (p : Lp) (dt : Nat) (s : State) : Host.Outcome State Fault Refusal :=
  let s := advance dt s
  let g := (s.aps p).cfg.group
  let r := mirrorRecord s p
  let last := match p with | .lp0 => s.mate.sentMirror.lp0 | .lp1 => s.mate.sentMirror.lp1
  let need := match last with | some (o, t) => o != r || decide (t + secT 1 ≤ s.hk) | none => true
  .next (if running s && decide (g ≠ 0) && need then
      let s := mirrorTimer g s
      if s.mate.st = .up then
        let s := s.modMate fun m => { m with
          sentMirror := match p with
            | .lp0 => { m.sentMirror with lp0 := some (r, s.hk) }
            | .lp1 => { m.sentMirror with lp1 := some (r, s.hk) },
          queue := m.queue ++ [⟨4, (r.map wordBytesBE).flatten, s.hk⟩] }
        pumpMate 8 s
      else s
    else s)

/-- MIRROR_MISMATCH_TIMER. -/
def execMirrorMismatchTimer (group : Nat) (dt : Nat) (s : State) : Host.Outcome State Fault Refusal :=
  let s := advance dt s
  .next (if running s && due (SMap.get none s.mate.mirror group) s.hk then
      let s := s.modMate fun m => { m with mirror := SMap.set none m.mirror group none }
      pump (alarmIf (mirrorDiffers s group) 0x8B13 0x90 group [w32 group] s)
    else s)

/-! ## Reception (R344, R345, R351, R353, R354) -/

/-- The receiver hears bursts: the link is not DISABLED and the receiver is awake. -/
def mateHears (s : State) : Bool := running s && s.mate.st != .disabled && !s.mate.asleep

/-- MATE_CANDIDATE: the 128 symbols a correlator took for the end of a preamble. 6 dB above the burst being received captures the
receiver; of candidates in one symbol time of 7 GBd the stronger is taken, on equal strength the higher rate (Table 13.6). -/
def execMateCandidate (rate : Nat) (samples : List Int) (dt : Nat) (s : State) : Host.Outcome State Fault Refusal :=
  let s := advance dt s
  let c := (preambleCorr samples).toNat
  let take (s : State) : State := s.modMate fun m => { m with cand := some (rate, c, s.hk) }
  .next (if mateHears s && decide (rate ≤ 2) && isCandidate samples then
      match s.mate.cand with
      | none => take s
      | some (r0, c0, t0) =>
        if 7 * t0 / 192 = 7 * s.hk / 192 then
          if c0 < c ∨ (c0 = c ∧ r0 < rate) then take s else s
        else if above6dB c c0 then mateCount 0x0B05 1 (take s)
        else s
    else s)

/-- MATE_SFD_TIMEOUT: the candidate is abandoned 160 symbols after it. -/
def execMateSfdTimeout (dt : Nat) (s : State) : Host.Outcome State Fault Refusal :=
  let s := advance dt s
  .next (match s.mate.cand with
    | some (r, _, t) =>
      if running s && decide (160 * 192 ≤ (s.hk - t) * (7 * 2 ^ r)) then
        mateCount 0x0B04 1 (s.modMate fun m => { m with cand := none })
      else s
    | none => s)

/-- One APS record of 8 bytes. -/
def apsRecord (b : List Byte) : ApsRec :=
  let x := (b.getD 4 0).toNat
  { bytes := b.take 4, sf := bit x 7, sd := bit x 6, request := x % 16 }

/-- The mate's records of the device's groups. -/
def takeAps (b : List Byte) (s : State) : State :=
  let rs := [b.take 8, (b.drop 8).take 8]
  let s := lineports.foldl (fun s p =>
    let g := (s.aps p).cfg.group
    let r := rs.find? fun r => g != 0 && (r.getD 3 0).toNat == g
    s.modAps p fun a => { a with mate := r.map apsRecord }) s
  apsBoth (s.modMate fun m => { m with apsAt := some s.hk })

/-- ACK: bursts up to the acknowledged one are done. -/
def takeAck' (ack : Nat) (s : State) : State :=
  if s.mate.unacked.any fun u => u.seq == ack then
    s.modMate fun m => { m with unacked := (m.unacked.dropWhile fun u => u.seq != ack).drop 1 }
  else s

/-- The bytes of a whole joined packet. -/
def joined (j : Join) : Option (List Byte) :=
  match j.last with
  | none => none
  | some n =>
    let parts := (List.range (n + 1)).map fun i => (j.parts.find? fun x => x.1 == i).map fun x => x.2
    if parts.all fun o => o.isSome then some ((parts.map fun o => o.getD []).flatten) else none

/-- A COMMAND segment is joined; a whole packet goes to the mate port's receive queue, or is discarded while the port is
disabled (R353). -/
def takeSegment (b : List Byte) (s : State) : State :=
  let h := beNat (b.take 4)
  let id := bits h 24 8
  let idx := bits h 16 8
  let old := match s.mate.joins.find? fun j => j.id == id with
    | some j => j
    | none => { id, from_ := s.hk, parts := [], last := none }
  let j : Join := { old with parts := old.parts ++ [(idx, b.drop 4)], last := if bit h 0 then some idx else old.last }
  let rest := s.mate.joins.filter fun j => j.id != id
  match joined j with
  | some bs =>
    let s := s.modMate fun m => { m with joins := rest }
    if s.host.mateEnable then arrive .mate (bytesToWords bs) s else mateCount 0x0B08 1 s
  | none => s.modMate fun m => { m with joins := rest ++ [j] }

/-- A MIRROR record replaces the one of its group. -/
def takeMirror (b : List Byte) (s : State) : State :=
  let ws := (List.range 4).map fun i => w32 (beNat ((b.drop (4 * i)).take 4))
  let g := bits (ws.getD 0 0).toNat 24 8
  mirrorTimer g (s.modMate fun m => { m with mateMirror := SMap.set none m.mateMirror g (some ws) })

/-- A sequenced burst: taken in order, acknowledged within 5 us. -/
def takeSequenced (type seq : Nat) (b : List Byte) (s : State) : State :=
  let next := (s.mate.rxSeq + 1) % 256
  let s := s.modMate fun m => { m with ackDue := match m.ackDue with | some t => some t | none => some (s.hk + usT 5) }
  if seq = next then
    let s := s.modMate fun m => { m with rxSeq := seq }
    if type = 3 then takeSegment b s else takeMirror b s
  else s

/-- NEXT_RATE: the announced rate; a device that has sent and received a HEARTBEAT carrying it transmits at it (R356). -/
def takeNextRate (type next : Nat) (s : State) : State :=
  let s := if bit next 7 && decide (next % 4 < s.mate.rate) then
      s.modMate fun m => { m with nextRate := some (next % 4), rateSeen := m.rateSeen || type == 1 }
    else s
  applyRate s

/-- GOODBYE: MATE_DOWN at once, RESUME (R349). -/
def takeGoodbye (b : List Byte) (s : State) : State :=
  toResume (mateDown (dropJoins (s.modMate fun m => { m with goodbye := beNat (b.take 4) })))

/-- A good burst on a link that is UP or in RESUME. -/
def takeBurst (bs : List Byte) (s : State) : State :=
  let f (i : Nat) : Nat := (bs.getD i 0).toNat
  let b := (bs.drop 8).take (f 4 * 256 + f 5)
  let type := f 0
  if type = 5 then takeGoodbye b s
  else
    let s := s.modMate fun m => { m with partnerSleep := bit (f 1) 0, partnerMargin := f 7 }
    let s := if s.mate.st = .resume then linkUp s else s
    let s := takeNextRate type (f 6) (takeAck' (f 3) s)
    let s := if type = 1 then
        takeAps b (s.modMate fun m => { m with 
          peer := (b.getD 16 0).toNat, expect := if bit (f 1) 2 then m.expect else some (s.hk + usT 100) })
      else if type = 2 then takeAps b s
      else if type = 3 ∨ type = 4 then takeSequenced type (f 2) b s
      else s
    pumpMate 8 s

/-- A good burst in TRAINING: a HEARTBEAT at the granted rate completes the attempt. -/
def takeTraining (rate : Nat) (bs : List Byte) (s : State) : State :=
  if s.mate.phase = .confirm ∧ (bs.getD 0 0).toNat = 1 ∧ rate = s.mate.granted then takeBurst bs (linkUp s) else s

/-- SFD found: the burst is good when LENGTH and TYPE are valid and the CRC checks (R342). -/
def burstGood (bs : List Byte) : Bool :=
  let f (i : Nat) : Nat := (bs.getD i 0).toNat
  let len := f 4 * 256 + f 5
  decide (12 ≤ bs.length) && decide (len ≤ 2048) && decide (bs.length = 12 + len) && within (f 0) 1 6
    && crc32c (bs.take (8 + len)) == w32 (beNat (bs.drop (8 + len)))

/-- The receive margin and the CRC outcomes after a burst; MARGIN is sent as 0 while they are poor (R356). -/
def judgeLink (margin : Nat) (good : Bool) (s : State) : State :=
  s.modMate fun m =>
    let low := if margin < 8 then (match m.lowFrom with | some t => some t | none => some s.hk) else none
    let crcs := ((!good) :: m.crcs).take 32
    { m with margin, lowFrom := low, crcs,
             poor := decide (4 ≤ (crcs.filter id).length)
               || (match low with | some t => decide (t + msT 10 ≤ s.hk) | none => false) }

/-- MATE_BURST_RECEIVED: the SFD after a candidate was found. A good burst other than GOODBYE clears MATE_DOWN (R349). -/
def execMateBurstReceived (b : RxBurst) (dt : Nat) (s : State) : Host.Outcome State Fault Refusal :=
  let s := advance dt s
  .next (match s.mate.cand with
    | some (r, _, _) =>
      if mateHears s && r == b.rate && sfdFound b.sfd then
        let bs := burstBack b.syms
        let good := burstGood bs
        let s := judgeLink b.margin good (s.modMate fun m => { m with cand := none, listenEnd := none })
        let s := if good then
            let s := mateCount 0x0B02 1 (s.modMate fun m => { m with lastGood := some s.hk })
            let s := if (bs.getD 0 0).toNat = 5 then s else mateBack s
            if s.mate.st = .training then takeTraining b.rate bs s else takeBurst bs s
          else mateCount 0x0B03 1 s
        let keep := keptAwake s 0x90
        pump (s.modMate fun m => { m with asleep := m.rxSleep == 1 && m.st == .up && m.expect.isSome && !keep })
      else s
    | none => s)

/-- MATE_RX_WAKE_TIMER: 2 us before the expected HEARTBEAT, for at most 5 us after it. -/
def execMateRxWakeTimer (dt : Nat) (s : State) : Host.Outcome State Fault Refusal :=
  let s := advance dt s
  .next (match s.mate.expect with
    | some t =>
      if running s && s.mate.asleep && decide (t ≤ s.hk + usT 2) then
        s.modMate fun m => { m with asleep := false, listenEnd := some (t + usT 5) }
      else s
    | none => s)

/-- MATE_RX_LISTEN_TIMEOUT: no HEARTBEAT came; the receiver sleeps until the next one. -/
def execMateRxListenTimeout (dt : Nat) (s : State) : Host.Outcome State Fault Refusal :=
  let s := advance dt s
  .next (if running s && due s.mate.listenEnd s.hk && s.mate.st == .up && s.mate.rxSleep == 1 then
      let keep := keptAwake s 0x90
      s.modMate fun m => { m with
        asleep := !keep, listenEnd := none,
        expect := m.expect.map fun t => if t ≤ s.hk then t + usT 100 else t }
    else s)

/-- MATE_WAKE_LEAD_DETECTED: the listener wakes the receiver; one that is awake takes it as noise. -/
def execMateWakeLeadDetected (dt : Nat) (s : State) : Host.Outcome State Fault Refusal :=
  let s := advance dt s
  .next (if running s && s.mate.asleep then
      s.modMate fun m => { m with asleep := false, listenEnd := some (s.hk + usT 5) }
    else s)

/-- MATE_RATE_DOWN: the primary announces the next lower rate when either end's MARGIN is 0. -/
def execMateRateDown (dt : Nat) (s : State) : Host.Outcome State Fault Refusal :=
  let s := advance dt s
  let m := s.mate
  let low := match m.lowFrom with | some t => decide (t + msT 10 ≤ s.hk) | none => false
  let poor := m.poor || low
  .next (if running s && m.st == .up then
      let s := s.modMate fun m => { m with poor := poor }
      if isPrimary s && decide (0 < m.rate) && m.nextRate.isNone && (poor || decide (m.partnerMargin = 0)) then
        s.modMate fun m => { m with nextRate := some (m.rate - 1), rateSent := false, rateSeen := false }
      else s
    else s)

/-- MATE_WAKE_PEER_TIMEOUT: no good burst 10 ms after the sequence ends. -/
def execMateWakePeerTimeout (dt : Nat) (s : State) : Host.Outcome State Fault Refusal :=
  let s := advance dt s
  .next (if running s && due s.mate.wakePeer s.hk then
      pump (completeAll 0x0B04 0x90 stOk 0 [1] (s.modMate fun m => { m with wakePeer := none }))
    else s)

/-! ## Opcodes -/

def isMateT (t : Nat) : Bool := t == 0x90

/-- ENABLE takes effect. -/
def mateEnable (on : Nat) (s : State) : State :=
  if on = 0 then
    let s := if s.mate.st = .disabled then s else mateOff (sendGoodbye 2 s)
    clearAlarm 0x8B12 0x90 0 [] (clearAlarm 0x8B11 0x90 0 [] s)
  else if s.mate.st = .disabled then startTraining s
  else s

/-- MATE_CONFIG. -/
def mateConfigOp : OpSpec where
  code := 0x0B01
  targets := isMateT
  flags := 14
  nparams := 1
  badParam := fun _ c => firstBad [selU c 0 0 1, selOk c 0 (c.port != .mate || c.w 4 != 0), selU c 1 0 2, selU c 2 0 1,
    selU c 3 0 255]
  resLen := fun _ _ _ => 4
  run := fun s _ c =>
    let m := s.mate
    let en := pick c 0 m.enable
    let sl := pick c 2 m.rxSleep
    let s := s.modMate fun m => { m with enable := en, rateMax := pick c 1 m.rateMax, rxSleep := sl,
                                         retries := pick c 3 m.retries, asleep := m.asleep && sl == 1 }
    let s := if en = m.enable then s else mateEnable en s
    okRes s [w32 en, w32 s.mate.rateMax, w32 sl, w32 s.mate.retries]
def execMateConfig (c : Cmd) (s : State) : Host.Outcome State Fault Refusal := .next (serve mateConfigOp c s)

/-- Words 3 to 8 of MATE_STATUS. -/
def mateStatusWords (s : State) : List Word :=
  let m := s.mate
  let ago := match m.lastGood with | some t => min 0xFFFFFFFF ((s.hk - t) / usT 1) | none => 0xFFFFFFFF
  [w32 (mateNum m.st + m.rate * 2 ^ 2 + onBit (mateSilent s) 4 + onBit m.partnerSleep 5 + onBit (!isPrimary s) 6),
   w32 (if m.poor then 0 else min 255 m.margin), w32 m.partnerMargin, w32 m.fails, w32 m.lastCause, w32 ago]

/-- MATE_STATUS. -/
def mateStatusOp : OpSpec where
  code := 0x0B02
  targets := isMateT
  flags := 8
  resLen := fun _ _ _ => 6
  run := fun s _ _ => okRes s (mateStatusWords s)
def execMateStatus (c : Cmd) (s : State) : Host.Outcome State Fault Refusal := .next (serve mateStatusOp c s)

/-- MATE_RETRAIN. -/
def mateRetrainOp : OpSpec where
  code := 0x0B03
  targets := isMateT
  run := fun s _ c =>
    if s.mate.st = .disabled then refuse s stBadState 0x0101
    else if c.port = .mate then refuse s stBadState 0x0102
    else { st := startTraining s, settled := false }
def execMateRetrain (c : Cmd) (s : State) : Host.Outcome State Fault Refusal := .next (serve mateRetrainOp c s)

/-- MATE_WAKE_PEER: the wake sequence lasts 400 us (R352). -/
def mateWakePeerOp : OpSpec where
  code := 0x0B04
  targets := isMateT
  run := fun s _ _ =>
    if !mateSilent s then refuse s stBadState 0x0100
    else if s.mate.st = .disabled then refuse s stBadState 0x0101
    else { st := mateCount 0x0B0A 1 (s.modMate fun m => { m with wakePeer := some (s.hk + usT 400 + msT 10) }),
           settled := false }
def execMateWakePeer (c : Cmd) (s : State) : Host.Outcome State Fault Refusal := .next (serve mateWakePeerOp c s)

/-- The four words of a record that MATE_MIRROR_READ returns. For one that does not exist the manual gives none: free values
(log entry 5). -/
def heldRecord (r : Option (List Word)) (s : State) : List Word × State :=
  match r with
  | some ws => (ws, s)
  | none => freeWs 4 s

/-- MATE_MIRROR_READ. -/
def mateMirrorReadOp : OpSpec where
  code := 0x0B05
  targets := isMateT
  flags := 8
  nparams := 1
  badParam := fun _ c => firstBad [(3, within (c.w 3) 1 255)]
  resLen := fun _ _ _ => 9
  run := fun s _ c =>
    let g := c.w 3
    let r := mateRecord s g
    let (own, s1) := heldRecord ((groupPort s g).map (mirrorRecord s)) s
    let (mate, s2) := heldRecord r s1
    okRes s2 (own ++ mate ++ [w32 (onBit r.isSome 0 + onBit (raised s 0x8B13 0x90 g) 1)])
def execMateMirrorRead (c : Cmd) (s : State) : Host.Outcome State Fault Refusal := .next (serve mateMirrorReadOp c s)

/-- MATE_COUNTERS (Table 13.11). -/
def mateCountersOp : OpSpec := countersOp 0x0B06 isMateT false false (idRange 0x0B01 0x0B0A)
def execMateCounters (c : Cmd) (s : State) : Host.Outcome State Fault Refusal := .next (serve mateCountersOp c s)

end Sys2Proof.Machine
end

