-- ==== Sys2Proof/Machine/Clock.lean ====
section
/-!
DEFINITION. Sys2Proof/Machine/Clock.lean: References, Holdover and Clock Outputs: qualification, switches, holdover, the
1-second tick, PPS, and the opcodes of Table 14.5 (R361 to R382).
-/
namespace Sys2Proof.Machine
open Sys2Proof

/-- State codes (CLK_STATUS). -/
def clkStNum : ClkSt → Nat
  | .freeRun => 0
  | .acquiring => 1
  | .locked => 2
  | .holdover => 3

/-- A candidate number, 15 for none. -/
def candNum (c : Option Nat) : Nat := c.getD 15

/-- The alarms of the state (Table 14.8). -/
def clkAlarms (s : State) : State :=
  let s := alarmIf (s.clk.st == .holdover) 0x8C10 0xA0 0 [] s
  let s := if s.clk.st = .holdover then s else clearAlarm 0x8C11 0xA0 0 [] s
  alarmIf (s.clk.st == .freeRun && s.clk.cands.any fun c => c.prio != 0) 0x8C12 0xA0 0 [] s

/-- The state and the selected candidate change, with EV_CLK_STATE and its cause word. -/
def setClk (st : ClkSt) (c : Option Nat) (cause : Word) (s : State) : State :=
  let k := s.clk
  if k.st = st ∧ k.selected = c then s
  else
    let s := s.modClk fun k => { k with st := st, selected := c }
    let s := if k.selected = c then s else ctrAdd s (sel 0xA0 0 0x0C01) 1
    clkAlarms (emit 0x8C01 0xA0
      [w32 (clkStNum k.st), w32 (clkStNum st), w32 (candNum k.selected), w32 (candNum c), cause] s)

/-! ## Holdover (R371 to R373) -/

/-- The windows a holdover uses, newest first: the 60 before the last 8. -/
def steadyWindows (k : Clk) : List Int := (k.history.drop 8).take 60

/-- Effective XO_AGING in 0.01 ppb per day and XO_TEMP in ppb (Table 14.3). -/
def xoGrade (k : ClkCfg) : Nat × Nat :=
  if k.grade = 0 then (k.aging, k.temp) else if k.grade = 1 then (500, 280) else if k.grade = 2 then (100, 20)
  else (10, 1)

/-- The mean of windows in 0.1 ppb as a frozen offset in ppb, rounded down. -/
def frozenOf (l : List Int) : Int := l.foldl (· + ·) 0 / (10 * (l.length : Int))

/-- FREEZE_ERR in 0.1 ppb, rounded down: the halves' means differ by it, plus 1 ppb. Of an odd number the older half has
one window less. -/
def freezeErrOf (l : List Int) : Nat :=
  let n := l.length
  let b := l.take (n - n / 2)
  let a := l.drop (n - n / 2)
  let d := (a.foldl (· + ·) 0) * (b.length : Int) - (b.foldl (· + ·) 0) * (a.length : Int)
  d.natAbs / max 1 (a.length * b.length) + 10

/-- The holdover budget in AON periods, none for never (R372). -/
def budgetOf (c : ClkCfg) (freezeErr : Nat) : Option Nat :=
  let (aging, temp) := xoGrade c
  let margin : Int := 10 * (c.limit : Int) - 10 * (temp : Int) - (freezeErr : Int)
  if margin ≤ 0 then some 0
  else if aging = 0 then none
  else some (ceilDiv (86400 * 32768 * 10 * margin.toNat) aging)

/-- AON periods since entry to holdover. -/
def holdElapsed (s : State) : Nat := match s.clk.entered with | some t => (s.now - t) / aonT 1 | none => 0

/-- The holdover budget is used up. -/
def budgetSpent (s : State) : Bool :=
  s.clk.st == .holdover && match s.clk.budget with | some t => decide (t ≤ holdElapsed s) | none => false

/-- HOLDOVER_EXPIRED follows the budget in HOLDOVER. -/
def checkBudget (s : State) : State :=
  if s.clk.st = .holdover then alarmIf (budgetSpent s) 0x8C11 0xA0 0 [] s else s

/-- HOLDOVER_ENTRY: holdover with a frozen offset, or FREE_RUN with fewer than 10 windows (R371). -/
def enterHoldover (cause : Word) (s : State) : State :=
  let l := steadyWindows s.clk
  if l.length < 10 then setClk .freeRun none cause s
  else
    let e := freezeErrOf l
    let s := ctrAdd (s.modClk fun k => { k with
      frozen := frozenOf l, freezeErr := e, budget := budgetOf k.cfg e, entered := some s.now })
      (sel 0xA0 0 0x0C02) 1
    checkBudget (setClk .holdover none cause s)

/-- A phase step modulo the comparison period of 1 ms, at most 500 us to either side (R370). -/
def wrapStep (ns : Int) : Int := (ns + 500000) % 1000000 - 500000

/-- The selection takes effect (R366, R369): `phase` is the phase step to the new candidate in ns (R370). -/
def performSwitch (cause : Word) (phase : Int) (s : State) : State :=
  let s := (endManual s).modClk fun k => { k with switching := none }
  match wanted s with
  | some i =>
    if s.clk.selected = some i then s
    else setClk (if s.clk.st = .locked then .locked else .acquiring) (some i) cause
      (s.modClk fun k => { k with phase := wrapStep phase })
  | none =>
    if clkTracks s || (s.clk.st == .freeRun && s.clk.mode == .holdover) then enterHoldover cause s else s

/-- CLK_SELECT takes effect; the phase step is not brought by the command: a free value until the next window. -/
def applySelect (m : ClkMode) (s : State) : State :=
  let (f, s) := freeW s
  performSwitch (w32 3) (sgn 32 f.toNat) (s.modClk fun k => { k with mode := m })

/-- CLK_SWITCH_COMPLETE; a CLK_SELECT that waited follows (Table 14.4). -/
def execClkSwitchComplete (phase : Int) (dt : Nat) (s : State) : Host.Outcome State Fault Refusal :=
  let s := advance dt s
  .next (match s.clk.switching with
    | some cause =>
      if running s then
        let s := performSwitch (w32 cause) phase s
        pump (match s.clk.modeNext with
          | some m => applySelect m (s.modClk fun k => { k with modeNext := none })
          | none => s)
      else s
    | none => s)

/-- CLK_LOCKED_REACHED: over one window the output was within ±10 ppb of the candidate. Table 14.7 has no
cause for it, so the cause word is a free value. -/
def execClkLockedReached (w : WindowDiff) (s : State) : Host.Outcome State Fault Refusal :=
  let s := advance w.dt s
  .next (if running s && s.clk.st == .acquiring && s.clk.switching.isNone && decide (w.diff.natAbs ≤ 100) then
      let (f, s) := freeW s
      pump (setClk .locked s.clk.selected f s)
    else s)

/-- HOLDOVER_TIMER_EXPIRY. -/
def execHoldoverTimerExpiry (dt : Nat) (s : State) : Host.Outcome State Fault Refusal :=
  let s := advance dt s
  .next (if running s && budgetSpent s then pump (checkBudget s) else s)

/-! ## Candidates (R361 to R365) -/

/-- The condition of Table 14.1 that the device itself knows of candidates 4 to 7. -/
def sourceGood (s : State) (i : Nat) : Bool :=
  if i = 4 then (match s.synce.1 with | some l => synceGood s l | none => false)
  else if i = 5 then (match s.synce.2 with | some l => synceGood s l | none => false)
  else if i = 6 then inTrack s .lp0 && !(s.port .lp0).conv.loop
  else if i = 7 then inTrack s .lp1 && !(s.port .lp1).conv.loop
  else true

/-- The frequency of a reference input over 1 ms, in edges of REF_FREQ_KHZ, is within ±1,000 ppm (Table 14.1). -/
def edgesGood (c : Cand) (edges : Nat) : Bool :=
  decide (1000 * (edges : Int) ≤ 1001 * (c.freq : Int)) && decide (999 * (c.freq : Int) ≤ 1000 * (edges : Int))

/-- A candidate's source delivers (Table 14.1): `edges` are those of the last 1 ms window of a reference input, none while no edge
came. -/
def delivering (s : State) (i : Nat) (edges : Option Nat) : Bool :=
  if i < 4 then (match edges with | some e => edgesGood (cand s i) e | none => false) else sourceGood s i

/-- REF_CANDIDATE_VALID: the candidate starts disqualified with no windows; the window in progress is not a whole one. -/
def execRefCandidateValid (look : CandLook) (dt : Nat) (s : State) : Host.Outcome State Fault Refusal :=
  let s := advance dt s
  let i := look.candidate
  let c := cand s i
  .next (if running s && decide (i < 8) && !c.valid && delivering s i look.edges then
      pump (setCand i { c with valid := true, qual := false, windows := [], part := true, wtr := none } s)
    else s)

/-- REF_CANDIDATE_INVALID: disqualified at once; the selected candidate's loss starts a switch. -/
def execRefCandidateInvalid (look : CandLook) (dt : Nat) (s : State) : Host.Outcome State Fault Refusal :=
  let s := advance dt s
  let i := look.candidate
  .next (if running s && decide (i < 8) && (cand s i).valid && !delivering s i look.edges then pump (candLost i s) else s)

/-- A candidate after a window with offset `o` in ppb. -/
def candWindow (k : ClkCfg) (hk : Nat) (o : Int) (c : Cand) : Cand :=
  if c.prio = 0 ∨ c.valid = false then c
  else if c.part then { c with part := false }
  else
    let c := { c with windows := (o :: c.windows).take 8 }
    let beyond := decide (50000 < o.natAbs) || match candSum c with
      | some t => decide (8 * 100 * k.disq < t.natAbs)
      | none => false
    let inside := match candSum c with | some t => decide (t.natAbs ≤ 8 * 100 * k.requal) | none => false
    if beyond then { c with qual := false, wtr := none }
    else if !c.qual && inside then
      { c with qual := true, once := true, wtr := if c.once && k.wtr != 0 then some (hk + secT k.wtr) else none }
    else c

/-- The pairs of selectable candidates of equal PRIORITY: 8 times the difference of their averages in ppb. -/
def rankPairs (s : State) : List Nat :=
  (List.range 8).flatMap fun i => (List.range i).filterMap fun j =>
    let a := cand s i
    let b := cand s j
    if selectable a && selectable b && a.prio == b.prio then
      match candSum a, candSum b with
      | some x, some y => some (x - y).natAbs
      | _, _ => none
    else none

/-- REF_DISAGREE (R367). -/
def disagreeAlarm (s : State) : State :=
  let d := 800 * s.clk.cfg.disagree
  if (rankPairs s).any fun x => decide (d < x) then raiseAlarm 0x8C14 0xA0 0 [] s
  else if (rankPairs s).all fun x => decide (10 * x ≤ 8 * d) then clearAlarm 0x8C14 0xA0 0 [] s
  else s

/-- QUALIFICATION_WINDOW_END: `offsets` of the candidates from XO in ppb, the cleaned clock's offset in 0.1 ppb, the phase
error in ns. -/
def execQualificationWindowEnd (offsets : List Int) (cleaned phase : Int) (dt : Nat) (s : State) :
    Host.Outcome State Fault Refusal :=
  let s := advance dt s
  .next (if running s && due s.clk.windowAt s.now then
      let old := s.clk.selected
      let was := selectedGood s
      let s := s.modClk fun k => { k with
        windowAt := k.windowAt.map (· + secT 1), lastOff := some cleaned,
        phase := if k.selected.isSome then phase else k.phase,
        history := if k.st = .acquiring ∨ k.st = .locked then (cleaned :: k.history).take 68 else k.history }
      let s := (List.range 8).foldl (fun s i =>
        let c := cand s i
        let d := candWindow s.clk.cfg s.hk (offsets.getD i 0) c
        let s := if c.qual && !d.qual then ctrAdd s (sel 0xA0 0 0x0C04) 1 else s
        setCand i d s) s
      let lost := was && match old with | some i => !(cand s i).qual | none => false
      pump (reselect (if lost then 1 else 2) (disagreeAlarm s))
    else s)

/-- CLK_WTR_EXPIRY. -/
def execClkWtrExpiry (i dt : Nat) (s : State) : Host.Outcome State Fault Refusal :=
  let s := advance dt s
  let c := cand s i
  .next (if running s && decide (i < 8) && due c.wtr s.hk then
      pump (reselect 2 (setCand i { c with wtr := none } s))
    else s)

/-! ## DARK (R374) -/

/-- Every candidate starts again disqualified with no windows (R363). A clock unit that entered DARK from ACQUIRING with too few
windows is in FREE_RUN (Table 14.4). -/
def restartCands (s : State) : State :=
  let s := if clkTracks s then setClk .freeRun none (w32 4) s else s
  (List.range 8).foldl (fun s i =>
    setCand i { cand s i with qual := false, windows := [], part := false, wtr := none, once := false } s)
    (s.modClk fun k => { k with windowAt := some (s.now + secT 1) })

/-! ## PPS_IN and the 1-second tick (R375, R376) -/

/-- PPS_IN becomes absent: the counter runs on from the last accepted edge; PPS_IN_LOSS. -/
def ppsAbsent (s : State) : State :=
  if s.clk.present then
    let s := s.modClk fun k => { k with
      present := false, run := 0, lastEdge := none, fromPps := false, changed := true,
      nextTick := match k.nextTick with | some t => some t | none => k.lastEdge.map (· + secT 1) }
    let s := ctrAdd s (sel 0xA0 0 0x0C07) 1
    if s.clk.pps.inEn = 1 then raiseAlarm 0x8C15 0xA0 0 [] s else s
  else s.modClk fun k => { k with run := 0, lastEdge := none }

/-- An accepted edge; from the third on PPS_IN is present and the edge is the tick. -/
def ppsAccept (s : State) : State :=
  let n := min 3 (s.clk.run + 1)
  let s := s.modClk fun k => { k with run := n, lastEdge := some s.now }
  if n < 3 then s
  else
    let first := !s.clk.present
    let s := s.modClk fun k => { k with
      present := true, fromPps := true, changed := k.changed || first, nextTick := some s.now }
    clearAlarm 0x8C15 0xA0 0 [] s

/-- PPS_IN_EDGE: an edge of the selected polarity of a pulse of at least 100 ns. It is accepted as the first of a presence
search, or within 1 s ± 100 us of the last accepted edge. A search that saw no edge in that time starts again. -/
def execPpsInEdge (rising : Bool) (widthNs dt : Nat) (s : State) : Host.Outcome State Fault Refusal :=
  let s := advance dt s
  let k := s.clk
  .next (if running s && k.pps.inEn == 1 && (rising == (k.pps.edge == 0)) && decide (100 ≤ widthNs) then
      pump (match k.lastEdge with
        | none => ppsAccept s
        | some t =>
          let gap := s.now - t
          if within gap (secT 1 - usT 100) (secT 1 + usT 100) then ppsAccept s
          else if !k.present && decide (secT 1 + usT 100 < gap) then ppsAccept (s.modClk fun k => { k with run := 0 })
          else ctrAdd s (sel 0xA0 0 0x0C06) 1)
    else s)

/-- PPS_IN_ABSENT_TIMEOUT. -/
def execPpsInAbsentTimeout (dt : Nat) (s : State) : Host.Outcome State Fault Refusal :=
  let s := advance dt s
  .next (if running s && s.clk.present && due (s.clk.lastEdge.map (· + (secT 1 + usT 100))) s.now then pump (ppsAbsent s)
    else s)

/-- PPS_OUT_PULSE: PPS_OUT rises at the offset after a tick and falls after its width (R377). -/
def execPpsOutPulse (dt : Nat) (s : State) : Host.Outcome State Fault Refusal :=
  let s := advance dt s
  let k := s.clk
  .next (if running s && k.ppsOut && due k.fallAt s.now then
      s.modClk fun k => { k with ppsOut := false, fallAt := none }
    else if running s && k.pps.outEn == 1 && !k.ppsOut && due k.riseAt s.now then
      s.modClk fun k => { k with
        ppsOut := true, riseAt := none, fallAt := k.riseAt.map (· + usT k.pps.width) }
    else s)

/-- CONV_CLIP of a channel after an interval in which the port sampled for `ticks` (R112): 384 GS/s are two samples a
tick. Only a whole interval clears it. -/
def clipAlarm (p : Lp) (ch ticks : Nat) (whole : Bool) (s : State) : State :=
  let n := 2 * ticks
  let clips := (s.port p).conv.clips.getD ch 0
  if n < 10000 * clips then raiseAlarm 0x8213 (lpT p) ch [w32 ch] s
  else if whole ∧ 100000 * clips < n then clearAlarm 0x8213 (lpT p) ch [w32 ch] s
  else s

/-- A port's converters at a boundary, at housekeeping time `at_`; the next interval begins. -/
def convSecond (b : Option Boundary) (at_ : Nat) (p : Lp) (s : State) : State :=
  let c := (s.port p).conv
  let ticks := c.clipTicks + (match c.clipFrom with | some t => at_ - t | none => 0)
  let s := match b with
    | some _ => (List.range 4).foldl (fun s ch => clipAlarm p ch ticks (c.clipWhole && c.clipFrom.isSome) s) s
    | none => s
  s.modConv p fun c => { c with
    clips := [0, 0, 0, 0], clipTicks := 0, clipFrom := c.clipFrom.map fun _ => at_, clipWhole := c.clipFrom.isSome }

/-- The estimates of a WARM spare on the port (R152). -/
def spareSecond (p : Lp) (m : PortSecond) (s : State) : State :=
  let d := (s.port p).dsp
  if !warmShadow s p || d.spareAcq.st != .track then s.modDsp p fun d => { d with spareWhole := false }
  else if !d.spareWhole then
    s.modDsp p fun d => { d with spareWhole := true, spareEst := { d.spareEst with vOsnr := false, vBer := false } }
  else
    let (f, s) := freeW s
    s.modDsp p fun d => { d with
      spareEst := secondEst m.spareSnr (snrTrxOf s p) (portSr s p) m.spareCorr m.spareCoded f d.spareEst }

/-- A line port's part of a boundary that closes `b`, none for the time before the first. -/
def portSecond (b : Option Boundary) (at_ : Nat) (p : Lp) (m : PortSecond) (s : State) : State :=
  let s := convSecond b at_ p s
  cryptoSecond p (fecSecond p (spareSecond p m (dspSecond p m.snr (pmLatch p b s))))

/-- The interval boundary at AON time `t` (R227, R228). -/
def boundary (t : Nat) (m : SecMeas) (s : State) : State :=
  let k := s.clk
  let b := k.lastTick.map fun l => { seq := (k.seq - 1) % 2 ^ 32, startUp := k.startUp, pps := k.fromPps,
                                     suspect := k.changed, length := t - l : Boundary }
  let s := if running s then
      let at_ := s.hk - (s.now - t)
      let s := portSecond b at_ .lp1 m.lp1 (portSecond b at_ .lp0 m.lp0 s)
      let s := tmSecond (match b with | some b => b.length / usT 1 | none => 1000000) s
      hostSecond m.host (gateBoundary (s.hk - (s.now - t)) (k.seq % 2 ^ 32) s)
    else s
  s.modClk fun k => { k with
    seq := k.seq + 1, lastTick := some t, changed := false,
    startUp := match s.pr.uptimeFrom with | some u => (t - u) / aonT 1 | none => 0 }

/-- ONE_SECOND_TICK: the tick at its due time. Within 500 ms of the last boundary a tick of a new source is no boundary
(R228). -/
def execOneSecondTick (m : SecMeas) (dt : Nat) (s : State) : Host.Outcome State Fault Refusal :=
  let s := advance dt s
  .next (match s.clk.nextTick with
    | some t =>
      if s.pr.powered && !s.pr.poreset && decide (t ≤ s.now) then
        let s := if s.clk.st = .holdover then ctrAdd s (sel 0xA0 0 0x0C03) 1 else s
        let early := s.clk.changed && match s.clk.lastTick with | some l => decide (t < l + msT 500) | none => false
        let s := if early then s else boundary t m s
        pump (s.modClk fun k => { k with
          nextTick := if k.present then none else some (t + secT 1),
          riseAt := if running s && k.pps.outEn == 1 then some (t + nsT k.pps.offset) else none })
      else s
    | none => s)

/-! ## Opcodes (Table 14.5) -/

/-- TARGET 0xA0. -/
def isClkT (t : Nat) : Bool := t == 0xA0

/-- Words 4 to 16 of CLK_CONFIG. -/
def clkCfgWords (k : ClkCfg) : List Word :=
  [k.revertive, k.wtr, k.bw, k.pull, k.disq, k.requal, k.disagree, k.limit, k.grade, k.aging, k.temp,
   (xoGrade k).1, (xoGrade k).2].map w32

/-- The configuration after CLK_CONFIG. -/
def clkCfgOf (c : Cmd) (k : ClkCfg) : ClkCfg :=
  { revertive := pick c 0 k.revertive, wtr := pick c 1 k.wtr, bw := pick c 2 k.bw, pull := pick c 3 k.pull,
    disq := pick c 4 k.disq, requal := pick c 5 k.requal, disagree := pick c 6 k.disagree,
    limit := pick c 7 k.limit, grade := pick c 8 k.grade, aging := pick c 9 k.aging, temp := pick c 10 k.temp }

/-- REQUAL must stay 5 below DISQ: the offending word. -/
def clkRangeBad (s : State) (_ : Nat) (c : Cmd) : Option Nat :=
  let k := clkCfgOf c s.clk.cfg
  if k.disq < k.requal + 5 then some (if bit (c.w 3) 5 then 9 else 8) else none

/-- CLK_CONFIG. REQUAL must stay 5 below DISQ. A change in HOLDOVER recomputes T from the entry (R372). -/
def clkConfigOp : OpSpec where
  code := 0x0C01
  targets := isClkT
  flags := 14
  nparams := 1
  badParam := fun _ c => firstBad [selU c 0 0 1, selU c 1 0 3600, selU c 2 1 1000, selU c 3 100 20000, selU c 4 10 500,
    selU c 5 5 495, selU c 6 1 200, selU c 7 1 10000, selU c 8 0 3, selU c 9 0 100000, selU c 10 0 10000]
  unitBad := clkRangeBad
  resLen := fun _ _ _ => 14
  run := fun s t c =>
    let k := clkCfgOf c s.clk.cfg
    match clkRangeBad s t c with
    | some w => refuse s stBadParam w
    | none =>
      let s := s.modClk fun u => { u with cfg := k, budget := budgetOf k u.freezeErr }
      okRes (reselect 3 (checkBudget s)) (0 :: clkCfgWords k)
def execClkConfig (c : Cmd) (s : State) : Host.Outcome State Fault Refusal := .next (serve clkConfigOp c s)

/-- CLK_CAND_CONFIG (R362). A PRIORITY that changes from 0 starts qualification. -/
def clkCandConfigOp : OpSpec where
  code := 0x0C02
  targets := isClkT
  flags := 14
  nparams := 2
  badParam := fun _ c => firstBad [(4, within (c.w 4) 0 7), sel5 c 0 0 15,
    (6, !bit (c.w 3) 1 || (decide (c.w 4 < 4) && (sel5 c 1 1 800000).2))]
  resLen := fun _ _ _ => 4
  run := fun s _ c =>
    let i := c.w 4
    let o := cand s i
    let n := { o with prio := pick5 c 0 o.prio, freq := pick5 c 1 o.freq }
    let n := if o.prio = 0 ∧ n.prio ≠ 0 then { n with qual := false, windows := [], part := true, wtr := none } else n
    let s := clkAlarms (setCand i n s)
    okRes (reselect 3 s) [0, 0, w32 n.prio, w32 n.freq]
def execClkCandConfig (c : Cmd) (s : State) : Host.Outcome State Fault Refusal := .next (serve clkCandConfigOp c s)

/-- CLK_SELECT modes. -/
def clkModeNum : ClkMode → Nat
  | .auto => 0
  | .manual _ => 1
  | .holdover => 2

/-- A signed value saturating to 32 bits. -/
def sat32 (i : Int) : Word := wI (max (-(2 ^ 31 : Int)) (min (2 ^ 31 - 1) i))

/-- Words 3 to 6 of CLK_STATUS, and of DEV_STATUS with TARGET 0xA0. Before any window the offset of word 4 is a free
value. -/
def clkStatusHead (s : State) : List Word × State :=
  let k := s.clk
  let w3 := clkStNum k.st + candNum k.selected * 2 ^ 3 + onBit (k.selected.isSome && decide (1000 < k.phase.natAbs)) 7
    + clkModeNum k.mode * 2 ^ 8 + onBit (raised s 0x8C14 0xA0 0) 10 + onBit (raised s 0x8C11 0xA0 0) 11
    + onBit k.fromPps 12 + onBit k.present 13
  let (f, s) := freeW s
  ([w32 w3, (match k.lastOff with | some o => wI (o / 10) | none => f), wI k.frozen, w32 k.freezeErr], s)

/-- CLK_STATUS. Outside HOLDOVER the elapsed time and T, and without a selected candidate the phase error, are free
values. -/
def clkStatusOp : OpSpec where
  code := 0x0C03
  targets := isClkT
  flags := 8
  resLen := fun _ _ _ => 25
  run := fun s _ _ =>
    let k := s.clk
    let (h, s) := clkStatusHead s
    let (f, s) := freeWs 5 s
    let hold := k.st == .holdover
    let t := match k.budget with | some t => uptimeWords t | none => [0xFFFFFFFF, 0xFFFFFFFF]
    let (avg, s) := (List.range 8).foldl (fun (a : List Word × State) i =>
      let (w, s) := candAvg (cand a.2 i) a.2
      (a.1 ++ [w], s)) ([], s)
    okRes s (h ++ (if hold then uptimeWords (holdElapsed s) ++ t else f.take 4)
      ++ [if k.selected.isSome then sat32 k.phase else f.getD 4 0]
      ++ (List.range 8).map (fun i => w32 (candBits s (cand s i))) ++ avg)
def execClkStatus (c : Cmd) (s : State) : Host.Outcome State Fault Refusal := .next (serve clkStatusOp c s)

/-- CLK_SELECT (R368). While a switch is in progress it is applied when that completes. -/
def clkSelectOp : OpSpec where
  code := 0x0C04
  targets := isClkT
  flags := 14
  nparams := 1
  badParam := fun _ c => firstBad [(3, within (c.w 3) 0 2),
    (4, c.w 3 != 1 || (decide (1 < c.params.length) && within (c.w 4) 0 7))]
  resLen := fun _ _ _ => 2
  run := fun s _ c =>
    let m : ClkMode := if c.w 3 = 0 then .auto else if c.w 3 = 1 then .manual (c.w 4) else .holdover
    if c.w 3 = 1 ∧ ¬ selectable (cand s (c.w 4)) then refuse s stBadState 0x0100
    else if c.w 3 = 2 ∧ s.clk.st ≠ .holdover ∧ (steadyWindows s.clk).length < 10 then refuse s stBadState 0x0101
    else
      let s := if s.clk.switching.isSome then s.modClk fun k => { k with modeNext := some m } else applySelect m s
      okRes s [w32 (clkModeNum s.clk.mode), w32 (candNum s.clk.selected)]
def execClkSelect (c : Cmd) (s : State) : Host.Outcome State Fault Refusal := .next (serve clkSelectOp c s)

/-- A clock output is squelched (R378). -/
def squelched (s : State) (o : ClkOut) : Bool :=
  (bit o.squelch 0 && s.clk.st == .freeRun) || (bit o.squelch 1 && s.clk.st == .holdover)
    || (bit o.squelch 2 && raised s 0x8C11 0xA0 0)

/-- CLK_OUT_CONFIG. -/
def clkOutConfigOp : OpSpec where
  code := 0x0C05
  targets := isClkT
  flags := 6
  nparams := 2
  badParam := fun _ c => firstBad [(4, within (c.w 4) 0 1), sel5 c 0 0 1, sel5 c 1 0 1, sel5 c 2 1 800000,
    sel5 c 3 0 7]
  resLen := fun _ _ _ => 7
  run := fun s _ c =>
    let i := c.w 4
    let o := s.clk.outs.getD i {}
    let o := { enable := pick5 c 0 o.enable, source := pick5 c 1 o.source, freq := pick5 c 2 o.freq,
               squelch := pick5 c 3 o.squelch : ClkOut }
    let s := s.modClk fun k => { k with outs := k.outs.set i o }
    okRes s [0, 0, w32 o.enable, w32 o.source, w32 o.freq, w32 o.squelch, w32 (b01 (squelched s o))]
def execClkOutConfig (c : Cmd) (s : State) : Host.Outcome State Fault Refusal := .next (serve clkOutConfigOp c s)

/-- PPS_CONFIG: another polarity or PPS_IN_EN 0 ends the presence of PPS_IN; PPS_OUT_EN 0 takes PPS_OUT low. -/
def ppsConfigOp : OpSpec where
  code := 0x0C06
  targets := isClkT
  flags := 6
  nparams := 1
  badParam := fun _ c => firstBad [selU c 0 0 1, selU c 1 0 1, selU c 2 0 1, selU c 3 0 999999, selU c 4 1 500000]
  resLen := fun _ _ _ => 6
  run := fun s _ c =>
    let o := s.clk.pps
    let n := { inEn := pick c 0 o.inEn, edge := pick c 1 o.edge, outEn := pick c 2 o.outEn, offset := pick c 3 o.offset,
               width := pick c 4 o.width : PpsCfg }
    let s := s.modClk fun k => { k with pps := n }
    let s := if n.inEn = 0 ∨ n.edge ≠ o.edge then ppsAbsent s else s
    let s := if n.inEn = 0 then clearAlarm 0x8C15 0xA0 0 [] s else s
    let s := if n.outEn = 0 then s.modClk fun k => { k with riseAt := none, fallAt := none, ppsOut := false } else s
    okRes s ([0, n.inEn, n.edge, n.outEn, n.offset, n.width].map w32)
def execPpsConfig (c : Cmd) (s : State) : Host.Outcome State Fault Refusal := .next (serve ppsConfigOp c s)

/-- CLK_COUNTERS (R381). -/
def clkCountersOp : OpSpec := countersOp 0x0C07 isClkT false false (idRange 0x0C01 0x0C07)
def execClkCounters (c : Cmd) (s : State) : Host.Outcome State Fault Refusal := .next (serve clkCountersOp c s)

/-! ## Entry to DARK and wake -/

/-- The clock unit is gated on entry to DARK (R374): cause 4; its pins are not driven (R377). -/
def clkDark (s : State) : State :=
  let s := ppsAbsent s
  let s := s.modClk fun k => { k with
    switching := none, modeNext := none, riseAt := none, fallAt := none, ppsOut := false, windowAt := none }
  if s.clk.st = .locked ∨ (s.clk.st = .acquiring ∧ 10 ≤ (steadyWindows s.clk).length) then enterHoldover (w32 4) s else s

end Sys2Proof.Machine
end

