-- ==== Sys2Proof/Machine/Conv.lean ====
section
/-!
DEFINITION. Sys2Proof/Machine/Conv.lean: Line Converters and the Chuck: slices, calibration, converter alarms, synthesiser,
loss of signal, chuck routes, CONV_LOOP, the sample tap, and the opcodes of Table 4.9.
-/
namespace Sys2Proof.Machine
open Sys2Proof

/-! ## Slices and converter alarms -/

/-- A slice of a channel. -/
def sliceOf (s : State) (p : Lp) (ch i : Nat) : Slice := SMap.get {} (s.port p).conv.slices (100 * ch + i)

def setSlice (s : State) (p : Lp) (ch i : Nat) (v : Slice) : State :=
  s.modConv p fun c => { c with slices := SMap.set {} c.slices (100 * ch + i) v }

/-- N: slices of a channel in its pool (R97). -/
def poolN (s : State) (p : Lp) (ch : Nat) : Nat :=
  ((List.range 100).filter fun i => (sliceOf s p ch i).st == 0).length

/-- Some strobe of a channel is out of limits (R102). -/
def strobeOut (s : State) (p : Lp) (ch : Nat) : Bool :=
  (List.range 100).any fun i => SMap.get 0 (s.port p).conv.strobeBad (100 * ch + i) == 3

/-- The conditions under which CONV_FAIL may clear (Table 4.12). -/
def convGood (s : State) (p : Lp) (ch : Nat) : Bool :=
  decide (92 ≤ poolN s p ch) && !strobeOut s p ch && !(s.port p).conv.dacBad.getD ch false

/-- The alarms of a channel follow its pool, strobes and DAC (Tables 4.3 and 4.12): CONV_FAIL before the clear of
CONV_DEGRADED, which it supersedes (Table 4.8). -/
def chanAlarms (p : Lp) (ch : Nat) (s : State) : State :=
  let t := lpT p
  let n := poolN s p ch
  let d := [w32 ch]
  let s := if n = 96 then raiseAlarm 0x8210 t ch d s else if 97 ≤ n then clearAlarm 0x8210 t ch d s else s
  let good := convGood s p ch
  let s := if !good then
      raiseAlarm 0x8212 t ch d (s.modConv p fun c => { c with failClear := setAt c.failClear ch none })
    else if raised s 0x8212 t ch && ((s.port p).conv.failClear.getD ch none).isNone then
      s.modConv p fun c => { c with failClear := setAt c.failClear ch (some (s.hk + secT 1)) }
    else s
  let fail := raised s 0x8212 t ch
  let deg := within n 92 95 && !fail
  let s := if deg && !raised s 0x8211 t ch then tapEvent p 1 (raiseAlarm 0x8211 t ch d s)
    else if raised s 0x8211 t ch && (decide (96 ≤ n) || fail) then clearAlarm 0x8211 t ch d s else s
  refreshPort p s

/-- The slice sequencer of a channel changes from an instant on; the instants it left without a slice count in
INTERP_COUNT up to there. -/
def modSeq (p : Lp) (ch : Nat) (f : Nat → Seq → Seq) (s : State) : State :=
  let q := (s.port p).conv.seqs.getD ch {}
  if q.slots = [] then s
  else
    let q' := f (max q.base (instantsAt s.hk)) q
    lpCount (s.modConv p fun c => { c with seqs := setAt c.seqs ch q' }) p 0x0205 (gapsBetween q q.base q'.base)

/-- INTERP_COUNT is brought up to the present. -/
def settleInterp (p : Lp) (s : State) : State :=
  (List.range 4).foldl (fun s ch => modSeq p ch (fun k q => seqFrom q k) s) s

/-- A slice leaves the pool (R98) at its next free instant; cause 0 calibration, 1 self-check, 2 host. -/
def removeSlice (p : Lp) (ch i cause : Nat) (s : State) : State :=
  let x := sliceOf s p ch i
  if x.st ≠ 0 then s
  else
    let st := if cause = 0 then 1 else if cause = 1 then 3 else 2
    let s := lpCount (setSlice s p ch i { x with st }) p 0x0206 (if (s.port p).conv.synth = .locked then 1 else 0)
    let s := modSeq p ch (fun k q => seqRemove i k q) s
    chanAlarms p ch (emit 0x8201 (lpT p) [w32 ch, w32 i, w32 cause, w32 (poolN s p ch)] s)

/-- A slice's update is outside the removal limits of Table 4.2. -/
def sliceOut (u : SliceCal) : Bool :=
  decide (460 < u.off.natAbs) || decide (16 < u.resOff.natAbs) || decide (5400 < u.gain.natAbs)
    || decide (200 < u.resGain.natAbs) || decide (90 < u.bw.natAbs) || decide (1350 < u.skew.natAbs)
    || decide (50 < u.resSkew.natAbs)

/-- One slice's background update (R101): a correction is held to its range of Table 4.2. -/
def updateSlice (p : Lp) (ch : Nat) (u : SliceCal) (s : State) : State :=
  let x := sliceOf s p ch u.slice
  let bad := if sliceOut u then min 3 (x.bad + 1) else 0
  let s := setSlice s p ch u.slice { x with
    cal := some (satI (-512) 512 u.off, satI (-6000) 6000 u.gain, satI (-1500) 1500 u.skew, satI (-100) 100 u.bw), bad }
  if bad = 3 then removeSlice p ch u.slice 0 s else s

/-- One strobe's background update (R101, R102). -/
def updateStrobe (p : Lp) (ch : Nat) (u : StrobeCal) (s : State) : State :=
  let k := 100 * ch + u.phase
  s.modConv p fun c =>
    let out := decide (1350 < u.skew.natAbs) || decide (50 < u.res.natAbs)
    { c with strobes := SMap.set none c.strobes k (some (satI (-1500) 1500 u.skew)),
             strobeBad := SMap.set 0 c.strobeBad k (if out then min 3 (SMap.get 0 c.strobeBad k + 1) else 0) }

/-- Synthesiser locked. -/
def synthLocked (s : State) (p : Lp) : Bool := (s.port p).conv.synth == .locked

/-- Clipped samples of a channel: CLIP_COUNT and the count of the interval (R112, R125). -/
def countClips (p : Lp) (ch n : Nat) (s : State) : State :=
  lpCount (s.modConv p fun c => { c with clips := setAt c.clips ch (c.clips.getD ch 0 + n) }) p (0x0201 + ch) n

/-- BACKGROUND_CAL_UPDATE (R101, R102, R104): one update of each slice, in index order (Table 4.8), and strobe, with the
samples that clipped since the last one (log entry 25). -/
def backgroundCalUpdate (p : Lp) (ch : Nat) (us : List SliceCal) (ss : List StrobeCal) (s : State) : State :=
  if running s && synthLocked s p && decide (ch < 4) then
    let s := (List.range 100).foldl (fun s i =>
      match us.find? fun u => u.slice == i with | some u => updateSlice p ch u s | none => s) s
    let s := (ss.filter fun u => decide (u.phase < 100)).foldl (fun s u => updateStrobe p ch u s) s
    chanAlarms p ch (countClips p ch (us.map (·.clips)).sum s)
  else s
def execBackgroundCalUpdate (p : Lp) (ch : Nat) (us : List SliceCal) (ss : List StrobeCal) (dt : Nat) (s : State) :
    Host.Outcome State Fault Refusal := .next (backgroundCalUpdate p ch us ss (advance dt s))

/-- SLICE_SELF_CHECK_FAULT (R98). -/
def execSliceSelfCheckFault (p : Lp) (ch i dt : Nat) (s : State) : Host.Outcome State Fault Refusal :=
  let s := advance dt s
  .next (if running s && decide (ch < 4) && decide (i < 100) then removeSlice p ch i 1 s else s)

/-- The engine whose samples drive a port's DACs: in a hold it is the one whose last sample the chuck repeats (R107);
3 none. -/
def dacSource (s : State) (p : Lp) : Nat :=
  match dacOut s p with
  | .engine n => n
  | .held n => n
  | _ => 3

/-- DAC_SELF_CHECK (R105), with the inputs of the transmit samples since the last check that may saturate (R130, log entry
25). -/
def execDacSelfCheck (p : Lp) (ch : Nat) (look : DacCheck) (dt : Nat) (s : State) : Host.Outcome State Fault Refusal :=
  let s := advance dt s
  .next (if running s && synthLocked s p && decide (ch < 4) then
      let d := (s.port p).dsp
      let sat := (look.wins.filter fun w => txSaturates d.txOld d.tx (fadeCycles d s.hk) ch w).length
      let s := if dacSource s p = 3 then s else lpCount s p 0x030A sat
      chanAlarms p ch (s.modConv p fun c => { c with dacBad := setAt c.dacBad ch (!look.pass) })
    else s)

/-- CONV_FAIL_CLEAR_TIMER (R126). -/
def execConvFailClearTimer (p : Lp) (ch dt : Nat) (s : State) : Host.Outcome State Fault Refusal :=
  let s := advance dt s
  .next (if running s && due ((s.port p).conv.failClear.getD ch none) s.hk && convGood s p ch then
      chanAlarms p ch (clearAlarm 0x8212 (lpT p) ch [w32 ch]
        (s.modConv p fun c => { c with failClear := setAt c.failClear ch none }))
    else s)

/-! ## Line synthesiser (R96) -/

/-- The synthesiser starts if it is stopped; the converters begin from the foreground corrections (R100). -/
def startSynth (p : Lp) (s : State) : State :=
  if (s.port p).conv.synth = .stopped then
    s.modConv p fun c => { c with
      synth := .starting (s.hk + usT 150), strobes := [], strobeBad := [],
      slices := (List.range 400).foldl (fun m i =>
        SMap.set {} m i { SMap.get {} m i with cal := none, bad := 0 }) c.slices }
  else s

/-- The sampling of a port ends: its sequencers stop, and the interval of R112 is no whole one. -/
def endSampling (p : Lp) (s : State) : State :=
  (settleInterp p s).modConv p fun c => { c with
    seqs := [{}, {}, {}, {}], clipFrom := none, clipWhole := false,
    clipTicks := c.clipTicks + (match c.clipFrom with | some t => s.hk - t | none => 0) }

/-- The sampling of a port begins at the lock of its synthesiser: the order of R97 over each pool. -/
def beginSampling (p : Lp) (s : State) : State :=
  s.modConv p fun c => { c with
    seqs := (List.range 4).map fun ch =>
      seqStart ((List.range 100).filter fun i => (sliceOf s p ch i).st == 0) (instantsAt s.hk),
    clipFrom := some s.hk }

/-- The synthesiser stops; this is no loss of lock, and SYNTH_UNLOCK clears. -/
def stopSynth (p : Lp) (s : State) : State :=
  if (s.port p).conv.synth = .stopped then s
  else refreshPort p (clearAlarm 0x8214 (lpT p) 0 []
    ((endSampling p s).modConv p fun c => { c with synth := .stopped, synthHold := none, los := false }))

/-- The synthesiser is needed while the port is in service or an engine shadows it. -/
def steerSynth (p : Lp) (s : State) : State :=
  if inService s p || (shadowEng s p).isSome then startSynth p s else stopSynth p s

/-- SYNTH_UNLOCK is raised: the tap aborts and the port is in signal fail. -/
def synthUnlock (p : Lp) (s : State) : State :=
  let s := (endSampling p s).modConv p fun c => { c with synth := .unlocked, synthHold := none }
  let s := if raised s 0x8214 (lpT p) 0 then s else lpCount s p 0x0208 1
  refreshPort p (tapAbort p 0 (raiseAlarm 0x8214 (lpT p) 0 [] s))

/-- SYNTH_LOCK (R96, R110): at the lock the power detectors start with the condition cleared. -/
def execSynthLock (p : Lp) (dt : Nat) (s : State) : Host.Outcome State Fault Refusal :=
  let s := advance dt s
  .next (if !running s then s
    else match (s.port p).conv.synth with
    | .starting _ | .unlocked =>
      let s := (beginSampling p s).modConv p fun c => { c with
        synth := .locked, los := false, detSince := s.hk,
        synthHold := if raised s 0x8214 (lpT p) 0 then some (s.hk + msT 1) else none }
      acqSignal p (refreshPort p s)
    | _ => s)

/-- SYNTH_LOCK_LOSS (R96). -/
def execSynthLockLoss (p : Lp) (dt : Nat) (s : State) : Host.Outcome State Fault Refusal :=
  let s := advance dt s
  .next (if running s && synthLocked s p then synthUnlock p s else s)

/-- SYNTH_LOCK_TIMEOUT (R96): 150 us after its start. -/
def execSynthLockTimeout (p : Lp) (dt : Nat) (s : State) : Host.Outcome State Fault Refusal :=
  let s := advance dt s
  .next (match (s.port p).conv.synth with
    | .starting e => if running s && decide (e ≤ s.hk) then synthUnlock p s else s
    | _ => s)

/-- SYNTH_LOCK_HOLD_EXPIRY (R126): lock held for 1 ms. -/
def execSynthLockHoldExpiry (p : Lp) (dt : Nat) (s : State) : Host.Outcome State Fault Refusal :=
  let s := advance dt s
  .next (if running s && synthLocked s p && due (s.port p).conv.synthHold s.hk then
      refreshPort p (clearAlarm 0x8214 (lpT p) 0 [] (s.modConv p fun c => { c with synthHold := none }))
    else s)

/-! ## Loss of signal (R110, R111) -/

/-- LOS_CONDITION_RAISE: the channels' powers kept the received power below LOS_THRESHOLD for the spell's us, at least LOS_SET_TIME, since the detectors started. Every state but IDLE goes to WAIT_SIGNAL, unless CONV_LOOP keeps
the condition from being passed on (log entry 21). -/
def execLosConditionRaise (p : Lp) (x : PowerSpell) (dt : Nat) (s : State) : Host.Outcome State Fault Refusal :=
  let s := advance dt s
  let c := (s.port p).conv
  .next (if running s && synthLocked s p && !c.los && decide (powerLin x.powers < levelLin (c.cfg.losThr * 50))
      && decide (c.cfg.losSet ≤ x.lasted) && decide (c.detSince + usT x.lasted ≤ s.hk) then
      let s := refreshPort p (lpCount (s.modConv p fun c => { c with los := true }) p 0x0207 1)
      if c.loop then s
      else
        let s := if (s.port p).dsp.acq.st = .idle ∨ (s.port p).dsp.acq.st = .waitSignal then s
          else enterAcq p false .waitSignal s
        if (s.port p).dsp.spareAcq.st = .idle then s else enterAcq p true .waitSignal s
    else s)

/-- LOS_CONDITION_CLEAR: the received power stayed at or above LOS_THRESHOLD + LOS_HYST for the spell's us, at least
LOS_CLR_TIME. -/
def execLosConditionClear (p : Lp) (x : PowerSpell) (dt : Nat) (s : State) : Host.Outcome State Fault Refusal :=
  let s := advance dt s
  let c := (s.port p).conv
  .next (if running s && synthLocked s p && c.los
      && decide (levelLin ((c.cfg.losThr + c.cfg.losHyst) * 50) ≤ powerLin x.powers)
      && decide (10 * c.cfg.losClr ≤ x.lasted) && decide (c.detSince + usT x.lasted ≤ s.hk) then
      acqSignal p (refreshPort p (s.modConv p fun c => { c with los := false }))
    else s)

/-! ## CONV_CONFIG, CONV_STATUS -/

def convCfgWords (c : ConvCfg) : List Word :=
  [w32 c.rxMap, w32 c.txMap] ++ c.swing.map w32 ++ [wI c.losThr, w32 c.losHyst, w32 c.losSet, w32 c.losClr]

/-- CONV_CONFIG (R109, R110). -/
def convConfigOp : OpSpec where
  code := 0x0201
  targets := isLpT
  both := true
  flags := 15
  nparams := 10
  badParam := fun _ c =>
    firstBad ([5, 6, 7, 8].map (fun i => (i, within (c.w i) 300 900 && c.w i % 10 == 0))
      ++ [(9, withinI (sgn 32 (c.w 9)) (-80) (-12)), (10, within (c.w 10) 2 12), (11, within (c.w 11) 1 100),
          (12, within (c.w 12) 1 1000)])
  resLen := fun _ _ _ => 10
  run := fun s t c =>
    let cfg : ConvCfg := { rxMap := c.w 3 % 128, txMap := c.w 4 % 128, swing := [5, 6, 7, 8].map c.w,
                           losThr := sgn 32 (c.w 9), losHyst := c.w 10, losSet := c.w 11, losClr := c.w 12 }
    okRes (s.modConv (lpOfT t) fun x => { x with cfg := cfg }) (convCfgWords cfg)
def execConvConfig (c : Cmd) (s : State) : Host.Outcome State Fault Refusal := .next (serve convConfigOp c s)

/-- Alarm bits of CONV_STATUS word 13. -/
def convAlarmBits (s : State) (t : Nat) : Nat :=
  onBit (anyChan s 0x8210 t) 0 + onBit (anyChan s 0x8211 t) 1 + onBit (anyChan s 0x8212 t) 2
    + onBit (anyChan s 0x8213 t) 3 + onBit (raised s 0x8214 t 0) 4

/-- CONV_STATUS (R124). The channels' powers are measurements, free values of 16 bits (log entry 5); the received power
is their sum (R110). -/
def convStatusOp : OpSpec where
  code := 0x0202
  targets := isLpT
  both := true
  flags := 8
  resLen := fun _ _ _ => 11
  run := fun s t _ =>
    let p := lpOfT t
    let c := (s.port p).conv
    let (fs, s') := freeWs 4 s
    let ps := fs.map fun w => sgn 16 (w.toNat % 65536)
    okRes s' ([w32 (onBit (synthLocked s p) 0 + onBit c.los 1 + onBit c.loop 2)]
      ++ (List.range 4).map (fun ch => w32 (poolN s p ch)) ++ ps.map wI ++ [wI (receivedPower ps), w32 (convAlarmBits s t)])
def execConvStatus (c : Cmd) (s : State) : Host.Outcome State Fault Refusal := .next (serve convStatusOp c s)

/-! ## Slices by command -/

/-- A foreground correction: a free value within its range of Table 4.2 (R100, log entry 5). -/
def foreground (bound n : Nat) : Int := ((Config.freeWord n).toNat % (2 * bound + 1) : Int) - bound

/-- The corrections of a slice: offset in 1/64 LSB, gain in 0.001 %, skew in fs, bandwidth in 0.1 %. -/
def sliceCal (s : State) (p : Lp) (ch i : Nat) : Int × Int × Int × Int :=
  match (sliceOf s p ch i).cal with
  | some x => x
  | none =>
    let b := (s.port p).conv.calBase + 5 * (100 * ch + i)
    (foreground 512 b, foreground 6000 (b + 1), foreground 1500 (b + 2), foreground 100 (b + 3))

/-- The two words of a slice in CONV_SLICE_GET. -/
def sliceWords (s : State) (p : Lp) (ch i : Nat) : List Word :=
  let (off, gain, skew, bw) := sliceCal s p ch i
  [w32 (uns 16 off + uns 16 gain * 2 ^ 16),
   w32 (uns 16 skew + uns 8 bw * 2 ^ 16 + (sliceOf s p ch i).st * 2 ^ 24)]

/-- The strobe skew of a phase. -/
def strobeWord (s : State) (p : Lp) (ch i : Nat) : Word :=
  match SMap.get none (s.port p).conv.strobes (100 * ch + i) with
  | some k => w32 (uns 16 k)
  | none => w32 (uns 16 (foreground 1500 ((s.port p).conv.calBase + 5 * (100 * ch + i) + 4)))

/-- CONV_SLICE_GET. -/
def convSliceGetOp : OpSpec where
  code := 0x0203
  targets := isLpT
  nparams := 2
  badParam := fun _ c => firstBad [(3, within (c.w 3) 0 3), (4, within (c.w 4) 0 1)]
  resLen := fun _ _ c => if c.w 4 = 0 then 200 else 100
  run := fun s t c =>
    let p := lpOfT t
    okRes s (if c.w 4 = 0 then ((List.range 100).map (sliceWords s p (c.w 3))).flatten
      else (List.range 100).map (strobeWord s p (c.w 3)))
def execConvSliceGet (c : Cmd) (s : State) : Host.Outcome State Fault Refusal := .next (serve convSliceGetOp c s)

/-- Slices named by a mask of four words from word `w` of a command. -/
def maskSlices (c : Cmd) (w : Nat) : List Nat :=
  (List.range 100).filter fun i => bit (c.w (w + i / 32)) (i % 32)

/-- Four mask words of a list of slices. -/
def slicesMask (l : List Nat) : List Word :=
  (List.range 4).map fun i => w32 (l.foldl (fun a x => if x / 32 = i then a ||| 2 ^ (x % 32) else a) 0)

/-- CONV_SLICE_RESTORE (R103): a check of 2 ms. -/
def convSliceRestoreOp : OpSpec where
  code := 0x0204
  targets := isLpT
  nparams := 5
  badParam := fun _ c => firstBad [(3, within (c.w 3) 0 3)]
  resLen := fun _ _ _ => 6
  run := fun s t c =>
    let p := lpOfT t
    if !synthLocked s p then refuse s stBadState 0x0105
    else { st := s.modConv p fun x => { x with restores := x.restores ++ [(c.w 3, maskSlices c 4, s.hk + msT 2)] },
           settled := false }
def execConvSliceRestore (c : Cmd) (s : State) : Host.Outcome State Fault Refusal :=
  .next (serve convSliceRestoreOp c s)

/-- A slice within limits rejoins the pool at its next free instant (R103). -/
def rejoinSlice (p : Lp) (ch : Nat) (s : State) (i : Nat) : State :=
  let x := sliceOf s p ch i
  if x.st = 0 then s
  else
    let s := modSeq p ch (fun k q => seqInsert i k q) (setSlice s p ch i { x with st := 0, bad := 0 })
    emit 0x8202 (lpT p) [w32 ch, w32 i, w32 (poolN s p ch)] s

/-- CONV_SLICE_RESTORE_DONE: the named slices found within limits rejoin; EV_CMD_DONE lists those still out. -/
def execConvSliceRestoreDone (p : Lp) (inLimits : List Nat) (dt : Nat) (s : State) :
    Host.Outcome State Fault Refusal :=
  let s := advance dt s
  .next (match (s.port p).conv.restores with
    | (ch, named, e) :: rest =>
      if running s && decide (e ≤ s.hk) then
        let s := s.modConv p fun x => { x with restores := rest }
        let s := (named.filter fun i => inLimits.contains i).foldl (rejoinSlice p ch) s
        let s := chanAlarms p ch s
        let still := named.filter fun i => (sliceOf s p ch i).st != 0
        pump (completeUnit 0x0204 (lpT p) stOk 0 ([w32 ch] ++ slicesMask still ++ [w32 (poolN s p ch)]) s)
      else s
    | [] => s)

/-- CONV_SLICE_RETIRE (R98). -/
def convSliceRetireOp : OpSpec where
  code := 0x0205
  targets := isLpT
  nparams := 2
  badParam := fun _ c => firstBad [(3, within (c.w 3) 0 3), (4, within (c.w 4) 0 99)]
  resLen := fun _ _ _ => 1
  run := fun s t c =>
    let p := lpOfT t
    let n := poolN s p (c.w 3)
    if (sliceOf s p (c.w 3) (c.w 4)).st ≠ 0 then okRes s [w32 n]
    else if n ≤ 92 then refuse s stBadState 0x0104
    else
      let s := removeSlice p (c.w 3) (c.w 4) 2 s
      okRes s [w32 (poolN s p (c.w 3))]
def execConvSliceRetire (c : Cmd) (s : State) : Host.Outcome State Fault Refusal :=
  .next (serve convSliceRetireOp c s)

/-! ## The chuck -/

/-- The self-loop in force on a port: source and receiver; CONV_LOOP, or LES in the LOOP phase of burnishing (R115). -/
def selfLoop (s : State) (p : Lp) : Option Nat :=
  let n := servingNum s p
  if (s.port p).conv.loop && decide (n ≠ 3) then some n
  else if s.prot.burn.phase == .loop && s.prot.burn.port == p then some 2
  else none

/-- The engines whose receivers take the port's ADC samples: one in a self-loop takes none (R113, R116). -/
def receivers (s : State) (p : Lp) : Nat :=
  if (s.port p).conv.loop then 0
  else (match servingEng s p with | some e => 2 ^ engNum e | none => 0)
    + (match shadowEng s p with
       | some e => if s.prot.burn.phase == .loop && s.prot.burn.port == p && e == .les then 0 else 2 ^ engNum e
       | none => 0)

/-- CHUCK_GET (R113, R115). -/
def chuckGetOp : OpSpec where
  code := 0x0206
  targets := isLpT
  both := true
  flags := 8
  resLen := fun _ _ _ => 4
  run := fun s t _ =>
    let p := lpOfT t
    okRes s [w32 (servingNum s p), w32 (receivers s p), w32 (dacSource s p),
      w32 (match selfLoop s p with | some n => n + n * 4 + 16 | none => 0)]
def execChuckGet (c : Cmd) (s : State) : Host.Outcome State Fault Refusal := .next (serve chuckGetOp c s)

/-- CONV_LOOP set or cleared (R116, R157): a commanded reacquisition. -/
def setLoop (p : Lp) (on : Bool) (s : State) : State :=
  if (s.port p).conv.loop = on then s
  else
    let s := refreshPort p (s.modConv p fun c => { c with loop := on })
    let again (spare : Bool) (s : State) : State :=
      if (acqOf s p spare).st = .idle then s
      else if !on && (s.port p).conv.los then enterAcq p spare .waitSignal s
      else if spare then startByLast p true s else startByOrder p s
    again true (again false s)

/-- CONV_LOOP. -/
def convLoopOp : OpSpec where
  code := 0x0207
  targets := isLpT
  flags := 6
  nparams := 1
  badParam := fun _ c => firstBad [(3, within (c.w 3) 0 1)]
  resLen := fun _ _ _ => 1
  run := fun s t c => okRes (setLoop (lpOfT t) (c.w 3 == 1) s) [w32 (c.w 3)]
def execConvLoop (c : Cmd) (s : State) : Host.Outcome State Fault Refusal := .next (serve convLoopOp c s)

/-! ## The sample tap by command -/

def tapOfCmd (c : Cmd) (t : Tap) : Tap :=
  { t with point := c.w 3, chMask := c.w 4, decim := c.w 5, format := c.w 6, bufLog2 := c.w 7, mode := c.w 8,
           trigger := c.w 9, evtMask := c.w 10 % 16, pre := c.w 11, configured := true }

/-- TAP_CONFIG (R117, R118). The other port's tap counts in the sums once a TAP_CONFIG has set it or it was armed (DESIGN
CHOICE, log entry 129). -/
def tapConfigOp : OpSpec where
  code := 0x0208
  targets := isLpT
  flags := 2
  nparams := 9
  badParam := fun _ c => firstBad [(3, within (c.w 3) 0 1), (4, within (c.w 4) 1 15), (5, within (c.w 5) 0 8),
    (6, within (c.w 6) 0 1), (7, within (c.w 7) 24 31), (8, within (c.w 8) 0 1), (9, within (c.w 9) 0 2),
    (11, within (c.w 11) 0 15)]
  resLen := fun _ _ _ => 10
  run := fun s t c =>
    let p := lpOfT t
    let old := (s.port p).conv.tap
    let o := (s.port p.other).conv.tap
    let n := tapOfCmd c old
    let counts := o.configured || o.st != .idle
    let rate (x : Tap) : Nat := tapChans x * 384 * tapB x * 2 ^ (8 - x.decim)
    let oRate := if counts then rate o else 0
    let oSize := if counts then tapSize o else 0
    if tapWriting old then refuse s stBadState 0x0101
    else if 1600 * 2 ^ 8 < rate n + oRate ∨ 2 ^ 31 < tapSize n + oSize then refuse s stBadState 0x0100
    else okRes (s.modTap p fun _ => n)
      ([w32 n.point, w32 n.chMask, w32 n.decim, w32 n.format, w32 n.bufLog2, w32 n.mode, w32 n.trigger, w32 n.evtMask,
        w32 n.pre, w32 (tapRate n)])
def execTapConfig (c : Cmd) (s : State) : Host.Outcome State Fault Refusal := .next (serve tapConfigOp c s)

/-- TAP_ARM (R121). -/
def tapArmOp : OpSpec where
  code := 0x0209
  targets := isLpT
  run := fun s t _ =>
    let p := lpOfT t
    if tapWriting (s.port p).conv.tap then refuse s stBadState 0x0101
    else if !inService s p then refuse s stBadState 0x0106
    else okRes (setTap p .armed 0 s) []
def execTapArm (c : Cmd) (s : State) : Host.Outcome State Fault Refusal := .next (serve tapArmOp c s)

/-- TAP_STOP (R121). -/
def tapStopOp : OpSpec where
  code := 0x020A
  targets := isLpT
  resLen := fun _ _ _ => 1
  run := fun s t _ =>
    let p := lpOfT t
    let s := if tapWriting (s.port p).conv.tap then setTap p .done 0 s else s
    okRes s [w32 (tapStNum (s.port p).conv.tap.st)]
def execTapStop (c : Cmd) (s : State) : Host.Outcome State Fault Refusal := .next (serve tapStopOp c s)

/-- TAP_STATUS. -/
def tapStatusOp : OpSpec where
  code := 0x020B
  targets := isLpT
  flags := 8
  resLen := fun _ _ _ => 8
  run := fun s t _ =>
    let x := (s.port (lpOfT t)).conv.tap
    let n := tapBytes x s.hk
    okRes s ([w32 (tapStNum x.st)] ++ nat64 (n % tapSize x) ++ nat64 (x.trigAt % tapSize x) ++ nat64 x.resetPos
      ++ [w32 (b01 (decide (tapSize x ≤ n)))])
def execTapStatus (c : Cmd) (s : State) : Host.Outcome State Fault Refusal := .next (serve tapStatusOp c s)

/-- A 64-bit parameter in words `n` (LO) and `n + 1` (HI). -/
def w64 (c : Cmd) (n : Nat) : Nat := c.w n + c.w (n + 1) * 2 ^ 32

/-- TAP_READ (R122) of the blocks of R120; a word with an uncorrectable HBM error reads 0xDEAD_DEAD. -/
def tapReadOp : OpSpec where
  code := 0x020C
  targets := isLpT
  nparams := 3
  badParam := fun s c =>
    let sz := tapSize (s.port (lpOfT c.target)).conv.tap
    firstBad [(3, w64 c 3 % 64 == 0 && decide (w64 c 3 < sz)),
      (5, within (c.w 5) 1 1016 && decide (w64 c 3 + 4 * c.w 5 ≤ sz))]
  resLen := fun _ _ c => 1 + c.w 5
  run := fun s t c =>
    let x := (s.port (lpOfT t)).conv.tap
    if tapWriting x then refuse s stBadState 0x0102
    else
      let n := w64 c 3 / 4
      okRes s (w32 (b01 (tapErrors x n (c.w 5) != 0)) :: tapWords x n (c.w 5))
def execTapRead (c : Cmd) (s : State) : Host.Outcome State Fault Refusal := .next (serve tapReadOp c s)

/-- TAP_DMA (R122). One that finds another in progress on the port waits for it (DESIGN CHOICE, log entry 130). -/
def tapDmaOp : OpSpec where
  code := 0x020D
  targets := isLpT
  nparams := 6
  badParam := fun s c =>
    let sz := tapSize (s.port (lpOfT c.target)).conv.tap
    firstBad [(3, w64 c 3 % 64 == 0), (5, decide (w64 c 5 < sz)),
      (7, w64 c 7 % 64 == 0 && decide (w64 c 5 + w64 c 7 ≤ sz))]
  resLen := fun _ _ _ => 2
  run := fun s t c =>
    let p := lpOfT t
    if tapWriting (s.port p).conv.tap then refuse s stBadState 0x0102
    else if c.port ≠ .pcie then refuse s stBadState 0x0103
    else { st := s.modTap p fun x => { x with dma := x.dma ++ [{ addr := w64 c 3, off := w64 c 5, len := w64 c 7 }] }, settled := false }
def execTapDma (c : Cmd) (s : State) : Host.Outcome State Fault Refusal := .next (serve tapDmaOp c s)

/-- TAP_TRIGGER (R121): source 0 IMMEDIATE, 1 SYNC, 2 + i the event of EVT_MASK[i]; only the configured source
triggers. -/
def execTapTrigger (p : Lp) (source dt : Nat) (s : State) : Host.Outcome State Fault Refusal :=
  let s := advance dt s
  .next (if !running s then s
    else if 2 ≤ source then tapEvent p (source - 2) s
    else if (s.port p).conv.tap.trigger = source then tapFire p s
    else s)

/-- TAP_CAPTURE_DONE (R121): a SINGLE capture is DONE once (16 - PRE)/16 of the buffer was written after the
trigger. -/
def execTapCaptureDone (p : Lp) (dt : Nat) (s : State) : Host.Outcome State Fault Refusal :=
  let s := advance dt s
  let t := (s.port p).conv.tap
  .next (if running s && t.st == .triggered && t.mode == 0
      && decide (t.trigAt + (16 - t.pre) * tapSize t / 16 ≤ tapBytes t s.hk) then setTap p .done 0 s else s)

/-- CONV_COUNTERS (Table 4.10). -/
def convCountersOp : OpSpec :=
  let op := countersOp 0x020E isLpT true false (idRange 0x0201 0x0208)
  { op with run := fun s t c => op.run (settleInterp (lpOfT t) s) t c }
def execConvCounters (c : Cmd) (s : State) : Host.Outcome State Fault Refusal := .next (serve convCountersOp c s)

/-- The decimator chains of a tap reset (R119): the buffer position at which its next sample goes is recorded, whether or
not it writes (DESIGN CHOICE, log entry 125). -/
def tapDecimReset (p : Lp) (s : State) : State :=
  s.modTap p fun t => { t with resetPos := tapBytes t s.hk % tapSize t }

end Sys2Proof.Machine
end

