-- ==== Sys2Proof/Machine/Monitor.lean ====
section
/-!
DEFINITION. Sys2Proof/Machine/Monitor.lean: the monitor converters: sequences, triggers, calibration, decimation, the buffer
and their opcodes (R383 to R394, R400 to R402).
-/
namespace Sys2Proof.Machine
open Sys2Proof

def State.modMon (s : State) (f : Mon → Mon) : State := { s with mon := f s.mon }

/-- Converter `i`. -/
def conv (s : State) (i : Nat) : MonConv := s.mon.convs.getD i {}

def modConv (i : Nat) (f : MonConv → MonConv) (s : State) : State :=
  s.modMon fun m => { m with convs := m.convs.set i (f (m.convs.getD i {})) }

/-- The four converters. -/
def convs4 : List Nat := [0, 1, 2, 3]

/-- Channel configuration (MON_CHAN_CONFIG). -/
def monChan (s : State) (ch : Nat) : MonChan := SMap.get {} s.mon.chans ch

def modChan (ch : Nat) (f : MonChan → MonChan) (s : State) : State :=
  s.modMon fun m => { m with chans := SMap.set {} m.chans ch (f (SMap.get {} m.chans ch)) }

/-- A converter's counter counts (R402). -/
def monCount (i id n : Nat) (s : State) : State := if n = 0 then s else ctrAdd s (sel 0xB0 i id) n

/-! ## Readings (R383) -/

/-- Channel `ch` reads a signed code. -/
def signedChan (s : State) (ch : Nat) : Bool := (monChan s ch).diff == 1

/-- The value of a 16-bit code of a channel: signed on a differential pair. -/
def codeValue (s : State) (ch code : Nat) : Int :=
  if signedChan s ch then sgn 16 code else ((code % 2 ^ 16 : Nat) : Int)

/-- What a code stands for (Table 15.1): volts on the inputs and rails in 1/65,536 V, degrees on the temperature channels in
1/200 °C. -/
def monReading (s : State) (ch code : Nat) : Int :=
  let v := codeValue s ch code
  if within ch 24 29 then v - 11000
  else if ch = 31 then 5 * v
  else if signedChan s ch then 5 * v
  else 5 * v / 2

/-! ## Sequences -/

/-- The outputs of a line port that run a bias loop. -/
def loopOuts (s : State) (p : Lp) : List Bias :=
  let b := match p with | .lp0 => s.mon.bias.lp0 | .lp1 => s.mon.bias.lp1
  if inService s p then b.outs.filter fun o => o.mode == 2 else []

/-- The distinct MON_INPUT channels of all loops, in channel order (R398). -/
def loopChannels (s : State) : List Nat :=
  (List.range 24).filter fun ch => (loopOuts s .lp0 ++ loopOuts s .lp1).any fun o => o.input == ch

/-- MC3 is loop-owned and `i` is MC3. -/
def isOwned (s : State) (i : Nat) : Bool := i == 3 && s.mon.owned

/-- The regular sequence a converter runs: channel and ACQ_CYCLES. -/
def regSeq (s : State) (i : Nat) : List (Nat × Nat) :=
  if isOwned s i then (loopChannels s).map fun ch => (ch, 15)
  else (conv s i).entries.take (conv s i).count

/-- The converter runs rounds back to back. -/
def continuous (s : State) (i : Nat) : Bool := isOwned s i || ((conv s i).running && (conv s i).trigger == 0)

/-- The converter is powered down (R389). -/
def monAsleep (s : State) (i : Nat) : Bool :=
  let k := conv s i
  k.pdMode == 1 && k.trigger != 0 && !isOwned s i && k.act == .idle && k.round.isNone && !k.injPending && !k.calAsked
    && !held s 0xB0

/-- Ticks of a conversion of an entry (R384). -/
def entryTicks (e : Nat × Nat) : Nat := hkT (e.2 + 35)

/-- Regular entry `j` starts at housekeeping time `t`. -/
def startRegular (i j t : Nat) (s : State) : State :=
  let e := (regSeq s i).getD j (0, 15)
  modConv i (fun k => { k with act := .regular j, round := some j, actEnd := t + entryTicks e }) s

/-- Injected entry `j` starts at housekeeping time `t`. -/
def startInjected (i j t : Nat) (s : State) : State :=
  modConv i (fun k => { k with act := .injected j, actEnd := t + entryTicks (k.injEntries.getD j (0, 15)) }) s

/-- A converter that has nothing in progress takes what is due at housekeeping time `t`: an injected sequence, then a
calibration, then the rest of a round, then a round that waited, then the next round of a continuous sequence (R386,
R387, R390). Regular work that was put off carries GAP. -/
def freeUp (i t : Nat) (s : State) : State :=
  let k := conv s i
  let putOff := k.round.isSome || k.queued || continuous s i
  let off (s : State) : State := if putOff then modConv i (fun k => { k with gap := true }) s else s
  if k.injPending then startInjected i 0 t (off s)
  else if k.calAsked then off (modConv i (fun k => { k with act := .calibrating, calAsked := false }) s)
  else match k.round with
    | some j =>
      if j < (regSeq s i).length then startRegular i j t s
      else startRegular i 0 t s
    | none =>
      if k.queued then startRegular i 0 t (modConv i (fun k => { k with queued := false }) s)
      else if continuous s i then startRegular i 0 t s
      else modConv i (fun k => { k with act := .idle }) s

/-- A round is triggered to start at `t`: it starts, waits for the converter to be free, or is an overrun (R386, R390,
Table 15.9). -/
def trigRound (i t : Nat) (s : State) : State :=
  let k := conv s i
  let cal := k.calAsked || k.act == .calibrating
  if k.queued then monCount i 0x0D03 1 s
  else if cal then modConv i (fun k => { k with queued := true, gap := true }) s
  else if k.round.isSome then monCount i 0x0D03 1 s
  else if k.act != .idle then modConv i (fun k => { k with queued := true, gap := true }) s
  else startRegular i 0 t s

/-- The members of a group start together, 2 cycles after the trigger cycle `t`, or 302 when a member is powered down
(R388). -/
def trigGroup (trigger t : Nat) (s : State) : State :=
  let members := convs4.filter fun i => (conv s i).running && (conv s i).trigger == trigger && !isOwned s i
  let start := t + hkT (if members.any (monAsleep s) then 302 else 2)
  members.foldl (fun s i => trigRound i start s) s

/-- An injected sequence is triggered at `t` (R387). -/
def trigInject (i t : Nat) (s : State) : State :=
  let k := conv s i
  if k.injPending then monCount i 0x0D03 1 s
  else
    let up := if monAsleep s i then t + hkT 300 else t
    let s := modConv i (fun k => { k with injPending := true }) s
    if k.act = .idle then startInjected i 0 up s else s

/-- An injected trigger of a converter's timer in the cycle in which a regular round is triggered goes first (Table 15.9). -/
def injFirst (t : Nat) (s : State) (i : Nat) : State :=
  let k := conv s i
  if k.injTrigger = 1 ∧ !isOwned s i ∧ k.injAt ≤ t then
    trigInject i k.injAt (modConv i (fun k => { k with injAt := k.injAt + hkT k.injPeriod }) s)
  else s

/-- MON_REGULAR_TRIGGER: a converter's timer or the group timer is due. -/
def execMonRegularTrigger (trig : MonTrig) (dt : Nat) (s : State) : Host.Outcome State Fault Refusal :=
  let s := advance dt s
  .next (match trig with
    | .timer i =>
      let k := conv s i
      if running s && decide (i < 4) && k.running && k.trigger == 1 && !isOwned s i && decide (k.timerAt ≤ s.hk) then
        let s := injFirst k.timerAt s i
        let up := if monAsleep s i then k.timerAt + hkT 300 else k.timerAt
        trigRound i up (modConv i (fun k => { k with timerAt := k.timerAt + hkT k.period }) s)
      else s
    | .group =>
      if running s && (convs4.any fun i => (conv s i).running && (conv s i).trigger == 3)
          && decide (s.mon.groupAt ≤ s.hk) then
        let s := (convs4.filter fun i => (conv s i).running && (conv s i).trigger == 3).foldl (injFirst s.mon.groupAt) s
        trigGroup 3 s.mon.groupAt (s.modMon fun m => { m with groupAt := m.groupAt + hkT m.groupPeriod })
      else s)

/-- MON_INJ_TRIGGER: INJ_PERIOD of a converter is due. -/
def execMonInjTrigger (i dt : Nat) (s : State) : Host.Outcome State Fault Refusal :=
  let s := advance dt s
  let k := conv s i
  .next (if running s && decide (i < 4) && k.injTrigger == 1 && !isOwned s i && decide (k.injAt ≤ s.hk) then
      trigInject i k.injAt (modConv i (fun k => { k with injAt := k.injAt + hkT k.injPeriod }) s)
    else s)

/-- What a SYNC TRIGGER pulse decoded now does in the monitor unit: injected sequences first, then the SYNC group. -/
def monSync (s : State) : State :=
  let s := convs4.foldl (fun s i =>
    if (conv s i).injTrigger = 2 ∧ ¬ isOwned s i then trigInject i s.hk s else s) s
  trigGroup 2 s.hk s

/-! ## Results (R385, R391 to R394) -/

/-- A result word (Table 15.3). -/
def resultWord (align width : Nat) (v : Int) (entry : Nat) (settle gap sat : Bool) : Word :=
  if align = 0 then wI v
  else w32 (uns width v * 2 ^ (32 - width) + entry % 16 + onBit settle 4 + onBit gap 5 + onBit sat 6)

/-- Taps of half-band responses HB_A to HB_E and of FIR responses 0 to 7 (Tables 15.4 and 15.5). -/
def hbTaps (r : Nat) : Nat := [7, 11, 19, 31, 47].getD r 0
def firTaps (r : Nat) : Nat := [1, 31, 63, 127, 255, 255, 31, 15].getD r 1

/-- Inputs a stream needs until no delay line holds a cleared value. -/
def chainSpan (k : MonConv) : Nat :=
  (List.range k.stages).foldl (fun a i => a + hbTaps (bits k.resp (4 * i) 3) * 2 ^ i) 0 + firTaps k.fir * 2 ^ k.stages

/-- The chain is bypassed: RESULT_WIDTH 16 (R385). -/
def bypassed (k : MonConv) : Bool := k.stages == 0 && k.fir == 0 && k.firDecim == 1

/-- Words of a region. -/
def regionWords (k : MonConv) : Nat := k.region * 256

/-- EV_MON_WATERMARK, once until consumption (R394). -/
def watermark (i : Nat) (s : State) : State :=
  let k := conv s i
  let w := s.mon.watermark
  if w ≠ 0 ∧ w ≤ k.unread ∧ ¬ k.marked then
    emit 0x8D01 0xB0 [w32 i, w32 k.unread] (modConv i (fun k => { k with marked := true }) s)
  else s

/-- An output word goes to its region; a full region follows OVERRUN_MODE. A region of 0 KiB holds nothing. -/
def writeRegion (i : Nat) (w : Word) (s : State) : State :=
  let k := conv s i
  let n := regionWords k
  if k.unread < n then
    watermark i (modConv i (fun k => { k with
      words := SMap.set 0 k.words k.write w, write := (k.write + 1) % n, unread := k.unread + 1 }) s)
  else if n = 0 ∨ s.mon.overrun = 1 then monCount i 0x0D06 1 s
  else monCount i 0x0D05 1 (modConv i (fun k => { k with
      words := SMap.set 0 k.words k.write w, write := (k.write + 1) % n, read := (k.read + 1) % n }) s)

/-- MON_LIMIT of a channel (Table 15.13). -/
def limitCheck (ch code : Nat) (s : State) : State :=
  let m := monChan s ch
  if (m.lo ≠ 0 ∧ code < m.lo) ∨ (m.hi ≠ 65535 ∧ m.hi < code) then
    raiseAlarm 0x8D10 0xB0 ch [w32 ch] (modChan ch (fun m => { m with within := 0 }) s)
  else
    let n := min 16 (m.within + 1)
    let s := modChan ch (fun m => { m with within := n }) s
    if n = 16 then clearAlarm 0x8D10 0xB0 ch [w32 ch] s else s

/-- The coefficients of a half-band response of `n` taps in 1/2^32: symmetrical, with a DC gain of 1 (Table 15.4). -/
def hbCoefs (r : Nat) : List Int :=
  let h := (List.range (hbTaps r / 2)).map (Config.hbRom r)
  h ++ [2 ^ 32 - 2 * h.foldl (· + ·) 0] ++ h.reverse

/-- A filter's output before rounding; a delay line shorter than the response is cleared beyond. -/
def filterSum (coefs line : List Int) : Int := (coefs.zip line).foldl (fun a x => a + x.1 * x.2) 0

/-- Saturation to the chain's 24 bits: the value, and how many saturations. -/
def sat24 (v : Int) : Int × Nat :=
  let y := satI (-8388608) 8388607 v
  (y, b01 (y != v))

/-- A value enters a delay line of `n` taps. -/
def shiftLine (n : Nat) (x : Int) (line : List Int) : List Int := (x :: line).take n

/-- Input `n` of a stream passes through the half-band stages `l`: the delay lines, what comes out of the last, and the
saturations (R391). -/
def halfBands (k : MonConv) (n : Nat) : List Nat → Int → List (List Int) → List (List Int) × Option Int × Nat
  | [], x, ls => (ls, some x, 0)
  | i :: r, x, ls =>
    let h := bits k.resp (4 * i) 3
    let line := shiftLine (hbTaps h) x (ls.getD i [])
    let ls := setAt ls i line
    if n % 2 ^ (i + 1) = 0 then
      let y := sat24 (roundAway 32 (filterSum (hbCoefs h) line) * 2 ^ bits k.shift (4 * i) 3)
      let (ls, o, m) := halfBands k n r y.1 ls
      (ls, o, m + y.2)
    else (ls, none, 0)

/-- The FIR's part (R392): response 0 is the identity. -/
def firPart (k : MonConv) (x : Int) (ls : List (List Int)) : List (List Int) × Int × Nat :=
  if k.fir = 0 then (ls, x, 0)
  else
    let line := shiftLine (firTaps k.fir) x (ls.getD 8 [])
    let y := sat24 (roundAway 15 (filterSum ((List.range (firTaps k.fir)).map fun j => (Config.firRom k.fir j).toInt) line))
    (setAt ls 8 line, y.1, y.2)

/-- A regular code enters the chain of its entry; every 2^STAGES * FIR_DECIM-th gives an output word (R385, R391 to R394). The
contents of the response ROMs are open (log entry 154). -/
def chainInput (i entry ch code : Nat) (gap : Bool) (s : State) : State :=
  let k := conv s i
  let st := k.streams.getD entry {}
  let n := st.count + 1
  let (ls, o, m) := halfBands k n (List.range k.stages) (codeValue s ch code) st.lines
  let (ls, o, m) := match o with
    | some x =>
      let (ls, y, q) := firPart k x ls
      (ls, some y, m + q)
    | none => (ls, none, m)
  let g := st.gap || gap
  let q := st.sat || m != 0
  let s := monCount i 0x0D04 m s
  let put (st : MonStream) (s : State) : State := modConv i (fun k => { k with streams := k.streams.set entry st }) s
  match o, decide (n % (2 ^ k.stages * k.firDecim) = 0) with
  | some y, true =>
    let v := if signedChan s ch then y else max 0 y
    let s := monCount i 0x0D04 (b01 (v != y)) (monCount i 0x0D07 (b01 g) (put { count := n, lines := ls } s))
    let settle := (k.stages != 0 || k.fir != 0) && decide (n < chainSpan k)
    writeRegion i (resultWord k.align (if bypassed k then 16 else 24) v entry settle g (q || v != y)) s
  | _, _ => put { count := n, gap := g, sat := q, lines := ls } s

/-- A regular conversion of entry `j` ended with `code`. -/
def regularDone (i j code : Nat) (s : State) : State :=
  let k := conv s i
  let sq := regSeq s i
  let (ch, _) := sq.getD j (0, 15)
  let s := limitCheck ch (code % 2 ^ 16) (monCount i 0x0D01 1 s)
  let s := if isOwned s i then s else chainInput i j ch code k.gap s
  modConv i (fun k => { k with
    gap := false, act := .idle, round := if k.round.isSome && decide (j + 1 < sq.length) then some (j + 1) else none }) s

/-- An injected conversion of entry `j` ended with `code`: its result register, and the event after the last (R387). -/
def injectedDone (i j code : Nat) (s : State) : State :=
  let k := conv s i
  let w := resultWord k.align 16 (codeValue s (k.injEntries.getD j (0, 15)).1 code) j false false false
  let s := monCount i 0x0D02 1 (modConv i (fun k => { k with
    act := .idle, injResults := k.injResults.set j w, fresh := k.fresh ||| 2 ^ j }) s)
  if !k.injPending then s
  else if j + 1 < k.injCount then startInjected i (j + 1) k.actEnd s
  else
    let s := modConv i (fun k => { k with injPending := false }) s
    if k.injEvent = 1 then emit 0x8D02 0xB0 (w32 i :: (conv s i).injResults.take k.injCount) s else s

/-- MON_CONVERSION_DONE. -/
def execMonConversionDone (i code dt : Nat) (s : State) : Host.Outcome State Fault Refusal :=
  let s := advance dt s
  let k := conv s i
  .next (if running s && decide (i < 4) && decide (k.actEnd ≤ s.hk) then
      match k.act with
      | .regular j => pump (freeUp i k.actEnd (regularDone i j code s))
      | .injected j =>
        let s := injectedDone i j code s
        pump (if (conv s i).act = .idle then freeUp i k.actEnd s else s)
      | _ => s
    else s)

/-- A decimator reset at this housekeeping cycle (R393). -/
def decimReset (s : State) : State :=
  let s := convs4.foldl (fun s i => modConv i (fun k => { k with
    streams := List.replicate 16 {}, timerAt := s.hk + hkT k.period }) s) s
  let s := s.modMon fun m => { m with groupAt := s.hk + hkT m.groupPeriod }
  ctrAdd (tapDecimReset .lp1 (tapDecimReset .lp0 s)) (sel 0xB0 0 0x0D08) 1

/-! ## Opcodes (Table 15.10) -/

/-- TARGET 0xB0. -/
def isMonT (t : Nat) : Bool := t == 0xB0

/-- MON_CHAN_CONFIG. -/
def monChanConfigOp : OpSpec where
  code := 0x0D01
  targets := isMonT
  flags := 6
  nparams := 2
  badParam := fun _ c => firstBad [(4, within (c.w 4) 0 31),
    sel5 c 0 0 (if c.w 4 % 2 = 0 ∧ c.w 4 ≤ 22 then 1 else 0), sel5 c 1 0 65535, sel5 c 2 0 65535]
  resLen := fun _ _ _ => 5
  run := fun s _ c =>
    let ch := c.w 4
    let o := monChan s ch
    let n := { o with diff := pick5 c 0 o.diff, lo := pick5 c 1 o.lo, hi := pick5 c 2 o.hi }
    okRes (modChan ch (fun _ => n) s) [0, 0, w32 n.diff, w32 n.lo, w32 n.hi]
def execMonChanConfig (c : Cmd) (s : State) : Host.Outcome State Fault Refusal := .next (serve monChanConfigOp c s)

/-- A selected sequence entry in word 5 + i: ACQ_CYCLES in range, and no odd channel of a differential pair (R383). -/
def entryOk (s : State) (c : Cmd) (i : Nat) : Nat × Bool :=
  let w := c.w (5 + i)
  let ch := w % 32
  (5 + i, !bit (c.w 3) i || (decide (i + 2 < c.params.length) && within (bits w 16 11) 15 2000
    && !(ch % 2 == 1 && decide (ch ≤ 23) && signedChan s (ch - 1))))

/-- The entries in force after a command whose word 5 + i + j is entry j. -/
def pickEntries (c : Cmd) (i : Nat) (l : List (Nat × Nat)) : List (Nat × Nat) :=
  (List.range l.length).map fun j =>
    if bit (c.w 3) (i + j) then (c.w (5 + i + j) % 32, bits (c.w (5 + i + j)) 16 11) else l.getD j (0, 15)

/-- An entry as a word. -/
def entryWord (e : Nat × Nat) : Word := w32 (e.1 + e.2 * 2 ^ 16)

/-- MON_SEQ_CONFIG. -/
def monSeqConfigOp : OpSpec where
  code := 0x0D02
  targets := isMonT
  flags := 6
  nparams := 2
  badParam := fun s c => firstBad ([(4, within (c.w 4) 0 3), sel5 c 0 0 1, sel5 c 1 0 1, sel5 c 2 0 3,
    sel5 c 3 50 200000000, sel5 c 4 1 16] ++ (List.range 16).map fun j => entryOk s c (5 + j))
  resLen := fun _ _ _ => 23
  run := fun s _ c =>
    let i := c.w 4
    let o := conv s i
    if isOwned s i then refuse s stBadState 0x0101
    else if o.running then refuse s stBadState 0x0102
    else
      let n := { o with align := pick5 c 0 o.align, pdMode := pick5 c 1 o.pdMode, trigger := pick5 c 2 o.trigger,
                        period := pick5 c 3 o.period, count := pick5 c 4 o.count, entries := pickEntries c 5 o.entries }
      okRes (modConv i (fun _ => n) s)
        ([0, 0, w32 n.align, w32 n.pdMode, w32 n.trigger, w32 n.period, w32 n.count] ++ n.entries.map entryWord)
def execMonSeqConfig (c : Cmd) (s : State) : Host.Outcome State Fault Refusal := .next (serve monSeqConfigOp c s)

/-- MON_INJ_CONFIG. A change of INJ_TRIGGER or INJ_PERIOD starts the period again. -/
def monInjConfigOp : OpSpec where
  code := 0x0D03
  targets := isMonT
  flags := 6
  nparams := 2
  badParam := fun s c => firstBad ([(4, within (c.w 4) 0 3), sel5 c 0 0 2, sel5 c 1 50 200000000, sel5 c 2 1 4]
    ++ (List.range 4).map (fun j => entryOk s c (3 + j)) ++ [sel5 c 7 0 1])
  resLen := fun _ _ _ => 10
  run := fun s _ c =>
    let i := c.w 4
    let o := conv s i
    if isOwned s i then refuse s stBadState 0x0101
    else
      let p := pick5 c 1 o.injPeriod
      let n := { o with injTrigger := pick5 c 0 o.injTrigger, injPeriod := p, injCount := pick5 c 2 o.injCount,
                        injEntries := pickEntries c 3 o.injEntries, injEvent := pick5 c 7 o.injEvent,
                        injAt := if bit (c.w 3) 0 || bit (c.w 3) 1 then s.hk + hkT p else o.injAt }
      okRes (modConv i (fun _ => n) s)
        ([0, 0, w32 n.injTrigger, w32 n.injPeriod, w32 n.injCount] ++ n.injEntries.map entryWord ++ [w32 n.injEvent])
def execMonInjConfig (c : Cmd) (s : State) : Host.Outcome State Fault Refusal := .next (serve monInjConfigOp c s)

/-- MON_DECIM_CONFIG: a change resets the chain of its converter. -/
def monDecimConfigOp : OpSpec where
  code := 0x0D04
  targets := isMonT
  flags := 6
  nparams := 2
  badParam := fun _ c => firstBad [(4, within (c.w 4) 0 3), sel5 c 0 0 8,
    (6, (sel5 c 1 0 (2 ^ 32 - 1)).2
      && (!bit (c.w 3) 1 || (List.range 8).all fun i => decide (bits (c.w 6) (4 * i) 3 ≤ 4))),
    sel5 c 2 0 (2 ^ 32 - 1), sel5 c 3 0 7, (9, (sel5 c 4 1 4).2 && (!bit (c.w 3) 4 || c.w 9 != 3))]
  resLen := fun _ _ _ => 8
  run := fun s _ c =>
    let i := c.w 4
    let o := conv s i
    if isOwned s i then refuse s stBadState 0x0101
    else
      let n := { o with stages := pick5 c 0 o.stages, resp := pick5 c 1 o.resp, shift := pick5 c 2 o.shift,
                        fir := pick5 c 3 o.fir, firDecim := pick5 c 4 o.firDecim }
      let n := if n = o then n else { n with streams := List.replicate 16 {} }
      okRes (modConv i (fun _ => n) s) ([0, 0, n.stages, n.resp, n.shift, n.fir, n.firDecim,
        2 ^ n.stages * n.firDecim].map w32)
def execMonDecimConfig (c : Cmd) (s : State) : Host.Outcome State Fault Refusal := .next (serve monDecimConfigOp c s)

/-- Converters running, one bit each; MC3 runs while it is loop-owned. -/
def runningMask (s : State) : Nat :=
  convs4.foldl (fun a i => a + onBit ((conv s i).running || isOwned s i) i) 0

/-- START: timers start; a continuous sequence begins its first round. -/
def monStart (i : Nat) (s : State) : State :=
  let k := conv s i
  if k.running then s
  else
    let anyGroup := convs4.any fun j => (conv s j).running && (conv s j).trigger == 3
    let s := if k.trigger = 3 ∧ ¬ anyGroup then s.modMon fun m => { m with groupAt := s.hk + hkT m.groupPeriod } else s
    let s := modConv i (fun k => { k with running := true, timerAt := s.hk + hkT k.period }) s
    if k.trigger = 0 ∧ k.act = .idle then freeUp i s.hk s else s

/-- STOP: the conversion in progress completes, the round does not go on. -/
def monStop (i : Nat) (s : State) : State :=
  modConv i (fun k => { k with running := false, round := none, queued := false, gap := false }) s

/-- MON_CONTROL. INJECT triggers the converters whose INJ_TRIGGER is COMMAND. -/
def monControlOp : OpSpec where
  code := 0x0D05
  targets := isMonT
  flags := 12
  nparams := 2
  badParam := fun _ c => firstBad [(3, within (c.w 3) 0 15), (4, within (c.w 4) 0 2)]
  resLen := fun _ _ _ => 1
  run := fun s _ c =>
    if s.mon.owned && bit (c.w 3) 3 then refuse s stBadState 0x0101
    else
      let s := (convs4.filter fun i => bit (c.w 3) i).foldl (fun s i =>
        if c.w 4 = 0 then monStop i s
        else if c.w 4 = 1 then monStart i s
        else if (conv s i).injTrigger = 0 then trigInject i s.hk s else s) s
      okRes s [w32 (runningMask s)]
def execMonControl (c : Cmd) (s : State) : Host.Outcome State Fault Refusal := .next (serve monControlOp c s)

/-- MON_DECIM_RESET. -/
def monDecimResetOp : OpSpec where
  code := 0x0D06
  targets := isMonT
  flags := 12
  resLen := fun _ _ _ => 2
  run := fun s _ _ => okRes (decimReset s) (uptimeWords (uptime s))
def execMonDecimReset (c : Cmd) (s : State) : Host.Outcome State Fault Refusal := .next (serve monDecimResetOp c s)

/-- Converter `i` has calibrated for the oldest command that waits for it. -/
def tickCal (i : Nat) : List (Nat × Nat) → List (Nat × Nat)
  | [] => []
  | (m, r) :: l => if bit r i then (m, r - 2 ^ i) :: l else (m, r) :: tickCal i l

/-- MON_CALIBRATEs whose converters are all done are completed, oldest first. -/
def finishCals : Nat → State → State
  | 0, s => s
  | n + 1, s =>
    match s.mon.cals with
    | (m, 0) :: l =>
      let ws := (convs4.filter fun i => bit m i).flatMap fun i =>
        let k := conv s i
        [w32 k.calOut, wI k.calOffset, wI k.calGain]
      finishCals n (completeUnit 0x0D07 0xB0 stOk 0 ws (s.modMon fun x => { x with cals := l }))
    | _ => s

/-- MON_CALIBRATE; with an empty CONV_MASK it is complete at once. -/
def monCalibrateOp : OpSpec where
  code := 0x0D07
  targets := isMonT
  nparams := 1
  badParam := fun _ c => firstBad [(3, within (c.w 3) 0 15)]
  resLen := fun _ _ c => 3 * (convs4.filter fun i => bit (c.w 3) i).length
  run := fun s _ c =>
    if s.mon.owned && bit (c.w 3) 3 then refuse s stBadState 0x0101
    else
      let s := s.modMon fun m => { m with cals := m.cals ++ [(c.w 3, c.w 3)] }
      let s := (convs4.filter fun i => bit (c.w 3) i).foldl (fun s i =>
        let s := modConv i (fun k => { k with calAsked := true }) s
        if (conv s i).act = .idle then freeUp i s.hk s else s) s
      { st := s, settled := false }
  after := fun s _ => finishCals s.mon.cals.length s
def execMonCalibrate (c : Cmd) (s : State) : Host.Outcome State Fault Refusal := .next (serve monCalibrateOp c s)

/-- MON_CALIBRATION_DONE: the correction found, in LSB and 0.001 %, taken within ±256 LSB and ±2 %. -/
def execMonCalibrationDone (i : Nat) (offset gain : Int) (dt : Nat) (s : State) : Host.Outcome State Fault Refusal :=
  let s := advance dt s
  .next (if running s && decide (i < 4) && (conv s i).act == .calibrating then
      let ok := withinI offset (-256) 256 && withinI gain (-2000) 2000
      let s := modConv i (fun k => { k with
        act := .idle, calOut := b01 (!ok), calOffset := if ok then offset else k.calOffset,
        calGain := if ok then gain else k.calGain }) s
      let s := alarmIf (!ok) 0x8D11 0xB0 i [w32 i] s
      let s := s.modMon fun m => { m with cals := tickCal i m.cals }
      let s := if s.mon.cals.any fun x => bit x.2 i then modConv i (fun k => { k with calAsked := true }) s else s
      pump (freeUp i s.hk (finishCals s.mon.cals.length s))
    else s)

/-- MON_INJ_READ. -/
def monInjReadOp : OpSpec where
  code := 0x0D08
  targets := isMonT
  flags := 8
  nparams := 1
  badParam := fun _ c => firstBad [(3, within (c.w 3) 0 3)]
  resLen := fun _ _ _ => 5
  run := fun s _ c =>
    let k := conv s (c.w 3)
    okRes (modConv (c.w 3) (fun k => { k with fresh := 0 }) s)
      (k.injResults ++ [w32 (k.fresh % 16 + onBit k.injPending 4)])
def execMonInjRead (c : Cmd) (s : State) : Host.Outcome State Fault Refusal := .next (serve monInjReadOp c s)

/-- The regions after MON_BUF_CONFIG. -/
def regionsOf (s : State) (c : Cmd) : List Nat := convs4.map fun i => pick5 c i (conv s i).region

/-- The regions fit the buffer: the offending word, that of the last region selected (log entry 117). -/
def regionRangeBad (s : State) (_ : Nat) (c : Cmd) : Option Nat :=
  if 1024 < (regionsOf s c).foldl (· + ·) 0 then some (5 + ((convs4.filter fun i => bit (c.w 3) i).getLastD 0)) else none

/-- MON_BUF_CONFIG. A region of another size starts empty. -/
def monBufConfigOp : OpSpec where
  code := 0x0D09
  targets := isMonT
  flags := 6
  nparams := 2
  badParam := fun _ c => firstBad ((List.range 4).map (fun i =>
      (5 + i, (sel5 c i 0 1024).2 && (!bit (c.w 3) i || c.w (5 + i) % 4 == 0)))
    ++ [sel5 c 4 0 (2 ^ 32 - 1), sel5 c 5 0 1, sel5 c 6 50 200000000])
  unitBad := regionRangeBad
  resLen := fun _ _ _ => 9
  run := fun s t c =>
    let r := regionsOf s c
    match regionRangeBad s t c with
    | some w => refuse s stBadParam w
    | none =>
    if runningMask s ≠ 0 then refuse s stBadState 0x0100
    else
      let w := pick5 c 4 s.mon.watermark
      let s := convs4.foldl (fun s i => modConv i (fun k =>
        let k := if k.region = r.getD i 0 then k
          else { k with region := r.getD i 0, write := 0, read := 0, unread := 0, marked := false, words := [] }
        { k with marked := k.marked && w != 0 && decide (w ≤ k.unread) }) s) s
      let s := s.modMon fun m => { m with
        watermark := w, overrun := pick5 c 5 m.overrun, groupPeriod := pick5 c 6 m.groupPeriod }
      okRes s ([0, 0] ++ r.map w32 ++ [w32 s.mon.watermark, w32 s.mon.overrun, w32 s.mon.groupPeriod])
def execMonBufConfig (c : Cmd) (s : State) : Host.Outcome State Fault Refusal := .next (serve monBufConfigOp c s)

/-- The first `n` unread words of a region. -/
def unreadWords (k : MonConv) (n : Nat) : List Word :=
  (List.range (min n k.unread)).map fun j => SMap.get 0 k.words ((k.read + j) % max 1 (regionWords k))

/-- `n` words are consumed; the watermark event is armed again below WATERMARK. -/
def consume (i n : Nat) (s : State) : State :=
  modConv i (fun k =>
    let m := min n k.unread
    { k with read := (k.read + m) % max 1 (regionWords k), unread := k.unread - m,
             marked := k.marked && decide (s.mon.watermark ≤ k.unread - m) }) s

/-- MON_BUF_READ: at most the unread words. -/
def monBufReadOp : OpSpec where
  code := 0x0D0A
  targets := isMonT
  flags := 8
  nparams := 3
  badParam := fun _ c => firstBad [(3, within (c.w 3) 0 3), (4, within (c.w 4) 1 1016)]
  resLen := fun s _ c => 1 + min (c.w 4) (conv s (c.w 3)).unread
  run := fun s _ c =>
    let k := conv s (c.w 3)
    okRes (if bit (c.w 5) 0 then consume (c.w 3) (c.w 4) s else s) (w32 k.unread :: unreadWords k (c.w 4))
def execMonBufRead (c : Cmd) (s : State) : Host.Outcome State Fault Refusal := .next (serve monBufReadOp c s)

/-- MON_BUF_DMA. -/
def monBufDmaOp : OpSpec where
  code := 0x0D0B
  targets := isMonT
  nparams := 4
  badParam := fun _ c => firstBad [(3, within (c.w 3) 0 3), (4, c.w 4 % 64 == 0), (6, c.w 6 % 16 == 0)]
  resLen := fun _ _ _ => 1
  run := fun s _ c =>
    if c.port ≠ .pcie then refuse s stBadState 0x0103
    else { st := s.modMon fun m => { m with dma := m.dma ++ [(c.w 3, c.w 4 + c.w 5 * 2 ^ 32, c.w 6)] }, settled := false }
def execMonBufDma (c : Cmd) (s : State) : Host.Outcome State Fault Refusal := .next (serve monBufDmaOp c s)

/-- MON_BUF_DMA_DONE: the oldest DMA is in host memory, at most the unread words, and they are consumed. -/
def execMonBufDmaDone (dt : Nat) (s : State) : Host.Outcome State Fault Refusal :=
  let s := advance dt s
  .next (match s.mon.dma with
    | (i, a, n) :: r =>
      if running s then
        let m := min n (conv s i).unread
        let ws := unreadWords (conv s i) m
        let s := consume i m (s.modMon fun x => { x with dma := r })
        let s := s.modPcie fun k => { k with dmaDone := k.dmaDone ++ [(a, ws)] }
        pump (completeUnit 0x0D0B 0xB0 stOk 0 [w32 m] s)
      else s
    | [] => s)

/-- MON_STATUS. -/
def monStatusOp : OpSpec where
  code := 0x0D0C
  targets := isMonT
  flags := 8
  resLen := fun _ _ _ => 9
  run := fun s _ _ =>
    let mask (f : Nat → Bool) : Nat := convs4.foldl (fun a i => a + onBit (f i) i) 0
    okRes s (w32 (runningMask s + mask (monAsleep s) * 2 ^ 4 + mask (fun i => (conv s i).injPending) * 2 ^ 8
        + mask (fun i => (conv s i).act == .calibrating) * 2 ^ 12 + onBit s.mon.owned 16)
      :: (convs4.map fun i => w32 (conv s i).unread) ++ convs4.map fun i => w32 (conv s i).write)
def execMonStatus (c : Cmd) (s : State) : Host.Outcome State Fault Refusal := .next (serve monStatusOp c s)

/-- The counters of a target of MON_COUNTERS: sub-unit and ID (Table 15.11). -/
def monCtrs (t : Nat) : List (Nat × Nat) :=
  if t = 0xB0 then (convs4.flatMap fun i => (idRange 0x0D01 0x0D07).map fun id => (i, id)) ++ [(0, 0x0D08)]
  else (idRange 0x0D20 0x0D22).map fun id => (0, id)

/-- MON_COUNTERS. -/
def monCountersOp : OpSpec where
  code := 0x0D0F
  targets := fun t => isMonT t || isLpT t
  flags := 8
  nparams := 1
  resLen := fun _ t _ => 2 * (monCtrs t).length
  run := fun s t c =>
    let ws := (monCtrs t).flatMap fun x => lohi (ctr s (sel t x.1 x.2))
    okRes (if bit (c.w 3) 0 then (monCtrs t).foldl (fun s x => ctrClear s (sel t x.1 x.2)) s else s) ws
def execMonCounters (c : Cmd) (s : State) : Host.Outcome State Fault Refusal := .next (serve monCountersOp c s)

/-! ## Ownership of MC3, DARK and boot -/

/-- Loop ownership of MC3 follows the loops (R398). -/
def refreshOwner (s : State) : State :=
  let own := !(loopChannels s).isEmpty
  if own = s.mon.owned then s
  else if own then
    let k := conv s 3
    let stopped := k.running || k.injPending
    let s := modConv 3 (fun k => { k with
      running := false, round := none, queued := false, gap := false, injPending := false }) s
    let s := emit 0x8D03 0xB0 [w32 (1 + onBit stopped 1)] (s.modMon fun m => { m with owned := true })
    if (conv s 3).act = .idle then freeUp 3 s.hk s else s
  else
    let s := s.modMon fun m => { m with owned := false }
    emit 0x8D03 0xB0 [0] (modConv 3 (fun k => { k with
      act := if k.act = .calibrating then .calibrating else .idle, round := none, gap := false,
      injAt := s.hk + hkT k.injPeriod }) s)

/-- Entry to DARK: conversions stop (Table 15.9). -/
def monDark (s : State) : State := convs4.foldl (fun s i => modConv i (fun k => { k with act := .idle }) s) s

/-- Wake: what ran resumes, and its first result carries GAP (R386). -/
def monWake (s : State) : State :=
  convs4.foldl (fun s i => freeUp i s.hk (modConv i (fun k => { k with gap := k.running }) s)) s

/-- Calibration during boot (R390): what it found is a free value within the bounds. -/
def monBoot (s : State) : State :=
  convs4.foldl (fun s i =>
    let (f, s) := freeWs 2 s
    modConv i (fun k => { k with
      calOffset := ((f.getD 0 0).toNat % 513 : Nat) - 256, calGain := ((f.getD 1 0).toNat % 4001 : Nat) - 2000 }) s) s

end Sys2Proof.Machine
end

