-- ==== Sys2Proof/Machine/BiasLoop.lean ====
section
/-!
DEFINITION. Sys2Proof/Machine/BiasLoop.lean: the modulator bias outputs and their loops (R395 to R399).
-/
namespace Sys2Proof.Machine
open Sys2Proof

/-- Bias outputs of a line port. -/
def biasPort (s : State) (p : Lp) : BiasPort := match p with | .lp0 => s.mon.bias.lp0 | .lp1 => s.mon.bias.lp1

def modBiasPort (p : Lp) (f : BiasPort → BiasPort) (s : State) : State :=
  s.modMon fun m => { m with bias := match p with
    | .lp0 => { m.bias with lp0 := f m.bias.lp0 }
    | .lp1 => { m.bias with lp1 := f m.bias.lp1 } }

def biasOut (s : State) (p : Lp) (o : Nat) : Bias := (biasPort s p).outs.getD o {}

def modBias (p : Lp) (o : Nat) (f : Bias → Bias) (s : State) : State :=
  modBiasPort p (fun b => { b with outs := b.outs.set o (f (b.outs.getD o {})) }) s

/-- QUAD outputs (Table 15.6) and the two children of one. -/
def isQuad (o : Nat) : Bool := o == 2 || o == 5

/-- mV in the model's unit. -/
def mV (n : Nat) : Int := (n : Int) * 1000000

/-- The value of an output at housekeeping time `t`: slewed from its last value to its target (R395). -/
def biasNow (b : Bias) (t : Nat) : Int :=
  let step : Int := ((t - b.at_) * b.slew * 1000000 / msT 1 : Nat)
  if b.v ≤ b.target then min b.target (b.v + step) else max b.target (b.v - step)

/-- The DAC code of a value: 0 V to 2.5 V over 16 bits, rounded down. -/
def dacCode (v : Int) : Nat := min 65535 (v.toNat * 65536 / 2500000000)

/-- State codes (BIAS_STATUS). -/
def biasStNum : BiasSt → Nat
  | .off => 0
  | .manual => 1
  | .ramp => 2
  | .acquire => 3
  | .locked => 4
  | .hold => 5

/-- A new target at a slew in mV/ms. -/
def biasTarget (p : Lp) (o : Nat) (target : Int) (slew : Nat) (s : State) : State :=
  modBias p o (fun b => { b with v := biasNow b s.hk, at_ := s.hk, target := target, slew := slew }) s

/-- An output changes state, with EV_BIAS_STATE. -/
def biasState (p : Lp) (o : Nat) (st : BiasSt) (s : State) : State :=
  let b := biasOut s p o
  if b.st = st then s
  else emit 0x8D04 (lpT p) [w32 o, w32 (biasStNum b.st), w32 (biasStNum st), w32 (dacCode (biasNow b s.hk))]
    (modBias p o (fun b => { b with st := st }) s)

/-- Run counts and times of a loop that does not run. -/
def biasClear (p : Lp) (o : Nat) (s : State) : State :=
  modBias p o (fun b => { b with
    good := 0, bad := 0, clamped := 0, acquireFrom := none, holdFrom := none, lightFrom := none, rampEnd := none }) s

/-- The time a value takes to a target at a slew, in ticks. -/
def biasRampTicks (a b : Int) (slew : Nat) : Nat := ceilDiv ((b - a).natAbs * msT 1) (max 1 slew * 1000000)

/-- An output takes the place its mode and its port's service give it (Table 15.7): OFF, MANUAL, or the ramp to START_MV
of a loop. Its alarms clear with the loop. -/
def biasApply (p : Lp) (o : Nat) (s : State) : State :=
  let b := biasOut s p o
  let slew := (biasPort s p).slew
  let quiet (s : State) : State :=
    let s := clearAlarm 0x8D14 (lpT p) o [w32 o] (clearAlarm 0x8D13 (lpT p) o [w32 o] s)
    biasClear p o (clearAlarm 0x8D12 (lpT p) o [w32 o] s)
  if !inService s p then biasState p o .off (biasTarget p o 0 (max slew 2500) (quiet s))
  else if b.mode = 0 then biasState p o .off (biasTarget p o 0 slew (quiet s))
  else if b.mode = 1 then biasState p o .manual (biasTarget p o (mV b.manualMv) slew (quiet s))
  else
    let s := quiet s
    let now := biasNow b s.hk
    let s := biasTarget p o (mV b.startMv) slew s
    biasState p o .ramp (modBias p o (fun b => { b with
      rampEnd := some (s.hk + biasRampTicks now (mV b.startMv) slew) }) s)

/-- The port enters or leaves service. -/
def biasService (p : Lp) (s : State) : State :=
  let s := modBiasPort p (fun b => { b with updateAt := s.hk + msT 1 }) s
  refreshOwner ((List.range 8).foldl (fun s o => biasApply p o s) s)

/-- A loop enters ACQUIRE. -/
def biasAcquire (p : Lp) (o : Nat) (s : State) : State :=
  biasState p o .acquire (modBias p o (fun b => { b with rampEnd := none, acquireFrom := some s.hk, good := 0, bad := 0 }) s)

/-- Both children of a QUAD output are LOCKED. -/
def childrenLocked (s : State) (p : Lp) (o : Nat) : Bool :=
  (biasOut s p (o - 2)).st == .locked && (biasOut s p (o - 1)).st == .locked

/-- BIAS_UNLOCK. -/
def biasUnlock (p : Lp) (o : Nat) (s : State) : State :=
  let s := if raised s 0x8D12 (lpT p) o then s else lpCount s p 0x0D22 1
  raiseAlarm 0x8D12 (lpT p) o [w32 o] s

/-- One update of an output in ACQUIRE, LOCKED or HOLD (R397, R399): `e` and `v` in the model's unit, rounded down. After
HOLD the loop goes on in the state HOLD was entered from; 100 updates beyond 0.05 take LOCKED back to ACQUIRE. -/
def biasUpdate (p : Lp) (m : BiasMeas) (s : State) : State :=
  let o := m.out
  let b := biasOut s p o
  if m.m < b.lightMin then
    let s := modBias p o (fun b => { b with lightFrom := none }) s
    if b.st = .hold then s
    else biasState p o .hold (modBias p o (fun b => { b with before := b.st, holdFrom := some s.hk }) s)
  else
    let s := if b.st = .hold then
        biasState p o b.before (modBias p o (fun b => { b with holdFrom := none, lightFrom := some s.hk }) s)
      else s
    let a := if isQuad o && b.quadNeg then -m.a else m.a
    let e := a * 1000000 / (max 1 m.m : Nat)
    let x := b.target - (b.gain : Int) * 1000000 * a / (max 1 m.m : Nat)
    let v := max (mV b.minMv) (min (mV b.maxMv) x)
    let clamped := v != x
    let good := decide (100 * m.a.natAbs ≤ m.m)
    let bad := decide (m.m < 20 * m.a.natAbs)
    let s := lpCount (lpCount s p 0x0D20 1) p 0x0D21 (b01 clamped)
    let s := modBias p o (fun k => { k with
      e := e, good := if good then min 20 (k.good + 1) else 0,
      bad := if bad && k.st == .locked then min 100 (k.bad + 1) else 0,
      clamped := if clamped then min 100 (k.clamped + 1) else 0 }) s
    let s := biasTarget p o v (biasPort s p).slew s
    let k := biasOut s p o
    let s := if k.clamped = 100 then raiseAlarm 0x8D13 (lpT p) o [w32 o] s
      else if clamped then s else clearAlarm 0x8D13 (lpT p) o [w32 o] s
    if k.st = .acquire ∧ k.good = 20 then
      clearAlarm 0x8D12 (lpT p) o [w32 o] (biasState p o .locked (modBias p o (fun b => { b with acquireFrom := none }) s))
    else if k.st = .locked ∧ k.bad = 100 then biasUnlock p o (biasAcquire p o s)
    else s

/-- The updates of a port in output order; a QUAD output that holds START_MV enters ACQUIRE once its children are
LOCKED. -/
def biasUpdates (p : Lp) (ms : List BiasMeas) (s : State) : State :=
  (List.range 6).foldl (fun s o =>
    let b := biasOut s p o
    let s := if b.mode = 2 ∧ b.st = .ramp ∧ b.rampEnd = none ∧ isQuad o ∧ childrenLocked s p o then biasAcquire p o s
      else s
    let b := biasOut s p o
    if b.mode = 2 ∧ (b.st = .acquire ∨ b.st = .locked ∨ b.st = .hold) then
      match ms.find? fun m => m.out == o with
      | some m => biasUpdate p m s
      | none => s
    else s) s

/-- BIAS_LOOP_UPDATE: every 1 ms, not in a firmware pause. -/
def execBiasLoopUpdate (p : Lp) (m : List BiasMeas) (dt : Nat) (s : State) : Host.Outcome State Fault Refusal :=
  let s := advance dt s
  let b := biasPort s p
  .next (if running s && inService s p && s.fw.pause.isNone && decide (b.updateAt ≤ s.hk) then
      pump (biasUpdates p m (modBiasPort p (fun b => { b with
        updateAt := b.updateAt + msT ((s.hk - b.updateAt) / msT 1 + 1) }) s))
    else s)

/-- BIAS_RAMP_END: ACQUIRE, but for a QUAD output whose children are not both LOCKED. -/
def execBiasRampEnd (p : Lp) (o dt : Nat) (s : State) : Host.Outcome State Fault Refusal :=
  let s := advance dt s
  let b := biasOut s p o
  .next (if running s && s.fw.pause.isNone && decide (o < 8) && b.st == .ramp && due b.rampEnd s.hk then
      if isQuad o && !childrenLocked s p o then modBias p o (fun b => { b with rampEnd := none }) s
      else pump (biasAcquire p o s)
    else s)

/-- BIAS_ACQUIRE_TIMEOUT: 500 ms without LOCKED. -/
def execBiasAcquireTimeout (p : Lp) (o dt : Nat) (s : State) : Host.Outcome State Fault Refusal :=
  let s := advance dt s
  let b := biasOut s p o
  .next (if running s && s.fw.pause.isNone && decide (o < 8) && (b.st == .acquire || b.st == .hold)
      && due (b.acquireFrom.map (· + msT 500)) s.hk then
      pump (biasUnlock p o (modBias p o (fun b => { b with acquireFrom := none }) s))
    else s)

/-- BIAS_NO_LIGHT_TIMER: raised after 10 ms in HOLD, cleared after 10 ms of light. -/
def execBiasNoLightTimer (p : Lp) (o dt : Nat) (s : State) : Host.Outcome State Fault Refusal :=
  let s := advance dt s
  let b := biasOut s p o
  .next (if running s && decide (o < 8) && due (b.holdFrom.map (· + msT 10)) s.hk then
      pump (raiseAlarm 0x8D14 (lpT p) o [w32 o] s)
    else if running s && decide (o < 8) && due (b.lightFrom.map (· + msT 10)) s.hk then
      pump (clearAlarm 0x8D14 (lpT p) o [w32 o] (modBias p o (fun b => { b with lightFrom := none }) s))
    else s)

/-- Words 5 to 15 of BIAS_CONFIG. -/
def biasCfgWords (s : State) (p : Lp) (o : Nat) : List Word :=
  let b := biasOut s p o
  let x := (biasPort s p).slew
  if o = 8 then List.replicate 10 0 ++ [w32 x]
  else [b.mode, b.manualMv, b.startMv, b.minMv, b.maxMv, b.dither, b.gain, b01 b.quadNeg, b.input, b.lightMin, x].map w32

/-- MIN must stay below MAX: the offending word of a BIAS_CONFIG of an output. -/
def biasRangeBad (s : State) (t : Nat) (c : Cmd) : Option Nat :=
  let b := biasOut s (lpOfT t) (c.w 4)
  if c.w 4 < 8 ∧ pick5 c 4 b.maxMv ≤ pick5 c 3 b.minMv then some (if bit (c.w 3) 3 then 8 else 9) else none

/-- BIAS_CONFIG (Table 15.8). With OUTPUT 8 only word 15 is taken. -/
def biasConfigOp : OpSpec where
  code := 0x0D0D
  targets := isLpT
  both := true
  flags := 15
  nparams := 2
  badParam := fun _ c =>
    let o := c.w 4
    let one (x : Nat × Bool) : Nat × Bool := (x.1, o == 8 || x.2)
    firstBad [(4, within o 0 8), one (sel5 c 0 0 (if o = 6 ∨ o = 7 then 1 else 2)), one (sel5 c 1 0 2500),
      one (sel5 c 2 0 2500), one (sel5 c 3 0 2500), one (sel5 c 4 0 2500), one (sel5 c 5 1 100), one (sel5 c 6 1 2000),
      one (sel5 c 7 0 1), one (sel5 c 8 0 23), one (sel5 c 9 0 65535), sel5 c 10 1 2500]
  unitBad := biasRangeBad
  resLen := fun _ _ _ => 13
  run := fun s t c =>
    let p := lpOfT t
    let o := c.w 4
    let s := modBiasPort p (fun b => { b with slew := pick5 c 10 b.slew }) s
    let fin (s : State) : UnitRes := okRes s ([0, 0] ++ biasCfgWords s p o)
    if o = 8 then fin s
    else
      let b := biasOut s p o
      let lo := pick5 c 3 b.minMv
      let hi := pick5 c 4 b.maxMv
      match biasRangeBad s t c with
      | some w => refuse s stBadParam w
      | none =>
        let n := { b with
          mode := pick5 c 0 b.mode, manualMv := pick5 c 1 b.manualMv, startMv := pick5 c 2 b.startMv, minMv := lo,
          maxMv := hi, dither := pick5 c 5 b.dither, gain := pick5 c 6 b.gain,
          quadNeg := if bit (c.w 3) 7 then c.w 12 == 1 else b.quadNeg, input := pick5 c 8 b.input,
          lightMin := pick5 c 9 b.lightMin }
        let s := modBias p o (fun _ => n) s
        let s := if n.mode ≠ b.mode ∨ (n.mode = 1 ∧ n.manualMv ≠ b.manualMv) then biasApply p o s else s
        fin (refreshOwner s)
def execBiasConfig (c : Cmd) (s : State) : Host.Outcome State Fault Refusal := .next (serve biasConfigOp c s)

/-- Word 3 + o of BIAS_STATUS; e in 0.001, held to 12 bits. -/
def biasStatusWord (s : State) (b : Bias) : Word :=
  w32 (dacCode (biasNow b s.hk) + biasStNum b.st * 2 ^ 16
    + uns 12 (max (-2048) (min 2047 (b.e / 1000))) * 2 ^ 20)

/-- BIAS_STATUS. -/
def biasStatusOp : OpSpec where
  code := 0x0D0E
  targets := isLpT
  both := true
  flags := 8
  resLen := fun _ _ _ => 8
  run := fun s t _ => okRes s ((biasPort s (lpOfT t)).outs.map (biasStatusWord s))
def execBiasStatus (c : Cmd) (s : State) : Host.Outcome State Fault Refusal := .next (serve biasStatusOp c s)

end Sys2Proof.Machine
end

