-- ==== Sys2Proof/Machine/CfgStore.lean ====
section
/-!
DEFINITION. Sys2Proof/Machine/CfgStore.lean: what CFG_SAVE saves of the settings in force and what a restore makes of it
(R418, R419, Table 16.7).
-/
namespace Sys2Proof.Machine
open Sys2Proof

/-- The settings of a monitor converter, run state at its reset value. -/
def monCfgOnly (k : MonConv) : MonConv :=
  { align := k.align, pdMode := k.pdMode, trigger := k.trigger, period := k.period, count := k.count,
    entries := k.entries, injTrigger := k.injTrigger, injPeriod := k.injPeriod, injCount := k.injCount,
    injEntries := k.injEntries, injEvent := k.injEvent, stages := k.stages, resp := k.resp, shift := k.shift,
    fir := k.fir, firDecim := k.firDecim, region := k.region }

/-- Restored settings of a converter over its calibration. -/
def monCfgOver (now : Nat) (k c : MonConv) : MonConv :=
  { c with calOffset := k.calOffset, calGain := k.calGain, calOut := k.calOut, injAt := now + hkT c.injPeriod }

/-- The settings of a bias output. -/
def biasCfgOnly (b : Bias) : Bias :=
  { mode := b.mode, manualMv := b.manualMv, startMv := b.startMv, minMv := b.minMv, maxMv := b.maxMv,
    dither := b.dither, gain := b.gain, quadNeg := b.quadNeg, input := b.input, lightMin := b.lightMin }

/-- The settings of the mate link. -/
def mateCfgOnly (m : Mate) : Mate :=
  { enable := m.enable, rateMax := m.rateMax, rxSleep := m.rxSleep, retries := m.retries }

/-- Sparse data with every value changed; values that become `d` are dropped. -/
def mapSparse {α β : Type} [DecidableEq β] (d : β) (f : α → β) (m : SMap α) : SMap β :=
  m.filterMap fun x => if f x.2 = d then none else some (x.1, f x.2)

/-- The settings of a line port. -/
def savedLp (s : State) (p : Lp) : SavedLp :=
  let x := s.port p
  { requested := x.mode.requested, conv := x.conv.cfg, tx := x.dsp.tx, rx := x.dsp.rx, profiles := x.dsp.profiles,
    fec := x.cod.cfg, lf := x.frame.cfg, pm := x.frame.pmCfg, hsTimeout := x.crypto.hsTimeout,
    authClear := x.crypto.authClear, aps := (s.aps p).cfg,
    bias := { outs := (biasPort s p).outs.map biasCfgOnly, slew := (biasPort s p).slew } }

def savedEng (x : Engine) : SavedEng := { k := x.k, central := x.central, sweepUs := x.sweepUs }

/-- The settings in force, as listed in Table 16.7. -/
def savedCfg (s : State) : SavedCfg :=
  { lp := ⟨savedLp s .lp0, savedLp s .lp1⟩
    eng := ⟨savedEng s.eng.le0, savedEng s.eng.le1, savedEng s.eng.les⟩
    warmPort := s.warmPort
    inband := ⟨s.host.ib.lp0.enable, s.host.ib.lp1.enable⟩
    mateEnable := s.host.mateEnable
    masks := ⟨s.host.evt.pcie.mask, s.host.evt.spi.mask, s.host.evt.ib0.mask, s.host.evt.ib1.mask, s.host.evt.mate.mask⟩
    alarmMask := s.host.alarmMask
    fswMap := s.host.fswMap
    lanes := mapSparse none (fun l => l.cfg) s.lanes
    hports := mapSparse none (fun h => h.cfg) s.hports
    synce := s.synce
    tm := s.tm.cfg
    sources := s.tm.sources
    policers := s.tm.profiles
    queues := mapSparse {} (fun q => q.cfg) s.tm.queues
    gates := mapSparse {} (fun g => g.sched) s.tm.gates
    burnEnable := s.prot.burn.enable
    burnPeriod := s.prot.burn.period
    mate := mateCfgOnly s.mate
    clk := s.clk.cfg
    cands := s.clk.cands.map fun c => (c.prio, c.freq)
    outs := s.clk.outs
    pps := s.clk.pps
    chans := mapSparse {} (fun c => { c with within := 0 }) s.mon.chans
    convs := s.mon.convs.map monCfgOnly
    watermark := s.mon.watermark
    overrun := s.mon.overrun
    groupPeriod := s.mon.groupPeriod }

/-- The saved settings of a line port take hold; its requested point is resolved by `restoreCfg`. -/
def restoreLp (p : Lp) (x : SavedLp) (s : State) : State :=
  let s := s.modConv p fun c => { c with cfg := x.conv }
  let s := s.modDsp p fun d => { d with tx := x.tx, rx := x.rx, profiles := x.profiles }
  let s := s.modCod p fun c => { c with cfg := x.fec }
  let s := s.modFrame p fun f => { f with cfg := x.lf, pmCfg := x.pm }
  let s := s.modCrypto p fun k => { k with hsTimeout := x.hsTimeout, authClear := x.authClear }
  let s := s.modAps p fun a => { a with cfg := x.aps }
  rampGo p (modBiasPort p (fun _ => x.bias) s)

def restoreEng (e : Eng) (x : SavedEng) (s : State) : State :=
  replaceRoles e (s.modEngine e fun y => { y with k := x.k, central := x.central, sweepUs := x.sweepUs })

/-- The store is applied at boot step 8 (R419). With RESTORE_SERVICE 0 each port's SERVICE is applied as 0. -/
def restoreCfg (service : Bool) (c : SavedCfg) (s : State) : State :=
  let s := restoreLp .lp1 c.lp.lp1 (restoreLp .lp0 c.lp.lp0 s)
  let s := restoreEng .les c.eng.les (restoreEng .le1 c.eng.le1 (restoreEng .le0 c.eng.le0 s))
  let s := s.modHost fun h => { h with
    ib := ⟨{ h.ib.lp0 with enable := c.inband.lp0 }, { h.ib.lp1 with enable := c.inband.lp1 }⟩,
    mateEnable := c.mateEnable, alarmMask := c.alarmMask, fswMap := c.fswMap,
    evt := ⟨{ h.evt.pcie with mask := c.masks.pcie }, { h.evt.spi with mask := c.masks.spi },
            { h.evt.ib0 with mask := c.masks.ib0 }, { h.evt.ib1 with mask := c.masks.ib1 },
            { h.evt.mate with mask := c.masks.mate }⟩ }
  let s := { s with synce := c.synce, warmPort := c.warmPort }
  let s := c.lanes.foldl (fun s x => s.modLane x.1 fun l => { l with cfg := x.2 }) s
  let s := s.modTm fun m => { m with
    cfg := c.tm, sources := c.sources, profiles := c.policers }
  let s := c.queues.foldl (fun s x => modQueue x.1 (fun q => { q with
    cfg := x.2, bk := { q.bk with c := x.2.cbs * 1024, p := x.2.pbs * 1024 } }) s) s
  let s := c.gates.foldl (fun s x => modGate x.1 (fun g => { g with next := some x.2 }) s) s
  let s := modBurn s fun b => { b with enable := c.burnEnable, period := c.burnPeriod }
  let s := s.modMate fun m => { m with
    enable := c.mate.enable, rateMax := c.mate.rateMax, rxSleep := c.mate.rxSleep, retries := c.mate.retries }
  let s := s.modClk fun k => { k with
    cfg := c.clk, budget := budgetOf c.clk k.freezeErr, outs := c.outs, pps := c.pps }
  let s := (List.range 8).foldl (fun s i =>
    let (pr, fr) := c.cands.getD i (0, 10000)
    setCand i { cand s i with prio := pr, freq := fr } s) s
  let s := clkAlarms s
  let s := s.modMon fun m => { m with
    chans := c.chans, convs := m.convs.mapIdx fun i k => monCfgOver s.hk k (c.convs.getD i {}), watermark := c.watermark, overrun := c.overrun, groupPeriod := c.groupPeriod }
  let s := c.hports.foldl (fun s x => match x.2 with | some y => setHpCfg x.1 y s | none => s) s
  lineports.foldl (fun s p =>
    let r := match p with | .lp0 => c.lp.lp0.requested | .lp1 => c.lp.lp1.requested
    shortfall p (setRequested s p { r with service := r.service && service } 0).1) s

/-- SEQUENCE `a` is the higher of two, compared modulo 2^32 (R406). -/
def seqAfter (a b : Nat) : Bool := (a + 2 ^ 32 - b) % 2 ^ 32 != 0 && decide ((a + 2 ^ 32 - b) % 2 ^ 32 < 2 ^ 31)

/-- The slot in force is slot A. -/
def slotAFirst (x : Store) : Bool :=
  match x.a, x.b with
  | some a, some b => seqAfter a.seq b.seq
  | some _, none => true
  | none, _ => false

/-- The store slot in force. -/
def slotInForce (x : Store) : Option Slot := if slotAFirst x then x.a else x.b

/-- A slot is written over the other copy; its number. -/
def putSlot (v : Option Slot) (x : Store) : Store × Nat :=
  if slotAFirst x then ({ x with b := v }, 1) else ({ x with a := v }, 0)

end Sys2Proof.Machine
end

