-- ==== Sys2Proof/Machine/Firmware.lean ====
section
/-!
DEFINITION. Sys2Proof/Machine/Firmware.lean: update sessions, activation, trial and fallback, firmware pauses and the
configuration store's opcodes (chapter 16, R64, R65).
-/
namespace Sys2Proof.Machine
open Sys2Proof

/-! ## Banks, records and images -/

/-- Words `lo` to `hi` of a header. -/
def hdrWords (h : List Word) (lo hi : Nat) : List Word := (List.range (hi + 1 - lo)).map fun i => h.getD (lo + i) 0

/-- Word `i` of a header as a number. -/
def hdrW (h : List Word) (i : Nat) : Nat := (h.getD i 0).toNat

/-- A bank by number. -/
def flashBank (f : Firmware) (b : Nat) : Bank := if b = 0 then f.bank0 else f.bank1

def putBank (b : Nat) (v : Bank) (f : Firmware) : Firmware :=
  if b = 0 then { f with bank0 := v } else { f with bank1 := v }

/-- Step 4 of Table 16.2: magic, PART, SILICON_MIN, ROLLBACK against the fuses, signature. -/
def headerOk (fused : Nat) (h : List Word) : Bool :=
  hdrW h 0 == 0x55464D55 && hdrW h 2 == 0x3240 && decide (hdrW h 3 ≤ Config.siliconRev.toNat) &&
    decide (fused ≤ hdrW h 5) && Config.imageSignatureOk (hdrWords h 2 20) (hdrWords h 41 52) (hdrWords h 53 64)

/-- A bank is valid: left whole, and its header passes (R408, R414). -/
def bankValid (f : Firmware) (b : Nat) : Bool :=
  (flashBank f b).whole && headerOk f.rollbackFused (flashBank f b).hdr

/-- A body under a key: decrypted, its GCM tag checked (Table 16.3: IV words 34 to 36, TAG words 37 to 40, AAD words 0 to
36). -/
def openBody (key : List Byte) (h body : List Word) : Option (List Word) :=
  (gcmOpen key (wordsToBytes (hdrWords h 34 36)) (wordsToBytes (hdrWords h 0 36)) (wordsToBytes body)
    (wordsToBytes (hdrWords h 37 40))).map bytesToWords

/-- The image words match IMAGE_LENGTH and TARGET_HASH. -/
def targetOkImage (h ws : List Word) : Bool :=
  4 * ws.length == hdrW h 7 && sha384 ws == hdrWords h 9 20

/-- Step 5 of Table 16.2: a bank's image. -/
def bankImage (f : Firmware) (b : Nat) : Option Image :=
  let k := flashBank f b
  if bankValid f b then
    match openBody Config.deviceKey k.hdr k.body with
    | some ws => if targetOkImage k.hdr ws then some ⟨k.hdr, ws⟩ else none
    | none => none
  else none

/-- The boot record in force (R406): the valid record with the higher SEQUENCE; with none valid, a record of default
values. -/
def recAFirst (f : Firmware) : Bool := f.recA.valid && (!f.recB.valid || seqAfter f.recA.seq f.recB.seq)

def recInForce (f : Firmware) : BootRec :=
  if recAFirst f then f.recA else if f.recB.valid then f.recB else {}

/-- A new record is written over the other copy. -/
def writeRec (g : BootRec → BootRec) (f : Firmware) : Firmware :=
  let r := recInForce f
  let n := { g r with valid := true, seq := (r.seq + 1) % 2 ^ 32 }
  if recAFirst f then { f with recB := n } else { f with recA := n }

/-- The bank a session writes: the one that is not running. -/
def inactiveBank (f : Firmware) : Nat := 1 - f.runBank

/-- FW_VERSION of an image. -/
def imageVersion (i : Image) : Word := i.hdr.getD 4 0

/-- FW_VERSION of the running image; before one runs, the manual gives none: a free value (log entry 5). -/
def fwVersion (s : State) : Word × State :=
  match s.fw.running with
  | some i => (imageVersion i, s)
  | none => freeW s

/-- BOOT_PROGRESS step code while the boot ROM waits for a download (R408, R409). -/
def waitCode (f : Firmware) : Nat := if f.bankFailed then 0xD else 0xA

/-! ## Pauses (R64, R65) -/

/-- MSI-X vector 3. -/
def msix3 (s : State) : State := s.modPcie fun c => if c.linkUp then { c with msix3 := c.msix3 + 1 } else c

/-- A firmware pause begins: EV_FW_PAUSE (BEGIN), then the pause. -/
def beginPause (cause : Nat) (reason : Option Nat) (s : State) : State :=
  let s := msix3 (emit 0x8005 0 [0, w32 cause] s)
  s.modFw fun f => { f with pause := some { cause, since := s.hk, reason } }

/-- The deferred commands that were settled during the pause complete after it (R65). -/
def completeHeld (s : State) : State :=
  let fin := s.host.deferred.filter fun d => d.entries.all fun e => e.settled
  fin.foldl (fun s d => emitDone d s)
    (s.modHost fun h => { h with deferred := h.deferred.filter fun d => !d.entries.all fun e => e.settled })

/-- The events raised during the pause are sent after it. -/
def sendHeld (s : State) : State :=
  s.host.heldEvents.foldl (fun s e => emitF e.code e.target e.flags e.data s)
    (s.modHost fun h => { h with heldEvents := [] })

/-- Lock inactivity timers stop for the length of the pause: they go on at its end with what had passed before it; a lock
with activity in the pause begins then. -/
def shiftLocks (since : Nat) (s : State) : State :=
  let go (x : Port × Nat) : Port × Nat := (x.1, x.2 + (s.hk - max since x.2))
  s.modHost fun h => { h with cryptoLock := h.cryptoLock.map go, updateLock := h.updateLock.map go }

/-- A pause ends: EV_FW_PAUSE (END) with its duration in us (rounded down), held events and completions, and the refresh
of the microcode (R165). -/
def endPause (s : State) : State :=
  match s.fw.pause with
  | none => s
  | some p =>
    let d := s.hk - p.since
    let s := shiftLocks p.since (s.modFw fun f => { f with pause := none })
    let s := msix3 (emit 0x8005 0 [1, w32 p.cause, w32 (d / 192000)] s)
    let s := completeHeld (sendHeld s)
    let s := engines.foldl (fun s e => s.modEngine e fun x => { x with refresh := refreshList s e }) s
    pumpMate 8 s

/-- A fallback pause follows (R416). -/
def beginFallback (reason : Nat) (s : State) : State := beginPause 1 (some reason) s

/-- The fallback copy runs: boot record, UPDATE_FELL_BACK and the end of the activation (R416). -/
def fallBack (reason : Nat) (s : State) : State :=
  let was := s.fw.trial
  let ver := match s.fw.running with | some i => imageVersion i | none => 0
  let s := s.modFw fun f => match f.fallback with
    | some (b, i) => { f with running := some i, runBank := b }
    | none => f
  let s := s.modFw fun f => { writeRec (fun r => { r with trial := false, lastFallback := reason }) f with
    fallback := none, trial := none }
  let s := endPause s
  let s := raiseAlarm 0x8E10 0 0 [w32 reason] s
  let s := match was with
    | some t => emit 0x8E01 0 [w32 t.bank, ver, 2] s
    | none => s
  match s.fw.activation with
  | some _ =>
    let (v, s) := fwVersion s
    completeUnit 0x0E04 0 stOk 0 [1, w32 reason, v] (s.modFw fun f => { f with activation := none })
  | none => s

/-- Step 4 of Table 16.6: the trial starts. -/
def startTrial (a : Activation) (s : State) : State :=
  let s := s.modFw fun f =>
    { writeRec (fun r => { r with trial := true, trialBank := a.bank }) f with
      trial := some { bank := a.bank, expiry := s.now + secT a.window }, activation := none }
  let (v, s) := fwVersion (endPause s)
  completeUnit 0x0E04 0 stOk 0 [0, v] (emit 0x8E01 0 [w32 a.bank, v, 0] s)

/-- The staged image replaces the running one, which becomes the fallback copy (R415). -/
def runStaged (a : Activation) (s : State) : State :=
  s.modFw fun f => { f with
    fallback := f.running.map fun i => (f.runBank, i)
    running := match f.staged with | some (_, i) => some i | none => f.running
    runBank := a.bank }

/-- The pause of FW_ACTIVATE ends after 40 ms at most (Table 16.6). -/
def pauseOver (p : Pause) (s : State) : Bool := decide (p.since + msT 40 < s.hk)

/-- A pause reaches its end: step 4 of an activation, the start of a fallback pause, a finished fallback, or a restart. -/
def finishPause (handoverOk storeOk : Bool) (s : State) : State :=
  match s.fw.pause with
  | none => s
  | some p =>
    match p.cause, p.reason, s.fw.activation with
    | 0, _, some a =>
      if pauseOver p s then beginFallback 4 (endPause s)
      else
        let s := runStaged a s
        if !handoverOk then beginFallback 0 (endPause s)
        else if !storeOk then beginFallback 1 (endPause s)
        else startTrial a s
    | 1, some r, _ => fallBack r s
    | _, _, _ => endPause s

/-! ## UPDATE_LOCK (R412) -/

def fwLockOp : OpSpec where
  code := 0x0E06
  targets := fun t => t == 0
  lock := some .update
  resLen := fun _ _ _ => 1
  run := fun s _ c =>
    if c.port == .ib0 || c.port == .ib1 then refuse s stBadState 0x0109
    else okRes (setLock s .update (some (c.port, s.hk))) [w32 (portCode c.port)]
def execFwLock (c : Cmd) (s : State) : Host.Outcome State Fault Refusal := .next (serve fwLockOp c s)

def fwUnlockOp : OpSpec where
  code := 0x0E07
  targets := fun t => t == 0
  lock := some .update
  run := fun s _ c =>
    if c.port == .ib0 || c.port == .ib1 then refuse s stBadState 0x0109
    else okRes (releaseLock .update 0 s) []
def execFwUnlock (c : Cmd) (s : State) : Host.Outcome State Fault Refusal := .next (serve fwUnlockOp c s)

/-- UPDATE_LOCK is held by the commanding port, as it is on a port the boot ROM downloads from (R409, R412). -/
def holdsUpdate (s : State) (c : Cmd) : Bool :=
  bootRomReads s c.port || match s.host.updateLock with | some (p, _) => p == c.port | none => false

/-! ## Update sessions (R413, R414) -/

def fwUpdateBeginOp : OpSpec where
  code := 0x0E01
  targets := fun t => t == 0
  lock := some .update
  nparams := 1
  badParam := fun _ c => firstBad [(3, within (c.w 3) 512 33554432 && c.w 3 % 4 == 0)]
  resLen := fun _ _ _ => 1
  run := fun s _ c =>
    if !holdsUpdate s c then refuse s stBadState 0x0100
    else if s.fw.trial.isSome then refuse s stBadState 0x0101
    else if s.fw.ending.isSome || s.fw.activation.isSome then refuse s stBadState 0x0102
    else
      let s' := s.modFw fun f => { f with session := some { length := c.w 3, data := [] }, staged := none }
      if bootRomReads s c.port then
        let (w, s') := freeW s'
        okRes s' [w]
      else okRes s' [w32 (inactiveBank s.fw)]
def execFwUpdateBegin (c : Cmd) (s : State) : Host.Outcome State Fault Refusal := .next (serve fwUpdateBeginOp c s)

/-- The first failed check of Table 16.4 on a package header; a download takes KIND 0 only (R409). -/
def packageFault (boot : Bool) (s : State) (length : Nat) (h : List Word) : Option Nat :=
  let kind := bits (hdrW h 1) 8 8
  let build := match s.fw.running with | some i => hdrWords i.hdr 9 20 | none => []
  if hdrW h 0 ≠ 0x55464D55 ∨ bits (hdrW h 1) 0 8 ≠ 1 ∨ 1 < kind ∨ (boot ∧ kind = 1) then some 0x0110
  else if hdrW h 2 ≠ Config.deviceId.toNat then some 0x0111
  else if Config.siliconRev.toNat < hdrW h 3 then some 0x0112
  else if 16777216 < hdrW h 7 ∨ 512 + hdrW h 21 ≠ length then some 0x0116
  else if kind = 1 ∧ hdrWords h 22 33 ≠ build then some 0x0113
  else if hdrW h 5 < s.fw.rollbackFused then some 0x0114
  else if Config.imageSignatureOk (hdrWords h 2 20) (hdrWords h 41 52) (hdrWords h 53 64) then none
  else some 0x0115

/-- The first chunk holds the whole header, and no chunk goes beyond the announced length: the offending word. -/
def chunkRangeBad (s : State) (_ : Nat) (c : Cmd) : Option Nat :=
  match s.fw.session with
  | some x =>
    let n := c.params.length - 1
    let room := x.length / 4 - x.data.length
    if x.data.isEmpty && decide (n < 128) then some (4 + n) else if room < n then some (4 + room) else none
  | none => none

def fwUpdateChunkOp : OpSpec where
  code := 0x0E02
  targets := fun t => t == 0
  lock := some .update
  nparams := 2
  badParam := fun _ c => if 1017 < c.params.length then some 1020 else none
  unitBad := chunkRangeBad
  resLen := fun _ _ _ => 1
  run := fun s _ c =>
    let boot := bootRomReads s c.port
    let ws := c.params.drop 1
    if !holdsUpdate s c then refuse s stBadState 0x0100
    else match s.fw.session with
      | none => refuse s stBadState 0x0103
      | some x =>
        let data := x.data ++ ws
        let ok := okRes
          ((s.modFw fun f => { f with session := some { x with data } }).modPr fun r =>
            { r with bootCode := if boot then 0xB else r.bootCode, bootPlan := if boot then [] else r.bootPlan }) [w32 (4 * data.length)]
        if c.w 3 ≠ 4 * x.data.length then refuse s stBadState 0x0104
        else if x.data.isEmpty then
          match packageFault boot s x.length (ws.take 128) with
          | some d => { st := s.modFw fun f => { f with session := none }, status := stBadState, detail := d, keep := true }
          | none => ok
        else ok
def execFwUpdateChunk (c : Cmd) (s : State) : Host.Outcome State Fault Refusal := .next (serve fwUpdateChunkOp c s)

/-- FW_UPDATE_END: the package is complete; the previous content of the inactive bank is lost (R414). -/
def fwUpdateEndOp : OpSpec where
  code := 0x0E03
  targets := fun t => t == 0
  lock := some .update
  run := fun s _ c =>
    if !holdsUpdate s c then refuse s stBadState 0x0100
    else match s.fw.session with
      | none => refuse s stBadState 0x0103
      | some x =>
        if 4 * x.data.length ≠ x.length then refuse s stBadState 0x0106
        else
          let boot := bootRomReads s c.port
          { st := s.modFw fun f =>
              let f := { f with session := none, ending := some x }
              if boot then f else putBank (inactiveBank f) { cut := true } f
            settled := false }
def execFwUpdateEnd (c : Cmd) (s : State) : Host.Outcome State Fault Refusal := .next (serve fwUpdateEndOp c s)

/-- The operation words of a KIND 1 body (R411). -/
def buildDelta (base : List Word) : Nat → List Word → List Word → Option (List Word)
  | 0, _, _ => none
  | _, [], _ => none
  | n + 1, w :: r, acc =>
    let len := bits w.toNat 0 30
    match bits w.toNat 30 2, r with
    | 0, off :: r =>
      if off.toNat + len ≤ base.length then buildDelta base n r (acc ++ (base.drop off.toNat).take len) else none
    | 1, r => if len ≤ r.length then buildDelta base n (r.drop len) (acc ++ r.take len) else none
    | 2, [] => some acc
    | _, _ => none

/-- Steps 1 to 3 of R414: the image of a package, or the result code of the failure. -/
def packageImage (s : State) (x : UpdSession) : Nat × List Word :=
  let h := x.data.take 128
  match openBody Config.updateKey h (x.data.drop 128) with
  | none => (1, [])
  | some body =>
    let ws := if bits (hdrW h 1) 8 8 = 1 then
        match s.fw.running with
        | some i => (buildDelta i.words (body.length + 1) body []).filter fun l => 4 * l.length == hdrW h 7
        | none => none
      else some body
    match ws with
    | none => (2, [])
    | some ws => if targetOkImage h ws then (0, ws) else (3, ws)

/-- Step 4 of R414: the bank header and body under DEVICE_KEY, with a new IV. -/
def reencrypt (iv h ws : List Word) : Bank :=
  let h0 := hdrWords h 0 0 ++ [w32 1] ++ hdrWords h 2 20 ++ [w32 (4 * ws.length)] ++ List.replicate 12 0 ++ iv
  let (ct, tag) := gcmSeal Config.deviceKey (wordsToBytes iv) (wordsToBytes h0) (wordsToBytes ws)
  { whole := true, hdr := h0 ++ bytesToWords tag ++ hdrWords h 41 127, body := bytesToWords ct }

/-- Steps 6 and 7 from a time on, after which code 0x9 shows. -/
def laterSteps (l : Nat × Nat × Nat) (from_ : Nat) : List (Nat × Nat) := [(from_ + l.1, 7), (from_ + l.1 + l.2.1, l.2.2)]

/-- The download's image starts from HBM (R409): boot goes on with step 6. -/
def startDownload (i : Image) (s : State) : State :=
  (s.modFw fun f => { f with running := some i, download := true, runBank := (recInForce f).active }).modPr fun r =>
    { r with boot := .running, bootDownload := true, bootCode := 9, bootPlan := laterSteps r.bootLater s.now }

/-- FW_UPDATE_END_DONE: the checks, the build, the bank write and readback (R414). -/
def execFwUpdateEndDone (flashOk : Bool) (dt : Nat) (s : State) : Host.Outcome State Fault Refusal :=
  let s := advance dt s
  .next (match s.fw.ending with
    | some x =>
      if running s && s.fw.pause.isNone && pendingOn s 0x0E03 0 then
        let h := x.data.take 128
        let (res, ws) := packageImage s x
        let s := s.modFw fun f => { f with ending := none }
        let boot := match s.pr.boot with | .download _ _ => true | _ => false
        pump (if res ≠ 0 then
            completeUnit 0x0E03 0 stOk 0 [w32 res]
              (if boot then s.modPr fun r => { r with bootCode := waitCode s.fw, bootPlan := [] } else s)
          else if boot then
            startDownload ⟨h, ws⟩ (completeUnit 0x0E03 0 stOk 0 [0] s)
          else
            let b := inactiveBank s.fw
            let (iv, s) := freeWs 3 s
            let k := reencrypt iv h ws
            let s := s.modFw fun f => { putBank b { k with whole := flashOk } f with staged := some (b, ⟨k.hdr, ws⟩) }
            let s := if flashOk then clearAlarm 0x8E11 0 0 [] s else s
            completeUnit 0x0E03 0 stOk 0 [if flashOk then 0 else 4] s)
      else s
    | none => s)

def fwUpdateAbortOp : OpSpec where
  code := 0x0E09
  targets := fun t => t == 0
  lock := some .update
  run := fun s _ c =>
    if !holdsUpdate s c then refuse s stBadState 0x0100
    else if s.fw.session.isNone then refuse s stBadState 0x0103
    else okRes (s.modFw fun f => { f with session := none }) []
def execFwUpdateAbort (c : Cmd) (s : State) : Host.Outcome State Fault Refusal := .next (serve fwUpdateAbortOp c s)

/-! ## Activation and trial (R415 to R417) -/

def fwActivateOp : OpSpec where
  code := 0x0E04
  targets := fun t => t == 0
  lock := some .update
  nparams := 2
  badParam := fun _ c => firstBad [(3, within (c.w 3) 0 1), (4, c.w 4 == 0 || within (c.w 4) 60 86400)]
  run := fun s _ c =>
    let b := c.w 3
    if !holdsUpdate s c then refuse s stBadState 0x0100
    else if s.fw.trial.isSome then refuse s stBadState 0x0101
    else if s.fw.activation.isSome then refuse s stBadState 0x0102
    else if !bankValid s.fw b || (!s.fw.download && b == s.fw.runBank) then refuse s stBadState 0x0107
    else
      let st := match s.fw.staged with | some (k, _) => k == b | none => false
      { st := s.modFw fun f => { f with
          activation := some { bank := b, window := if c.w 4 = 0 then 600 else c.w 4, paused := st }
          staged := if st then f.staged else none }
        settled := false }
  after := fun s _ => match s.fw.activation with
    | some a => if a.paused && s.fw.pause.isNone then beginPause 0 none s else s
    | none => s
def execFwActivate (c : Cmd) (s : State) : Host.Outcome State Fault Refusal := .next (serve fwActivateOp c s)

/-- FW_ACTIVATE_IMAGE_LOADED: the image passes, and the pause begins; or the bank check failed before the pause. -/
def execFwActivateImageLoaded (dt : Nat) (s : State) : Host.Outcome State Fault Refusal :=
  let s := advance dt s
  .next (match s.fw.activation with
    | some a =>
      if running s && s.fw.pause.isNone && !a.paused && pendingOn s 0x0E04 0 then
        match bankImage s.fw a.bank with
        | some i =>
          pump (beginPause 0 none (s.modFw fun f => { f with
            staged := some (a.bank, i), activation := some { a with paused := true } }))
        | none =>
          let (v, s) := fwVersion (s.modFw fun f => { f with activation := none })
          pump (completeUnit 0x0E04 0 stOk 0 [2, v] s)
      else s
    | none => s)

/-- FW_PAUSE_DEADLINE: step 4 of the activation is not reached at 40 ms (R416). -/
def execFwPauseDeadline (dt : Nat) (s : State) : Host.Outcome State Fault Refusal :=
  let s := advance dt s
  .next (match s.fw.pause, s.fw.activation with
    | some p, some a =>
      if running s && p.cause == 0 && decide (p.since + msT 40 ≤ s.hk) then
        pump (beginFallback 4 (endPause (runStaged a s)))
      else s
    | _, _ => s)

/-- FW_CONFIRM. -/
def fwConfirmOp : OpSpec where
  code := 0x0E05
  targets := fun t => t == 0
  lock := some .update
  run := fun s _ c =>
    if !holdsUpdate s c then refuse s stBadState 0x0100
    else match s.fw.trial with
      | some t => if t.expiry ≤ s.now then refuse s stBadState 0x0108 else { st := s, settled := false }
      | none => refuse s stBadState 0x0108
def execFwConfirm (c : Cmd) (s : State) : Host.Outcome State Fault Refusal := .next (serve fwConfirmOp c s)

/-- SCHEMA of the running image. -/
def runSchema (s : State) : Nat := match s.fw.running with | some i => hdrW i.hdr 6 | none => 0

/-- A store slot is written with the next SEQUENCE (R418); the manual gives no first SEQUENCE: a free value (log entry
5). Slot and SEQUENCE. -/
def writeSlot (uptimeAt : Nat) (cfg : SavedCfg) (s : State) : Nat × Nat × State :=
  let (q, s) := match slotInForce s.store with
    | some x => ((x.seq + 1) % 2 ^ 32, s)
    | none => let (w, s) := freeW s; (w.toNat, s)
  let (st, n) := putSlot (some { seq := q, schema := runSchema s, uptime := uptimeAt, cfg }) s.store
  (n, q, { s with store := st })

/-- FW_CONFIRM_DONE (R417). -/
def execFwConfirmDone (dt : Nat) (s : State) : Host.Outcome State Fault Refusal :=
  let s := advance dt s
  .next (match s.fw.trial with
    | some t =>
      if running s && s.fw.pause.isNone && pendingOn s 0x0E05 0 then
        let (v, s) := fwVersion s
        let rb := match s.fw.running with | some i => max s.fw.rollbackFused (hdrW i.hdr 5) | none => s.fw.rollbackFused
        let (q, s) := match slotInForce s.store with
          | some x =>
            let (_, q, s) := writeSlot x.uptime x.cfg s
            (w32 q, s)
          | none => freeW s
        let s := s.modFw fun f => { writeRec (fun r => { r with active := t.bank, trial := false }) f with
          rollbackFused := rb, fallback := none, trial := none, download := false }
        let s := clearAlarm 0x8E10 0 0 [] s
        let s := emit 0x8E01 0 [w32 t.bank, v, 1] s
        pump (completeUnit 0x0E05 0 stOk 0 [w32 rb, q] s)
      else s
    | none => s)

/-! ## Status -/

/-- Three words of a bank: valid; FW_VERSION; ROLLBACK with SCHEMA (packing: log entry 24). For a bank that is not valid the
manual gives only that it is not: the others are free values (log entry 5). -/
def bankWords (b : Nat) (s : State) : List Word × State :=
  let h := (flashBank s.fw b).hdr
  if bankValid s.fw b then ([1, h.getD 4 0, w32 (bits (hdrW h 5) 0 6 + hdrW h 6 % 2 ^ 16 * 2 ^ 16)], s)
  else let (f, s) := freeWs 2 s; (0 :: f, s)

/-- Trial time remaining in s, rounded up. -/
def trialLeft (s : State) : Nat := match s.fw.trial with | some t => ceilDiv (t.expiry - s.now) (secT 1) | none => 0

def fwStatusOp : OpSpec where
  code := 0x0E08
  targets := fun t => t == 0
  flags := 8
  nparams := 1
  resLen := fun _ _ _ => 10
  run := fun s _ c =>
    let f := s.fw
    let w3 := f.runBank % 2 + onBit f.download 1 + onBit f.trial.isSome 2 + onBit f.staged.isSome 3 +
      (recInForce f).lastFallback % 16 * 16
    let bytes := match f.session with | some x => 4 * x.data.length | none => 0
    let (b0, s) := bankWords 0 s
    let (b1, s) := bankWords 1 s
    let ws := [w32 w3] ++ b0 ++ b1 ++ [w32 f.rollbackFused, w32 (trialLeft s), w32 bytes]
    okRes (if bit (c.w 3) 0 then clearAlarm 0x8E10 0 0 [] s else s) ws
def execFwStatus (c : Cmd) (s : State) : Host.Outcome State Fault Refusal := .next (serve fwStatusOp c s)

/-! ## Configuration store opcodes (R418, R419) -/

/-- CFG_SAVE: the settings in force are taken; the older slot is not valid while it is written. -/
def cfgSaveOp : OpSpec where
  code := 0x0E0A
  targets := fun t => t == 0
  lock := some .update
  run := fun s _ c =>
    if !holdsUpdate s c then refuse s stBadState 0x0100
    else if s.fw.trial.isSome then refuse s stBadState 0x0105
    else
      let st := (putSlot none s.store).1
      { st := { s with store := { st with writing := s.store.writing ++ [savedCfg s] } }, settled := false }
def execCfgSave (c : Cmd) (s : State) : Host.Outcome State Fault Refusal := .next (serve cfgSaveOp c s)

def execCfgSaveDone (dt : Nat) (s : State) : Host.Outcome State Fault Refusal :=
  let s := advance dt s
  .next (match s.store.writing with
    | cfg :: r =>
      if running s && s.fw.pause.isNone && pendingOn s 0x0E0A 0 then
        let (n, q, s) := writeSlot (uptime s) cfg { s with store := { s.store with writing := r } }
        pump (completeUnit 0x0E0A 0 stOk 0 [w32 n, w32 q] (clearAlarm 0x8E12 0 0 [] s))
      else s
    | [] => s)

def cfgClearOp : OpSpec where
  code := 0x0E0B
  targets := fun t => t == 0
  lock := some .update
  run := fun s _ c =>
    if !holdsUpdate s c then refuse s stBadState 0x0100
    else if s.fw.trial.isSome then refuse s stBadState 0x0105
    else { st := s, settled := false }
def execCfgClear (c : Cmd) (s : State) : Host.Outcome State Fault Refusal := .next (serve cfgClearOp c s)

def execCfgClearDone (dt : Nat) (s : State) : Host.Outcome State Fault Refusal :=
  let s := advance dt s
  .next (if running s && s.fw.pause.isNone && pendingOn s 0x0E0B 0 then
    pump (completeUnit 0x0E0B 0 stOk 0 [2] { s with store := { s.store with a := none, b := none } })
  else s)

def cfgPolicyOp : OpSpec where
  code := 0x0E0C
  targets := fun t => t == 0
  flags := 6
  lock := some .update
  nparams := 2
  badParam := fun _ c => firstBad [(3, within (c.w 3) 0 1), (4, within (c.w 4) 0 1)]
  resLen := fun _ _ _ => 2
  run := fun s _ c =>
    if !holdsUpdate s c then refuse s stBadState 0x0100
    else okRes (s.modFw fun f => writeRec (fun r => { r with autoRestore := c.w 3, restoreService := c.w 4 }) f)
      [w32 (c.w 3), w32 (c.w 4)]
def execCfgPolicy (c : Cmd) (s : State) : Host.Outcome State Fault Refusal := .next (serve cfgPolicyOp c s)

/-- Three words of a slot: valid with SCHEMA; SEQUENCE; UPTIME (packing: log entry 24). For a slot that is not valid the manual
gives only that it is not: the others are free values (log entry 5). -/
def slotWords (x : Option Slot) (s : State) : List Word × State :=
  match x with
  | some x => ([w32 (1 + x.schema % 2 ^ 16 * 2 ^ 16), w32 x.seq, w32 x.uptime], s)
  | none =>
    let (v, s) := freeW s
    let (f, s) := freeWs 2 s
    (w32 (bits v.toNat 16 16 * 2 ^ 16) :: f, s)

def cfgStatusOp : OpSpec where
  code := 0x0E0D
  targets := fun t => t == 0
  flags := 8
  resLen := fun _ _ _ => 7
  run := fun s _ _ =>
    let (a, s) := slotWords s.store.a s
    let (b, s) := slotWords s.store.b s
    okRes s (a ++ b ++ [w32 s.fw.lastRestore])
def execCfgStatus (c : Cmd) (s : State) : Host.Outcome State Fault Refusal := .next (serve cfgStatusOp c s)

end Sys2Proof.Machine
end

