-- ==== Sys2Proof/Machine/EngineMoves.lean ====
section
/-!
DEFINITION. Sys2Proof/Machine/EngineMoves.lean: entry to the FAULT phase (R440), and the ends of the engine transitions of
Table 1.9 (R27).
-/
namespace Sys2Proof.Machine
open Sys2Proof

/-! ## FAULT phase (R439, R440) -/

/-- A cause of Table 17.6: the AON fault latch is set and every unit but AON stops; a second cause changes nothing. -/
def enterFault (cls : Nat) (s : State) : State :=
  if !s.pr.powered || s.pr.poreset || s.pr.phase == .fault then s
  else
    let s := s.modPr fun r => { r with
      phase := .fault, faultClass := cls, power := .none, cmdReady := false, sleepEntry := false, waking := false,
      boot := .idle, bootCode := bootStep s, bootPlan := [], faultAt := s.now, thermTrip := decide (cls = 1), sysreset := false, internalReset := none }
    let s := s.modPcie fun c => { c with linkUp := false, enable := false, latch := none }
    let s := s.modFw fun f => { f with session := none, ending := none, activation := none, pause := none }
    { s with store := { s.store with writing := [] } }

/-! ## Engine transitions -/

/-- A transition of an engine is over. -/
def endMove (e : Eng) (s : State) : State := s.modEngine e fun x => { x with move := .none }

/-- PROT_ENGINE_RESTORE waits for an engine's power-up. -/
def restorePower (s : State) (e : Eng) : Bool :=
  match s.prot.restore with | some r => r.e == e && r.stage == .power | none => false

/-- ENGINE_COLD_TO_COOL_DONE: a die-to-die link that fails is fault class 8; `badLoads` are
the mismatches its next microcode loads will meet (R164). The fill rewrites the engine's memories. -/
def execEngineColdToCoolDone (e : Eng) (linkFail : Bool) (badLoads : List (Nat × Nat)) (dt : Nat) (s : State) :
    Host.Outcome State Fault Refusal :=
  let s := advance dt s
  .next (if running s && (s.engine e).move == .toCool then
      if linkFail then enterFault 8 s
      else
        let s := addBadLoads e badLoads (setEngSt e .cool (endMove e s))
        let s := s.modProt fun x => { x with checker := x.checker.filter fun w => w.2.1 != engT e }
        pump (if restorePower s e then beginTest s else steer s)
    else s)

/-- The serving engine of a port in service becomes ACTIVE, transmits and acquires. -/
def engineServes (e : Eng) (p : Lp) (s : State) : State :=
  let s := setEngSt e .active s
  let s := replaceRoles e (s.modEngine e fun x => { x with startup := some none })
  checkIdle e (acqBegin p false false (clearAlarm 0x8A13 (lpT p) 0 [] s))

/-- ENGINE_WAKE_DONE. -/
def execEngineWakeDone (e : Eng) (dt : Nat) (s : State) : Host.Outcome State Fault Refusal :=
  let s := advance dt s
  .next (if running s && (s.engine e).move == .waking && (s.engine e).st == .cool then
      let s := endMove e s
      match (s.engine e).serves with
      | some p => pump (if inService s p then engineServes e p s else steer s)
      | none => pump (steer s)
    else s)

/-- ENGINE_SHADOW_LOCK: the acquiring engine has reached TRACK; it is WARM. -/
def execEngineShadowLock (e : Eng) (dt : Nat) (s : State) : Host.Outcome State Fault Refusal :=
  let s := advance dt s
  .next (match (s.engine e).shadows with
    | some p =>
      if running s && (s.engine e).move == .shadowing && (acqOf s p true).st == .track then
        let s := setEngSt e .warm (endMove e s)
        let s := replaceRoles e (s.modEngine e fun x => { x with startup := some (some (s.hk + secT 1)) })
        let s := checkIdle e s
        let s := if e = .les ∧ s.prot.burn.phase = .acquire then burnLocked s else s
        let back : Bool := match s.prot.restore with | some r => r.e == e && r.stage == .back | none => false
        pump (if back then tryReturn s else steer s)
      else s
    | none => s)

/-- ENGINE_POWER_GATED: the engine is COLD. A restore that waited for it powers it up. -/
def execEnginePowerGated (e : Eng) (dt : Nat) (s : State) : Host.Outcome State Fault Refusal :=
  let s := advance dt s
  .next (if running s && (s.engine e).move == .gating then
      let s := setEngSt e .cold (endMove e s)
      let s := if restorePower s e then s.modEngine e fun x => { x with move := .toCool } else s
      pump (steer s)
    else s)

/-- ENGINE_RETENTION_REACHED: the engine is in COOL retention. -/
def execEngineRetentionReached (e : Eng) (dt : Nat) (s : State) : Host.Outcome State Fault Refusal :=
  let s := advance dt s
  .next (if running s && (s.engine e).move == .retaining then
      let sh := (s.engine e).shadows
      let s := match sh with | some p => acqIdle p true s | none => s
      let s := s.modEngine e fun x => { x with move := .none, shadows := none }
      let s := match sh with | some p => steerSynth p s | none => s
      pump (steer (setEngSt e .cool s))
    else s)

end Sys2Proof.Machine
end

