-- ==== Sys2Proof/Machine/Memory.lean ====
section
/-!
DEFINITION. Sys2Proof/Machine/Memory.lean: datapath parity and replay, memory protection and the checker test mode (R324
to R326).
-/
namespace Sys2Proof.Machine
open Sys2Proof

/-! ## Datapath parity and replay (R324, Table 12.5) -/

/-- The key of a link in the state. -/
def linkKey : ParityLink → Nat
  | .engine e l => engT e * 16 + l % 16
  | .chuck p => 0x1000 + lpNum p
  | .hub tm p => 0x2000 + 2 * b01 tm + lpNum p

/-- The unit PARITY_PERSIST names. -/
def linkUnit : ParityLink → Nat
  | .engine e _ => engT e
  | .chuck p => lpT p
  | .hub true _ => 0x80
  | .hub false p => lpT p

/-- A counter of the engine a link belongs to; other links have none. -/
def linkCount (l : ParityLink) (id : Nat) (s : State) : State :=
  match l with | .engine e _ => engCount e id 1 s | _ => s

/-- Words cross a link now. -/
def linkRuns (s : State) : ParityLink → Bool
  | .engine e _ => engRuns s e
  | .chuck p => inService s p
  | .hub true _ => tmRuns s
  | .hub false p => inService s p

/-- A parity injection of KIND 0 or 1 acts on the link: 0 none, else 1 + KIND. -/
def parityInjected (s : State) : ParityLink → Nat
  | .engine e l =>
    if injPending s (injKey 0 (engT e) l) ≠ 0 then 1
    else if injPending s (injKey 1 (engT e) l) ≠ 0 then 2
    else 0
  | _ => 0

/-- The injection counts. -/
def useParity (l : ParityLink) (k : Nat) (s : State) : State :=
  match l with
  | .engine e i => if k = 0 then s else useInjection (injKey (k - 1) (engT e) i) s
  | _ => s

/-- PARITY_PERSIST on a link (Table 12.5). -/
def parityPersist (l : ParityLink) (injected rx tx : Bool) (s : State) : State :=
  let u := linkUnit l
  let s := raiseAlarm 0x8A12 u 0 [w32 (b01 injected)] (linkCount l 0x0A11 s)
  let s := s.modProt fun x => { x with persist := SMap.set none x.persist u (some (s.hk + secT 1)) }
  match l with
  | .engine e _ => engineFault e 0 injected rx tx s
  | .chuck p => markFrames p 0 rx tx s
  | .hub true _ => ctrAdd s (sel 0 0 0x0A03) 1
  | .hub false p => s.modFrame p fun f => { f with rxMark := true }

/-- The directions a link's words belong to: receive, transmit. -/
def linkDirs (l : ParityLink) (tx : Bool) : Bool × Bool :=
  match l with
  | .engine _ 0 => (true, false)
  | .engine _ 1 => (false, true)
  | .engine _ 2 => (true, false)
  | .engine _ 3 => (false, true)
  | _ => (!tx, tx)

/-- PARITY_ERROR_DETECTED: a replay is requested, or refused when the word is no longer among the producer's 16 or the
request comes less than 64 cycles after the previous replay on the link. A refused replay on a link whose direction the
event does not tell touches both. -/
def execParityErrorDetected (link : ParityLink) (held : Bool) (dt : Nat) (s : State) : Host.Outcome State Fault Refusal :=
  let s := advance dt s
  let key := linkKey link
  .next (if running s && linkRuns s link then
      let k := parityInjected s link
      let s := useParity link k s
      let last := SMap.get 0 s.prot.lastReplay key
      if !held || (last != 0 && decide (s.hk < last - 1 + dpT 64)) then
        let d := match link with | .engine _ i => if i < 4 then linkDirs link false else (true, true) | _ => (true, true)
        pump (parityPersist link (k != 0) d.1 d.2 s)
      else
        linkCount link 0x0A10 ((match link with | .engine e _ => excludeFrame e s | _ => s).modProt fun x => { x with
          replays := x.replays ++ [(key, s.hk + dpT 8, k)], lastReplay := SMap.set 0 x.lastReplay key (s.hk + 1) })
    else s)

/-- REPLAY_RECEIVED: the replayed word is good, or fails again. -/
def execReplayReceived (link : ParityLink) (bad tx : Bool) (dt : Nat) (s : State) : Host.Outcome State Fault Refusal :=
  let s := advance dt s
  .next (match takeFirst (fun x => x.1 == linkKey link && decide (x.2.1 ≤ s.hk)) s.prot.replays with
    | some ((_, _, k), rest) =>
      if running s then
        let s := s.modProt fun x => { x with replays := rest }
        if bad || k == 2 then
          let d := linkDirs link tx
          pump (parityPersist link (k != 0) d.1 d.2 s)
        else s
      else s
    | none => s)

/-- PARITY_PERSIST_CLEAR_TIMER: 1 s without one on the unit. -/
def execParityPersistClearTimer (target dt : Nat) (s : State) : Host.Outcome State Fault Refusal :=
  let s := advance dt s
  .next (if running s && due (SMap.get none s.prot.persist target) s.hk then
      pump (clearAlarm 0x8A12 target 0 [0]
        (s.modProt fun x => { x with persist := SMap.set none x.persist target none }))
    else s)

/-! ## Memories (R325, Table 12.6) -/

/-- Engine memories 1 to 4. -/
def engMem (id : Nat) : Bool := within id 1 4

/-- The unit a memory ID belongs to (Table 12.7, kind 2). -/
def memUnitOk (id target : Nat) : Bool :=
  if engMem id then isEngT target else if id = 5 ∨ id = 6 then isLpT target else within id 7 13 && target == 0

/-- The memory is powered and clocked. -/
def memRuns (s : State) (id target : Nat) : Bool := !engMem id || engRuns s (engOfT target)

/-- The line port whose frames an engine's memory holds. -/
def memPort (s : State) (target : Nat) : Option Lp := (s.engine (engOfT target)).serves

/-- A key slot is lost: it becomes EMPTY, and the sessions from it end (memory 5). -/
def loseSlot (p : Lp) (i : Nat) (s : State) : State :=
  let k := (s.port p).crypto
  let of_ (o : Option Session) : Bool := match o with | some x => x.slot == i | none => false
  let s := match k.hs with
    | some h =>
      if h.slot = i then
        let s := lpCount (s.modCrypto p fun k => { k with hs := none }) p 0x070A 1
        if h.cause = 0 then completeUnit 0x0704 (lpT p) stBadState 0x0107 [] s else s
      else s
    | none => s
  let s := slotEvents p k (s.modCrypto p fun k => { k with
    slots := setAt k.slots i none
    tx := if of_ k.tx then none else k.tx
    rx := if of_ k.rx then none else k.rx
    rxPend := if of_ k.rxPend then none else k.rxPend
    deriving_ := match k.deriving_ with | some o => if o.slot = i then none else some o | none => none })
  let s := if of_ k.tx then match k.tx with | some x => sessionEvent p false x 3 s | none => s else s
  if of_ k.rx then match k.rx with | some x => sessionEvent p true x 3 s | none => s else s

/-- A flow entry is invalidated: a learned one goes, a static one is lost for 1 ms (memory 7). -/
def loseFlow (i : Nat) (s : State) : State :=
  s.modTm fun m => match SMap.get none m.flows i with
    | some f =>
      { m with flows := SMap.set none m.flows i (if f.static_ then some { f with lostUntil := s.hk + msT 1 } else none) }
    | none => m

/-- What Table 12.6 does for an uncorrectable word. -/
def uncorrectable (m : MemErr) (inj : Bool) (s : State) : State :=
  let e := engOfT m.target
  let p := lpOfT m.target
  match m.id with
  | 1 => if m.sub < 96 then spindleFault e m.sub 0 m.selfTest s else s
  | 2 => engineFault e 1 inj true true s
  | 3 =>
    match memPort s m.target with
    | some p => (s.modCod p fun c => { c with spoil := true }).modFrame p fun f => { f with rxMark := true, rxReplace := true }
    | none => s
  | 4 =>
    match memPort s m.target with
    | some p =>
      if m.tx then lpCount (s.modFrame p fun f => { f with txIdle := f.txIdle ++ [m.address] }) p 0x0A23 1
      else s.modFrame p fun f => { f with rxMark := true, rxReplace := true }
    | none => s
  | 5 => if m.both && decide (m.sub < 4) then loseSlot p m.sub s else s
  | 6 =>
    if !m.both then s
    else if m.sub < 1000 then removeSlice p (m.sub / 100 % 4) (m.sub % 100) 1 s
    else
      let ch := (m.sub - 1000) / 100 % 4
      chanAlarms p ch (s.modConv p fun c => { c with
        strobeBad := SMap.set 0 c.strobeBad (100 * ch + m.sub % 100) 3 })
  | 7 => loseFlow m.sub s
  | 8 => (flushQueues [m.sub] s).2
  | 9 => modQueue m.sub (fun q => { q with
      frames := q.frames.mapIdx fun i f => if i = m.address then { f with bad := true } else f }) s
  | 10 => s.modTap (lpOf m.sub) fun t => { t with bad := SMap.set false t.bad m.address true }
  | 12 => if s.fw.pause.isNone then beginPause 3 none s else s
  | 13 => if m.both then s.modProt fun x => { x with streamBad := true } else s
  | _ => s

/-- A SECDED error is found: corrected and counted, or handled as uncorrectable. Table 12.16 gives no codes for the action
taken: a free value (log entry 5). -/
def memoryError (m : MemErr) (s : State) : State :=
  let key := injKey (if m.double then 3 else 2) m.target m.id
  let inj := decide (injPending s key ≠ 0)
  let s := if inj then useInjection key s else s
  let count (id : Nat) (s : State) : State :=
    if engMem m.id then engCount (engOfT m.target) (0x0A10 + id) 1 s else ctrAdd s (sel 0 0 (0x0A00 + id)) 1
  if m.double then
    let s := count (if engMem m.id then 3 else 2) s
    let (act, s) := freeW s
    let s := emit 0x8A04 m.target [w32 m.id, w32 m.target, w32 m.address, act, w32 (b01 inj)] s
    uncorrectable m inj s
  else
    let s := if engMem m.id then excludeFrame (engOfT m.target) s else s
    count (if engMem m.id then 2 else 1) s

/-- The reads of a TAP_DMA find word `n` of the buffer uncorrectable (R325, memory 10 of Table 12.6; log entry 157). -/
def dmaFinds (p : Lp) (d : TapDma) (s : State) (n : Nat) : State :=
  if d.off / 4 ≤ n ∧ n < d.off / 4 + d.len / 4 then
    memoryError { id := 10, target := 0, double := true, both := false, selfTest := false, sub := lpNum p, address := n, tx := false } s
  else s

/-- TAP_DMA_DONE (R122): the span is in host memory; EV_CMD_DONE gives bytes written and error words, those known and those
its reads found. -/
def execTapDmaDone (p : Lp) (found : List Nat) (dt : Nat) (s : State) : Host.Outcome State Fault Refusal :=
  let s := advance dt s
  .next (match (s.port p).conv.tap.dma with
    | d :: r =>
      if running s then
        let s := found.foldl (dmaFinds p d) s
        let t := (s.port p).conv.tap
        let s := s.modTap p fun x => { x with dma := r }
        let s := s.modPcie fun k => { k with dmaDone := k.dmaDone ++ [(d.addr, tapWords t (d.off / 4) (d.len / 4))] }
        pump (completeUnit 0x020D (lpT p) stOk 0 [w32 d.len, w32 (tapErrors t (d.off / 4) (d.len / 4))] s)
      else s
    | [] => s)

/-- MEMORY_ERROR_DETECTED. -/
def execMemoryErrorDetected (m : MemErr) (dt : Nat) (s : State) : Host.Outcome State Fault Refusal :=
  let s := advance dt s
  .next (if running s && memUnitOk m.id m.target && memRuns s m.id m.target then pump (memoryError m s) else s)

/-- Scrub periods of Table 12.6 in ticks; none: not scrubbed. -/
def scrubPeriod : Nat → Option Nat
  | 1 => some (msT 100)
  | 2 => some (msT 10)
  | 5 => some (msT 10)
  | 6 => some (msT 100)
  | 7 => some (secT 1)
  | 8 => some (msT 10)
  | 9 => some (secT 10)
  | 11 => some (secT 1)
  | 12 => some (secT 1)
  | 13 => some (msT 10)
  | _ => none

/-- What SECDED finds in a word with its check bits: nothing, an error of one bit (false), or of more (true). -/
def secdedOf (d : U64) (c : Byte) : Option Bool :=
  if c = Config.secdedCheck d then none
  else some (!((List.range 64).any (fun i => Config.secdedCheck (d ^^^ BitVec.ofNat 64 (2 ^ i)) == c)
    || (List.range 8).any fun i => Config.secdedCheck d == c ^^^ BitVec.ofNat 8 (2 ^ i)))

/-- The data of a word after correction. -/
def secdedFix (d : U64) (c : Byte) : U64 :=
  match (List.range 64).find? fun i => Config.secdedCheck (d ^^^ BitVec.ofNat 64 (2 ^ i)) == c with
  | some i => if secdedOf d c = some false then d ^^^ BitVec.ofNat 64 (2 ^ i) else d
  | none => d

/-- The places of a memory at which a word of the checker test mode stands. -/
def wordAt (id target spn addr : Nat) (w : Nat × Nat × Nat × Nat × U64 × Byte) : Bool :=
  w.1 == id && w.2.1 == target && w.2.2.1 == spn && w.2.2.2.1 == addr

/-- A word replaces the one recorded at its place; in a spindle's local memory its data stand there. -/
def recordWord (w : Nat × Nat × Nat × Nat × U64 × Byte) (s : State) : State :=
  let s := s.modProt fun x => { x with
    checker := x.checker.filter (fun v => !wordAt w.1 w.2.1 w.2.2.1 w.2.2.2.1 v) ++ [w] }
  if w.1 = 1 then
    let e := engOfT w.2.1
    let p := spnOf s e w.2.2.1
    let a := 2 * w.2.2.2.1
    let d := w.2.2.2.2.1.toNat
    setSpn e w.2.2.1 { p with mem := SMap.set 0 (SMap.set 0 p.mem a (w32 d)) (a + 1) (w32 (d / 2 ^ 32)) } s
  else s

/-- A 64-bit value of two words. -/
def u64Of (lo hi : Nat) : U64 := BitVec.ofNat 64 (lo + hi * 2 ^ 32)

/-- The 64-bit word of a spindle's local memory. -/
def spnWord (s : State) (target spn addr : Nat) : U64 :=
  let m := (spnOf s (engOfT target) spn).mem
  u64Of (SMap.get 0 m (2 * addr)).toNat (SMap.get 0 m (2 * addr + 1)).toNat

/-- A word of the checker test mode still stands at its place. -/
def stands (s : State) (w : Nat × Nat × Nat × Nat × U64 × Byte) : Bool :=
  w.1 != 1 || spnWord s w.2.1 w.2.2.1 w.2.2.2.1 == w.2.2.2.2.1

/-- The device reads a word of the checker test mode with check bits that are not those of its data: it is corrected and
written back, or uncorrectable, as R325 says. Whether the spindle passes its self-test is a free value. -/
def checkerRead (w : Nat × Nat × Nat × Nat × U64 × Byte) (s : State) : State :=
  match secdedOf w.2.2.2.2.1 w.2.2.2.2.2 with
  | none => s
  | some double =>
    let (f, s) := freeW s
    let m : MemErr := { id := w.1, target := w.2.1, double, both := false, selfTest := f.getLsbD 0,
                        sub := if w.1 = 7 then w.2.2.2.1 else if w.1 = 9 then 256 else w.2.2.1,
                        address := w.2.2.2.1, tx := false }
    let s := if double then s.modProt fun x => { x with checker := x.checker.filter (· != w) }
      else
        let d := secdedFix w.2.2.2.2.1 w.2.2.2.2.2
        recordWord (w.1, w.2.1, w.2.2.1, w.2.2.2.1, d, Config.secdedCheck d) s
    memoryError m s

/-- SCRUB_PASS: a memory's period has passed; what the scrubber finds is handled as R325 says, words of the checker test mode
first. -/
def execScrubPass (id target : Nat) (found : List MemErr) (dt : Nat) (s : State) : Host.Outcome State Fault Refusal :=
  let s := advance dt s
  let key := id * 256 + target
  let last := SMap.get 0 s.prot.scrubs key
  .next (match scrubPeriod id with
    | some t =>
      if running s && memUnitOk id target && memRuns s id target && (last == 0 || decide (last - 1 + t ≤ s.hk)) then
        let s := (s.prot.checker.filter fun w => w.1 == id && w.2.1 == target && stands s w).foldl (fun s w => checkerRead w s) s
        let s := (found.filter fun m => m.id == id && m.target == target).foldl (fun s m => memoryError m s) s
        pump (s.modProt fun x => { x with scrubs := SMap.set 0 x.scrubs key (s.hk + 1) })
      else s
    | none => s)

/-! ## Checker test mode (R326) -/

/-- The places PROT_CHECKER may write: an IDLE or OUT spindle's memory, an invalid flow-table entry, a free packet-buffer
cell, the region of an IDLE tap. Which cells are free the manual does not map to addresses: while no cell is in use,
every one. -/
def checkerPlace (s : State) (id target spn addr : Nat) : Bool :=
  if id = 1 then
    isEngT target && decide (spn < 96) && decide (addr < 8192) && ((spnOf s (engOfT target) spn).role == 0 || (spnOf s (engOfT target) spn).role == 6)
  else if id = 7 then decide (addr < 524288) && (SMap.get none s.tm.flows addr).isNone
  else if id = 9 then cellsUsed s == 0
  else if id = 10 then lineports.all fun p => (s.port p).conv.tap.st == .idle
  else false

/-- PROT_CHECKER: the word as read back with its check bits. -/
def protCheckerOp : OpSpec where
  code := 0x0A09
  targets := fun t => t == 0
  sealable := true
  nparams := 7
  badParam := fun _ c => firstBad [(3, within (c.w 3) 1 13),
    (4, c.w 3 != 1 || (isEngT (bits (c.w 4) 0 8) && decide (bits (c.w 4) 8 8 < 96))), (9, decide (c.w 9 < 256))]
  resLen := fun _ _ _ => 3
  run := fun s _ c =>
    let tgt := if c.w 3 = 1 then bits (c.w 4) 0 8 else 0
    let spn := if c.w 3 = 1 then bits (c.w 4) 8 8 else 0
    let addr := c.w 5 + c.w 6 * 2 ^ 32
    if checkerPlace s (c.w 3) tgt spn addr then
      okRes (recordWord (c.w 3, tgt, spn, addr, u64Of (c.w 7) (c.w 8), w8 (c.w 9)) s) [w32 (c.w 7), w32 (c.w 8), w32 (c.w 9)]
    else refuse s stBadState 0x0109
def execProtChecker (c : Cmd) (s : State) : Host.Outcome State Fault Refusal := .next (serve protCheckerOp c s)

end Sys2Proof.Machine
end

