-- ==== Sys2Proof/Machine/Seal.lean ====
section
/-!
DEFINITION. Sys2Proof/Machine/Seal.lean: the SEAL fuse, the debug gate, debug memory access and the JTAG instruction
register (chapter 18).
-/
namespace Sys2Proof.Machine
open Sys2Proof

/-- A private JTAG instruction (Table 18.3). -/
def jtagPrivate (code : Nat) : Bool := within code 0x40 0x43

/-- A customer kernel runs whose image carries no signature (Table 18.2). -/
def unsignedKernel (s : State) : Bool :=
  engines.any fun e => (List.range 8).any fun i =>
    let k := kernelOf s e i
    (k.st == .running || k.st == .paused) && kernelSigType k != 1

/-- Word 3 of a dry run of SEAL_DEVICE. -/
def sealPreview (s : State) : Word :=
  w32 (onBit s.sealSt.custKey.isSome 0 + onBit (unsignedKernel s) 1 + onBit (jtagPrivate s.sealSt.jtagIr) 2)

/-- SEAL_DEVICE: the gate closes with the first programming pulse (R447). -/
def sealDeviceOp : OpSpec where
  code := 0x0F01
  targets := fun t => t == 0
  flags := 2
  sealable := true
  nparams := 2
  badParam := fun _ c => firstBad [(3, c.w 3 == 0x5345414C), (4, c.w 4 == Config.deviceId.toNat)]
  resLen := fun _ _ c => if c.flag 1 then 1 else 0
  run := fun s _ c =>
    if !(c.port == .pcie || c.port == .spi) then refuse s stBadState 0x0100
    else if c.flag 1 then okRes s [sealPreview s]
    else if jtagPrivate s.sealSt.jtagIr then refuse s stBadState 0x0101
    else if unsignedKernel s then refuse s stBadState 0x0102
    else { st := s.modSeal fun x => { x with gateClosed := true }, settled := false }
def execSealDevice (c : Cmd) (s : State) : Host.Outcome State Fault Refusal := .next (serve sealDeviceOp c s)

/-- SEAL_DEVICE_DONE: the readback; copy B is programmed again once if only A reads blown (R453). -/
def execSealDeviceDone (aBlown bBlown bRetry : Bool) (dt : Nat) (s : State) : Host.Outcome State Fault Refusal :=
  let s := advance dt s
  .next (if running s && pendingOn s 0x0F01 0 then
      let b := s.sealSt.fuseB || bBlown || (aBlown && bRetry)
      let a := s.sealSt.fuseA || aBlown
      let first := a && !s.sealSt.fuseA
      let s := s.modSeal fun x => { x with fuseA := a, fuseB := b, told := x.told || a }
      let s := if first then emit 0x8F01 0 [w32 (b01 bBlown)] s else s
      pump (completeUnit 0x0F01 0 stOk 0 [w32 (b01 (!(a && b)))] s)
    else s)

/-- SEAL_STATUS. -/
def sealStatusOp : OpSpec where
  code := 0x0F02
  targets := fun t => t == 0
  flags := 8
  resLen := fun _ _ _ => 2
  run := fun s _ _ =>
    let x := s.sealSt
    okRes s [w32 (onBit (isSealed s) 0 + onBit x.fuseA 1 + onBit x.fuseB 2 + onBit x.gateClosed 3 +
      onBit x.custKey.isSome 4 + onBit (raised s 0x8F10 0 0) 5), x.jtagRefused]
def execSealStatus (c : Cmd) (s : State) : Host.Outcome State Fault Refusal := .next (serve sealStatusOp c s)

/-- A seal violation (R448). -/
def sealViolation (s : State) : State :=
  let s := zeroise (s.modSeal fun x => { x with
    gateClosed := true, violation := true, jtagIr := if jtagPrivate x.jtagIr then 0xFF else x.jtagIr })
  if running s then raiseAlarm 0x8F10 0 0 [] s else s

/-- SEAL_GATE_CHECK: the gate's sense circuit, every 1 ms, and in DARK on the AON clock. -/
def execSealGateCheck (gateOpen : Bool) (dt : Nat) (s : State) : Host.Outcome State Fault Refusal :=
  let s := advance dt s
  .next (if s.pr.powered && !inReset s && s.pr.phase != .fault && gateOpen && isSealed s then pump (sealViolation s) else s)

/-! ## Debug memory access (R450) -/

/-- Memory ID and unit of words 3 and 4: any SRAM of Table 12.6; memories 9 to 11 are HBM. -/
def dbgMemOk (c : Cmd) : Option Nat :=
  let t := bits (c.w 4) 0 8
  firstBad [(3, within (c.w 3) 1 8 || within (c.w 3) 12 13),
    (4, c.w 3 == 5 || (memUnitOk (c.w 3) t && (c.w 3 != 1 || decide (bits (c.w 4) 8 8 < 96)))),
    (7, within (c.w 7) 1 508)]

/-- A word with its check bits that the manual does not give. -/
def dbgFree (s : State) : (U64 × Byte) × State :=
  let (ws, s) := freeWs 3 s
  ((u64Of (ws.getD 0 0).toNat (ws.getD 1 0).toNat, w8 (ws.getD 2 0).toNat), s)

/-- The word at an address: one the host wrote at a place that is free for it, corrected as any read does (R325), or the
word of an IDLE or OUT spindle's memory; else free values (log entry 5). -/
def dbgWord (s : State) (id target spn addr : Nat) : (U64 × Byte) × State :=
  if !checkerPlace s id target spn addr then dbgFree s
  else
    let plain (s : State) : (U64 × Byte) × State :=
      if id = 1 then
        let d := spnWord s target spn addr
        ((d, Config.secdedCheck d), s)
      else dbgFree s
    match s.prot.checker.find? (wordAt id target spn addr) with
    | some w =>
      let d := w.2.2.2.2.1
      if !stands s w then plain s
      else match secdedOf d w.2.2.2.2.2 with
        | none => ((d, w.2.2.2.2.2), s)
        | some false =>
          let d' := secdedFix d w.2.2.2.2.2
          ((d', Config.secdedCheck d'), checkerRead w s)
        | some true => dbgFree (checkerRead w s)
    | none => plain s

/-- `n` words from an address on. -/
def dbgWords (id target spn : Nat) : Nat → Nat → State → List (U64 × Byte) × State
  | 0, _, s => ([], s)
  | n + 1, addr, s =>
    let (w, s) := dbgWord s id target spn addr
    let (r, s) := dbgWords id target spn n (addr + 1) s
    (w :: r, s)

/-- The reply: every four 64-bit words, LO then HI, and then a word of their check bits (log entry 24). -/
def dbgReply : Nat → List (U64 × Byte) → List Word
  | 0, _ => []
  | _, [] => []
  | n + 1, l =>
    let g := l.take 4
    (g.map fun w => lohi w.1).flatten ++
      [w32 ((List.range 4).foldl (fun a i => a + ((g.getD i (0, 0)).2.toNat) * 2 ^ (8 * i)) 0)] ++ dbgReply n (l.drop 4)

/-- The address of words 5 and 6. -/
def dbgAddr (c : Cmd) : Nat := c.w 5 + c.w 6 * 2 ^ 32

/-- Spindle of word 4, for memory 1. -/
def dbgSpn (c : Cmd) : Nat := if c.w 3 = 1 then bits (c.w 4) 8 8 else 0

def dbgMemReadOp : OpSpec where
  code := 0x0F03
  targets := fun t => t == 0
  sealable := true
  nparams := 5
  badParam := fun _ c => dbgMemOk c
  resLen := fun _ _ c => 2 * c.w 7 + ceilDiv (c.w 7) 4
  run := fun s _ c =>
    if c.w 3 = 5 then refuse s stBadState 0x0103
    else
      let (l, s) := dbgWords (c.w 3) (bits (c.w 4) 0 8) (dbgSpn c) (c.w 7) (dbgAddr c) s
      okRes s (dbgReply l.length l)
def execDbgMemRead (c : Cmd) (s : State) : Host.Outcome State Fault Refusal := .next (serve dbgMemReadOp c s)

/-- DBG_MEM_WRITE: data with freshly computed check bits. What a word means to a unit that uses its memory the manual does
not say: words at such places are not recorded, but for the local memory of a spindle, which holds them (log entry 50). -/
def dbgMemWriteOp : OpSpec where
  code := 0x0F04
  targets := fun t => t == 0
  sealable := true
  nparams := 5
  badParam := fun _ c => match dbgMemOk c with
    | some w => some w
    | none => if c.params.length < 5 + 2 * c.w 7 then some (3 + c.params.length) else none
  resLen := fun _ _ _ => 1
  run := fun s _ c =>
    if c.w 3 = 5 then refuse s stBadState 0x0103
    else
      let put (s : State) (i : Nat) : State :=
        let v := u64Of (c.w (8 + 2 * i)) (c.w (9 + 2 * i))
        if checkerPlace s (c.w 3) (bits (c.w 4) 0 8) (dbgSpn c) (dbgAddr c + i) || (c.w 3 == 1 && decide (dbgAddr c + i < 8192)) then
          recordWord (c.w 3, bits (c.w 4) 0 8, dbgSpn c, dbgAddr c + i, v, Config.secdedCheck v) s
        else s
      okRes ((List.range (c.w 7)).foldl put s) [w32 (c.w 7)]
def execDbgMemWrite (c : Cmd) (s : State) : Host.Outcome State Fault Refusal := .next (serve dbgMemWriteOp c s)

/-! ## JTAG (R451) -/

/-- Instructions that act only in reset or in FAULT. -/
def jtagBoundary (code : Nat) : Bool := [0x00, 0x03, 0x04, 0x08, 0x09].contains code

/-- Boundary scan may act. -/
def boundaryOk (s : State) : Bool := inReset s || s.pr.phase == .fault

/-- JTAG_INSTRUCTION_LOAD: what the instruction register is decoded as (Table 18.3). -/
def execJtagInstructionLoad (code dt : Nat) (s : State) : Host.Outcome State Fault Refusal :=
  let s := advance dt s
  .next (if !s.pr.powered then s
    else if jtagPrivate code then
      if s.sealSt.gateClosed || isSealed s then
        s.modSeal fun x => { x with jtagIr := 0xFF, jtagRefused := x.jtagRefused + 1 }
      else s.modSeal fun x => { x with jtagIr := code }
    else if jtagBoundary code then s.modSeal fun x => { x with jtagIr := if boundaryOk s then code else 0xFF }
    else if code = 0x01 ∨ code = 0x02 then s.modSeal fun x => { x with jtagIr := code }
    else s.modSeal fun x => { x with jtagIr := 0xFF })

/-- TRST_N_ASSERT. -/
def execTrstNAssert (dt : Nat) (s : State) : Host.Outcome State Fault Refusal :=
  let s := advance dt s
  .next (s.modSeal fun x => { x with jtagIr := 0x02 })

end Sys2Proof.Machine
end

