-- ==== Sys2Proof/Machine/Fsw.lean ====
section
/-!
DEFINITION. Sys2Proof/Machine/Fsw.lean: the fast status window (R67, R68), the ring registers of the PCIe port (R42 to R45),
the SPI frames (R46 to R48), packets of the in-band channels (R49), and the inactivity of locks (R66).
-/
namespace Sys2Proof.Machine
open Sys2Proof

/-! ## Words of the window (Tables 2.8 to 2.10) -/

/-- GRAIN_PHASE. -/
def phaseNum : Phase → Nat
  | .strap => 0
  | .boot => 1
  | .run => 2
  | .fault => 3

/-- BOOT_PROGRESS (R407). -/
def bootProgress (s : State) : Nat :=
  let r := s.pr
  bootStep s % 16 + onBit r.bootBank 4 + onBit r.bootDownload 5 + onBit (r.bootOther && !within (bootStep s) 1 5) 6
    + onBit r.bootReached 7

/-- The PHASE word (Table 2.9). -/
def phaseWord (s : State) : Nat :=
  phaseNum s.pr.phase + powerNum s * 2 ^ 4 + onBit s.pr.cmdReady 6 + onBit s.fw.pause.isSome 7 + onBit s.fw.trial.isSome 8
    + s.pr.faultClass * 2 ^ 12 + bootProgress s * 2 ^ 16

/-- The 16 words of a line port's status block (Table 2.10). -/
def lpBlock (s : State) (p : Lp) : List Word :=
  ([engineStatusLp s p, defectsWord s p, acqWord s p, modeWordFsw s p] ++ estimateFsw s p ++ fecFsw s p
    ++ [cipherWord s p, protStatusWord s p, 0, 0, 0, 0]).map w32

/-- The value of a counter named by a DEV_FSW_MAP selector. Spindle counters are the live values of the spindle (R176),
PCn 48 bits with zeros above; FROZEN_CYCLES includes the freezes in progress (R178). -/
def selValue (s : State) (k : Nat) : U64 :=
  let t := bits k 24 8
  let sub := bits k 16 8
  let id := bits k 0 16
  if isEngT t then
    let x := (spnOf s (engOfT t) sub).perf
    if id = 0x0407 then BitVec.ofNat 64 (frozenCycles s (engOfT t))
    else if id = 0x0480 then x.cycle
    else if id = 0x0481 then x.ret
    else if id = 0x0482 then x.wst
    else if id = 0x0483 then x.sf
    else if id = 0x0484 then x.sb
    else if within id 0x0485 0x048A then BitVec.ofNat 64 (x.pcs.getD (id - 0x0485) 0)
    else ctr s k
  else if isLpT t ∧ id = 0x0205 then ctr s k + BitVec.ofNat 64 (interpDue s (lpOfT t))
  else ctr s k

/-- A selector names a counter of a counter table (R71). -/
def selectorOk (k : Nat) : Bool :=
  let t := bits k 24 8
  let sub := bits k 16 8
  let id := bits k 0 16
  let unit := sub == 0
  if isLpT t then
    unit && (within id 0x0201 0x0208 || within id 0x0301 0x030A || within id 0x0501 0x050A || within id 0x0601 0x060B
      || within id 0x0701 0x070B || within id 0x0A20 0x0A24 || within id 0x0D20 0x0D22)
  else if isEngT t then
    (unit && (within id 0x0401 0x0408 || within id 0x0A10 0x0A13)) || (decide (sub < 96) && within id 0x0480 0x048A)
  else if t = 0 then unit && within id 0x0A01 0x0A06
  else if isHpT t then (unit && within id 0x0801 0x080F) || (decide (sub < 16) && within id 0x0980 0x0988)
  else if t = 0x80 then unit && within id 0x0901 0x0909
  else if t = 0x90 then unit && within id 0x0B01 0x0B0A
  else if t = 0xA0 then unit && within id 0x0C01 0x0C07
  else if t = 0xB0 then (decide (sub < 4) && within id 0x0D01 0x0D07) || (unit && id == 0x0D08)
  else false

/-- The 64-bit pair whose LO word stands at an offset: UPTIME, or a pair of the counter snapshot area. -/
def pairAt (s : State) (off : Nat) : Option U64 :=
  if off = 0x020 then some (BitVec.ofNat 64 (uptime s))
  else if within off 0x100 0x7FF && off % 8 == 0 then
    let k := SMap.get 0 s.host.fswMap ((off - 0x100) / 8)
    some (if k = 0 then 0 else selValue s k)
  else none

/-- The counters of a spindle or host port that a pair of the snapshot area shows are brought up to the present. -/
def settleSel (off : Nat) (s : State) : State :=
  if within off 0x100 0x7FF && off % 8 == 0 then
    let k := SMap.get 0 s.host.fswMap ((off - 0x100) / 8)
    if isEngT (bits k 24 8) && within (bits k 0 16) 0x0480 0x048A then settlePerf (engOfT (bits k 24 8)) (bits k 16 8) s
    else if isHpT (bits k 24 8) && within (bits k 0 16) 0x0801 0x080D then settleHost (bits k 24 8 - 0x40) s
    else s
  else s

/-- The ring registers (Table 2.2). -/
def ringWord (c : PcieState) (off : Nat) : Word :=
  match off with
  | 0x800 => c.cmdBaseLo
  | 0x804 => c.cmdBaseHi
  | 0x808 => c.rplBaseLo
  | 0x80C => c.rplBaseHi
  | 0x810 => c.evtBaseLo
  | 0x814 => c.evtBaseHi
  | 0x818 => w32 c.ringSize
  | 0x81C => w32 (b01 c.enable)
  | 0x820 => w32 c.cmdProd
  | 0x824 => w32 c.cmdCons
  | 0x828 => w32 c.rplProd
  | 0x82C => w32 c.rplCons
  | 0x830 => w32 c.evtCons
  | _ => 0

/-- A word of the window but FW_VERSION; reserved words read 0 (log entry 24). In FAULT only the first four words read
(R440). -/
def fswLive (s : State) (off : Nat) : Word :=
  if off = 0x000 then 0x00003240
  else if off = 0x004 then 0x000000B0
  else if off = 0x00C then w32 (phaseWord s)
  else if s.pr.phase = .fault then 0
  else if off = 0x010 then w32 (alarmSummary s)
  else if off = 0x014 then w32 s.host.alarmMask
  else if off = 0x018 then w32 s.host.pcie.evtProd
  else if within off 0x040 0x07F then (lpBlock s .lp0).getD ((off - 0x040) / 4) 0
  else if within off 0x080 0x0BF then (lpBlock s .lp1).getD ((off - 0x080) / 4) 0
  else if off = 0x0C0 then w32 (engineStatusLes s)
  else if off = 0x0C4 then w32 (spareStatus s)
  else match pairAt s off with
    | some v => v.truncate 32
    | none => match (if 4 ≤ off then pairAt s (off - 4) else none) with
      | some v => (v >>> 32).truncate 32
      | none => if 0x800 ≤ off then ringWord s.host.pcie off else 0

/-- A word of the window. -/
def fswWord (s : State) (off : Nat) : Word × State :=
  if off = 0x008 then fwVersion s
  else
    let s := settleSel off s
    (fswLive s off, s)

/-- One read on a path with its latch: the word, the latch left, and the state. Any read spends the latch (R68). -/
def fswRead (latch : Option (Nat × Word)) (off : Nat) (s : State) : Word × Option (Nat × Word) × State :=
  let (w, s') := fswWord s off
  let w := match latch with | some (o, v) => if o = off then v else w | none => w
  let next := if s.pr.phase = .fault then none
    else (pairAt s' off).map fun (v : U64) => (off + 4, (v >>> 32).truncate 32)
  (w, next, s')

/-! ## PCIe (R32, R42 to R45) -/

/-- A wake source (Table 1.12) is detected: entry to DARK is abandoned, a wake begins, or the source joins one (R23, R29,
R34). Bit 5, the trial timer, is not masked. A masked source is not recorded, nor does it wake (log entry 112). A wake
by any other source cancels the AON wake timer (R29). -/
def wakeBy (b : Nat) (s : State) : State :=
  if !s.pr.powered || inReset s || s.pr.phase == .fault || (b != 5 && !s.pr.wakeMask.testBit b) then s
  else if s.pr.sleepEntry then
    let s := s.modPr fun r => { r with
      sleepEntry := false, cmdReady := true, wakeCause := 2 ^ b, wakeTimer := if b = 5 then r.wakeTimer else none }
    readQueues (emit 0x8011 0 [w32 (2 ^ b)] s)
  else if inDark s then
    s.modPr fun r => { r with
      waking := true, wakeCause := 2 ^ b, wakeTimer := if b = 5 then r.wakeTimer else none }
  else if s.pr.waking then
    s.modPr fun r => { r with wakeCause := r.wakeCause ||| 2 ^ b, wakeTimer := if b = 5 then r.wakeTimer else none }
  else s

/-- A transaction in DARK needs the link to leave L1.2, which is the PCIe wake of Table 1.11. -/
def pcieTouch (s : State) : State := if s.host.pcie.linkUp && inDark s then wakeBy 2 s else s

/-- The endpoint takes a transaction. -/
def pcieOpen (s : State) : Bool := running s && s.host.pcie.linkUp

/-- A read of BAR0 (R42): the window, the MSI-X table and pending-bit array, zeros beyond; any read spends the latch. The
table holds what the host wrote, and no bit pends (log entry 113). -/
def barRead (off : Nat) (s : State) : Word × Option (Nat × Word) × State :=
  if off < 0x1000 then fswRead s.host.pcie.latch off s
  else if off < 0x2000 then (SMap.get 0 s.host.pcie.msixTable (off - 0x1000), none, s)
  else (0, none, s)

/-- One read of BAR0 completes on the PCIe path. -/
def pcieComplete (off : Nat) (s : State) : State :=
  let (w, l, s) := barRead off s
  s.modPcie fun c => { c with latch := l, readBack := [w], unsupported := false }

/-- A PCIe read of a word of BAR0: held until command-ready while a wake runs, whatever source began it and also with the
PCIe wake masked (log entry 114); answered Unsupported Request while DARK lasts (R32). -/
def pcieRead (off : Nat) (s : State) : State :=
  let s := pcieTouch s
  let off := off / 4 * 4 % 65536
  if s.host.pcie.linkUp && inDark s then s.modPcie fun c => { c with readBack := [], unsupported := true }
  else if pcieOpen s && s.pr.waking then s.modPcie fun c => { c with heldReads := c.heldReads ++ [off] }
  else if pcieOpen s then pcieComplete off s
  else s

/-- PCIE_FSW_READ. -/
def execPcieFswRead (offset dt : Nat) (s : State) : Host.Outcome State Fault Refusal := .next (pcieRead offset (advance dt s))

/-- CMD_PROD is written. -/
def writeCmdProd (i : Nat) (s : State) : State := s.modPcie fun c => { c with cmdProd := i % slots c 0 }

/-- The doorbell; between the PCIe wake and command-ready it is latched (R32). -/
def doorbell (i : Nat) (s : State) : State :=
  if s.pr.waking then s.modPcie fun c => { c with heldDoorbell := some i } else writeCmdProd i s

/-- RPL_CONS is written: the slots the host has read are free again. -/
def writeRplCons (i : Nat) (s : State) : State :=
  s.modPcie fun c =>
    let n := slots c 4
    { c with rplRing := c.rplRing.drop ((i % n + n - c.rplCons % n) % n), rplCons := i % n }

/-- EVT_CONS is written. -/
def writeEvtCons (i : Nat) (s : State) : State :=
  s.modPcie fun c =>
    let n := slots c 8
    { c with evtRing := c.evtRing.drop ((i % n + n - c.evtCons % n) % n), evtCons := i % n }

/-- All ring indices become 0. -/
def ringReset (s : State) : State :=
  s.modPcie fun c => { c with
    cmdProd := 0, cmdCons := 0, rplProd := 0, rplCons := 0, evtProd := 0, evtCons := 0, rplRing := [], evtRing := [],
    heldDoorbell := none }

/-- ENABLE is written. -/
def writeEnable (on : Bool) (s : State) : State := s.modPcie fun c => { c with enable := on }

/-- A word of the MSI-X table is written: eight vectors of four words (R42, log entry 113). -/
def writeMsix (off : Nat) (v : Word) (s : State) : State :=
  if off < 0x80 then s.modPcie fun c => { c with msixTable := SMap.set 0 c.msixTable (off / 4 * 4) v } else s

/-- A PCIe write of BAR0: the doorbell region (Table 2.2) and the MSI-X table; writes elsewhere are ignored (R67). -/
def regWrite (off : Nat) (v : Word) (s : State) : State :=
  if within off 0x1000 0x1FFF then writeMsix (off - 0x1000) v s
  else match off with
  | 0x800 => s.modPcie fun c => { c with cmdBaseLo := v }
  | 0x804 => s.modPcie fun c => { c with cmdBaseHi := v }
  | 0x808 => s.modPcie fun c => { c with rplBaseLo := v }
  | 0x80C => s.modPcie fun c => { c with rplBaseHi := v }
  | 0x810 => s.modPcie fun c => { c with evtBaseLo := v }
  | 0x814 => s.modPcie fun c => { c with evtBaseHi := v }
  | 0x818 => s.modPcie fun c => { c with ringSize := v.toNat % 4096 }
  | 0x81C => (if v.getLsbD 1 then ringReset else id) (writeEnable (v.getLsbD 0) s)
  | 0x820 => doorbell v.toNat s
  | 0x82C => writeRplCons v.toNat s
  | 0x830 => writeEvtCons v.toNat s
  | _ => s

/-- A posted write of the host reaches the endpoint, and what waited for room goes on. -/
def pcieWrite (f : State → State) (dt : Nat) (s : State) : State :=
  let s := pcieTouch (advance dt s)
  if pcieOpen s then pump (f s) else s

/-- PCIE_CMD_PROD_WRITE. -/
def execPcieCmdProdWrite (index dt : Nat) (s : State) : Host.Outcome State Fault Refusal :=
  .next (pcieWrite (doorbell index) dt s)

/-- RING_ENABLE. -/
def execRingEnable (on : Bool) (dt : Nat) (s : State) : Host.Outcome State Fault Refusal :=
  .next (pcieWrite (writeEnable on) dt s)

/-- RING_RESET. -/
def execRingReset (dt : Nat) (s : State) : Host.Outcome State Fault Refusal := .next (pcieWrite ringReset dt s)

/-- RPL_CONS_WRITE. -/
def execRplConsWrite (index dt : Nat) (s : State) : Host.Outcome State Fault Refusal :=
  .next (pcieWrite (writeRplCons index) dt s)

/-- EVT_CONS_WRITE. -/
def execEvtConsWrite (index dt : Nat) (s : State) : Host.Outcome State Fault Refusal :=
  .next (pcieWrite (writeEvtCons index) dt s)

/-- REGISTER_WRITE. -/
def execRegisterWrite (offset : Nat) (value : Word) (dt : Nat) (s : State) : Host.Outcome State Fault Refusal :=
  .next (pcieWrite (regWrite offset value) dt s)

/-- The packet that stands at the beginning of a slot, by its LENGTH. -/
def slotPacket (ws : List Word) : List Word :=
  let len := bits (ws.getD 0 0).toNat 0 16
  if len ≤ 1020 then ws.take (len + 4) else ws

/-- The PCIe port may fetch a ring slot (R39, R40). -/
def mayFetch (s : State) : Bool :=
  let c := s.host.pcie
  pcieOpen s && c.enable && c.cmdProd != c.cmdCons && decide (s.host.rxq.pcie.length < 32)
    && decide (outstanding s .pcie < 32) && (packetsKept s || bootRomReads s .pcie)

/-- PCIE_RING_FETCH: `words` is what the slot holds. -/
def execPcieRingFetch (words : List Word) (dt : Nat) (s : State) : Host.Outcome State Fault Refusal :=
  let s := advance dt s
  .next (if mayFetch s then
      arrive .pcie (slotPacket words) (s.modPcie fun c => { c with cmdCons := (c.cmdCons + 1) % slots c 0 })
    else s)

/-- The PCIe port is down: waiting replies are discarded and counted, its locks are released (R41, R66). -/
def pcieDown (s : State) : State :=
  let n := s.host.pcie.rplWait.length
  let s := s.modHost fun h => { h with replyDrop := h.replyDrop + BitVec.ofNat 32 n }
  let s := s.modPcie fun c => { c with linkUp := false, rplWait := [], heldReads := [] }
  releasePortLocks .pcie s

/-- PERST_N_ASSERT: the endpoint and the ring registers are reset, nothing else (R42). -/
def execPerstNAssert (dt : Nat) (s : State) : Host.Outcome State Fault Refusal :=
  let s := advance dt s
  .next (if s.pr.powered && !inReset s && s.pr.phase != .fault then
      (pcieDown s).modPcie fun c =>
        { msix0 := c.msix0, msix1 := c.msix1, msix2 := c.msix2, msix3 := c.msix3, dmaDone := c.dmaDone }
    else s)

/-- PCIE_LINK_DOWN. -/
def execPcieLinkDown (dt : Nat) (s : State) : Host.Outcome State Fault Refusal :=
  let s := advance dt s
  .next (if s.host.pcie.linkUp then pcieDown s else s)

/-- PCIE_LINK_UP. -/
def execPcieLinkUp (dt : Nat) (s : State) : Host.Outcome State Fault Refusal :=
  let s := advance dt s
  .next (if running s then pump (s.modPcie fun c => { c with linkUp := true }) else s)

/-! ## SPI (R31, R46 to R48) -/

/-- A frame names this device: bits 7:6 equal the GRAIN[3:2] strap. -/
def spiOurs (s : State) (b : Byte) : Bool := b.toNat / 64 == bits s.pr.straps.toNat 2 2

/-- Frames are taken: from command-ready, and in download wait; not during a wake (R31, R409). -/
def spiTakes (s : State) : Bool :=
  running s && !s.pr.waking && (s.pr.boot == .done || bootRomReads s .spi)

/-- Window reads are answered in FAULT too, while the housekeeping clock runs (R440). -/
def spiReads (s : State) : Bool := spiTakes s || (s.pr.phase == .fault && hkRuns s)

/-- What SPI_MISO carried in the frame. -/
def setMiso (ws : Option (List Word)) (s : State) : State := s.modSpi fun c => { c with miso := ws }

/-- A whole packet, or the start of one, in a CMD_WRITE frame: words after the CRC are ignored, a bad sync byte is no
packet, and an early end of the frame counts in SPI_ABORT (R47, R54). -/
def spiPacket (ws : List Word) (s : State) : State :=
  match ws with
  | [] => s.modHost fun h => { h with spiAbort := h.spiAbort + 1 }
  | w :: _ =>
    let n := min 1020 (bits w.toNat 0 16) + 4
    if bits w.toNat 24 8 ≠ 0xC5 then s
    else if ws.length < n then s.modHost fun h => { h with spiAbort := h.spiAbort + 1 }
    else if packetsKept s || bootRomReads s .spi then arrive .spi (ws.take n) s
    else s

/-- SPI_CMD_WRITE: `words` are the whole words clocked after byte 0. -/
def execSpiCmdWrite (byte0 : Byte) (words : List Word) (dt : Nat) (s : State) : Host.Outcome State Fault Refusal :=
  let s := setMiso none (advance dt s)
  .next (if spiTakes s && spiOurs s byte0 && byte0.toNat % 64 == 1 then spiPacket words s else s)

/-- OUT_STATUS. -/
def outStatus (s : State) : Word := w32 (s.host.spi.out.length + onBit (!s.host.spi.out.isEmpty) 31)

/-- An OUT_READ frame of `clocked` whole words: OUT_STATUS, then the head packet, which leaves when all its words were
clocked (R47). -/
def spiOut (clocked : Nat) (s : State) : State :=
  let head := match s.host.spi.out with | k :: _ => k.words | [] => []
  let st := outStatus s
  let s := setMiso (some ((st :: head).take clocked)) s
  if !head.isEmpty && decide (head.length + 1 ≤ clocked) then pump (s.modSpi fun c => { c with out := c.out.drop 1 }) else s

/-- SPI_OUT_READ. -/
def execSpiOutRead (byte0 : Byte) (clocked dt : Nat) (s : State) : Host.Outcome State Fault Refusal :=
  let s := setMiso none (advance dt s)
  .next (if spiTakes s && spiOurs s byte0 && byte0.toNat % 64 == 2 then spiOut clocked s else s)

/-- Consecutive words of the window on the SPI path, wrapping 0xFFC to 0x000. -/
def spiWords : Nat → Nat → State → List Word × State
  | 0, _, s => ([], s)
  | n + 1, off, s =>
    let (w, l, s) := fswRead s.host.spi.latch off s
    let (ws, s) := spiWords n ((off + 4) % 4096) (s.modSpi fun c => { c with latch := l })
    (w :: ws, s)

/-- A window read of `n` words on the SPI path. -/
def spiFsw (off n : Nat) (s : State) : State :=
  let (ws, s) := spiWords n (off / 4 * 4 % 4096) s
  setMiso (some ws) s

/-- SPI_FSW_READ. -/
def execSpiFswRead (byte0 : Byte) (offset count dt : Nat) (s : State) : Host.Outcome State Fault Refusal :=
  let s := setMiso none (advance dt s)
  .next (if spiReads s && spiOurs s byte0 && byte0.toNat % 64 == 3 then spiFsw offset count s else s)

/-- FSW_LO_READ: one read on a path. -/
def execFswLoRead (path : FswPath) (offset dt : Nat) (s : State) : Host.Outcome State Fault Refusal :=
  let s := advance dt s
  .next (match path with
    | .pcie => pcieRead offset s
    | .spi => if spiReads s then spiFsw offset 1 s else s)

/-! ## In-band packets (R49) -/

/-- INBAND_PACKET_RECEIVED: the hunt goes through the bytes received up to the next packet with a good CRC. On a disabled
channel the packet is discarded and counted. -/
def execInbandPacketReceived (p : Lp) (dt : Nat) (s : State) : Host.Outcome State Fault Refusal :=
  let s := advance dt s
  let bs := (s.inband p).rx
  .next (if !running s then s
    else match huntBytes (bs.length + 1) 0 bs with
      | (d, .more rest _) => inbandDrop d (s.modInband p fun i => { i with rx := rest })
      | (d, .packet ws rest) =>
        let s := inbandDrop d (s.modInband p fun i => { i with rx := rest })
        if !(s.inband p).enable then inbandDrop 1 s
        else if packetsKept s then arrive (ibPort p) ws s
        else s)

/-! ## Lock inactivity (R66) -/

/-- LOCK_INACTIVITY_TIMEOUT: 2 s without activity from the holder; the timers stand still during a pause (R65). -/
def execLockInactivityTimeout (lock : Lock) (dt : Nat) (s : State) : Host.Outcome State Fault Refusal :=
  let s := advance dt s
  .next (match lockHolder s lock with
    | some (_, t) => if running s && s.fw.pause.isNone && decide (t + secT 2 ≤ s.hk) then pump (releaseLock lock 1 s) else s
    | none => s)

end Sys2Proof.Machine
end

