-- ==== Sys2Proof/Machine/Power.lean ====
section
/-!
DEFINITION. Sys2Proof/Machine/Power.lean: power, resets, boot, the power states and wake sources, SYNC, the status frame
and the pins (chapters 01, 16 and 17).
-/
namespace Sys2Proof.Machine
open Sys2Proof

/-! ## Resets (R432) -/

/-- What a reset leaves of the firmware: flash, with a bank whose write was cut short (Table 16.9), and fuses. -/
def fwAfterReset (f : Firmware) : Firmware :=
  { recA := f.recA, recB := f.recB, bank0 := f.bank0, bank1 := f.bank1, rollbackFused := f.rollbackFused }

/-- What a reset leaves of the seal: fuses, test access port. A SEAL_DEVICE cut short has programmed what it had: free
values (log entry 5). -/
def sealAfterReset (s : State) : Seal × State :=
  let x := s.sealSt
  let keep : Seal := { fuseA := x.fuseA, fuseB := x.fuseB, gateClosed := x.gateClosed, jtagIr := x.jtagIr,
                       custKey := x.custKey, told := x.told, violation := x.violation }
  if pendingOn s 0x0F01 0 then
    let (w, s) := freeW s
    let a := x.fuseA || bit w.toNat 0
    ({ keep with fuseA := a, fuseB := x.fuseB || (a && bit w.toNat 1) }, s)
  else (keep, s)

/-- The tamper detectors are outside every reset. -/
def detectorsOnly (k : KeyStore) : KeyStore :=
  { voltage := k.voltage, clock := k.clock, temperature := k.temperature, lid := k.lid }

/-- Everything outside the AON domain is reset; `pr` and `clk` say what of the AON domain stays. The locks are released
first, with their events (R66); what was written to the rings is in host memory. -/
def resetUnits (pr : PowerReset) (clk : Clk) (s : State) : State :=
  let (x, s) := sealAfterReset s
  let c := s.host.pcie
  let pcie : PcieState := { beforeReset := c.rplRing ++ c.evtRing, msix0 := c.msix0, msix1 := c.msix1, msix2 := c.msix2,
                            msix3 := c.msix3, dmaDone := c.dmaDone }
  { now := s.now, hk := s.hk, host := { pcie }, pr, clk, keys := detectorsOnly s.keys, fw := fwAfterReset s.fw,
    store := { s.store with writing := [] }, sealSt := x, freeCtr := s.freeCtr, pending := s.pending }

/-- PORESET_N is taken: the AON domain is reset too. -/
def poresetTaken (s : State) : State :=
  let s := resetLocks s
  resetUnits { powered := s.pr.powered, sysreset := s.pr.sysreset, straps := s.pr.straps } {} s

/-- The AON part of the clock unit: tick, interval count and the holdover timer (R375, R432). -/
def clkAonOnly (k : Clk) : Clk :=
  { nextTick := (match k.nextTick with | some t => some t | none => k.lastEdge.map (· + secT 1)),
    lastTick := k.lastTick, seq := k.seq, startUp := k.startUp, changed := k.changed || k.fromPps, entered := k.entered }

/-- SYSRESET_N, or DEV_RESET kind 1, is taken: the AON domain is kept. -/
def sysresetTaken (s : State) : State :=
  let s := resetLocks s
  let r := s.pr
  { resetUnits
    { powered := r.powered, poreset := r.poreset, sysreset := r.sysreset, internalReset := r.internalReset,
      straps := r.straps, uptimeFrom := r.uptimeFrom, wakeMask := r.wakeMask, wakeTimerS := r.wakeTimerS,
      wakeTimer := r.wakeTimer, thermTrip := r.thermTrip }
    (clkAonOnly s.clk) s with mate := { tx := s.mate.tx } }

/-- PORESET_ASSERT. -/
def execPoresetAssert (dt : Nat) (s : State) : Host.Outcome State Fault Refusal :=
  let s := advance dt s
  .next (if s.pr.powered && !s.pr.poreset then poresetTaken s else s)

/-- SYSRESET_ASSERT: ignored in FAULT; under a taken PORESET_N only the pin is noted. -/
def execSysresetAssert (dt : Nat) (s : State) : Host.Outcome State Fault Refusal :=
  let s := advance dt s
  .next (if !s.pr.powered || s.pr.phase == .fault || s.pr.sysreset then s
    else if s.pr.poreset then s.modPr fun r => { r with sysreset := true }
    else
      let s := if running s then sendGoodbye 1 s else s
      sysresetTaken (s.modPr fun r => { r with sysreset := true }))

/-! ## Boot (R407 to R409, R440, R448) -/

/-- Boot step 1: both SEAL copies are read (R448). -/
def bootSeal (s : State) : State :=
  let x := s.sealSt
  let s := s.modSeal fun x => { x with gateClosed := x.fuseA }
  if x.fuseA && !x.fuseB then
    s.modSeal fun x => { x with fuseB := true, sealedDue := !x.told, told := true }
  else if x.fuseB && !x.fuseA then sealViolation s
  else s

/-- The ends of boot steps 1 to 8 in ticks from the release: what the boot found, within Table 16.2's bounds, which are
385 ms later from step 5 on with a flash read in quad SDR (R405). -/
def stepEnds (x : BootFinds) : List Nat :=
  let late := if x.sdr then 385 else 0
  ((([1, 11, 12, 15, 145 + late, 165 + late, 225 + late, 245 + late].mapIdx fun i b => min (msT b) (x.ends.getD i (msT b))).foldl
    (fun (l : List Nat) e => max e (l.headD 0) :: l) [])).reverse

/-- The lengths of steps 6 and 7, with the code of step 7. -/
def stepsLater (x : BootFinds) : Nat × Nat × Nat :=
  let e := stepEnds x
  (e.getD 5 0 - e.getD 4 0, e.getD 6 0 - e.getD 5 0, if x.recal then 0xE else 8)

/-- The codes of steps 1 to `n` from the release on. -/
def firstSteps (x : BootFinds) (n : Nat) (s : State) : List (Nat × Nat) :=
  (List.range n).map fun i => (s.now + (stepEnds x).getD i 0, i + 1)

/-- The steps of a flash boot (Table 16.2): with the first bank failed, steps 4 and 5 run again under code 0xC, for a time
that the manual does not bound. `other`: the first bank failed, and whether its header passed. -/
def flashSteps (x : BootFinds) (other : Option Bool) (s : State) : List (Nat × Nat) × Nat :=
  match other with
  | none => (firstSteps x 5 s, s.now + (stepEnds x).getD 4 0)
  | some hdrOk =>
    let n := if hdrOk then 5 else 4
    let t := s.now + max ((stepEnds x).getD (n - 1) 0) (x.ends.getD 8 0)
    (firstSteps x n s ++ [(t, 0xC)], t)

/-- The boot ROM chooses a bank (R408). -/
def bootFlash (x : BootFinds) (s : State) : State :=
  let rec_ := recInForce s.fw
  let s := if rec_.trial then
      s.modFw fun f => { writeRec (fun r => { r with trial := false, lastFallback := 3 }) f with fellBack := some 3 }
    else s
  let a := rec_.active
  let hdrOk := bankValid s.fw a
  let go (b : Nat) (i : Image) (other : Bool) (s : State) : State :=
    let (plan, t) := flashSteps x (if other then some hdrOk else none) s
    (s.modFw fun f => { f with
      running := some i, runBank := b, bankFailed := other || f.bank0.cut || f.bank1.cut }).modPr fun r =>
      { r with boot := .running, bootBank := decide (b = 1), bootOther := other, bootCode := 9
               bootPlan := plan ++ laterSteps (stepsLater x) t }
  match bankImage s.fw a, bankImage s.fw (1 - a) with
  | some i, _ => go a i false s
  | none, some i => go (1 - a) i true s
  | none, none =>
    (s.modFw fun f => { f with bankFailed := true }).modPr fun r =>
      { r with boot := .download true true, bootCode := 0xD, bootDownload := true, bootOther := true
               bootPlan := (flashSteps x (some hdrOk) s).1 }

/-- Boot runs from step 1. The inner steps of Table 16.2 are not commands: what they do is done here, and the codes they show
follow the time (log entry 51). -/
def startBoot (x : BootFinds) (s : State) : State :=
  let s := s.modPr fun r => { r with phase := .boot, releasedAt := s.now, bootCode := 1, bootLater := stepsLater x }
  let s := s.modClk fun k => { k with windowAt := some (s.now + secT 1) }
  if x.romFail then enterFault 9 s
  else
    let s := bootSeal s
    if x.fillFail then enterFault 6 s
    else if x.dieFail then enterFault 8 s
    else match s.pr.straps.toNat % 4 with
      | 1 => s.modPr fun r => { r with boot := .download true false, bootCode := 0xA, bootDownload := true, bootPlan := firstSteps x 2 s }
      | 2 => s.modPr fun r => { r with boot := .download false true, bootCode := 0xA, bootDownload := true, bootPlan := firstSteps x 2 s }
      | _ => bootFlash x s

/-- PORESET_RELEASE: straps are sampled, UPTIME and the tick counter start. SEAL_VIOLATION clears with both copies
blown and the gate closed (R454). -/
def execPoresetRelease (straps : BitVec 6) (found : BootFinds) (dt : Nat) (s : State) :
    Host.Outcome State Fault Refusal :=
  let s := advance dt s
  .next (if s.pr.powered && s.pr.poreset then
      let s := s.modPr fun r => { r with poreset := false, straps, uptimeFrom := some s.now }
      let s := s.modClk fun k => { k with nextTick := some (s.now + secT 1) }
      let s := s.modSeal fun x => { x with violation := x.violation && !(x.fuseA && x.fuseB && x.gateClosed) }
      if s.pr.sysreset then s else startBoot found s
    else s)

/-- SYSRESET_RELEASE. -/
def execSysresetRelease (found : BootFinds) (dt : Nat) (s : State) : Host.Outcome State Fault Refusal :=
  let s := advance dt s
  .next (if s.pr.powered && s.pr.sysreset then
      let s := s.modPr fun r => { r with sysreset := false }
      if inReset s then s else startBoot found s
    else s)

/-- DEV_RESET_INTERNAL_RELEASE: 4 AON periods after the internal assertion. -/
def execDevResetInternalRelease (found : BootFinds) (dt : Nat) (s : State) : Host.Outcome State Fault Refusal :=
  let s := advance dt s
  .next (if s.pr.powered && due s.pr.internalReset s.now then
      let s := s.modPr fun r => { r with internalReset := none }
      if inReset s then s else startBoot found s
    else s)

/-- The AON edge after now: AON edges are taken at multiples of the period since power-up. -/
def nextAonEdge (s : State) : Nat := (s.now / aonT 1 + 1) * aonT 1

/-- DEV_RESET kind 1: the internal assertion (R432), taken here with the reply (log entry 52). -/
def internalAssert (s : State) : State :=
  let t := nextAonEdge s + aonT 4
  sysresetTaken ((sendGoodbye 1 s).modPr fun r => { r with internalReset := some t })

/-- POWER_APPLIED: the rails come up with PORESET_N low. -/
def execPowerApplied (dt : Nat) (s : State) : Host.Outcome State Fault Refusal :=
  let s := advance dt s
  .next (if s.pr.powered then s
    else (poresetTaken (s.modPr fun r => { r with powered := true })).modSeal fun x => { x with jtagIr := 0x02 })

/-- POWER_REMOVED: what is not flash or fuse is lost. -/
def execPowerRemoved (dt : Nat) (s : State) : Host.Outcome State Fault Refusal :=
  let s := advance dt s
  .next (if s.pr.powered then
      { poresetTaken (s.modPr fun r => { r with powered := false, sysreset := false }) with keys := {} }
    else s)

/-! ## Power states (R19 to R24) -/

/-- POWER of PHASE as a power state code (Table 2.9). -/
def powerCode : PowerSt → Nat
  | .none => 0
  | .ready => 1
  | .service => 2
  | .dark => 3

/-- The device enters a power state: EV_POWER_STATE with the previous and the new one. -/
def enterPower (p : PowerSt) (extra : List Word) (s : State) : State :=
  let old := s.pr.power
  let s := s.modPr fun r => { r with power := p }
  emit 0x8010 0 ([w32 (powerCode old), w32 (powerCode p)] ++ extra) s

/-- SERVICE is entered with the first line port in service, and left with the last (R19, Table 1.7). -/
def settlePower (s : State) : State :=
  let any := inService s .lp0 || inService s .lp1
  if s.pr.power = .ready ∧ any = true then burnSchedule (enterPower .service [] s)
  else if s.pr.power = .service ∧ any = false then burnSchedule (enterPower .ready [] s)
  else s

/-- DARK_REACHED: entry to DARK completes. EV_POWER_STATE goes before. -/
def execDarkReached (dt : Nat) (s : State) : Host.Outcome State Fault Refusal :=
  let s := advance dt s
  .next (if running s && s.pr.sleepEntry then
      let s := emit 0x8010 0 [1, 3] s
      let s := releaseLock .crypto 3 s
      let s := monDark (clkDark (mateDark (pump s)))
      s.modPr fun r => { r with
        power := .dark, sleepEntry := false, cmdReady := false,
        wakeTimer := if r.wakeTimerS = 0 then r.wakeTimer else some (s.now + secT r.wakeTimerS) }
    else s)

/-- SYNC_EDGE_WAKE. -/
def execSyncEdgeWake (dt : Nat) (s : State) : Host.Outcome State Fault Refusal :=
  .next (wakeBy 0 (advance dt s))

/-- SPI_CS_WAKE: the frame is discarded (R31). -/
def execSpiCsWake (dt : Nat) (s : State) : Host.Outcome State Fault Refusal :=
  .next (wakeBy 1 (advance dt s))

/-- PCIE_WAKE. -/
def execPcieWake (dt : Nat) (s : State) : Host.Outcome State Fault Refusal :=
  .next (wakeBy 2 (advance dt s))

/-- MATE_WAKE_SEQUENCE_DETECTED: outside DARK it wakes the receiver (Table 1.11). -/
def execMateWakeSequenceDetected (dt : Nat) (s : State) : Host.Outcome State Fault Refusal :=
  let s := wakeBy 3 (advance dt s)
  .next (if running s && !s.pr.waking then s.modMate fun m => { m with asleep := false } else s)

/-- AON_WAKE_TIMER_EXPIRY: it wakes the device in DARK, and otherwise lapses (R29). -/
def execAonWakeTimerExpiry (dt : Nat) (s : State) : Host.Outcome State Fault Refusal :=
  let s := advance dt s
  .next (if s.pr.powered && due s.pr.wakeTimer s.now then
      let s := s.modPr fun r => { r with wakeTimer := none }
      if s.pr.sleepEntry then s else wakeBy 4 s
    else s)

/-- The trial timer has reached TRIAL_WINDOW without FW_CONFIRM. -/
def trialOver (s : State) : Bool :=
  match s.fw.trial with | some t => decide (t.expiry ≤ s.now) && !pendingOn s 0x0E05 0 | none => false

/-- TRIAL_TIMER_EXPIRY: the fallback; in DARK the wake comes first (R416). -/
def execTrialTimerExpiry (dt : Nat) (s : State) : Host.Outcome State Fault Refusal :=
  let s := advance dt s
  .next (if !trialOver s || s.fw.pause.isSome then s
    else
      let s := wakeBy 5 s
      if umciaReads s then pump (beginFallback 2 s) else s)

/-! ## Command-ready (R19, R24, R407, R419) -/

/-- Step 8: the configuration store (R419). -/
def bootRestore (s : State) : State :=
  let r := recInForce s.fw
  if r.autoRestore = 0 then s
  else match slotInForce s.store with
    | none => s
    | some x =>
      if x.schema = runSchema s ∨ Config.canMigrate (runSchema s) x.schema = true then
        restoreCfg (r.restoreService == 1) x.cfg (s.modFw fun f => { f with lastRestore := 0 })
      else raiseAlarm 0x8E12 0 0 [] (s.modFw fun f => { f with lastRestore := 2 })

/-- The foreground corrections of both line ports (R100): free values. -/
def bootCalibrate (s : State) : State :=
  lineports.foldl (fun s p =>
    let (_, s') := freeWs 2000 s
    s'.modConv p fun c => { c with calBase := s.freeCtr }) s

/-- Alarms and events that waited for command-ready. -/
def bootReports (s : State) : State :=
  let s := if s.fw.bankFailed then raiseAlarm 0x8E11 0 0 [] (s.modFw fun f => { f with bankFailed := false }) else s
  let s := match s.fw.fellBack with
    | some r =>
      let b := (recInForce s.fw).trialBank
      emit 0x8E01 0 [w32 b, (flashBank s.fw b).hdr.getD 4 0, 2] (raiseAlarm 0x8E10 0 0 [w32 r] s)
    | none => s
  let s := s.modFw fun f => { f with fellBack := none }
  let s := if s.sealSt.sealedDue then emit 0x8F01 0 [1] (s.modSeal fun x => { x with sealedDue := false }) else s
  let s := if s.sealSt.violation then raiseAlarm 0x8F10 0 0 [] s else s
  if s.keys.zeroisedDue then
    raiseAlarm 0x8712 0 0 [] { s with keys := { s.keys with zeroisedDue := false } }
  else s

/-- The RUN phase: the first status frame has SEQ 0. -/
def enterRun (s : State) : State :=
  s.modPr fun r => { r with phase := .run, cmdReady := true, waking := false, statusSeq := 0 }

/-- The doorbell and the window reads the endpoint held are completed (R32). -/
def pcieWoken (s : State) : State :=
  let c := s.host.pcie
  let s := s.modPcie fun c => { c with heldDoorbell := none, heldReads := [] }
  let s := match c.heldDoorbell with | some i => writeCmdProd i s | none => s
  c.heldReads.foldl (fun s off => pcieComplete off s) s

/-- COMMAND_READY: boot ends, or a wake from DARK does. -/
def execCommandReady (dt : Nat) (s : State) : Host.Outcome State Fault Refusal :=
  let s := advance dt s
  .next (if !running s then s
    else if s.pr.waking then
      let cause := s.pr.wakeCause
      let s := s.modPr fun r => { r with readyAt := some s.now }
      let s := enterPower .ready [w32 cause] (enterRun s)
      let s := checkBudget (monWake (restartCands (mateWake (hostWake s))))
      let s := readQueues (bootReports s)
      let s := pcieWoken s
      pump (if trialOver s then beginFallback 2 s else s)
    else if s.pr.boot == .running then
      let s := bootRestore (monBoot (bootCalibrate s))
      let s := (enterRun s).modPr fun r => { r with boot := .done, bootCode := 9, bootPlan := [], bootReached := true }
      let s := enterPower .ready [] s
      pump (readQueues (mateStart (bootReports s)))
    else s)

/-! ## Fault causes (Table 17.6) -/

/-- THERMAL_TRIP. One in the AON period of an external trip is class 1 (Table 17.12). -/
def execThermalTrip (dt : Nat) (s : State) : Host.Outcome State Fault Refusal :=
  let s := advance dt s
  .next (if s.pr.powered && !s.pr.poreset && s.pr.phase == .fault && s.pr.faultClass == 2
        && decide (s.now / aonT 1 = s.pr.faultAt / aonT 1) then
      s.modPr fun r => { r with faultClass := 1, thermTrip := true }
    else enterFault 1 s)

/-- EXTERNAL_TRIP. -/
def execExternalTrip (dt : Nat) (s : State) : Host.Outcome State Fault Refusal :=
  let s := advance dt s
  .next (if s.pr.thermTrip then s else enterFault 2 s)

/-- RAIL_FAULT: the keys are erased under Table 9.3. -/
def execRailFault (dt : Nat) (s : State) : Host.Outcome State Fault Refusal :=
  let s := advance dt s
  .next (if s.pr.powered then
      enterFault 3 (zeroise { s with keys := { s.keys with voltage := true } })
    else s)

/-- AON_CLOCK_LOSS. -/
def execAonClockLoss (dt : Nat) (s : State) : Host.Outcome State Fault Refusal :=
  let s := advance dt s
  .next (if s.pr.straps.getLsbD 5 then enterFault 4 s else s)

/-- XO_LOST: XO runs outside DARK, in reset too. -/
def execXoLost (dt : Nat) (s : State) : Host.Outcome State Fault Refusal :=
  let s := advance dt s
  .next (if inDark s then s else enterFault 5 s)

/-- SUPERVISOR_WATCHDOG_EXPIRY: the third within 60 s is class 7. -/
def execSupervisorWatchdogExpiry (dt : Nat) (s : State) : Host.Outcome State Fault Refusal :=
  let s := advance dt s
  .next (if running s then
      let l := (s.hk :: s.pr.watchdog).filter fun t => decide (s.hk < t + secT 60)
      let s := s.modPr fun r => { r with watchdog := l }
      if 3 ≤ l.length then enterFault 7 s
      else if s.fw.pause.isNone then pump (beginPause 3 none s)
      else s
    else s)

/-! ## Core voltage (R428) -/

/-- A voltage one transaction nearer to the target: at most 10 mV. -/
def avsStep (target v : Nat) : Nat := if v ≤ target then min target (v + 10) else max target (v - 10)

/-- One AVSBus transaction and its acknowledgement. -/
def avsSend (target : Nat) (r : PowerReset) (ack : Bool) : PowerReset :=
  if r.avsStopped then r
  else if ack then { r with vcore := avsStep target r.vcore, vcoreAcked := true, avsUnacked := 0 }
  else { r with avsUnacked := r.avsUnacked + 1, avsStopped := decide (3 ≤ r.avsUnacked + 1) }

/-- AVS_VOLTAGE_UPDATE: the transactions of a move to a target of 650 mV to 850 mV, from boot step 6 on. -/
def execAvsVoltageUpdate (target : Nat) (acks : List Bool) (dt : Nat) (s : State) : Host.Outcome State Fault Refusal :=
  let s := advance dt s
  .next (if running s && (match s.pr.boot with | .running | .done => true | _ => false) && within target 650 850 then
      s.modPr fun r => acks.foldl (avsSend target) r
    else s)

/-! ## SYNC (R441, Table 17.7) -/

/-- Width in ns, rounded down to 10 ns. -/
def syncW (w : Nat) : Nat := w / 10 * 10

/-- A pulse of `width` ns that ends now is decoded: from command-ready, not in FAULT, not the rest of a pulse already
rejected, and not one that began in DARK (R30, R441). -/
def syncDecodes (width : Nat) (s : State) : Bool :=
  running s && s.pr.cmdReady && !s.pr.syncHigh && (match s.pr.readyAt with | some t => decide (t + width * 192 ≤ s.now) | none => true)

/-- The pin is low again. -/
def syncLow (s : State) : State := s.modPr fun r => { r with syncHigh := false }

/-- SYNC_REJECT counts. -/
def syncReject (s : State) : State := s.modHost fun h => { h with syncReject := h.syncReject + 1 }

/-- SYNC_DECIM_RESET. -/
def execSyncDecimReset (width dt : Nat) (s : State) : Host.Outcome State Fault Refusal :=
  let s := advance dt s
  .next (if syncDecodes width s && within (syncW width) 200 1000 then pump (decimReset s) else syncLow s)

/-- SYNC_TRIGGER. -/
def execSyncTrigger (width dt : Nat) (s : State) : Host.Outcome State Fault Refusal :=
  let s := advance dt s
  .next (if syncDecodes width s && within (syncW width) 2000 5000 then
      let tap (s : State) (p : Lp) : State := if (s.port p).conv.tap.trigger = 1 then tapFire p s else s
      pump (monSync (lineports.foldl tap s))
    else syncLow s)

/-- SYNC_PULSE_REJECTED. -/
def execSyncPulseRejected (width dt : Nat) (s : State) : Host.Outcome State Fault Refusal :=
  let s := advance dt s
  let w := syncW width
  let counted := within w 100 190 || within w 1010 1990 || within w 5010 9990 || decide (50000 < w)
  .next (if syncDecodes width s && counted then syncReject s else syncLow s)

/-- SYNC_HIGH_TIMEOUT: still high 1 ms after the rising edge. -/
def execSyncHighTimeout (dt : Nat) (s : State) : Host.Outcome State Fault Refusal :=
  let s := advance dt s
  .next (if syncDecodes 1000000 s then syncReject (s.modPr fun r => { r with syncHigh := true }) else s)

/-! ## Pins and the status frame (R425, R437, R438, R69) -/

/-- LASER_EN of a line port. -/
def laserEn (s : State) (p : Lp) : Bool :=
  (s.port p).mode.granted.service && s.pr.power == .service && s.pr.phase == .run

/-- IRQ_N is asserted (low) in the RUN phase, but not in DARK, which a wake leaves at command-ready. -/
def irqAsserted (s : State) : Bool :=
  s.pr.phase == .run && s.pr.power != .dark && (alarmUnmasked s != 0 || !s.host.spi.out.isEmpty)

/-- PROT_ACT. -/
def protAct (s : State) : Bool :=
  s.eng.les.serves.isSome || lineports.any fun p => bit (protStatusWord s p) 8

/-- Even parity of 31 bits. -/
def parity31 (n : Nat) : Bool := (List.range 31).foldl (fun a i => a != bit n (i + 1)) false

/-- The fields of Table 17.5. -/
def statusWord (s : State) : Nat :=
  let f (p : Lp) : Frame := (s.port p).frame
  let n := 0xA * 2 ^ 28 + s.pr.statusSeq % 16 * 2 ^ 24 + onBit (f .lp0).sf 23 + onBit (f .lp0).sd 22 + onBit (f .lp1).sf 21 +
    onBit (f .lp1).sd 20 + servingNum s .lp0 * 2 ^ 18 + servingNum s .lp1 * 2 ^ 16 + engStNum s.eng.les.st * 2 ^ 14 +
    onBit s.eng.les.burnish 13 + onBit (spareDegraded s) 12 + onBit (raised s 0x8B10 0x90 0) 11 +
    onBit (bit (protStatusWord s .lp0) 8) 10 + onBit (bit (protStatusWord s .lp1) 8) 9 + clkStNum s.clk.st * 2 ^ 7 +
    onBit (raised s 0x8C11 0xA0 0) 6 + onBit s.fw.pause.isSome 5 + onBit s.fw.trial.isSome 4 + onBit s.pr.thermWarn 3 +
    onBit (irqAsserted s) 2
  n + b01 (parity31 n)

/-- STATUS_FRAME: `hottest` is the highest die temperature in C. -/
def execStatusFrame (hottest : Int) (dt : Nat) (s : State) : Host.Outcome State Fault Refusal :=
  let s := advance dt s
  .next (if running s && s.pr.phase == .run && !s.pr.waking then
      let s := s.modPr fun r => { r with
        thermWarn := if 100 ≤ hottest then true else if hottest < 98 then false else r.thermWarn }
      s.modPr fun r => { r with statusFrame := w32 (statusWord s), statusSeq := (r.statusSeq + 1) % 16 }
    else s)

end Sys2Proof.Machine
end

