-- ==== Sys2Proof/Machine/Pins.lean ====
section
/-!
DEFINITION. Sys2Proof/Machine/Pins.lean: what the device drives on its pins in every condition (R433, R435 to R440, R425,
R396, R377, R378): functions of the state that no command reads. Changes the manual allows 1 us for are immediate here.
-/
namespace Sys2Proof.Machine
open Sys2Proof

/-- What the device does to a pin or pair. -/
inductive Pin where
  | z
  | low
  | high
  /-- The boundary register drives it (R451). -/
  | scan
  /-- A square wave of a frequency in Hz. -/
  | wave (hz : Nat)
  /-- Clock and data of the status frames, the last of which was `frame` (R438). -/
  | statusClock
  | statusData (frame : Word)
  /-- No transitions on a serial lane, with no signal; a link in L1.2; signals of the lane's own protocol. -/
  | idle
  | l12
  | active
deriving DecidableEq, Repr

/-- The conditions of Table 17.4, and operation. "Reset" lasts until 8 AON periods after a release. -/
inductive PinCond where
  | unpowered | reset | dark | fault | on
deriving DecidableEq, Repr

def pinCond (s : State) : PinCond :=
  if !s.pr.powered then .unpowered
  else if s.pr.phase == .fault then .fault
  else if inReset s || s.pr.phase == .strap || (s.pr.phase == .boot && decide (s.now < s.pr.releasedAt + aonT 8)) then .reset
  else if s.pr.power == .dark then .dark
  else .on

/-- Boundary scan drives the pins, or HIGHZ releases them, in reset and in FAULT (R451). -/
def scanned (s : State) (p : Pin) : Pin :=
  if s.pr.powered && boundaryOk s then
    if s.sealSt.jtagIr = 0x04 then .z else if jtagBoundary s.sealSt.jtagIr then .scan else p
  else p

/-- A level. -/
def level (b : Bool) : Pin := if b then .high else .low

/-- GRAIN0 to GRAIN5 before boundary scan: the boot step code with BOOT_BUSY and the 1 kHz wave in the BOOT phase (R436), the
signals of the RUN phase (R437), the fault class in FAULT (R440); strap inputs in reset. -/
def grainPins (s : State) : List Pin :=
  let code (n : Nat) : List Pin := (List.range 4).map fun i => level (bit n i)
  match pinCond s with
  | .unpowered | .reset => List.replicate 6 .z
  | .dark => .z :: List.replicate 5 .low
  | .fault => code s.pr.faultClass ++ [.low, .high]
  | .on =>
    if s.pr.phase == .boot then
      let n := bootStep s
      code n ++ [level (n != 0xA && n != 0xD), .wave 1000]
    else
      [if irqAsserted s then .low else .z, level (portOk s .lp0), level (portOk s .lp1), level (protAct s), .statusClock,
       .statusData s.pr.statusFrame]

/-- LASER_EN0 and LASER_EN1 (R425). -/
def laserPin (s : State) (p : Lp) : Pin :=
  if !s.pr.powered then .z else scanned s (level (pinCond s == .on && laserEn s p))

/-- LPn_SREF: 156.25 MHz while the line synthesiser runs (R425). -/
def srefPin (s : State) (p : Lp) : Pin :=
  if pinCond s == .on && (s.port p).conv.synth != .stopped then .wave 156250000 else .z

/-- THERM_TRIP_N: low from an own trip until PORESET_N (R439). -/
def thermTripPin (s : State) : Pin := if s.pr.powered && s.pr.thermTrip then scanned s .low else .z

/-- SPI_MISO is driven only within frames that the device answers; here: whether it may be (Table 17.4, R440). -/
def misoMayDrive (s : State) : Bool :=
  match pinCond s with
  | .on => true
  | .fault => s.pr.faultClass != 4 && s.pr.faultClass != 5
  | _ => false

/-- AVS_CLK and AVS_MDATA outside a transaction. -/
def avsPin (s : State) : Pin := if s.pr.powered then scanned s .low else .z

/-- FL_CS_N outside a flash access; with FL_SCK and the IOs. In reset FL_CS_N has its internal pull-up. -/
def flashPins (s : State) : Pin × Pin :=
  match pinCond s with
  | .unpowered => (.z, .z)
  | .reset => (scanned s .z, scanned s .z)
  | _ => (scanned s .high, scanned s .low)

/-- REFOUT0 and REFOUT1 (R377, R378). A REFOUT with ENABLE 0 is taken as low. -/
def refoutPin (s : State) (i : Nat) : Pin :=
  let o := s.clk.outs.getD i {}
  if pinCond s != .on then .z else if o.enable = 0 ∨ squelched s o = true then .low else .wave (o.freq * 1000)

/-- PPS_OUT (R377). -/
def ppsPin (s : State) : Pin := if pinCond s != .on then .z else level s.clk.ppsOut

/-- HL_TX of a lane (Table 10.3). -/
def hlTxPin (s : State) (i : Nat) : Pin :=
  if !s.pr.powered then .z else if pinCond s == .on && !laneAsleep s i then .active else .idle

/-- PCIE_TX. -/
def pciePin (s : State) : Pin :=
  match pinCond s with
  | .unpowered => .z
  | .dark => if s.host.pcie.linkUp then .l12 else .idle
  | .on => if s.host.pcie.linkUp then .active else .idle
  | _ => .idle

/-- MATE_P/N: silent, that is high-impedance at the transmitter, in reset, in DARK, in FAULT and with the link DISABLED (R341). -/
def matePin (s : State) : Pin := if pinCond s == .on && s.mate.st != .disabled then .active else .z

/-- Dither frequency of a NULL output in Hz (Table 15.6). -/
def ditherHz (p : Lp) (o : Nat) : Option Nat :=
  let pick (a b : Nat) : Option Nat := some (match p with | .lp0 => a | .lp1 => b)
  match o with
  | 0 => pick 1100 1200
  | 1 => pick 1300 1400
  | 3 => pick 1700 1600
  | 4 => pick 1900 2500
  | _ => none

/-- The voltage of a bias output in the unit of `Bias.v` (nV; R396): 0 but in service; in LOOP mode the dither is added and the
sum clipped to 0 V to 2.5 V. `none`: high-impedance. A port that leaves service ramps to 0 V first (R395). -/
def biasPin (s : State) (p : Lp) (o : Nat) : Option Int :=
  match pinCond s with
  | .unpowered => none
  | .on =>
    let b := biasOut s p o
    let v := biasNow b s.hk
    match ditherHz p o with
    | some hz =>
      if b.mode = 2 ∧ inService s p = true then
        some (max 0 (min (mV 2500) (v + mV b.dither * Config.ditherSine hz s.hk / 2 ^ 32)))
      else some v
    | none => some v
  | _ => some 0

/-- GRAIN0 to GRAIN5. -/
def grain (s : State) : List Pin := if s.pr.powered then (grainPins s).map (scanned s) else grainPins s

end Sys2Proof.Machine
end

