-- ==== Sys2Proof/Machine/Device.lean ====
section
/-!
DEFINITION. Sys2Proof/Machine/Device.lean: the device-range opcodes 0x00xx (R71 to R73, R455).
-/
namespace Sys2Proof.Machine
open Sys2Proof

/-- TARGET 0x00. -/
def isDevT (t : Nat) : Bool := t == 0

/-- TARGET 0x00 or 0x01. -/
def isSupT (t : Nat) : Bool := t == 0 || t == 1

/-- Build hash of the running image: TARGET_HASH, words 9 to 20 of its header (Table 16.3); free values before one runs. -/
def buildHash (s : State) : List Word × State :=
  match s.fw.running with
  | some i => (hdrWords i.hdr 9 20, s)
  | none => freeWs 12 s

/-- DEV_IDENTIFY. -/
def devIdentifyOp : OpSpec where
  code := 0x0001
  targets := isDevT
  resLen := fun _ _ _ => 17
  run := fun s _ _ =>
    let (v, s) := fwVersion s
    let (h, s) := buildHash s
    okRes s ([w32 (b01 Config.ordering), 0x00003240, 0x000000B0, v] ++ h ++ [w32 s.pr.straps.toNat])
def execDevIdentify (c : Cmd) (s : State) : Host.Outcome State Fault Refusal := .next (serve devIdentifyOp c s)

/-- DEV_ECHO. -/
def devEchoOp : OpSpec where
  code := 0x0002
  targets := isSupT
  resLen := fun _ _ c => c.params.length
  run := fun s _ c => okRes s c.params
def execDevEcho (c : Cmd) (s : State) : Host.Outcome State Fault Refusal := .next (serve devEchoOp c s)

/-- DEV_RESET: the reply is sent before the reset. -/
def devResetOp : OpSpec where
  code := 0x0003
  targets := isSupT
  lock := some .update
  nparams := 1
  badParam := fun _ c => firstBad [(3, within (c.w 3) 0 1)]
  run := fun s _ _ => if s.fw.pause.isSome then refuse s stBadState 0x0100 else okRes s []
  after := fun s c => if c.w 3 = 0 then beginPause 2 none s else internalAssert s
def execDevReset (c : Cmd) (s : State) : Host.Outcome State Fault Refusal := .next (serve devResetOp c s)

/-! ## DEV_STATUS (Tables 2.13 and 2.14) -/

/-- PORT code of a lock's holder; 0 free. -/
def holderCode (s : State) (l : Lock) : Nat := match lockHolder s l with | some (p, _) => portCode p | none => 0

/-- The enables of DEV_PORT_CONFIG. -/
def portEnables (s : State) : Nat := onBit s.host.ib.lp0.enable 0 + onBit s.host.ib.lp1.enable 1 + onBit s.host.mateEnable 2

/-- Table 2.13, as read by a command of `q`: that command is outstanding until its reply has been sent (R39). -/
def deviceWords (q : Port) (s : State) : List Word :=
  let h := s.host
  let n (p : Port) : Nat := (outstanding s p + b01 (readPlace p == readPlace q)) % 256
  [w32 (phaseWord s), w32 s.pr.wakeCause, w32 (holderCode s .crypto + holderCode s .update * 2 ^ 8), w32 h.staged.length,
   w32 (portEnables s), h.replyDrop, h.spiAbort, h.inbandDiscard, h.syncReject,
   w32 (n .pcie + n .spi * 2 ^ 8 + n .ib0 * 2 ^ 16 + n .mate * 2 ^ 24), h.rxqDrop]

/-- The supervisor: its 16 cores, and the expiries of its watchdog in the last 60 s. -/
def supervisorWords (s : State) : List Word :=
  [16, w32 (onBit (decide (s.fw.runBank = 1)) 0 + onBit s.fw.download 1 + onBit s.fw.trial.isSome 2 + onBit s.fw.pause.isSome 3),
   w32 (s.pr.watchdog.filter fun t => decide (s.hk < t + secT 60)).length]

/-- A line engine. -/
def engineWords (s : State) (e : Eng) : List Word :=
  let x := s.engine e
  let pt := match x.serves with | some p => some p | none => x.shadows
  let used := ((List.range 96).filter fun i => within (spnOf s e i).role 1 3).length
  [w32 (lpField pt + engStNum x.st * 4 + onBit x.burnish 5 + onBit x.failed 6 + onBit x.dualActive 7
      + onBit (centralCause s e != 0) 8),
   w32 (availOf x + x.k * 2 ^ 8 + outCount x * 2 ^ 16 + used * 2 ^ 24),
   if e = .les then w32 (spareStatus s) else 0]

/-- Result words per target. -/
def statusLen (t : Nat) : Nat :=
  if t = 0 then 11 else if t = 1 then 3 else if isLpT t then 16 else if isEngT t then 3 else if isHpT t then 5
  else if t = 0xA0 then 4 else if t = 0xB0 then 9 else 6

/-- DEV_STATUS wakes nothing (R73). -/
def devStatusOp : OpSpec where
  code := 0x0004
  targets := fun t => isSupT t || isLpT t || isEngT t || isHpT t || t == 0x80 || t == 0x90 || t == 0xA0 || t == 0xB0
  both := true
  all := true
  configured := fun s t => !isHpT t || (s.hport (t - 0x40)).cfg.isSome
  resLen := fun _ t _ => statusLen t
  run := fun s t c =>
    if t = 0 then okRes s (deviceWords c.port s)
    else if t = 1 then okRes s (supervisorWords s)
    else if isLpT t then okRes s (lpBlock s (lpOfT t))
    else if isEngT t then okRes s (engineWords s (engOfT t))
    else if isHpT t then hpStatusOp.run s t c
    else if t = 0x80 then okRes s (tmStatusWords s)
    else if t = 0x90 then okRes s (mateStatusWords s)
    else if t = 0xA0 then
      let (ws, s) := clkStatusHead s
      okRes s ws
    else monStatusOp.run s t c
def execDevStatus (c : Cmd) (s : State) : Host.Outcome State Fault Refusal := .next (serve devStatusOp c s)

/-! ## DEV_SLEEP (R22, R29) -/

def devSleepOp : OpSpec where
  code := 0x0005
  targets := isDevT
  nparams := 2
  badParam := fun _ c => firstBad [(3, c.w 3 % 8 != 0), (4, c.w 4 == 0 || within (c.w 4) 1 86400)]
  run := fun s _ _ =>
    if s.pr.power = .service then refuse s stBadState 0x0100
    else if s.host.updateLock.isSome then refuse s stBadState 0x0101
    else if !s.host.deferred.isEmpty then refuse s stBadState 0x0102
    else okRes s []
  after := fun s c => s.modPr fun r => { r with
    cmdReady := false, sleepEntry := true, wakeMask := c.w 3 % 32, wakeTimerS := c.w 4
    wakeTimer := if c.w 4 = 0 then r.wakeTimer else none }
def execDevSleep (c : Cmd) (s : State) : Host.Outcome State Fault Refusal := .next (serve devSleepOp c s)

/-! ## DEV_WAKE (R72, R455, Table 2.15) -/

/-- The state of the unit allows the named part to run. -/
def wakeAllowed (s : State) (t : Nat) : Bool :=
  if isLpT t then
    let p := lpOfT t
    s.pr.power == .service && inService s p
      && (match servingEng s p with | some e => (s.engine e).st == .active | none => false)
  else if isHlT t then true
  else if t = 0x80 then tmRuns s
  else if t = 0x90 then linkTalks s
  else true

/-- The named part runs: for a line port every spindle of its granted point on the serving engine, and its cipher core
where CIPHER is granted ON (Table 2.15). -/
def unitAwake (s : State) (t : Nat) : Bool :=
  if isLpT t then
    match servingEng s (lpOfT t) with
    | some e => ((List.range 96).all fun i => !(within (spnOf s e i).role 1 3 && spindleAsleep s e i))
        && !((s.port (lpOfT t)).mode.granted.cipher && cipherAsleep s (lpOfT t))
    | none => false
  else if isHlT t then !laneAsleep s (t - 0x20)
  else if t = 0x80 then (List.range 4).all fun b => (bankOf s b).st == .awake
  else if t = 0x90 then !s.mate.asleep
  else convs4.all fun i => !monAsleep s i

/-- A unit's hold runs from now for `ms`; 0 cancels. -/
def setHold (t ms : Nat) (s : State) : State :=
  s.modHost fun h => { h with
    wakes := SMap.set none h.wakes t none
    holds := SMap.set 0 h.holds t (if ms = 0 then 0 else s.hk + msT ms) }

/-- The hold of a unit is cancelled: a wake in progress for an earlier DEV_WAKE goes on, and no hold follows it. -/
def cancelHold (t : Nat) (s : State) : State :=
  s.modHost fun h => { h with
    wakes := if (SMap.get none h.wakes t).isSome then SMap.set none h.wakes t (some 0) else h.wakes
    holds := SMap.set 0 h.holds t 0 }

/-- Every DEV_WAKE that waits on a unit has it settled. -/
def settleWake (t status detail : Nat) (s : State) : State :=
  (List.range s.host.deferred.length).foldl (fun s _ => completeUnit 0x0006 t status detail [] s) s

/-- A unit begins to wake. -/
def beginWake (t ms : Nat) (s : State) : State :=
  let s := s.modHost fun h => { h with wakes := SMap.set none h.wakes t (some ms), holds := SMap.set 0 h.holds t 0 }
  if t = 0x80 then (List.range 4).foldl (fun s b =>
    modBank b (fun k => { k with st := if k.st == .asleep then .waking else k.st }) s) s
  else s

def devWakeOp : OpSpec where
  code := 0x0006
  targets := fun t => isLpT t || isHlT t || t == 0x80 || t == 0x90 || t == 0xB0
  both := true
  all := true
  configured := fun s t => !isHlT t || (s.lane (t - 0x20)).cfg.isSome
  flags := 1
  nparams := 1
  badParam := fun _ c => firstBad [(3, within (c.w 3) 0 60000)]
  run := fun s t c =>
    let ms := c.w 3
    if ms = 0 then okRes (cancelHold t s) []
    else if !wakeAllowed s t then refuse s stBadState 0x0100
    else if unitAwake s t then okRes (settleWake t stOk 0 (setHold t ms s)) []
    else { st := beginWake t ms s, settled := false }
def execDevWake (c : Cmd) (s : State) : Host.Outcome State Fault Refusal := .next (serve devWakeOp c s)

/-- UNIT_WAKE_DONE: a part whose unit may no longer run is refused. -/
def execUnitWakeDone (target dt : Nat) (s : State) : Host.Outcome State Fault Refusal :=
  let s := advance dt s
  .next (match SMap.get none s.host.wakes target with
    | some ms =>
      if !running s then s
      else if !wakeAllowed s target then pump (settleWake target stBadState 0x0100 (setHold target 0 s))
      else if target = 0x80 && !unitAwake s 0x80 then s
      else
        let s := if target = 0x90 then s.modMate fun m => { m with asleep := false, listenEnd := none } else s
        pump (settleWake target stOk 0 (setHold target ms s))
    | none => s)

/-- DEV_WAKE_HOLD_EXPIRY: the unit may sleep again under its own conditions. -/
def execDevWakeHoldExpiry (target dt : Nat) (s : State) : Host.Outcome State Fault Refusal :=
  let s := advance dt s
  let h := SMap.get 0 s.host.holds target
  .next (if running s && h != 0 && decide (h ≤ s.hk) then
      let s := setHold target 0 s
      let m := s.mate
      if target = 0x90 && m.st == .up && m.rxSleep == 1 && m.expect.isSome && m.listenEnd.isNone then
        s.modMate fun m => { m with asleep := true }
      else s
    else s)

/-! ## Ports, events, window map, staging (R57, R70 to R72) -/

/-- DEV_PORT_CONFIG never disables the in-band or mate port that carries it. Bits above the three listed are ignored (log
entry 120). -/
def devPortConfigOp : OpSpec where
  code := 0x0007
  targets := isDevT
  flags := 6
  nparams := 1
  badParam := fun _ c =>
    let ok : Bool := match c.port with
      | .ib0 => bit (c.w 3) 0
      | .ib1 => bit (c.w 3) 1
      | .mate => bit (c.w 3) 2
      | _ => true
    firstBad [(3, ok)]
  resLen := fun _ _ _ => 1
  run := fun s _ c =>
    let w := c.w 3
    let s := s.modInband .lp0 fun i => { i with enable := bit w 0 }
    let s := s.modInband .lp1 fun i => { i with enable := bit w 1 }
    let s := s.modHost fun h => { h with mateEnable := bit w 2 }
    okRes s [w32 (portEnables s)]
def execDevPortConfig (c : Cmd) (s : State) : Host.Outcome State Fault Refusal := .next (serve devPortConfigOp c s)

/-- The port of a PORT code. -/
def portOf (n : Nat) : Port :=
  match n with
  | 1 => .pcie
  | 2 => .spi
  | 3 => .ib0
  | 4 => .ib1
  | _ => .mate

/-- DEV_EVENT_CONFIG. Bits above the two masks are ignored (log entry 120). -/
def devEventConfigOp : OpSpec where
  code := 0x0008
  targets := isDevT
  flags := 6
  nparams := 3
  badParam := fun _ c => firstBad [(3, within (c.w 3) 1 5)]
  resLen := fun _ _ _ => 3
  run := fun s _ c =>
    let m := c.w 4 % 65536
    let a := c.w 5 % 65536
    let s := modEvt s (portOf (c.w 3)) fun e => { e with mask := m }
    okRes (alarmNotify (s.modHost fun h => { h with alarmMask := a })) [w32 (c.w 3), w32 m, w32 a]
def execDevEventConfig (c : Cmd) (s : State) : Host.Outcome State Fault Refusal := .next (serve devEventConfigOp c s)

/-- The selectors of a DEV_FSW_MAP, with their word numbers; a missing word offends too. -/
def mapSelectors (c : Cmd) : List (Nat × Nat) := (List.range (c.w 4)).map fun i => (5 + i, c.w (5 + i))

def devFswMapOp : OpSpec where
  code := 0x0009
  targets := isDevT
  flags := 4
  nparams := 2
  badParam := fun _ c =>
    if !within (c.w 3) 0 223 then some 3
    else if !within (c.w 4) 1 (224 - c.w 3) then some 4
    else firstBad ((mapSelectors c).map fun x =>
      (x.1, decide (x.1 < 3 + c.params.length) && (x.2 == 0 || selectorOk x.2)))
  run := fun s _ c =>
    okRes (s.modHost fun h => { h with
      fswMap := (mapSelectors c).foldl (fun m x => SMap.set 0 m (c.w 3 + (x.1 - 5)) x.2) h.fswMap }) []
def execDevFswMap (c : Cmd) (s : State) : Host.Outcome State Fault Refusal := .next (serve devFswMapOp c s)

def devStageClearOp : OpSpec where
  code := 0x000A
  targets := isDevT
  resLen := fun _ _ _ => 1
  run := fun s _ _ => okRes (s.modHost fun h => { h with staged := [] }) [w32 s.host.staged.length]
def execDevStageClear (c : Cmd) (s : State) : Host.Outcome State Fault Refusal := .next (serve devStageClearOp c s)

def devStageListOp : OpSpec where
  code := 0x000B
  targets := isDevT
  resLen := fun s _ _ => 1 + 2 * s.host.staged.length
  run := fun s _ _ =>
    okRes s (w32 s.host.staged.length :: (s.host.staged.map fun x =>
      [w32 (x.code * 2 ^ 16 + x.cmd.tag.toNat), w32 (portCode x.cmd.port * 2 ^ 8 + x.cmd.target)]).flatten)
def execDevStageList (c : Cmd) (s : State) : Host.Outcome State Fault Refusal := .next (serve devStageListOp c s)

end Sys2Proof.Machine
end

