-- ==== Sys2Proof/Machine/Modes.lean ====
section
/-!
DEFINITION. Sys2Proof/Machine/Modes.lean: the mode opcodes, the application of mode changes and re-resolution (R84 to R94),
commits of the staging area (R57, R90), and the end of a firmware pause (R64).
-/
namespace Sys2Proof.Machine
open Sys2Proof

/-! ## MODE_SET and MODE_GET (R86 to R93) -/

/-- TARGET 0x00 or a line port. -/
def isModeT (t : Nat) : Bool := t == 0 || isLpT t

/-- MODE_SET of one port: the requested fields of CHANGE_MASK, the granted point, and an application if it changes what the
port is heading for. -/
def modeSetPort (source : Nat) (p : Lp) (c : Cmd) (s : State) : UnitRes :=
  let r := mergePoint (s.port p).mode.requested (c.w 3) (c.w 4)
  let (s', g, adj, cd) := setRequested s p r source
  { st := shortfall p s', status := if adj = 0 then stOk else stAdjusted, words := modeResults s p r g adj cd }

/-- MODE_SET for TARGET 0x00: WARM_PORT; a change asks for a re-resolution (R84). -/
def warmSet (c : Cmd) (s : State) : UnitRes :=
  let w : Lp := if bit (c.w 3) 0 then .lp1 else .lp0
  let s := if w = s.warmPort then s else steer (askResolve 3 { s with warmPort := w })
  okRes s (warmResults s)

/-- MODE_SET, as a command (source 0) or applied by a commit (Table 3.11). -/
def modeSetOp (source : Nat) : OpSpec where
  code := 0x0101
  targets := isModeT
  both := true
  flags := 15
  nparams := 1
  badParam := fun _ c =>
    if c.target = 0 then none
    else if !modeWordOk (c.w 3) (c.w 4) then some 3
    else if c.params.length < 2 then some 4
    else none
  resLen := fun _ t _ => if t = 0 then 4 else 9
  run := fun s t c => if t = 0 then warmSet c s else modeSetPort source (lpOfT t) c s
def execModeSet (c : Cmd) (s : State) : Host.Outcome State Fault Refusal := .next (serve (modeSetOp 0) c s)

/-- MODE_GET. -/
def modeGetOp : OpSpec where
  code := 0x0102
  targets := isModeT
  both := true
  flags := 8
  resLen := fun _ t _ => if t = 0 then 4 else 9
  run := fun s t _ =>
    if t = 0 then okRes s (warmResults s)
    else
      let p := lpOfT t
      let m := (s.port p).mode
      okRes s (modeResults s p m.requested m.granted m.adjust m.cd)
def execModeGet (c : Cmd) (s : State) : Host.Outcome State Fault Refusal := .next (serve modeGetOp c s)

/-! ## Applying a change (R89, Table 3.8) -/

/-- The port enters service: the stream's origin, synthesiser and bias outputs; without an engine, ENGINE_LOST. -/
def enterService (p : Lp) (s : State) : State :=
  let s := biasService p (startSynth p (newOrigin p s))
  let none_ : Bool := match servingEng s p with | some e => (s.engine e).failed || (s.engine e).held | none => true
  if none_ then raiseAlarm 0x8A13 (lpT p) 0 [] s else s

/-- An engine that was about to take its home port back from LES is given it, now that the port leaves service (R310,
R319). -/
def giveBack (p : Lp) (s : State) : State :=
  let e := homeEng p
  let due : Bool := match s.prot.restore with | some r => r.e == e && r.stage == .back | none => false
  if due && s.eng.les.serves == some p then
    let s := (acqIdle p true s).modEngine e fun x => { x with serves := some p, shadows := none, move := .none }
    let s := if (s.engine e).st = .warm then setEngSt e .cool s else s
    let s := setEngSt .les .cool (s.modEngine .les fun x => { x with serves := none })
    finishRestore 0 (askResolve 4 s)
  else s

/-- The port leaves service: burnishing on it is interrupted, everything that runs on it stops. -/
def leaveService (p : Lp) (s : State) : State :=
  let s := if s.prot.burn.phase ≠ .none ∧ s.prot.burn.port = p then lesToCool (stopBurn 2 s) else s
  let s := giveBack p s
  let s := releasePortLocks (ibPort p) s
  let s := acqIdle p true (acqIdle p false (tapAbort p 1 (stopStream p s)))
  let s := biasService p (cryptoOff p (frameOff p s))
  refreshPort p (steerSynth p (clearAlarm 0x8A13 (lpT p) 0 [] s))

/-- The old stream's codewords that are in the decoder are released at its point, within its delay (R207). -/
def drainOld (p : Lp) (o : ModePoint) (s : State) : State :=
  if (s.port p).cod.grid.isSome || (o.zr800 && tracking s p) then
    s.modCod p fun c => { c with drain := some (s.hk + nsT (delayNow s.hk o c), o) }
  else s

/-- LATENCY, POWER or the format changed: the delay moves from the old one, and the cap from the next codeword admitted on
(R207). -/
def noteDecoder (p : Lp) (o : ModePoint) (s : State) : State :=
  let g := runningPoint s p
  let s := if o.low = g.low then s else s.modCod p fun c => { c with step := some (delayNow s.hk o c, s.hk) }
  if o.low = g.low ∧ o.economy = g.economy ∧ o.zr800 = g.zr800 then s else noteCap p s

/-- RATE or INTEROP changes on a port in service: new origin, HUNT, inhibit time and reacquisition (Tables 7.8, 8.10). -/
def newFormat (p : Lp) (o : ModePoint) (s : State) : State :=
  let s := drainOld p o s
  let s := beginInhibit p (toHunt p (inbandLost p (newOrigin p s)))
  let s := clearAlarm 0x8512 (lpT p) 0 [] (s.modCod p fun c => { c with badRate := 0, goodRate := 0 })
  refreshPort p (reacquire p s)

/-- Engines that run the port's point have their roles placed anew (R162). -/
def portRoles (p : Lp) (s : State) : State :=
  engines.foldl (fun s e =>
    let x := s.engine e
    if (x.st = .active ∨ x.st = .warm) ∧ (x.serves = some p ∨ x.shadows = some p) then checkIdle e (replaceRoles e s)
    else s) s

/-- A point comes into force on a port. -/
def bringInto (p : Lp) (g : ModePoint) (s : State) : State :=
  let o := (s.port p).mode.running
  let format := decide (o.rate ≠ g.rate) || o.zr800 != g.zr800
  let s := s.modMode p fun m => { m with running := g }
  let s := if format then rampRederive p s else s
  let s := if o.reach = g.reach then s else
    let clamp (r : Recv) : Recv := { r with cdSet := clampCd s p r.cdSet }
    s.modDsp p fun d => { d with recv := clamp d.recv, spareRecv := clamp d.spareRecv }
  let s := if g.service && !o.service then enterService p s
    else if o.service && !g.service then leaveService p s
    else if g.service && format then newFormat p o s
    else s
  let s := noteDecoder p o s
  let s := if o.cipher && !g.cipher then cryptoOff p s else s
  let s := if g.zr800 && !o.zr800 then releasePortLocks (ibPort p) s else s
  let s := if o.packet && !g.packet then flushLine p s else s
  let s := steerBanks (refreshPlaces (if format then 3 else 0) s)
  portRoles p (refreshPort p s)

/-- MODE_APPLICATION: the changes of the oldest application take effect; it waits for an earlier one and for a
switch-over on the port, a COOL takeover until IN_FRAME (Table 3.9), and it is over unless GUARD waits for the spare
engine. -/
def execModeApplication (p : Lp) (dt : Nat) (s : State) : Host.Outcome State Fault Refusal :=
  let s := advance dt s
  .next (if umciaReads s && (s.protPort p).tk.isNone then
      match (s.port p).mode.apps with
      | a :: r =>
        if a.begun then pump (steer s)
        else
          let guard := decide ((s.port p).mode.running.guard ≠ a.point.guard)
          let s := bringInto p a.point s
          let s := if guard then s.modMode p fun m => { m with apps := { a with begun := true } :: r } else finishApp p a s
          pump (settlePower (steer s))
      | [] => s
    else s)

/-! ## Re-resolution (R84, R85) -/

/-- One port is resolved again: NLC_STEPS, GUARD and POWER change at once, with EV_MODE_REGRANTED. -/
def regrant (cause : Nat) (p : Lp) (s : State) : State :=
  let m := (s.port p).mode
  let (g, adj, cd) := resolve s p m.requested
  let s := if g = m.granted then s
    else
      let s := s.modMode p fun m => { m with granted := g, running := g, adjust := adj, cd := cd }
      portRoles p (noteDecoder p m.running (emit 0x8102 (lpT p) [w32 (modeWord m.granted), w32 (modeWord g), w32 cause] s))
  shortfall p s

/-- RE_RESOLUTION: it waits for the applications to complete (Table 3.9). -/
def execReResolution (dt : Nat) (s : State) : Host.Outcome State Fault Refusal :=
  let s := advance dt s
  .next (match s.reresolve with
    | some cause =>
      if umciaReads s && (s.port .lp0).mode.apps.isEmpty && (s.port .lp1).mode.apps.isEmpty then
        pump (steer (steerBanks (regrant cause .lp1 (regrant cause .lp0 { s with reresolve := none }))))
      else s
    | none => s)

/-! ## Commits (R57, R90) -/

/-- The opcodes that accept STAGE. -/
def stageOps (source : Nat) : List OpSpec :=
  [modeSetOp source, devPortConfigOp, devEventConfigOp, devFswMapOp, convConfigOp, convLoopOp, dspTxConfigOp,
   dspTxPreemphOp, dspRxConfigOp, dspProfileWriteOp, dspProfileSelectOp, dspProfileClearOp, spnPerfConfigOp,
   spnPerfFreezeOp, spnReaderOp, spnKernelReserveOp, fecConfigOp, lfConfigOp, lfTraceSetOp, pmConfigOp,
   pmClearOp, cipherConfigOp, hlConfigOp, hpConfigOp, hpLoopbackOp, hlSynceSelectOp, tmConfigOp,
   tmSourceConfigOp, tmPolicerProfileOp, flowWriteOp, flowDeleteOp, tmQueueConfigOp, tmGateConfigOp,
   protConfigOp, apsConfigOp, mateConfigOp, clkConfigOp, clkCandConfigOp, clkSelectOp, clkOutConfigOp,
   ppsConfigOp, monChanConfigOp, monSeqConfigOp, monInjConfigOp, monDecimConfigOp, monControlOp,
   monDecimResetOp, monBufConfigOp, biasConfigOp, cfgPolicyOp]

/-- The outcome of one staged command of a set: STATUS and DETAIL. -/
def runStagedCmd (ops : List OpSpec) (x : StagedCmd) (s : State) : State × Nat × Nat :=
  match ops.find? fun op => op.code == x.code with
  | none => (s, stOk, 0)
  | some op =>
    let (s', es, rb) := runAll op x.cmd s
    let (st, det, _) := if rb then (stRolledBack, 0, []) else overall (x.cmd.target == 0xFE || x.cmd.target == 0xFF) es
    (s', st, det)

/-- The set in order of acceptance up to its first failure: the state, the outcomes, and whether all succeeded. -/
def runStagedSet (ops : List OpSpec) : List StagedCmd → State → State × List (Nat × Nat) × Bool
  | [], s => (s, [], true)
  | x :: r, s =>
    let (s', st, det) := runStagedCmd ops x s
    if 0x100 ≤ st then (s', [(st, det)], false)
    else
      let (s'', l, ok) := runStagedSet ops r s'
      (s'', (st, det) :: l, ok)

/-- The outcomes of a set that failed, in order of acceptance: restored, the failing command, not attempted. -/
def rolledSet (n : Nat) (l : List (Nat × Nat)) : List (Nat × Nat) :=
  (l.dropLast.map fun _ => (stRolledBack, 0)) ++ l.drop (l.length - 1) ++ List.replicate (n - l.length) (stRolledBack, 0xFFFF)

/-- The per-command list of EV_STAGE_APPLIED: the count, then OPCODE and TAG, and STATUS and DETAIL of each. -/
def stageWords (l : List StagedCmd) (rs : List (Nat × Nat)) : List Word :=
  w32 l.length :: (List.zipWith (fun (x : StagedCmd) (r : Nat × Nat) =>
    [w32 (x.code * 2 ^ 16 + x.cmd.tag.toNat), w32 (r.1 * 2 ^ 16 + r.2)]) l rs).flatten

/-- The applications one commit made on a port are one (R89). -/
def mergeApps (p : Lp) (before : ModePort) (s : State) : State :=
  let n := before.apps.length
  s.modMode p fun m => { m with
    apps := m.apps.take n ++ (match (m.apps.drop n).getLast? with
      | some a => if a.point = headPoint before then [] else [a]
      | none => []) }

/-- A commit applies the staged set as one ATOMIC set and reports it; an empty set is reported as OK with an empty
list (Table 17.12). -/
def applyStaged (source : Nat) (extra : List Word) (s : State) : State :=
  let l := s.host.staged
  if l.isEmpty then emit 0x8002 0 ([w32 source] ++ extra ++ [w32 stOk, 0]) s
  else
    let s := s.modHost fun h => { h with staged := [] }
    let (s', rs, ok) := runStagedSet (stageOps source) l s
    if ok then
      let s' := mergeApps .lp1 (s.port .lp1).mode (mergeApps .lp0 (s.port .lp0).mode s')
      emit 0x8002 0 ([w32 source] ++ extra ++ [w32 stOk] ++ stageWords l rs) s'
    else emit 0x8002 0 ([w32 source] ++ extra ++ [w32 stRolledBack] ++ stageWords l (rolledSet l.length rs)) s

/-- MODE_COMMIT. In the cycle of a SYNC COMMIT it finds the set empty and no second event follows (Table 3.9). -/
def modeCommitOp : OpSpec where
  code := 0x0103
  targets := isDevT
  flags := 8
  resLen := fun _ _ _ => 1
  run := fun s _ _ => okRes s [w32 s.host.staged.length]
  after := fun s _ => if s.host.staged.isEmpty && s.host.syncTaken == some (hkCycle s) then s else applyStaged 1 [] s
def execModeCommit (c : Cmd) (s : State) : Host.Outcome State Fault Refusal := .next (serve modeCommitOp c s)

/-- SYNC_COMMIT: in a firmware pause the pulse is latched with its UPTIME (Table 3.9). -/
def execSyncCommit (width dt : Nat) (s : State) : Host.Outcome State Fault Refusal :=
  let s := advance dt s
  .next (if syncDecodes width s && within (syncW width) 10000 50000 then
      if s.fw.pause.isSome then
        let u := uptime s
        s.modHost fun h => { h with syncLatched := match h.syncLatched with | some v => some v | none => some u }
      else pump (applyStaged 2 (uptimeWords (uptime s)) (s.modHost fun h => { h with syncTaken := some (hkCycle s) }))
    else syncLow s)

/-! ## The end of a firmware pause (R64, R65) -/

/-- After the last pause: a latched SYNC COMMIT applies the staged set, and the receive queues are read. -/
def afterPause (s : State) : State :=
  if s.fw.pause.isSome then s
  else
    let s' := s.modHost fun h => { h with syncLatched := none }
    let s := match s.host.syncLatched with
      | some v => applyStaged 2 (uptimeWords v) s'
      | none => s'
    readQueues (steer s)

/-- FW_PAUSE_END. -/
def execFwPauseEnd (handoverOk storeOk : Bool) (dt : Nat) (s : State) : Host.Outcome State Fault Refusal :=
  let s := advance dt s
  .next (if running s && s.fw.pause.isSome then pump (afterPause (finishPause handoverOk storeOk s)) else s)

end Sys2Proof.Machine
end

