-- ==== Sys2Proof/Machine/Dispatch.lean ====
section
/-!
DEFINITION. Sys2Proof/Machine/Dispatch.lean: the meaning of every command, one arm per constructor of `Instr`.
-/
namespace Sys2Proof.Machine
open Sys2Proof

/-- The effect of a command on the device. -/
def exec (i : Instr) (s : State) : Host.Outcome State Fault Refusal :=
  match i with
  | .pcieCmdProdWrite index dt => Sys2Proof.Machine.execPcieCmdProdWrite index dt s
  | .pcieRingFetch words dt => Sys2Proof.Machine.execPcieRingFetch words dt s
  | .ringEnable on dt => Sys2Proof.Machine.execRingEnable on dt s
  | .ringReset dt => Sys2Proof.Machine.execRingReset dt s
  | .rplConsWrite index dt => Sys2Proof.Machine.execRplConsWrite index dt s
  | .evtConsWrite index dt => Sys2Proof.Machine.execEvtConsWrite index dt s
  | .registerWrite offset value dt => Sys2Proof.Machine.execRegisterWrite offset value dt s
  | .fswLoRead path offset dt => Sys2Proof.Machine.execFswLoRead path offset dt s
  | .spiCmdWrite byte0 words dt => Sys2Proof.Machine.execSpiCmdWrite byte0 words dt s
  | .spiOutRead byte0 clocked dt => Sys2Proof.Machine.execSpiOutRead byte0 clocked dt s
  | .spiFswRead byte0 offset count dt => Sys2Proof.Machine.execSpiFswRead byte0 offset count dt s
  | .inbandPacketReceived p dt => Sys2Proof.Machine.execInbandPacketReceived p dt s
  | .perstNAssert dt => Sys2Proof.Machine.execPerstNAssert dt s
  | .pcieLinkDown dt => Sys2Proof.Machine.execPcieLinkDown dt s
  | .lockInactivityTimeout lock dt => Sys2Proof.Machine.execLockInactivityTimeout lock dt s
  | .devIdentify c => Sys2Proof.Machine.execDevIdentify c s
  | .devEcho c => Sys2Proof.Machine.execDevEcho c s
  | .devReset c => Sys2Proof.Machine.execDevReset c s
  | .devStatus c => Sys2Proof.Machine.execDevStatus c s
  | .devSleep c => Sys2Proof.Machine.execDevSleep c s
  | .devWake c => Sys2Proof.Machine.execDevWake c s
  | .devPortConfig c => Sys2Proof.Machine.execDevPortConfig c s
  | .devEventConfig c => Sys2Proof.Machine.execDevEventConfig c s
  | .devFswMap c => Sys2Proof.Machine.execDevFswMap c s
  | .devStageClear c => Sys2Proof.Machine.execDevStageClear c s
  | .devStageList c => Sys2Proof.Machine.execDevStageList c s
  | .modeSet c => Sys2Proof.Machine.execModeSet c s
  | .modeGet c => Sys2Proof.Machine.execModeGet c s
  | .modeCommit c => Sys2Proof.Machine.execModeCommit c s
  | .modeApplication p dt => Sys2Proof.Machine.execModeApplication p dt s
  | .reResolution dt => Sys2Proof.Machine.execReResolution dt s
  | .darkReached dt => Sys2Proof.Machine.execDarkReached dt s
  | .syncEdgeWake dt => Sys2Proof.Machine.execSyncEdgeWake dt s
  | .spiCsWake dt => Sys2Proof.Machine.execSpiCsWake dt s
  | .pcieWake dt => Sys2Proof.Machine.execPcieWake dt s
  | .mateWakeSequenceDetected dt => Sys2Proof.Machine.execMateWakeSequenceDetected dt s
  | .aonWakeTimerExpiry dt => Sys2Proof.Machine.execAonWakeTimerExpiry dt s
  | .commandReady dt => Sys2Proof.Machine.execCommandReady dt s
  | .poresetAssert dt => Sys2Proof.Machine.execPoresetAssert dt s
  | .poresetRelease straps found dt => Sys2Proof.Machine.execPoresetRelease straps found dt s
  | .sysresetAssert dt => Sys2Proof.Machine.execSysresetAssert dt s
  | .sysresetRelease found dt => Sys2Proof.Machine.execSysresetRelease found dt s
  | .devResetInternalRelease found dt => Sys2Proof.Machine.execDevResetInternalRelease found dt s
  | .thermalTrip dt => Sys2Proof.Machine.execThermalTrip dt s
  | .externalTrip dt => Sys2Proof.Machine.execExternalTrip dt s
  | .railFault dt => Sys2Proof.Machine.execRailFault dt s
  | .aonClockLoss dt => Sys2Proof.Machine.execAonClockLoss dt s
  | .xoLost dt => Sys2Proof.Machine.execXoLost dt s
  | .supervisorWatchdogExpiry dt => Sys2Proof.Machine.execSupervisorWatchdogExpiry dt s
  | .avsVoltageUpdate target acks dt => Sys2Proof.Machine.execAvsVoltageUpdate target acks dt s
  | .syncDecimReset width dt => Sys2Proof.Machine.execSyncDecimReset width dt s
  | .syncTrigger width dt => Sys2Proof.Machine.execSyncTrigger width dt s
  | .syncCommit width dt => Sys2Proof.Machine.execSyncCommit width dt s
  | .syncPulseRejected width dt => Sys2Proof.Machine.execSyncPulseRejected width dt s
  | .syncHighTimeout dt => Sys2Proof.Machine.execSyncHighTimeout dt s
  | .statusFrame hottest dt => Sys2Proof.Machine.execStatusFrame hottest dt s
  | .engineColdToCoolDone e linkFail badLoads dt => Sys2Proof.Machine.execEngineColdToCoolDone e linkFail badLoads dt s
  | .engineWakeDone e dt => Sys2Proof.Machine.execEngineWakeDone e dt s
  | .engineShadowLock e dt => Sys2Proof.Machine.execEngineShadowLock e dt s
  | .enginePowerGated e dt => Sys2Proof.Machine.execEnginePowerGated e dt s
  | .engineRetentionReached e dt => Sys2Proof.Machine.execEngineRetentionReached e dt s
  | .unitWakeDone target dt => Sys2Proof.Machine.execUnitWakeDone target dt s
  | .convConfig c => Sys2Proof.Machine.execConvConfig c s
  | .convStatus c => Sys2Proof.Machine.execConvStatus c s
  | .convSliceGet c => Sys2Proof.Machine.execConvSliceGet c s
  | .convSliceRestore c => Sys2Proof.Machine.execConvSliceRestore c s
  | .convSliceRestoreDone p inLimits dt => Sys2Proof.Machine.execConvSliceRestoreDone p inLimits dt s
  | .convSliceRetire c => Sys2Proof.Machine.execConvSliceRetire c s
  | .chuckGet c => Sys2Proof.Machine.execChuckGet c s
  | .convLoop c => Sys2Proof.Machine.execConvLoop c s
  | .tapConfig c => Sys2Proof.Machine.execTapConfig c s
  | .tapArm c => Sys2Proof.Machine.execTapArm c s
  | .tapStop c => Sys2Proof.Machine.execTapStop c s
  | .tapStatus c => Sys2Proof.Machine.execTapStatus c s
  | .tapRead c => Sys2Proof.Machine.execTapRead c s
  | .tapDma c => Sys2Proof.Machine.execTapDma c s
  | .tapDmaDone p found dt => Sys2Proof.Machine.execTapDmaDone p found dt s
  | .convCounters c => Sys2Proof.Machine.execConvCounters c s
  | .tapTrigger p source dt => Sys2Proof.Machine.execTapTrigger p source dt s
  | .tapCaptureDone p dt => Sys2Proof.Machine.execTapCaptureDone p dt s
  | .synthLock p dt => Sys2Proof.Machine.execSynthLock p dt s
  | .synthLockLoss p dt => Sys2Proof.Machine.execSynthLockLoss p dt s
  | .synthLockTimeout p dt => Sys2Proof.Machine.execSynthLockTimeout p dt s
  | .synthLockHoldExpiry p dt => Sys2Proof.Machine.execSynthLockHoldExpiry p dt s
  | .backgroundCalUpdate p ch slices strobes dt => Sys2Proof.Machine.execBackgroundCalUpdate p ch slices strobes dt s
  | .sliceSelfCheckFault p ch slice dt => Sys2Proof.Machine.execSliceSelfCheckFault p ch slice dt s
  | .dacSelfCheck p ch look dt => Sys2Proof.Machine.execDacSelfCheck p ch look dt s
  | .convFailClearTimer p ch dt => Sys2Proof.Machine.execConvFailClearTimer p ch dt s
  | .losConditionRaise p spell dt => Sys2Proof.Machine.execLosConditionRaise p spell dt s
  | .losConditionClear p spell dt => Sys2Proof.Machine.execLosConditionClear p spell dt s
  | .dspTxConfig c => Sys2Proof.Machine.execDspTxConfig c s
  | .dspTxPreemph c => Sys2Proof.Machine.execDspTxPreemph c s
  | .dspRxConfig c => Sys2Proof.Machine.execDspRxConfig c s
  | .dspStatus c => Sys2Proof.Machine.execDspStatus c s
  | .dspEstimates c => Sys2Proof.Machine.execDspEstimates c s
  | .dspSnrSpectrum c => Sys2Proof.Machine.execDspSnrSpectrum c s
  | .dspSnrSpectrumDone p bins dt => Sys2Proof.Machine.execDspSnrSpectrumDone p bins dt s
  | .dspAcquire c => Sys2Proof.Machine.execDspAcquire c s
  | .dspProfileStore c => Sys2Proof.Machine.execDspProfileStore c s
  | .dspProfileWrite c => Sys2Proof.Machine.execDspProfileWrite c s
  | .dspProfileRead c => Sys2Proof.Machine.execDspProfileRead c s
  | .dspProfileSelect c => Sys2Proof.Machine.execDspProfileSelect c s
  | .dspProfileClear c => Sys2Proof.Machine.execDspProfileClear c s
  | .dspEqRead c => Sys2Proof.Machine.execDspEqRead c s
  | .dspCounters c => Sys2Proof.Machine.execDspCounters c s
  | .txCdRampEnd p dt => Sys2Proof.Machine.execTxCdRampEnd p dt s
  | .rxSkewEstimate r skew dt => Sys2Proof.Machine.execRxSkewEstimate r skew dt s
  | .cdTrackUpdate r residual dt => Sys2Proof.Machine.execCdTrackUpdate r residual dt s
  | .bulkPmdUpdate r b sopRate dt => Sys2Proof.Machine.execBulkPmdUpdate r b sopRate dt s
  | .nlcAdaptUpdate r scale dt => Sys2Proof.Machine.execNlcAdaptUpdate r scale dt s
  | .acqStateComplete p spare m dt => Sys2Proof.Machine.execAcqStateComplete p spare m dt s
  | .acqProfileBoundExpiry p spare dt => Sys2Proof.Machine.execAcqProfileBoundExpiry p spare dt s
  | .acqColdSumExpiry p spare dt => Sys2Proof.Machine.execAcqColdSumExpiry p spare dt s
  | .pilotLockLost r slots dt => Sys2Proof.Machine.execPilotLockLost r slots dt s
  | .pilotLockRegained r slots dt => Sys2Proof.Machine.execPilotLockRegained r slots dt s
  | .lockHoldExpiry p spare dt => Sys2Proof.Machine.execLockHoldExpiry p spare dt s
  | .lastProfileUpdate p dt => Sys2Proof.Machine.execLastProfileUpdate p dt s
  | .estimateUpdate p spare m dt => Sys2Proof.Machine.execEstimateUpdate p spare m dt s
  | .dspAlarmTimerExpiry p alarm dt => Sys2Proof.Machine.execDspAlarmTimerExpiry p alarm dt s
  | .spnMap c => Sys2Proof.Machine.execSpnMap c s
  | .spnPerfConfig c => Sys2Proof.Machine.execSpnPerfConfig c s
  | .spnPerfRead c => Sys2Proof.Machine.execSpnPerfRead c s
  | .spnPerfFreeze c => Sys2Proof.Machine.execSpnPerfFreeze c s
  | .spnReader c => Sys2Proof.Machine.execSpnReader c s
  | .spnKernelReserve c => Sys2Proof.Machine.execSpnKernelReserve c s
  | .spnKernelLoad c => Sys2Proof.Machine.execSpnKernelLoad c s
  | .spnKernelStart c => Sys2Proof.Machine.execSpnKernelStart c s
  | .spnKernelStartDone e slot dt => Sys2Proof.Machine.execSpnKernelStartDone e slot dt s
  | .spnKernelStop c => Sys2Proof.Machine.execSpnKernelStop c s
  | .spnKernelRead c => Sys2Proof.Machine.execSpnKernelRead c s
  | .spnKernelStatus c => Sys2Proof.Machine.execSpnKernelStatus c s
  | .spnCustKeyFuse c => Sys2Proof.Machine.execSpnCustKeyFuse c s
  | .spnCounters c => Sys2Proof.Machine.execSpnCounters c s
  | .spindleFault e spindle cause selfTest dt => Sys2Proof.Machine.execSpindleFault e spindle cause selfTest dt s
  | .roleWatchdogExpiry e spindle selfTest dt => Sys2Proof.Machine.execRoleWatchdogExpiry e spindle selfTest dt s
  | .roleMoveDone e dt => Sys2Proof.Machine.execRoleMoveDone e dt s
  | .spindleSelfTestRotation e pass selfTest dt => Sys2Proof.Machine.execSpindleSelfTestRotation e pass selfTest dt s
  | .roleCheckpoint e act mail reads dt => Sys2Proof.Machine.execRoleCheckpoint e act mail reads dt s
  | .microcodeRefresh e mismatches dt => Sys2Proof.Machine.execMicrocodeRefresh e mismatches dt s
  | .kernelWatchdogExpiry e slot dt => Sys2Proof.Machine.execKernelWatchdogExpiry e slot dt s
  | .kernelFault e slot cause dt => Sys2Proof.Machine.execKernelFault e slot cause dt s
  | .kernelNote e slot note dt => Sys2Proof.Machine.execKernelNote e slot note dt s
  | .centralSweep e dt => Sys2Proof.Machine.execCentralSweep e dt s
  | .readerRecoveryExpiry e dt => Sys2Proof.Machine.execReaderRecoveryExpiry e dt s
  | .fecConfig c => Sys2Proof.Machine.execFecConfig c s
  | .fecStatus c => Sys2Proof.Machine.execFecStatus c s
  | .fecHistogram c => Sys2Proof.Machine.execFecHistogram c s
  | .fecHdrRead c => Sys2Proof.Machine.execFecHdrRead c s
  | .fecCounters c => Sys2Proof.Machine.execFecCounters c s
  | .codewordRelease p x zrConv zrOnes zrZeros dt => Sys2Proof.Machine.execCodewordRelease p x zrConv zrOnes zrZeros dt s
  | .robustHeaderDecoded p header locator anchor dt => Sys2Proof.Machine.execRobustHeaderDecoded p header locator anchor dt s
  | .fecExcessClearTimer p dt => Sys2Proof.Machine.execFecExcessClearTimer p dt s
  | .lfConfig c => Sys2Proof.Machine.execLfConfig c s
  | .lfTraceSet c => Sys2Proof.Machine.execLfTraceSet c s
  | .lfTraceGet c => Sys2Proof.Machine.execLfTraceGet c s
  | .lfStatus c => Sys2Proof.Machine.execLfStatus c s
  | .pmHistoryRead c => Sys2Proof.Machine.execPmHistoryRead c s
  | .pmBinRead c => Sys2Proof.Machine.execPmBinRead c s
  | .pmConfig c => Sys2Proof.Machine.execPmConfig c s
  | .pmClear c => Sys2Proof.Machine.execPmClear c s
  | .lfCounters c => Sys2Proof.Machine.execLfCounters c s
  | .vlfFrameReceived p f dt => Sys2Proof.Machine.execVlfFrameReceived p f dt s
  | .vlfFrameSend p blocks dt => Sys2Proof.Machine.execVlfFrameSend p blocks dt s
  | .lofTimerExpiry p dt => Sys2Proof.Machine.execLofTimerExpiry p dt s
  | .inhibitTimeExpiry p dt => Sys2Proof.Machine.execInhibitTimeExpiry p dt s
  | .oneSecondTick m dt => Sys2Proof.Machine.execOneSecondTick m dt s
  | .pmRecordEvaluate p dt => Sys2Proof.Machine.execPmRecordEvaluate p dt s
  | .keyLock c => Sys2Proof.Machine.execKeyLock c s
  | .keyUnlock c => Sys2Proof.Machine.execKeyUnlock c s
  | .keyLoad c => Sys2Proof.Machine.execKeyLoad c s
  | .keyActivate c => Sys2Proof.Machine.execKeyActivate c s
  | .keyZeroise c => Sys2Proof.Machine.execKeyZeroise c s
  | .keyErase c => Sys2Proof.Machine.execKeyErase c s
  | .keyStatus c => Sys2Proof.Machine.execKeyStatus c s
  | .cipherConfig c => Sys2Proof.Machine.execCipherConfig c s
  | .cipherCounters c => Sys2Proof.Machine.execCipherCounters c s
  | .sessionDerived p rx dt => Sys2Proof.Machine.execSessionDerived p rx dt s
  | .cryptoCycleReceived p dt => Sys2Proof.Machine.execCryptoCycleReceived p dt s
  | .handshakeSwitch p dt => Sys2Proof.Machine.execHandshakeSwitch p dt s
  | .handshakeTimeout p dt => Sys2Proof.Machine.execHandshakeTimeout p dt s
  | .counterRederive p dt => Sys2Proof.Machine.execCounterRederive p dt s
  | .keyExhaust p dt => Sys2Proof.Machine.execKeyExhaust p dt s
  | .rngHealthFail dt => Sys2Proof.Machine.execRngHealthFail dt s
  | .rngFailClearTimer dt => Sys2Proof.Machine.execRngFailClearTimer dt s
  | .tamperDetected source dt => Sys2Proof.Machine.execTamperDetected source dt s
  | .hlConfig c => Sys2Proof.Machine.execHlConfig c s
  | .hlStatus c => Sys2Proof.Machine.execHlStatus c s
  | .hpConfig c => Sys2Proof.Machine.execHpConfig c s
  | .hpStatus c => Sys2Proof.Machine.execHpStatus c s
  | .hpRetrain c => Sys2Proof.Machine.execHpRetrain c s
  | .hpLoopback c => Sys2Proof.Machine.execHpLoopback c s
  | .hlSynceSelect c => Sys2Proof.Machine.execHlSynceSelect c s
  | .hpCounters c => Sys2Proof.Machine.execHpCounters c s
  | .hlCdrLockLoss lane dt => Sys2Proof.Machine.execHlCdrLockLoss lane dt s
  | .hlSignalReturn lane m dt => Sys2Proof.Machine.execHlSignalReturn lane m dt s
  | .laneHoldExpiry lane dt => Sys2Proof.Machine.execLaneHoldExpiry lane dt s
  | .pcsAlignmentLoss port dt => Sys2Proof.Machine.execPcsAlignmentLoss port dt s
  | .trainAttemptStart port dt => Sys2Proof.Machine.execTrainAttemptStart port dt s
  | .trainAttemptTimeout port dt => Sys2Proof.Machine.execTrainAttemptTimeout port dt s
  | .aligningTimeout port dt => Sys2Proof.Machine.execAligningTimeout port dt s
  | .hpAligningReached port lanes dt => Sys2Proof.Machine.execHpAligningReached port lanes dt s
  | .hpUpReached port skew dt => Sys2Proof.Machine.execHpUpReached port skew dt s
  | .remoteFaultReceived port dt => Sys2Proof.Machine.execRemoteFaultReceived port dt s
  | .remoteFaultClearTimer port dt => Sys2Proof.Machine.execRemoteFaultClearTimer port dt s
  | .tmConfig c => Sys2Proof.Machine.execTmConfig c s
  | .tmSourceConfig c => Sys2Proof.Machine.execTmSourceConfig c s
  | .tmPolicerProfile c => Sys2Proof.Machine.execTmPolicerProfile c s
  | .flowWrite c => Sys2Proof.Machine.execFlowWrite c s
  | .flowRead c => Sys2Proof.Machine.execFlowRead c s
  | .flowDelete c => Sys2Proof.Machine.execFlowDelete c s
  | .tmQueueConfig c => Sys2Proof.Machine.execTmQueueConfig c s
  | .tmQueueStatus c => Sys2Proof.Machine.execTmQueueStatus c s
  | .tmGateConfig c => Sys2Proof.Machine.execTmGateConfig c s
  | .tmStatus c => Sys2Proof.Machine.execTmStatus c s
  | .tmCounters c => Sys2Proof.Machine.execTmCounters c s
  | .tmFrameArrival source f stagingFull dt => Sys2Proof.Machine.execTmFrameArrival source f stagingFull dt s
  | .tmFrameSelect output dt => Sys2Proof.Machine.execTmFrameSelect output dt s
  | .gateChange output dt => Sys2Proof.Machine.execGateChange output dt s
  | .queueDepthSample dt => Sys2Proof.Machine.execQueueDepthSample dt s
  | .tmBankSleep bank dt => Sys2Proof.Machine.execTmBankSleep bank dt s
  | .tmBankWakeDone bank dt => Sys2Proof.Machine.execTmBankWakeDone bank dt s
  | .protConfig c => Sys2Proof.Machine.execProtConfig c s
  | .protStatus c => Sys2Proof.Machine.execProtStatus c s
  | .protEngineSwitch c => Sys2Proof.Machine.execProtEngineSwitch c s
  | .protEngineRestore c => Sys2Proof.Machine.execProtEngineRestore c s
  | .engineRestoreSelfTestDone e pass dt => Sys2Proof.Machine.execEngineRestoreSelfTestDone e pass dt s
  | .protSpindleRestore c => Sys2Proof.Machine.execProtSpindleRestore c s
  | .apsConfig c => Sys2Proof.Machine.execApsConfig c s
  | .apsCommand c => Sys2Proof.Machine.execApsCommand c s
  | .protInject c => Sys2Proof.Machine.execProtInject c s
  | .protChecker c => Sys2Proof.Machine.execProtChecker c s
  | .protCounters c => Sys2Proof.Machine.execProtCounters c s
  | .engineFaultDetected e cause dt => Sys2Proof.Machine.execEngineFaultDetected e cause dt s
  | .engineHeartbeatMissing e dt => Sys2Proof.Machine.execEngineHeartbeatMissing e dt s
  | .sfDisagreeTimer p dt => Sys2Proof.Machine.execSfDisagreeTimer p dt s
  | .switchoverCut p dt => Sys2Proof.Machine.execSwitchoverCut p dt s
  | .warmGapEnd p dt => Sys2Proof.Machine.execWarmGapEnd p dt s
  | .dualActiveWindowEnd p dt => Sys2Proof.Machine.execDualActiveWindowEnd p dt s
  | .coolTakeoverLesReleased p dt => Sys2Proof.Machine.execCoolTakeoverLesReleased p dt s
  | .coolTakeoverTransmit p skipped dt => Sys2Proof.Machine.execCoolTakeoverTransmit p skipped dt s
  | .burnishPeriodTimer dt => Sys2Proof.Machine.execBurnishPeriodTimer dt s
  | .burnishPhaseEnd dt => Sys2Proof.Machine.execBurnishPhaseEnd dt s
  | .parityErrorDetected link held dt => Sys2Proof.Machine.execParityErrorDetected link held dt s
  | .replayReceived link bad tx dt => Sys2Proof.Machine.execReplayReceived link bad tx dt s
  | .memoryErrorDetected m dt => Sys2Proof.Machine.execMemoryErrorDetected m dt s
  | .scrubPass id target found dt => Sys2Proof.Machine.execScrubPass id target found dt s
  | .apsHoldOffExpiry p dt => Sys2Proof.Machine.execApsHoldOffExpiry p dt s
  | .apsWtrExpiry p dt => Sys2Proof.Machine.execApsWtrExpiry p dt s
  | .apsMismatchTimer p dt => Sys2Proof.Machine.execApsMismatchTimer p dt s
  | .mateConfig c => Sys2Proof.Machine.execMateConfig c s
  | .mateStatus c => Sys2Proof.Machine.execMateStatus c s
  | .mateRetrain c => Sys2Proof.Machine.execMateRetrain c s
  | .mateWakePeer c => Sys2Proof.Machine.execMateWakePeer c s
  | .mateWakePeerTimeout dt => Sys2Proof.Machine.execMateWakePeerTimeout dt s
  | .mateMirrorRead c => Sys2Proof.Machine.execMateMirrorRead c s
  | .mateCounters c => Sys2Proof.Machine.execMateCounters c s
  | .mateCandidate rate samples dt => Sys2Proof.Machine.execMateCandidate rate samples dt s
  | .mateSfdTimeout dt => Sys2Proof.Machine.execMateSfdTimeout dt s
  | .mateBurstReceived b dt => Sys2Proof.Machine.execMateBurstReceived b dt s
  | .mateHeartbeatTimer dt => Sys2Proof.Machine.execMateHeartbeatTimer dt s
  | .mateSilenceTimeout dt => Sys2Proof.Machine.execMateSilenceTimeout dt s
  | .mateTrainPhaseEnd f dt => Sys2Proof.Machine.execMateTrainPhaseEnd f dt s
  | .mateTrainAttemptTimeout dt => Sys2Proof.Machine.execMateTrainAttemptTimeout dt s
  | .mateTrainBackoffExpiry dt => Sys2Proof.Machine.execMateTrainBackoffExpiry dt s
  | .mateResumeTimeout dt => Sys2Proof.Machine.execMateResumeTimeout dt s
  | .mateRetransmitTimer dt => Sys2Proof.Machine.execMateRetransmitTimer dt s
  | .mateAckOnlyTimer dt => Sys2Proof.Machine.execMateAckOnlyTimer dt s
  | .mateSegmentTimeout dt => Sys2Proof.Machine.execMateSegmentTimeout dt s
  | .mateMirrorTimer p dt => Sys2Proof.Machine.execMateMirrorTimer p dt s
  | .mirrorMismatchTimer group dt => Sys2Proof.Machine.execMirrorMismatchTimer group dt s
  | .mateRxWakeTimer dt => Sys2Proof.Machine.execMateRxWakeTimer dt s
  | .mateWakeLeadDetected dt => Sys2Proof.Machine.execMateWakeLeadDetected dt s
  | .mateRateDown dt => Sys2Proof.Machine.execMateRateDown dt s
  | .clkConfig c => Sys2Proof.Machine.execClkConfig c s
  | .clkCandConfig c => Sys2Proof.Machine.execClkCandConfig c s
  | .clkStatus c => Sys2Proof.Machine.execClkStatus c s
  | .clkSelect c => Sys2Proof.Machine.execClkSelect c s
  | .clkOutConfig c => Sys2Proof.Machine.execClkOutConfig c s
  | .ppsConfig c => Sys2Proof.Machine.execPpsConfig c s
  | .clkCounters c => Sys2Proof.Machine.execClkCounters c s
  | .refCandidateInvalid look dt => Sys2Proof.Machine.execRefCandidateInvalid look dt s
  | .refCandidateValid look dt => Sys2Proof.Machine.execRefCandidateValid look dt s
  | .qualificationWindowEnd offsets cleaned phase dt => Sys2Proof.Machine.execQualificationWindowEnd offsets cleaned phase dt s
  | .clkWtrExpiry candidate dt => Sys2Proof.Machine.execClkWtrExpiry candidate dt s
  | .clkSwitchComplete phase dt => Sys2Proof.Machine.execClkSwitchComplete phase dt s
  | .clkLockedReached w => Sys2Proof.Machine.execClkLockedReached w s
  | .holdoverTimerExpiry dt => Sys2Proof.Machine.execHoldoverTimerExpiry dt s
  | .ppsInEdge rising widthNs dt => Sys2Proof.Machine.execPpsInEdge rising widthNs dt s
  | .ppsInAbsentTimeout dt => Sys2Proof.Machine.execPpsInAbsentTimeout dt s
  | .ppsOutPulse dt => Sys2Proof.Machine.execPpsOutPulse dt s
  | .monChanConfig c => Sys2Proof.Machine.execMonChanConfig c s
  | .monSeqConfig c => Sys2Proof.Machine.execMonSeqConfig c s
  | .monInjConfig c => Sys2Proof.Machine.execMonInjConfig c s
  | .monDecimConfig c => Sys2Proof.Machine.execMonDecimConfig c s
  | .monControl c => Sys2Proof.Machine.execMonControl c s
  | .monDecimReset c => Sys2Proof.Machine.execMonDecimReset c s
  | .monCalibrate c => Sys2Proof.Machine.execMonCalibrate c s
  | .monCalibrationDone converter offset gain dt => Sys2Proof.Machine.execMonCalibrationDone converter offset gain dt s
  | .monInjRead c => Sys2Proof.Machine.execMonInjRead c s
  | .monBufConfig c => Sys2Proof.Machine.execMonBufConfig c s
  | .monBufRead c => Sys2Proof.Machine.execMonBufRead c s
  | .monBufDma c => Sys2Proof.Machine.execMonBufDma c s
  | .monBufDmaDone dt => Sys2Proof.Machine.execMonBufDmaDone dt s
  | .monStatus c => Sys2Proof.Machine.execMonStatus c s
  | .biasConfig c => Sys2Proof.Machine.execBiasConfig c s
  | .biasStatus c => Sys2Proof.Machine.execBiasStatus c s
  | .monCounters c => Sys2Proof.Machine.execMonCounters c s
  | .monRegularTrigger trig dt => Sys2Proof.Machine.execMonRegularTrigger trig dt s
  | .monInjTrigger converter dt => Sys2Proof.Machine.execMonInjTrigger converter dt s
  | .monConversionDone converter code dt => Sys2Proof.Machine.execMonConversionDone converter code dt s
  | .biasLoopUpdate p m dt => Sys2Proof.Machine.execBiasLoopUpdate p m dt s
  | .biasRampEnd p out dt => Sys2Proof.Machine.execBiasRampEnd p out dt s
  | .biasAcquireTimeout p out dt => Sys2Proof.Machine.execBiasAcquireTimeout p out dt s
  | .biasNoLightTimer p out dt => Sys2Proof.Machine.execBiasNoLightTimer p out dt s
  | .fwUpdateBegin c => Sys2Proof.Machine.execFwUpdateBegin c s
  | .fwUpdateChunk c => Sys2Proof.Machine.execFwUpdateChunk c s
  | .fwUpdateEnd c => Sys2Proof.Machine.execFwUpdateEnd c s
  | .fwUpdateEndDone flashOk dt => Sys2Proof.Machine.execFwUpdateEndDone flashOk dt s
  | .fwActivate c => Sys2Proof.Machine.execFwActivate c s
  | .fwActivateImageLoaded dt => Sys2Proof.Machine.execFwActivateImageLoaded dt s
  | .fwPauseEnd handoverOk storeOk dt => Sys2Proof.Machine.execFwPauseEnd handoverOk storeOk dt s
  | .fwPauseDeadline dt => Sys2Proof.Machine.execFwPauseDeadline dt s
  | .trialTimerExpiry dt => Sys2Proof.Machine.execTrialTimerExpiry dt s
  | .fwConfirm c => Sys2Proof.Machine.execFwConfirm c s
  | .fwConfirmDone dt => Sys2Proof.Machine.execFwConfirmDone dt s
  | .fwLock c => Sys2Proof.Machine.execFwLock c s
  | .fwUnlock c => Sys2Proof.Machine.execFwUnlock c s
  | .fwStatus c => Sys2Proof.Machine.execFwStatus c s
  | .fwUpdateAbort c => Sys2Proof.Machine.execFwUpdateAbort c s
  | .cfgSave c => Sys2Proof.Machine.execCfgSave c s
  | .cfgSaveDone dt => Sys2Proof.Machine.execCfgSaveDone dt s
  | .cfgClear c => Sys2Proof.Machine.execCfgClear c s
  | .cfgClearDone dt => Sys2Proof.Machine.execCfgClearDone dt s
  | .cfgPolicy c => Sys2Proof.Machine.execCfgPolicy c s
  | .cfgStatus c => Sys2Proof.Machine.execCfgStatus c s
  | .sealDevice c => Sys2Proof.Machine.execSealDevice c s
  | .sealDeviceDone aBlown bBlown bRetry dt => Sys2Proof.Machine.execSealDeviceDone aBlown bBlown bRetry dt s
  | .sealStatus c => Sys2Proof.Machine.execSealStatus c s
  | .dbgMemRead c => Sys2Proof.Machine.execDbgMemRead c s
  | .dbgMemWrite c => Sys2Proof.Machine.execDbgMemWrite c s
  | .sealGateCheck gateOpen dt => Sys2Proof.Machine.execSealGateCheck gateOpen dt s
  | .jtagInstructionLoad code dt => Sys2Proof.Machine.execJtagInstructionLoad code dt s
  | .pcieLinkUp dt => Sys2Proof.Machine.execPcieLinkUp dt s
  | .pcieFswRead offset dt => Sys2Proof.Machine.execPcieFswRead offset dt s
  | .devWakeHoldExpiry target dt => Sys2Proof.Machine.execDevWakeHoldExpiry target dt s
  | .spnCounterOverflow e spindle counter dt => Sys2Proof.Machine.execSpnCounterOverflow e spindle counter dt s
  | .spnNoIdleClearTimer e dt => Sys2Proof.Machine.execSpnNoIdleClearTimer e dt s
  | .tamperDetectorClear source dt => Sys2Proof.Machine.execTamperDetectorClear source dt s
  | .tmPoolHighClearTimer dt => Sys2Proof.Machine.execTmPoolHighClearTimer dt s
  | .protSpindleRestoreDone e passed dt => Sys2Proof.Machine.execProtSpindleRestoreDone e passed dt s
  | .injectedApsSfExpiry p dt => Sys2Proof.Machine.execInjectedApsSfExpiry p dt s
  | .parityPersistClearTimer target dt => Sys2Proof.Machine.execParityPersistClearTimer target dt s
  | .mateRxListenTimeout dt => Sys2Proof.Machine.execMateRxListenTimeout dt s
  | .powerApplied dt => Sys2Proof.Machine.execPowerApplied dt s
  | .powerRemoved dt => Sys2Proof.Machine.execPowerRemoved dt s
  | .trstNAssert dt => Sys2Proof.Machine.execTrstNAssert dt s

end Sys2Proof.Machine
end

