-- ==== Sys2Proof/Safety.lean ====
section
/-!
DEFINITION. Sys2Proof/Safety.lean: what a safe outcome is, and the conditions on the state and a command that the statements
use.
-/
namespace Sys2Proof.Machine
open Sys2Proof

/-- A step that is neither a fault nor a refusal. -/
def Completes (o : Host.Outcome State Fault Refusal) : Prop := ∃ t, o = .next t

/-- The alarms, counters and window selectors are in their canonical form. -/
def State.canonical (s : State) : Bool :=
  SMap.wf false s.alarms && SMap.wf 0 s.counters && SMap.wf 0 s.host.fswMap

/-- The fault latch is set, with no reset taken beside it (R440). -/
def Latched (s : State) : Prop :=
  s.pr.powered = true ∧ s.pr.phase = .fault ∧ s.pr.poreset = false ∧ s.pr.sysreset = false ∧ s.pr.internalReset = none

/-- Umcia takes the command at once: it reads commands, nothing waits on the port, the port can carry the packet, and
fewer than 32 commands are outstanding on it (R39, R40), and no command of a later port was read in the cycle (R60). -/
abbrev Served (c : Cmd) (s : State) : Prop :=
  umciaReads (advance c.dt s) = true ∧ bootRomReads (advance c.dt s) c.port = false ∧
  s.host.rxq.get c.port = [] ∧ canCarry (advance c.dt s) c.port = true ∧ outstanding (advance c.dt s) c.port < 32 ∧
  readsNow (advance c.dt s) c.port = true

/-- The state a served command runs on: its time has passed, and it counts as activity for a lock its port holds. -/
def ready (c : Cmd) (s : State) : State := lockActivity c.port (noteRead c.port (advance c.dt s))

/-- The checks 6 to 11 of Table 2.5 pass. -/
abbrev Passes (op : OpSpec) (c : Cmd) (s : State) : Prop := checks op c false (ready c s) = none

/-- One unit is addressed, at once: not TARGET 0xFE or 0xFF, neither DRY_RUN nor STAGE; and no device fault keeps the
command from completing (R55, INTERNAL). -/
abbrev Direct (c : Cmd) : Prop :=
  c.target ≠ 0xFE ∧ c.target ≠ 0xFF ∧ c.flag 1 = false ∧ c.flag 2 = false ∧ c.unfinished = []

/-- The command runs on one unit at once: it is served, direct, and passes its checks. -/
abbrev Runs (op : OpSpec) (c : Cmd) (s : State) : Prop := Served c s ∧ Direct c ∧ Passes op c s

/-- The reply OK with result words `ws` leaves from `t`, and what waits for room follows (R56, R59). -/
def okFrom (code : Nat) (c : Cmd) (ws : List Word) (t : State) : State := pump (reply code c stOk 0 ws t)

/-- The command is held as deferred on its unit, and the reply ACCEPTED leaves (R59). -/
def acceptedFrom (code : Nat) (c : Cmd) (t : State) : State :=
  pump (reply code c stAccepted 0 [] (t.modHost fun h => { h with deferred := h.deferred ++
    [{ port := c.port, code, tag := c.tag, multi := false,
       entries := [{ target := c.target, settled := false, status := stOk, detail := 0, words := [] }] }] }))

/-! ## The command rows of the opcode tables -/

/-- `P` holds of the rows of the opcode table 0x00xx. -/
def DeviceRows (P : OpSpec → (Cmd → Instr) → Prop) : Prop :=
  P devIdentifyOp .devIdentify ∧ P devEchoOp .devEcho ∧ P devResetOp .devReset ∧ P devStatusOp .devStatus ∧
  P devSleepOp .devSleep ∧ P devWakeOp .devWake ∧ P devPortConfigOp .devPortConfig ∧
  P devEventConfigOp .devEventConfig ∧ P devFswMapOp .devFswMap ∧ P devStageClearOp .devStageClear ∧
  P devStageListOp .devStageList

/-- `P` holds of the rows of the opcode table 0x01xx. -/
def ModeRows (P : OpSpec → (Cmd → Instr) → Prop) : Prop :=
  P (modeSetOp 0) .modeSet ∧ P modeGetOp .modeGet ∧ P modeCommitOp .modeCommit

/-- `P` holds of the rows of the opcode table 0x02xx. -/
def ConvRows (P : OpSpec → (Cmd → Instr) → Prop) : Prop :=
  P convConfigOp .convConfig ∧ P convStatusOp .convStatus ∧ P convSliceGetOp .convSliceGet ∧
  P convSliceRestoreOp .convSliceRestore ∧ P convSliceRetireOp .convSliceRetire ∧ P chuckGetOp .chuckGet ∧
  P convLoopOp .convLoop ∧ P tapConfigOp .tapConfig ∧ P tapArmOp .tapArm ∧ P tapStopOp .tapStop ∧
  P tapStatusOp .tapStatus ∧ P tapReadOp .tapRead ∧ P tapDmaOp .tapDma ∧ P convCountersOp .convCounters

/-- `P` holds of the rows of the opcode table 0x03xx. -/
def DspRows (P : OpSpec → (Cmd → Instr) → Prop) : Prop :=
  P dspTxConfigOp .dspTxConfig ∧ P dspTxPreemphOp .dspTxPreemph ∧ P dspRxConfigOp .dspRxConfig ∧
  P dspStatusOp .dspStatus ∧ P dspEstimatesOp .dspEstimates ∧ P dspSnrSpectrumOp .dspSnrSpectrum ∧
  P dspAcquireOp .dspAcquire ∧ P dspProfileStoreOp .dspProfileStore ∧ P dspProfileWriteOp .dspProfileWrite ∧
  P dspProfileReadOp .dspProfileRead ∧ P dspProfileSelectOp .dspProfileSelect ∧
  P dspProfileClearOp .dspProfileClear ∧ P dspEqReadOp .dspEqRead ∧ P dspCountersOp .dspCounters

/-- `P` holds of the rows of the opcode table 0x04xx. -/
def SpnRows (P : OpSpec → (Cmd → Instr) → Prop) : Prop :=
  P spnMapOp .spnMap ∧ P spnPerfConfigOp .spnPerfConfig ∧ P spnPerfReadOp .spnPerfRead ∧
  P spnPerfFreezeOp .spnPerfFreeze ∧ P spnReaderOp .spnReader ∧ P spnKernelReserveOp .spnKernelReserve ∧
  P spnKernelLoadOp .spnKernelLoad ∧ P spnKernelStartOp .spnKernelStart ∧ P spnKernelStopOp .spnKernelStop ∧
  P spnKernelReadOp .spnKernelRead ∧ P spnKernelStatusOp .spnKernelStatus ∧ P spnCustKeyFuseOp .spnCustKeyFuse ∧
  P spnCountersOp .spnCounters

/-- `P` holds of the rows of the opcode table 0x05xx. -/
def FecRows (P : OpSpec → (Cmd → Instr) → Prop) : Prop :=
  P fecConfigOp .fecConfig ∧ P fecStatusOp .fecStatus ∧ P fecHistogramOp .fecHistogram ∧ P fecHdrReadOp .fecHdrRead ∧
  P fecCountersOp .fecCounters

/-- `P` holds of the rows of the opcode table 0x06xx. -/
def LfRows (P : OpSpec → (Cmd → Instr) → Prop) : Prop :=
  P lfConfigOp .lfConfig ∧ P lfTraceSetOp .lfTraceSet ∧ P lfTraceGetOp .lfTraceGet ∧ P lfStatusOp .lfStatus ∧
  P pmHistoryReadOp .pmHistoryRead ∧ P pmBinReadOp .pmBinRead ∧ P pmConfigOp .pmConfig ∧ P pmClearOp .pmClear ∧
  P lfCountersOp .lfCounters

/-- `P` holds of the rows of the opcode table 0x07xx, but for KEY_ZEROISE, which also acts before it is read (R254). -/
def KeyRows (P : OpSpec → (Cmd → Instr) → Prop) : Prop :=
  P keyLockOp .keyLock ∧ P keyUnlockOp .keyUnlock ∧ P keyLoadOp .keyLoad ∧ P keyActivateOp .keyActivate ∧
  P keyEraseOp .keyErase ∧ P keyStatusOp .keyStatus ∧ P cipherConfigOp .cipherConfig ∧
  P cipherCountersOp .cipherCounters

/-- `P` holds of the rows of the opcode table 0x08xx. -/
def HostRows (P : OpSpec → (Cmd → Instr) → Prop) : Prop :=
  P hlConfigOp .hlConfig ∧ P hlStatusOp .hlStatus ∧ P hpConfigOp .hpConfig ∧ P hpStatusOp .hpStatus ∧
  P hpRetrainOp .hpRetrain ∧ P hpLoopbackOp .hpLoopback ∧ P hlSynceSelectOp .hlSynceSelect ∧
  P hpCountersOp .hpCounters

/-- `P` holds of the rows of the opcode table 0x09xx. -/
def TmRows (P : OpSpec → (Cmd → Instr) → Prop) : Prop :=
  P tmConfigOp .tmConfig ∧ P tmSourceConfigOp .tmSourceConfig ∧ P tmPolicerProfileOp .tmPolicerProfile ∧
  P flowWriteOp .flowWrite ∧ P flowReadOp .flowRead ∧ P flowDeleteOp .flowDelete ∧ P tmQueueConfigOp .tmQueueConfig ∧
  P tmQueueStatusOp .tmQueueStatus ∧ P tmGateConfigOp .tmGateConfig ∧ P tmStatusOp .tmStatus ∧
  P tmCountersOp .tmCounters

/-- `P` holds of the rows of the opcode table 0x0Axx. -/
def ProtRows (P : OpSpec → (Cmd → Instr) → Prop) : Prop :=
  P protConfigOp .protConfig ∧ P protStatusOp .protStatus ∧ P protEngineSwitchOp .protEngineSwitch ∧
  P protEngineRestoreOp .protEngineRestore ∧ P protSpindleRestoreOp .protSpindleRestore ∧ P apsConfigOp .apsConfig ∧
  P apsCommandOp .apsCommand ∧ P protInjectOp .protInject ∧ P protCheckerOp .protChecker ∧
  P protCountersOp .protCounters

/-- `P` holds of the rows of the opcode table 0x0Bxx. -/
def MateRows (P : OpSpec → (Cmd → Instr) → Prop) : Prop :=
  P mateConfigOp .mateConfig ∧ P mateStatusOp .mateStatus ∧ P mateRetrainOp .mateRetrain ∧
  P mateWakePeerOp .mateWakePeer ∧ P mateMirrorReadOp .mateMirrorRead ∧ P mateCountersOp .mateCounters

/-- `P` holds of the rows of the opcode table 0x0Cxx. -/
def ClkRows (P : OpSpec → (Cmd → Instr) → Prop) : Prop :=
  P clkConfigOp .clkConfig ∧ P clkCandConfigOp .clkCandConfig ∧ P clkStatusOp .clkStatus ∧ P clkSelectOp .clkSelect ∧
  P clkOutConfigOp .clkOutConfig ∧ P ppsConfigOp .ppsConfig ∧ P clkCountersOp .clkCounters

/-- `P` holds of the rows of the opcode table 0x0Dxx. -/
def MonRows (P : OpSpec → (Cmd → Instr) → Prop) : Prop :=
  P monChanConfigOp .monChanConfig ∧ P monSeqConfigOp .monSeqConfig ∧ P monInjConfigOp .monInjConfig ∧
  P monDecimConfigOp .monDecimConfig ∧ P monControlOp .monControl ∧ P monDecimResetOp .monDecimReset ∧
  P monCalibrateOp .monCalibrate ∧ P monInjReadOp .monInjRead ∧ P monBufConfigOp .monBufConfig ∧
  P monBufReadOp .monBufRead ∧ P monBufDmaOp .monBufDma ∧ P monStatusOp .monStatus ∧ P biasConfigOp .biasConfig ∧
  P biasStatusOp .biasStatus ∧ P monCountersOp .monCounters

/-- `P` holds of the rows of the opcode table 0x0Exx. -/
def FwRows (P : OpSpec → (Cmd → Instr) → Prop) : Prop :=
  P fwUpdateBeginOp .fwUpdateBegin ∧ P fwUpdateChunkOp .fwUpdateChunk ∧ P fwUpdateEndOp .fwUpdateEnd ∧
  P fwActivateOp .fwActivate ∧ P fwConfirmOp .fwConfirm ∧ P fwLockOp .fwLock ∧ P fwUnlockOp .fwUnlock ∧
  P fwStatusOp .fwStatus ∧ P fwUpdateAbortOp .fwUpdateAbort ∧ P cfgSaveOp .cfgSave ∧ P cfgClearOp .cfgClear ∧
  P cfgPolicyOp .cfgPolicy ∧ P cfgStatusOp .cfgStatus

/-- `P` holds of the rows of the opcode table 0x0Fxx. -/
def SealRows (P : OpSpec → (Cmd → Instr) → Prop) : Prop :=
  P sealDeviceOp .sealDevice ∧ P sealStatusOp .sealStatus ∧ P dbgMemReadOp .dbgMemRead ∧ P dbgMemWriteOp .dbgMemWrite

/-- `P` holds of every command row and its checks and effect. -/
def EveryRow (P : OpSpec → (Cmd → Instr) → Prop) : Prop :=
  DeviceRows P ∧ ModeRows P ∧ ConvRows P ∧ DspRows P ∧ SpnRows P ∧ FecRows P ∧ LfRows P ∧ KeyRows P ∧
    HostRows P ∧ TmRows P ∧ ProtRows P ∧ MateRows P ∧ ClkRows P ∧ MonRows P ∧ FwRows P ∧ SealRows P

end Sys2Proof.Machine
end

