-- ==== Sys2Proof/Certificates/Slice0/Obligations.lean ====
section
/-!
DEFINITION. Sys2Proof/Certificates/Slice0/Obligations.lean: the statements for the provers, each over every state and
operands that meet its hypotheses.
-/
open Sys2Proof Sys2Proof.Machine

/-! ## The queue, reset, and what every step keeps -/

/-- With a command `c` at the front of the queue, `step` is `exec c` on the state with the rest of the queue; with an empty
queue the block idles and the state does not change (log entry 3, the model's choice). -/
def Obligations.StepRunsFront : Prop :=
  (∀ (c : Instr) (rest : List Instr) (s : State), s.pending = c :: rest → step s = exec c { s with pending := rest }) ∧
  ∀ s : State, s.pending = [] → step s = .next s

/-- Every command, in every state, is answered with a next state: neither a fault nor a refusal. A command of any opcode row but
KEY_ZEROISE (which CryptoCommandsRun states) that Umcia takes at once and that passes its checks has its effect: on one unit
without DRY_RUN and STAGE the next state is the row's own effect on that unit with the reply, ACCEPTED with the command held as
deferred where the effect ends later; with DRY_RUN the same reply leaves and nothing else changes; with STAGE the command joins
the staged set; on several units without ATOMIC the units change one after the other, and a unit that refuses keeps the others. A
row that fails a check gets the refusal of that check and nothing else changes. (Of the two device faults that R55 leaves
to chance, INTERNAL, no clause speaks.) -/
def Obligations.EveryCommandCompletes : Prop :=
  (∀ (i : Instr) (s : State), Completes (exec i s)) ∧
  EveryRow fun op f => ∀ (c : Cmd) (s : State), Served c s → c.unfinished = [] →
    let r := ready c s
    let multi := c.target = 0xFE ∨ c.target = 0xFF
    let u := op.run r c.target c
    (∀ st det, checks op c false r = some (st, det) → exec (f c) s = .next (pump (reply op.code c st det [] r))) ∧
    (checks op c false r = none →
      (¬ multi → c.flag 1 = false → c.flag 2 = false →
        (u.status < 0x100 → u.settled = true →
          exec (f c) s = .next (pump (op.after (reply op.code c u.status u.detail u.words u.st) c))) ∧
        (u.status < 0x100 → u.settled = false →
          exec (f c) s = .next (pump (op.after (reply op.code c stAccepted 0 [] (u.st.modHost fun h =>
            { h with deferred := h.deferred ++
              [{ port := c.port, code := op.code, tag := c.tag, multi := false,
                 entries := [{ target := c.target, settled := false, status := u.status, detail := u.detail,
                               words := u.words }] }] })) c))) ∧
        (0x100 ≤ u.status →
          exec (f c) s = .next (pump (reply op.code c u.status u.detail u.words (if u.keep then u.st else r))))) ∧
      (¬ multi → c.flag 1 = true → exec (f c) s = .next (pump (reply op.code c u.status u.detail u.words r))) ∧
      (¬ multi → c.flag 1 = false → c.flag 2 = true → u.status < 0x100 →
        exec (f c) s = .next (pump (reply op.code c u.status u.detail u.words
          (r.modHost fun h => { h with staged := h.staged ++ [⟨op.code, c⟩] })))) ∧
      (multi → c.flag 0 = false → c.flag 1 = false → c.flag 2 = false →
        let x := runUnits op c (expand op r c.target) r
        (∀ e ∈ x.2, e.settled = true) →
        let st := if ∃ e ∈ x.2, 0x100 ≤ e.status then stPartial
          else if ∃ e ∈ x.2, e.status = stAdjusted then stAdjusted else stOk
        let t := reply op.code c st 0 (entryWords x.2) x.1
        exec (f c) s = .next (pump (if st = stPartial then t else op.after t c))))

/-- At reset the device is in the STRAP phase with PORESET_N taken, not command-ready, in no power state, with no fault
class; no alarm is raised, no counter has counted, no lock is held, nothing is staged, outstanding or queued, PCIe and SPI
have the subject mask 0xFFFF and the other ports 0x0000. -/
def Obligations.ResetState : Prop :=
  let s := State.reset
  s.pr.phase = .strap ∧ s.pr.poreset = true ∧ s.pr.cmdReady = false ∧ s.pr.power = .none ∧ s.pr.faultClass = 0 ∧
  s.alarms = [] ∧ s.counters = [] ∧ s.host.cryptoLock = none ∧ s.host.updateLock = none ∧ s.host.staged = [] ∧
  s.host.deferred = [] ∧ s.host.evt.pcie.mask = 0xFFFF ∧ s.host.evt.spi.mask = 0xFFFF ∧ s.host.evt.ib0.mask = 0 ∧
  s.host.evt.ib1.mask = 0 ∧ s.host.evt.mate.mask = 0 ∧ s.pending = [] ∧ running s = false


/-! ## Command ports (chapter 02) -/

/-- While the PCIe endpoint takes transactions and no wake is in progress, a write of CMD_PROD, ENABLE, RESET, RPL_CONS or
EVT_CONS has its effect: an index is taken modulo the ring size, RESET sets every index to 0, and a consumer index frees the
slots up to it. REGISTER_WRITE reaches every register of Table 2.2 that the host writes and the MSI-X table, and an offset that
is none of them changes nothing; what waited for room goes on in every case. During a wake a doorbell is held and nothing else
changes but for what waited for room. -/
def Obligations.RingRegisterWrites : Prop :=
  ∀ (i off dt : Nat) (on : Bool) (v : Word) (s : State), pcieOpen (advance dt s) = true →
    let a := advance dt s
    let wr (f : PcieState → PcieState) : Host.Outcome State Fault Refusal := .next (pump (a.modPcie f))
    let reset (c : PcieState) : PcieState := { c with
      cmdProd := 0, cmdCons := 0, rplProd := 0, rplCons := 0, evtProd := 0, evtCons := 0, rplRing := [], evtRing := [],
      heldDoorbell := none }
    (s.pr.waking = false →
      exec (.pcieCmdProdWrite i dt) s = wr (fun x => { x with cmdProd := i % 2 ^ bits x.ringSize 0 4 }) ∧
      exec (.registerWrite 0x820 v dt) s = wr (fun x => { x with cmdProd := v.toNat % 2 ^ bits x.ringSize 0 4 })) ∧
    (s.pr.waking = true →
      exec (.pcieCmdProdWrite i dt) s = wr (fun x => { x with heldDoorbell := some i }) ∧
      exec (.registerWrite 0x820 v dt) s = wr (fun x => { x with heldDoorbell := some v.toNat })) ∧
    exec (.ringEnable on dt) s = wr (fun x => { x with enable := on }) ∧
    exec (.ringReset dt) s = wr reset ∧
    exec (.rplConsWrite i dt) s = wr (fun x =>
      let n := 2 ^ bits x.ringSize 4 4
      { x with rplRing := x.rplRing.drop ((i % n + n - x.rplCons % n) % n), rplCons := i % n }) ∧
    exec (.evtConsWrite i dt) s = wr (fun x =>
      let n := 2 ^ bits x.ringSize 8 4
      { x with evtRing := x.evtRing.drop ((i % n + n - x.evtCons % n) % n), evtCons := i % n }) ∧
    exec (.registerWrite 0x800 v dt) s = wr (fun x => { x with cmdBaseLo := v }) ∧
    exec (.registerWrite 0x804 v dt) s = wr (fun x => { x with cmdBaseHi := v }) ∧
    exec (.registerWrite 0x808 v dt) s = wr (fun x => { x with rplBaseLo := v }) ∧
    exec (.registerWrite 0x80C v dt) s = wr (fun x => { x with rplBaseHi := v }) ∧
    exec (.registerWrite 0x810 v dt) s = wr (fun x => { x with evtBaseLo := v }) ∧
    exec (.registerWrite 0x814 v dt) s = wr (fun x => { x with evtBaseHi := v }) ∧
    exec (.registerWrite 0x818 v dt) s = wr (fun x => { x with ringSize := v.toNat % 4096 }) ∧
    exec (.registerWrite 0x81C v dt) s = wr (fun x =>
      if v.getLsbD 1 then reset { x with enable := v.getLsbD 0 } else { x with enable := v.getLsbD 0 }) ∧
    exec (.registerWrite 0x82C v dt) s = exec (.rplConsWrite v.toNat dt) s ∧
    exec (.registerWrite 0x830 v dt) s = exec (.evtConsWrite v.toNat dt) s ∧
    (0x1000 ≤ off → off < 0x1080 → exec (.registerWrite off v dt) s = wr (fun x =>
      { x with msixTable := SMap.set 0 x.msixTable ((off - 0x1000) / 4 * 4) v })) ∧
    (off ∉ [0x800, 0x804, 0x808, 0x80C, 0x810, 0x814, 0x818, 0x81C, 0x820, 0x82C, 0x830] → off < 0x1000 ∨ 0x1080 ≤ off →
      exec (.registerWrite off v dt) s = .next (pump a))

/-- A PCIe slot that may be fetched is fetched: CMD_CONS moves on by 1 modulo the ring size and the slot's packet arrives.
A CMD_WRITE frame for this device delivers its packet without the bytes after the CRC, or counts in SPI_ABORT if it ends
before the packet's last word; one whose first byte of word 0 is no sync byte holds no packet. A packet found on an enabled in-band channel arrives on that channel's port; on a disabled
one it is discarded and INBAND_DISCARD counts. -/
def Obligations.PacketsArrive : Prop :=
  ∀ (ws rest : List Word) (bs : List Byte) (b : Byte) (p : Lp) (d dt : Nat) (s : State),
    let a := advance dt s
    let m := setMiso none a
    (mayFetch a = true → exec (.pcieRingFetch ws dt) s = .next (arrive .pcie (slotPacket ws)
      (a.modPcie fun c => { c with cmdCons := (c.cmdCons + 1) % 2 ^ bits c.ringSize 0 4 }))) ∧
    (spiTakes a = true → spiOurs a b = true → b.toNat % 64 = 1 →
      (ws = [] → exec (.spiCmdWrite b ws dt) s = .next (m.modHost fun h => { h with spiAbort := h.spiAbort + 1 })) ∧
      (∀ w r, ws = w :: r → bits w.toNat 24 8 ≠ 0xC5 → exec (.spiCmdWrite b ws dt) s = .next m) ∧
      ∀ w r, ws = w :: r → bits w.toNat 24 8 = 0xC5 →
        let n := min 1020 (bits w.toNat 0 16) + 4
        (ws.length < n → exec (.spiCmdWrite b ws dt) s = .next (m.modHost fun h => { h with spiAbort := h.spiAbort + 1 })) ∧
        (n ≤ ws.length → packetsKept a = true ∨ bootRomReads a .spi = true →
          exec (.spiCmdWrite b ws dt) s = .next (arrive .spi (ws.take n) m))) ∧
    (running a = true → huntBytes ((s.inband p).rx.length + 1) 0 (s.inband p).rx = (d, .packet rest bs) →
      let k := inbandDrop d (a.modInband p fun i => { i with rx := bs })
      ((s.inband p).enable = true → packetsKept k = true →
        exec (.inbandPacketReceived p dt) s = .next (arrive (ibPort p) rest k)) ∧
      ((s.inband p).enable = false → exec (.inbandPacketReceived p dt) s = .next (inbandDrop 1 k)))

/-- While Umcia does not read the queues (a firmware pause, or the entry to DARK), a whole packet that arrives on SPI enters
the SPI receive queue behind the others; with 32 packets in it the packet is discarded, the queue is unchanged and RXQ_DROP
counts 1. No reply is sent and, but for a KEY_ZEROISE that enters, which erases at once (R254), nothing outside the host
interfaces changes. -/
def Obligations.ReceiveQueueFull : Prop :=
  ∀ (b : Byte) (w : Word) (r : List Word) (dt : Nat) (s : State),
    let a := advance dt s
    let n := min 1020 (bits w.toNat 0 16) + 4
    spiTakes a = true → spiOurs a b = true → b.toNat % 64 = 1 → bits w.toNat 24 8 = 0xC5 → n ≤ (w :: r).length →
    packetsKept a = true → umciaReads a = false →
    ∃ t, exec (.spiCmdWrite b (w :: r) dt) s = .next t ∧
      (s.host.rxq.spi.length < 32 → t.host.rxqDrop = s.host.rxqDrop ∧
        ∃ k, k.words = (w :: r).take n ∧ t.host.rxq.spi = s.host.rxq.spi ++ [k]) ∧
      (32 ≤ s.host.rxq.spi.length → t.host.rxq = s.host.rxq ∧ t.host.rxqDrop = s.host.rxqDrop + 1) ∧
      t.eng = s.eng ∧ t.fw = s.fw ∧ t.counters = s.counters ∧
      (32 ≤ s.host.rxq.spi.length ∨ bits (r.getD 0 0).toNat 16 16 ≠ 0x0705 → t.host.spi.out = s.host.spi.out ∧
        t.host.pcie = s.host.pcie ∧ t.lp = s.lp ∧ t.keys = s.keys ∧ t.alarms = s.alarms)

/-- On the PCIe path and on the SPI path, a read of one window word returns the path's latch if that holds the HI word of this
offset, else the live word, and leaves the HI word of the pair in the path's latch if the word was the LO word of a pair, else
an empty latch; the other path's latch stays. The live words of a pair, with its counter brought up to the present first, are its
LO and HI words, and consecutive words of one
FSW_READ frame are consecutive reads, so a LO read and then a HI read of the pair give one consistent value. -/
def Obligations.LoReadLatchesHi : Prop :=
  ∀ (off dt : Nat) (b : Byte) (s : State), off % 4 = 0 → off < 4096 →
    let a := advance dt s
    let live := fswWord a off
    let pair := pairAt live.2 off
    let word (l : Option (Nat × Word)) : Word := match l with | some (o, w) => if o = off then w else live.1 | none => live.1
    let latch : Option (Nat × Word) :=
      if s.pr.phase = .fault then none else pair.map fun (v : U64) => (off + 4, (v >>> 32).truncate 32)
    (pcieOpen a = true → s.pr.waking = false →
      exec (.pcieFswRead off dt) s = .next (live.2.modPcie fun c => { c with
        readBack := [word s.host.pcie.latch], latch := latch, unsupported := false }) ∧
      exec (.fswLoRead .pcie off dt) s = exec (.pcieFswRead off dt) s) ∧
    (spiReads a = true →
      exec (.fswLoRead .spi off dt) s = .next (live.2.modSpi fun c => { c with
        miso := some [word s.host.spi.latch], latch := latch })) ∧
    (spiReads a = true → spiOurs a b = true → b.toNat % 64 = 3 →
      exec (.spiFswRead b off 1 dt) s = .next (live.2.modSpi fun c => { c with
        miso := some [word s.host.spi.latch], latch := latch }) ∧
      ∀ v : U64, pair = some v → s.pr.phase ≠ .fault → ∃ t, exec (.spiFswRead b off 2 dt) s = .next t ∧
        t.host.spi.miso = some [word s.host.spi.latch, (v >>> 32).truncate 32] ∧ t.host.pcie = s.host.pcie) ∧
    ∀ v : U64, pair = some v → s.pr.phase ≠ .fault →
      live.1 = v.truncate 32 ∧ fswLive live.2 (off + 4) = (v >>> 32).truncate 32

/-- An OUT_READ frame for this device of `n` whole words returns OUT_STATUS and then the words of the packet at the head of the
SPI output queue, as far as clocked. The packet leaves the queue when all its words were clocked, and what waited for room
goes on; after a shorter read it stays at the head. -/
def Obligations.OutReadRemovesWholePackets : Prop :=
  ∀ (b : Byte) (n dt : Nat) (s : State),
    let a := advance dt s
    spiTakes a = true → spiOurs a b = true → b.toNat % 64 = 2 →
    (∀ k r, s.host.spi.out = k :: r →
      let m := setMiso (some ((outStatus a :: k.words).take n)) a
      (k.words.length + 1 ≤ n →
        exec (.spiOutRead b n dt) s = .next (pump (m.modSpi fun c => { c with out := r }))) ∧
      (n < k.words.length + 1 → exec (.spiOutRead b n dt) s = .next m)) ∧
    (s.host.spi.out = [] → exec (.spiOutRead b n dt) s = .next (setMiso (some ([outStatus a].take n)) a))

/-- PERST_N sets the endpoint and its ring registers to their reset values, the loss of the link takes the link down; both
discard the replies waiting for ring room, counting each in REPLY_DROP, and release the locks that the PCIe port holds and no
other lock. Staged commands and every unit stay as they are. The link coming up lets waiting replies and events go on. -/
def Obligations.PcieDownAndUp : Prop :=
  ∀ (dt : Nat) (s : State),
    let a := advance dt s
    let drops (t : State) : Prop :=
      t.host.replyDrop = s.host.replyDrop + BitVec.ofNat 32 s.host.pcie.rplWait.length ∧
      (∀ l, t.host.staged = s.host.staged ∧ (lockHolder t l = match lockHolder s l with
        | some (p, u) => if p = .pcie then none else some (p, u)
        | none => none)) ∧
      t.pr = s.pr ∧ t.lp = s.lp ∧ t.eng = s.eng ∧ t.tm = s.tm ∧ t.keys = s.keys ∧ t.alarms = s.alarms
    (s.pr.powered = true → inReset s = false → s.pr.phase ≠ .fault → ∃ t, exec (.perstNAssert dt) s = .next t ∧
      t.host.pcie = { msix0 := s.host.pcie.msix0, msix1 := s.host.pcie.msix1, msix2 := s.host.pcie.msix2,
                      msix3 := s.host.pcie.msix3, dmaDone := s.host.pcie.dmaDone } ∧ drops t) ∧
    (s.host.pcie.linkUp = true → ∃ t, exec (.pcieLinkDown dt) s = .next t ∧
      t.host.pcie.linkUp = false ∧ t.host.pcie.heldReads = [] ∧ t.host.pcie.rplWait = [] ∧ t.host.pcie.ringSize = s.host.pcie.ringSize ∧ drops t) ∧
    (running a = true → exec (.pcieLinkUp dt) s = .next (pump (a.modPcie fun c => { c with linkUp := true })))

/-- Two seconds after the holder's last activity, outside a firmware pause, a lock is released; the other lock, the staged
commands and every unit stay as they are. Before that it is kept. -/
def Obligations.LockInactivity : Prop :=
  ∀ (l : Lock) (p : Port) (u dt : Nat) (s : State), lockHolder s l = some (p, u) →
    let a := advance dt s
    (running a = true → s.fw.pause.isNone = true → u + secT 2 ≤ a.hk →
      ∃ t, exec (.lockInactivityTimeout l dt) s = .next t ∧ lockHolder t l = none ∧
        (∀ l', l' ≠ l → lockHolder t l' = lockHolder s l') ∧ t.host.staged = s.host.staged ∧
        t.lp = s.lp ∧ t.eng = s.eng ∧ t.keys = s.keys ∧ t.alarms = s.alarms) ∧
    (a.hk < u + secT 2 → exec (.lockInactivityTimeout l dt) s = .next a)


/-! ## The device range and the mode range (chapters 02 and 03) -/

/-- Of the commands that Umcia takes, that address one unit at once and pass their checks, each of DEV_IDENTIFY, DEV_ECHO,
DEV_STATUS of every target it accepts, DEV_PORT_CONFIG, DEV_EVENT_CONFIG, DEV_FSW_MAP, DEV_STAGE_CLEAR and DEV_STAGE_LIST has
its effect and replies OK with its results, and the next state is that and no more. DEV_STATUS of a host port and of the monitor
answers what HP_STATUS and MON_STATUS do. While the boot ROM waits for a download on the port, DEV_IDENTIFY and DEV_ECHO are
answered too; the version and hash of an image that does not yet run are free values (log entry 5). -/
def Obligations.DeviceCommandsRun : Prop :=
  ∀ (c : Cmd) (s : State),
    let r := ready c s
    let p := lpOfT c.target
    let b := lockActivity c.port (advance c.dt s)
    (bootRomReads (advance c.dt s) c.port = true → s.host.rxq.get c.port = [] → Direct c →
      (checks devIdentifyOp c false b = none → s.fw.running = none → exec (.devIdentify c) s = .next (okFrom 0x0001 c
        ([w32 (b01 Config.ordering), 0x00003240, 0x000000B0] ++ freeAt s.freeCtr 13 ++ [w32 s.pr.straps.toNat])
        { b with freeCtr := s.freeCtr + 13 })) ∧
      (checks devEchoOp c false b = none → exec (.devEcho c) s = .next (okFrom 0x0002 c c.params b))) ∧
    (∀ i, Runs devIdentifyOp c s → s.fw.running = some i → exec (.devIdentify c) s = .next (okFrom 0x0001 c
      ([w32 (b01 Config.ordering), 0x00003240, 0x000000B0, imageVersion i] ++ hdrWords i.hdr 9 20 ++
        [w32 s.pr.straps.toNat]) r)) ∧
    (Runs devEchoOp c s → exec (.devEcho c) s = .next (okFrom 0x0002 c c.params r)) ∧
    (Runs devStatusOp c s →
      (c.target = 0x00 → exec (.devStatus c) s = .next (okFrom 0x0004 c (deviceWords c.port r) r)) ∧
      (c.target = 0x01 → exec (.devStatus c) s = .next (okFrom 0x0004 c (supervisorWords r) r)) ∧
      (isLpT c.target = true → exec (.devStatus c) s = .next (okFrom 0x0004 c (lpBlock r p) r)) ∧
      (isEngT c.target = true → exec (.devStatus c) s = .next (okFrom 0x0004 c (engineWords r (engOfT c.target)) r)) ∧
      (c.target = 0x80 → exec (.devStatus c) s = .next (okFrom 0x0004 c (tmStatusWords r) r)) ∧
      (c.target = 0x90 → exec (.devStatus c) s = .next (okFrom 0x0004 c (mateStatusWords r) r)) ∧
      (isHpT c.target = true → exec (.devStatus c) s = .next (okFrom 0x0004 c (hpStatusOp.run r c.target c).words r)) ∧
      (c.target = 0xA0 → exec (.devStatus c) s = .next (okFrom 0x0004 c (clkStatusHead r).1 (clkStatusHead r).2)) ∧
      (c.target = 0xB0 → exec (.devStatus c) s = .next (okFrom 0x0004 c (monStatusOp.run r 0xB0 c).words r))) ∧
    (Runs devPortConfigOp c s →
      let u := ((r.modInband .lp0 fun i => { i with enable := bit (c.w 3) 0 }).modInband .lp1 fun i =>
        { i with enable := bit (c.w 3) 1 }).modHost fun h => { h with mateEnable := bit (c.w 3) 2 }
      exec (.devPortConfig c) s = .next (okFrom 0x0007 c
        [w32 (onBit (bit (c.w 3) 0) 0 + onBit (bit (c.w 3) 1) 1 + onBit (bit (c.w 3) 2) 2)] u)) ∧
    (Runs devEventConfigOp c s → exec (.devEventConfig c) s = .next (okFrom 0x0008 c
      [w32 (c.w 3), w32 (c.w 4 % 65536), w32 (c.w 5 % 65536)]
      (alarmNotify ((modEvt r (portOf (c.w 3)) fun e => { e with mask := c.w 4 % 65536 }).modHost fun h =>
        { h with alarmMask := c.w 5 % 65536 })))) ∧
    (Runs devFswMapOp c s → exec (.devFswMap c) s = .next (okFrom 0x0009 c [] (r.modHost fun h => { h with
      fswMap := (mapSelectors c).foldl (fun m x => SMap.set 0 m (c.w 3 + (x.1 - 5)) x.2) h.fswMap }))) ∧
    (Runs devStageClearOp c s → exec (.devStageClear c) s = .next (okFrom 0x000A c [w32 s.host.staged.length]
      (r.modHost fun h => { h with staged := [] }))) ∧
    (Runs devStageListOp c s → exec (.devStageList c) s = .next (okFrom 0x000B c
      (w32 s.host.staged.length :: (s.host.staged.map fun x =>
        [w32 (x.code * 2 ^ 16 + x.cmd.tag.toNat), w32 (portCode x.cmd.port * 2 ^ 8 + x.cmd.target)]).flatten) r))

/-- DEV_RESET kind 0 begins a firmware pause and leaves line ports, engines, traffic manager, keys, staged commands, alarms and
power state as they are; kind 1 resets the device from the next AON edge, for 4 AON periods: staged and deferred commands, locks,
alarms, counters, the update session, and the state of the line ports, engines and the traffic manager are as after a reset,
straps, the UPTIME origin, WAKE_MASK and WAKE_TIMER stay. DEV_SLEEP outside SERVICE, with UPDATE_LOCK free and no deferred
command, ends command-ready and begins the entry to DARK with its mask and timer, and is refused otherwise. On one unit, DEV_WAKE
with HOLD 0 cancels the hold; on an awake unit it starts the hold and completes what waits on the unit; on a sleeping one it
replies ACCEPTED and begins the wake; on one whose state does not let it run it is refused. -/
def Obligations.ResetSleepWake : Prop :=
  ∀ (c : Cmd) (s : State),
    let r := ready c s
    (Runs devResetOp c s → c.w 3 = 0 → ∃ t, exec (.devReset c) s = .next t ∧
      t.fw.pause = some { cause := 2, since := r.hk, reason := none } ∧ t.pr = s.pr ∧ t.lp = s.lp ∧ t.eng = s.eng ∧
      t.tm = s.tm ∧ t.keys = s.keys ∧ t.host.staged = s.host.staged ∧ t.alarms = s.alarms) ∧
    (Runs devResetOp c s → c.w 3 = 1 → ∃ t, exec (.devReset c) s = .next t ∧
      inReset t = true ∧ t.pr.cmdReady = false ∧ t.pr.power = .none ∧ t.host.staged = [] ∧ t.host.deferred = [] ∧
      t.host.cryptoLock = none ∧ t.host.updateLock = none ∧ t.alarms = [] ∧ t.counters = [] ∧ t.fw.session = none ∧
      t.lp = State.reset.lp ∧ t.eng = State.reset.eng ∧ t.tm = State.reset.tm ∧
      t.pr.straps = s.pr.straps ∧ t.pr.uptimeFrom = s.pr.uptimeFrom ∧ t.pr.wakeMask = s.pr.wakeMask ∧
      t.pr.wakeTimerS = s.pr.wakeTimerS ∧ t.pr.internalReset = some (nextAonEdge r + aonT 4)) ∧
    (Runs devSleepOp c s →
      (s.pr.power = .service → exec (.devSleep c) s = .next (pump (reply 0x0005 c stBadState 0x0100 [] r))) ∧
      (s.pr.power ≠ .service → s.host.updateLock.isSome = true →
        exec (.devSleep c) s = .next (pump (reply 0x0005 c stBadState 0x0101 [] r))) ∧
      (s.pr.power ≠ .service → s.host.updateLock = none → s.host.deferred ≠ [] →
        exec (.devSleep c) s = .next (pump (reply 0x0005 c stBadState 0x0102 [] r)))) ∧
    (Runs devSleepOp c s → s.pr.power ≠ .service → s.host.updateLock = none → s.host.deferred = [] →
      ∃ t, exec (.devSleep c) s = .next t ∧ t.pr.cmdReady = false ∧ t.pr.sleepEntry = true ∧
        t.pr.wakeMask = c.w 3 % 32 ∧ t.pr.wakeTimerS = c.w 4 ∧
        t.pr.wakeTimer = (if c.w 4 = 0 then s.pr.wakeTimer else none) ∧ t.pr.power = s.pr.power ∧ t.lp = s.lp ∧ t.eng = s.eng ∧
        t.host.staged = s.host.staged) ∧
    (Runs devWakeOp c s →
      (c.w 3 = 0 → exec (.devWake c) s = .next (okFrom 0x0006 c [] (cancelHold c.target r))) ∧
      (c.w 3 ≠ 0 → wakeAllowed r c.target = true → unitAwake r c.target = true →
        exec (.devWake c) s =
          .next (okFrom 0x0006 c [] (settleWake c.target stOk 0 (setHold c.target (c.w 3) r)))) ∧
      (c.w 3 ≠ 0 → wakeAllowed r c.target = true → unitAwake r c.target = false →
        exec (.devWake c) s = .next (acceptedFrom 0x0006 c (beginWake c.target (c.w 3) r))) ∧
      (c.w 3 ≠ 0 → wakeAllowed r c.target = false →
        exec (.devWake c) s = .next (pump (reply 0x0006 c stBadState 0x0100 [] r))))

/-- When the unit a DEV_WAKE is waking runs, its hold starts from now and every DEV_WAKE that waits on it completes with OK; a
unit whose state no longer lets it run is refused with BAD_STATE 0x0100 and holds nothing. When the hold has run out the unit
may sleep again. -/
def Obligations.UnitHolds : Prop :=
  ∀ (t ms dt : Nat) (s : State),
    let a := advance dt s
    (SMap.get none s.host.wakes t = some ms → running a = true → wakeAllowed a t = true → t ≠ 0x80 → t ≠ 0x90 →
      exec (.unitWakeDone t dt) s = .next (pump (settleWake t stOk 0 (setHold t ms a)))) ∧
    (SMap.get none s.host.wakes 0x80 = some ms → running a = true → wakeAllowed a 0x80 = true → unitAwake a 0x80 = true →
      exec (.unitWakeDone 0x80 dt) s = .next (pump (settleWake 0x80 stOk 0 (setHold 0x80 ms a)))) ∧
    (SMap.get none s.host.wakes 0x90 = some ms → running a = true → wakeAllowed a 0x90 = true →
      exec (.unitWakeDone 0x90 dt) s = .next (pump (settleWake 0x90 stOk 0
        (setHold 0x90 ms (a.modMate fun m => { m with asleep := false, listenEnd := none }))))) ∧
    (SMap.get none s.host.wakes t = some ms → running a = true → wakeAllowed a t = false →
      exec (.unitWakeDone t dt) s = .next (pump (settleWake t stBadState 0x0100 (setHold t 0 a)))) ∧
    (running a = true → SMap.get 0 s.host.holds t ≠ 0 → SMap.get 0 s.host.holds t ≤ a.hk →
      ∃ u, exec (.devWakeHoldExpiry t dt) s = .next u ∧ u.host = (setHold t 0 a).host ∧ u.lp = s.lp ∧ u.eng = s.eng ∧
        (t ≠ 0x90 → u = setHold t 0 a))

/-- MODE_SET on a line port keeps the requested values that its CHANGE_MASK does not select, resolves the request, replies OK or,
if anything was adjusted, OK_ADJUSTED with the words of Table 3.7, and queues an application if the granted point is not the
one the port is heading for; on TARGET 0x00 it sets WARM_PORT, and a change of it asks for a re-resolution with cause 3.
MODE_GET replies the same words and changes nothing. MODE_COMMIT replies the number of staged commands and then applies them, an
empty set too unless a SYNC COMMIT took the set in the same cycle. -/
def Obligations.ModeCommandsRun : Prop :=
  ∀ (c : Cmd) (s : State),
    let r := ready c s
    let p := lpOfT c.target
    let m := (s.port p).mode
    let req := mergePoint m.requested (c.w 3) (c.w 4)
    let g := resolve r p req
    (Runs (modeSetOp 0) c s → isLpT c.target = true →
      exec (.modeSet c) s = .next (pump (reply 0x0101 c (if g.2.1 = 0 then stOk else stAdjusted) 0
        (modeResults (setRequested r p req 0).1 p req g.1 g.2.1 g.2.2)
        (shortfall p (r.modMode p fun m => { m with
          requested := req, granted := g.1, adjust := g.2.1, cd := g.2.2,
          apps := if headPoint m = g.1 then m.apps
            else m.apps ++ [{ point := g.1, adjust := g.2.1, source := 0, begun := false }] }))))) ∧
    (Runs (modeSetOp 0) c s → c.target = 0 →
      let w : Lp := if bit (c.w 3) 0 then .lp1 else .lp0
      let v := steer (askResolve 3 { r with warmPort := w })
      exec (.modeSet c) s = (if w = s.warmPort then .next (okFrom 0x0101 c (warmResults r) r)
        else .next (okFrom 0x0101 c (warmResults v) v))) ∧
    (Runs modeGetOp c s → isLpT c.target = true →
      exec (.modeGet c) s = .next (okFrom 0x0102 c (modeResults r p m.requested m.granted m.adjust m.cd) r)) ∧
    (Runs modeGetOp c s → c.target = 0 → exec (.modeGet c) s = .next (okFrom 0x0102 c (warmResults r) r)) ∧
    (Runs modeCommitOp c s → s.host.staged = [] → s.host.syncTaken = some (hkCycle (advance c.dt s)) →
      exec (.modeCommit c) s = .next (okFrom 0x0103 c [0] r)) ∧
    (Runs modeCommitOp c s → s.host.staged ≠ [] ∨ s.host.syncTaken ≠ some (hkCycle (advance c.dt s)) →
      exec (.modeCommit c) s = .next (pump (applyStaged 1 [] (reply 0x0103 c stOk 0 [w32 s.host.staged.length] r))))

/-- In the requested point that a MODE_SET of one line port leaves, each field whose bit of CHANGE_MASK is 1 has the value of
the mode word (Table 3.6), and each other field keeps its requested value. Each bit of ADJUST is 1 exactly where the granted
value, or for REACH the granted CD range, differs from the request, and SERVICE, INTEROP and CLIENT are never adjusted. The
other line port keeps its mode. (A request with NLC on has 1 to 4 steps and one with NLC off has 0, as every accepted mode word
leaves it; the ADJUST clause is about such requests.) -/
def Obligations.ChangeMaskSelects : Prop :=
  ∀ (c : Cmd) (s : State), Runs (modeSetOp 0) c s → isLpT c.target = true →
    let p := lpOfT c.target
    let o := (s.port p).mode.requested
    let w := c.w 3
    let k := c.w 4
    ∃ t, exec (.modeSet c) s = .next t ∧ (t.port p.other).mode = (s.port p.other).mode ∧
      (let m := (t.port p).mode
       let r := m.requested
       r.service = (if bit k 0 then bit w 0 else o.service) ∧ r.zr800 = (if bit k 1 then bit w 1 else o.zr800) ∧
       r.rate = (if bit k 2 then bits w 2 6 else o.rate) ∧ r.reach = (if bit k 3 then reachOf (bits w 8 2) else o.reach) ∧
       r.nlc = (if bit k 4 then bit w 10 else o.nlc) ∧ r.nlcSteps = (if bit k 4 then bits w 11 3 else o.nlcSteps) ∧
       r.low = (if bit k 5 then bit w 14 else o.low) ∧ r.guard = (if bit k 6 then guardOf (bits w 15 2) else o.guard) ∧
       r.cipher = (if bit k 7 then bit w 17 else o.cipher) ∧ r.packet = (if bit k 8 then bit w 18 else o.packet) ∧
       r.economy = (if bit k 9 then bit w 19 else o.economy) ∧
       (r.nlc = decide (r.nlcSteps ≠ 0) →
         m.granted.service = r.service ∧ m.granted.zr800 = r.zr800 ∧ m.granted.packet = r.packet ∧
         bit m.adjust 0 = false ∧ bit m.adjust 1 = false ∧ bit m.adjust 8 = false ∧ m.adjust < 1024 ∧
         bit m.adjust 2 = decide (m.granted.rate ≠ r.rate) ∧ bit m.adjust 3 = decide (m.cd ≠ reachCd r.reach) ∧
         bit m.adjust 4 = decide (m.granted.nlc ≠ r.nlc ∨ m.granted.nlcSteps ≠ r.nlcSteps) ∧
         bit m.adjust 5 = decide (m.granted.low ≠ r.low) ∧ bit m.adjust 6 = decide (m.granted.guard ≠ r.guard) ∧
         bit m.adjust 7 = decide (m.granted.cipher ≠ r.cipher) ∧
         bit m.adjust 9 = decide (m.granted.economy ≠ r.economy)))

/-- An application that begins, with no switch-over on the port, brings its point into force on the port; unless GUARD waits for
the spare engine it is then over, with EV_MODE_APPLIED; one that has begun is looked at again, and changes no more than the spare
engine's steering does. A re-resolution that is due runs once no application is in progress:
both ports, LP0 first, are resolved again from their requested points, and no request changes. -/
def Obligations.ModeChangesApply : Prop :=
  ∀ (p : Lp) (x : ModeApp) (l : List ModeApp) (cause dt : Nat) (s : State),
    let a := advance dt s
    (umciaReads a = true → (s.protPort p).tk = none → (s.port p).mode.apps = x :: l → x.begun = true →
      exec (.modeApplication p dt) s = .next (pump (steer a))) ∧
    (umciaReads a = true → (s.protPort p).tk = none → (s.port p).mode.apps = x :: l → x.begun = false →
      ((s.port p).mode.running.guard = x.point.guard → exec (.modeApplication p dt) s =
        .next (pump (settlePower (steer (finishApp p x (bringInto p x.point a)))))) ∧
      ((s.port p).mode.running.guard ≠ x.point.guard → exec (.modeApplication p dt) s =
        .next (pump (settlePower (steer ((bringInto p x.point a).modMode p fun m =>
          { m with apps := { x with begun := true } :: l })))))) ∧
    (s.reresolve = some cause → umciaReads a = true → (s.port .lp0).mode.apps = [] → (s.port .lp1).mode.apps = [] →
      exec (.reResolution dt) s =
        .next (pump (steer (steerBanks (regrant cause .lp1 (regrant cause .lp0 { a with reresolve := none }))))))


/-! ## Power, resets, wake, SYNC and pins (chapters 01, 16, 17) -/

/-- A PORESET_N assertion sets the device, AON domain included, to its reset state and leaves flash, fuse copies, straps and
tamper detectors; power applied and power removed do the same, and power removed also loses the key store. A SYSRESET_N
assertion outside FAULT sets everything but the AON domain to its reset state and leaves straps, UPTIME, WAKE_MASK, WAKE_TIMER,
flash and fuses. Every one of them empties the staging area and ends every alarm, counter, lock and deferred command, and the
host interfaces are as after a reset but for what the host's memory holds and the MSI-X messages already sent. (A
SEAL_DEVICE cut short may have blown fuse copies, log entry 5; the clauses on fuses are about states without one.) -/
def Obligations.ResetsLeave : Prop :=
  ∀ (dt : Nat) (s : State),
    let a := advance dt s
    let gone (t : State) : Prop :=
      inReset t = true ∧ t.pr.phase = .strap ∧ t.pr.power = .none ∧ t.pr.cmdReady = false ∧ t.pr.faultClass = 0 ∧
      t.alarms = [] ∧ t.counters = [] ∧ { t.host with pcie := {} } = ({} : HostIf) ∧
      { t.host.pcie with beforeReset := [], msix0 := 0, msix1 := 0, msix2 := 0, msix3 := 0, dmaDone := [] } = ({} : PcieState) ∧
      t.host.pcie.dmaDone = s.host.pcie.dmaDone ∧ t.lp = State.reset.lp ∧ t.eng = State.reset.eng ∧ t.tm = {} ∧ t.lanes = [] ∧ t.hports = [] ∧ t.pr.straps = s.pr.straps ∧
      t.fw.bank0 = s.fw.bank0 ∧ t.fw.bank1 = s.fw.bank1 ∧ t.fw.recA = s.fw.recA ∧ t.fw.recB = s.fw.recB ∧
      t.store.a = s.store.a ∧ t.store.b = s.store.b ∧
      (pendingOn s 0x0F01 0 = false → t.sealSt.fuseA = s.sealSt.fuseA ∧ t.sealSt.fuseB = s.sealSt.fuseB)
    (s.pr.powered = true → s.pr.poreset = false → ∃ t, exec (.poresetAssert dt) s = .next t ∧ gone t ∧
      t.pr.uptimeFrom = none ∧ t.pr.wakeTimer = none ∧ t.keys.voltage = s.keys.voltage ∧ t.keys.clock = s.keys.clock ∧
      t.keys.temperature = s.keys.temperature ∧ t.keys.lid = s.keys.lid) ∧
    (s.pr.powered = false → ∃ t, exec (.powerApplied dt) s = .next t ∧ gone t ∧ t.pr.powered = true ∧
      t.sealSt.jtagIr = 0x02) ∧
    (s.pr.powered = true → ∃ t, exec (.powerRemoved dt) s = .next t ∧ gone t ∧ t.pr.powered = false ∧ t.keys = {}) ∧
    (s.pr.powered = true → s.pr.phase ≠ .fault → s.pr.poreset = false → s.pr.sysreset = false →
      ∃ t, exec (.sysresetAssert dt) s = .next t ∧ gone t ∧
        t.pr.sysreset = true ∧ t.pr.uptimeFrom = s.pr.uptimeFrom ∧ t.pr.wakeMask = s.pr.wakeMask ∧
        t.pr.wakeTimerS = s.pr.wakeTimerS ∧ t.now = a.now) ∧
    (s.pr.phase = .fault → exec (.sysresetAssert dt) s = .next a)

/-- The release of the last reset samples nothing but the straps (PORESET_N only) and starts boot: a failed ROM self-check, memory
fill or die-to-die training is fault class 9, 6 or 8; with boot source 01 or 10 in GRAIN[1:0] the boot ROM waits for a download
on SPI or on PCIe, with step code 0xA after the steps before; with another source the bank of the control record boots, or the
other bank if that one is not valid, and with no valid bank the boot ROM waits on both ports, with step code 0xD after the steps
before. (With SYSRESET_N still taken a PORESET_N release starts no boot.) -/
def Obligations.BootAfterRelease : Prop :=
  ∀ (straps : BitVec 6) (f : BootFinds) (dt : Nat) (s : State),
    let a := advance dt s
    let release (st : BitVec 6) (o : Host.Outcome State Fault Refusal) : Prop :=
      (f.romFail = true → ∃ t, o = .next t ∧ t.pr.phase = .fault ∧ t.pr.faultClass = 9) ∧
      (f.romFail = false → f.fillFail = true → ∃ t, o = .next t ∧ t.pr.phase = .fault ∧ t.pr.faultClass = 6) ∧
      (f.romFail = false → f.fillFail = false → f.dieFail = true →
        ∃ t, o = .next t ∧ t.pr.phase = .fault ∧ t.pr.faultClass = 8) ∧
      (f.romFail = false → f.fillFail = false → f.dieFail = false → ∃ t, o = .next t ∧ t.pr.phase = .boot ∧
        t.pr.straps = st ∧ inReset t = false ∧
        (st.toNat % 4 = 1 → t.pr.boot = .download true false ∧ t.pr.bootCode = 0xA) ∧
        (st.toNat % 4 = 2 → t.pr.boot = .download false true ∧ t.pr.bootCode = 0xA) ∧
        (st.toNat % 4 = 0 ∨ st.toNat % 4 = 3 →
          let b := (recInForce s.fw).active
          match bankImage s.fw b, bankImage s.fw (1 - b) with
          | some i, _ => t.pr.boot = .running ∧ t.fw.running = some i ∧ t.fw.runBank = b
          | none, some i => t.pr.boot = .running ∧ t.fw.running = some i ∧ t.fw.runBank = 1 - b
          | none, none => t.pr.boot = .download true true ∧ t.pr.bootCode = 0xD))
    (s.pr.powered = true → s.pr.poreset = true → s.pr.sysreset = false → s.pr.internalReset = none → s.pr.phase = .strap →
      release straps (exec (.poresetRelease straps f dt) s) ∧
      ∀ t, exec (.poresetRelease straps f dt) s = .next t → t.pr.uptimeFrom = some a.now) ∧
    (s.pr.powered = true → s.pr.poreset = true → s.pr.sysreset = true → ∃ t,
      exec (.poresetRelease straps f dt) s = .next t ∧ t.pr.straps = straps ∧ t.pr.poreset = false ∧ inReset t = true ∧
        t.pr.phase = s.pr.phase) ∧
    (s.pr.powered = true → s.pr.sysreset = true → s.pr.poreset = false → s.pr.internalReset = none → s.pr.phase = .strap →
      release s.pr.straps (exec (.sysresetRelease f dt) s)) ∧
    (s.pr.powered = true → s.pr.sysreset = false → s.pr.poreset = false → due s.pr.internalReset a.now = true →
      s.pr.phase = .strap → release s.pr.straps (exec (.devResetInternalRelease f dt) s))

/-- Outside reset and FAULT, the device's own thermal trip, the external trip, a rail fault, the loss of the AON clock (with the AON
source strapped external), and outside DARK the loss of XO enter FAULT with class 1 to 5; while the housekeeping clock's units run,
the third watchdog expiry within 60 s
enters it with class 7, an earlier one outside a pause begins a firmware pause. The own trip drives THERM_TRIP_N low. A second
cause in FAULT changes neither phase nor class, but for the own trip in the AON period of an external one, which makes it class 1
and drives the pin. -/
def Obligations.FaultCauses : Prop :=
  ∀ (dt : Nat) (s : State),
    let a := advance dt s
    let enters (cls : Nat) (o : Host.Outcome State Fault Refusal) : Prop := ∃ t, o = .next t ∧ Latched t ∧
      t.pr.faultClass = cls ∧ t.pr.thermTrip = decide (cls = 1) ∧ t.pr.cmdReady = false ∧ running t = false ∧
      t.pr.straps = s.pr.straps ∧ t.pr.uptimeFrom = s.pr.uptimeFrom ∧ t.eng = s.eng ∧ t.tm = s.tm
    let recent := (a.hk :: s.pr.watchdog).filter fun t => decide (a.hk < t + secT 60)
    (s.pr.powered = true → s.pr.poreset = false → s.pr.phase ≠ .fault →
      enters 1 (exec (.thermalTrip dt) s) ∧
      (s.pr.thermTrip = false → enters 2 (exec (.externalTrip dt) s)) ∧
      enters 3 (exec (.railFault dt) s) ∧
      (s.pr.straps.getLsbD 5 = true → enters 4 (exec (.aonClockLoss dt) s)) ∧
      (inDark a = false → enters 5 (exec (.xoLost dt) s)) ∧
      (running a = true → 3 ≤ recent.length → enters 7 (exec (.supervisorWatchdogExpiry dt) s)) ∧
      (running a = true → recent.length < 3 → s.fw.pause = none → ∃ t, exec (.supervisorWatchdogExpiry dt) s = .next t ∧
        t.fw.pause = some { cause := 3, since := a.hk, reason := none } ∧ t.pr.watchdog = recent ∧ t.lp = s.lp ∧
        t.eng = s.eng)) ∧
    (Latched s →
      (s.pr.faultClass = 2 → a.now / aonT 1 = s.pr.faultAt / aonT 1 → exec (.thermalTrip dt) s =
        .next (a.modPr fun r => { r with faultClass := 1, thermTrip := true })) ∧
      (s.pr.faultClass ≠ 2 ∨ a.now / aonT 1 ≠ s.pr.faultAt / aonT 1 → exec (.thermalTrip dt) s = .next a) ∧
      ∀ i, i = .externalTrip dt ∨ i = .railFault dt ∨ i = .aonClockLoss dt ∨ i = .xoLost dt →
      ∃ t, exec i s = .next t ∧ t.pr = s.pr)

/-- From every state with the fault latch set, every command but a PORESET_N assertion and power-down leaves the latch set, and with
it the class, THERM_TRIP_N, straps and UPTIME origin, and leaves the line engines, the traffic manager, the staged commands,
the flash banks and the running image as they are: in FAULT nothing is served, no reset but PORESET_N is taken, and no second
cause changes the class, but for the device's own thermal trip in the AON period of an external trip, which makes class 2 class 1
and drives THERM_TRIP_N. -/
def Obligations.FaultLatchHolds : Prop :=
  ∀ (i : Instr) (s t : State), Latched s → (∀ dt, i ≠ .poresetAssert dt) → (∀ dt, i ≠ .powerRemoved dt) →
    exec i s = .next t → Latched t ∧
      ((∀ dt, i = .thermalTrip dt → s.pr.faultClass ≠ 2 ∨ (advance dt s).now / aonT 1 ≠ s.pr.faultAt / aonT 1) →
        t.pr.faultClass = s.pr.faultClass ∧ t.pr.thermTrip = s.pr.thermTrip) ∧
      t.pr.straps = s.pr.straps ∧ t.pr.uptimeFrom = s.pr.uptimeFrom ∧ t.eng = s.eng ∧ t.tm = s.tm ∧
      t.host.staged = s.host.staged ∧ t.fw.running = s.fw.running ∧ t.fw.bank0 = s.fw.bank0 ∧ t.fw.bank1 = s.fw.bank1

/-- In DARK an enabled wake source begins the wake and is recorded in WAKE_CAUSE; during the wake each further enabled source is
added to it; between the DEV_SLEEP reply and DARK a source but the AON wake timer abandons the entry, with the device
command-ready again; a masked source changes nothing (the model's choice where a wake already runs, log entry 112). The AON wake
timer is spent by its own expiry; where it is masked, or the device is not in DARK, it lapses. Every wake ends the AON wake timer.
A SYNC edge that wakes is otherwise ignored: SYNC_REJECT does not count. A wake sequence outside DARK wakes the mate receiver. -/
def Obligations.WakeSources : Prop :=
  ∀ (dt : Nat) (s : State), s.pr.powered = true → inReset s = false → s.pr.phase ≠ .fault →
    let a := advance dt s
    let src (b : Nat) : Instr :=
      if b = 0 then .syncEdgeWake dt else if b = 1 then .spiCsWake dt else if b = 2 then .pcieWake dt
      else if b = 3 then .mateWakeSequenceDetected dt else .aonWakeTimerExpiry dt
    let fires (b : Nat) : Prop := b < 4 ∨ b = 4 ∧ due s.pr.wakeTimer a.now = true
    (∀ b, fires b → s.pr.wakeMask.testBit b = true → s.pr.sleepEntry = false → s.pr.power = .dark →
      ∃ t, exec (src b) s = .next t ∧ t.pr.waking = true ∧ t.pr.power = .dark ∧
        t.pr.wakeCause = (if s.pr.waking then s.pr.wakeCause ||| 2 ^ b else 2 ^ b) ∧ t.pr.wakeTimer = none ∧
        t.host = s.host ∧ t.lp = s.lp ∧ t.eng = s.eng ∧ t.clk = s.clk) ∧
    (∀ b, b < 4 → s.pr.wakeMask.testBit b = true → s.pr.sleepEntry = true →
      ∃ t, exec (src b) s = .next t ∧ t.pr.sleepEntry = false ∧ t.pr.cmdReady = true ∧ t.pr.wakeCause = 2 ^ b ∧
        t.pr.wakeTimer = none ∧ t.pr.power = s.pr.power ∧ t.lp = s.lp ∧ t.eng = s.eng ∧ t.host.syncReject = s.host.syncReject) ∧
    (∀ b, b < 3 → s.pr.wakeMask.testBit b = false → exec (src b) s = .next a) ∧
    (s.pr.wakeMask.testBit 3 = false → s.pr.power = .dark → exec (.mateWakeSequenceDetected dt) s = .next a) ∧
    (due s.pr.wakeTimer a.now = true →
      s.pr.sleepEntry = true ∨ s.pr.wakeMask.testBit 4 = false ∨ (s.pr.power ≠ .dark ∧ s.pr.waking = false) →
      exec (.aonWakeTimerExpiry dt) s = .next (a.modPr fun r => { r with wakeTimer := none })) ∧
    (running a = true → s.pr.sleepEntry = false → s.pr.waking = false → s.pr.power ≠ .dark →
      exec (.mateWakeSequenceDetected dt) s = .next (a.modMate fun m => { m with asleep := false }))

/-- In DARK, and until command-ready after the wake, a SYNC pulse of any width is not decoded: no DECIM_RESET, TRIGGER or COMMIT
is taken, the staged set stays staged, SYNC_REJECT does not count, and no unit changes; nor is a pulse decoded that began before
command-ready and ends after it. In DARK with SYNC enabled in WAKE_MASK its edge begins the wake. -/
def Obligations.SyncInDark : Prop :=
  ∀ (w dt : Nat) (s : State), s.pr.powered = true → inReset s = false → s.pr.phase ≠ .fault → s.pr.sleepEntry = false →
    let a := advance dt s
    (s.pr.cmdReady = true → ∀ t, s.pr.readyAt = some t → a.now < t + w * 192 →
      ∀ i, i = .syncDecimReset w dt ∨ i = .syncTrigger w dt ∨ i = .syncCommit w dt ∨ i = .syncPulseRejected w dt →
        exec i s = .next (a.modPr fun r => { r with syncHigh := false })) ∧
    (s.pr.cmdReady = false → s.pr.power = .dark →
    (∀ i, i = .syncDecimReset w dt ∨ i = .syncTrigger w dt ∨ i = .syncCommit w dt ∨ i = .syncPulseRejected w dt →
      exec i s = .next (a.modPr fun r => { r with syncHigh := false })) ∧
    exec (.syncHighTimeout dt) s = .next a ∧
    (s.pr.waking = false → s.pr.wakeMask.testBit 0 = true → exec (.syncEdgeWake dt) s = .next (a.modPr fun r =>
      { r with waking := true, wakeCause := 1, wakeTimer := none })))

/-- From command-ready, with SYNC not already rejected as too long, a pulse that began after command-ready of 200 ns to 1,000 ns resets the decimators, one of
2,000 ns to 5,000 ns triggers each armed tap in SYNC mode and the monitor, and one of 10,000 ns to 50,000 ns applies the staged
set, or is latched with its UPTIME during a firmware pause; of the others the pulses of 100 ns and more count once in SYNC_REJECT
and change nothing else. A pin still high after 1 ms counts once, and the end of that pulse does not count again. -/
def Obligations.SyncDecodes : Prop :=
  ∀ (w dt : Nat) (s : State), running (advance dt s) = true → s.pr.cmdReady = true →
    let a := advance dt s
    let n := w / 10 * 10
    let began (ns : Nat) : Prop := ∀ t, s.pr.readyAt = some t → t + ns * 192 ≤ a.now
    let tap (s : State) (p : Lp) : State := if (s.port p).conv.tap.trigger = 1 then tapFire p s else s
    (s.pr.syncHigh = false → began w →
      (200 ≤ n → n ≤ 1000 → exec (.syncDecimReset w dt) s = .next (pump (decimReset a))) ∧
      (2000 ≤ n → n ≤ 5000 → exec (.syncTrigger w dt) s = .next (pump (monSync (tap (tap a .lp0) .lp1)))) ∧
      (10000 ≤ n → n ≤ 50000 → s.fw.pause = none → exec (.syncCommit w dt) s =
        .next (pump (applyStaged 2 (uptimeWords (uptime a)) (a.modHost fun h => { h with syncTaken := some (hkCycle a) })))) ∧
      (10000 ≤ n → n ≤ 50000 → s.fw.pause.isSome = true → exec (.syncCommit w dt) s =
        .next (a.modHost fun h => { h with syncLatched := some (h.syncLatched.getD (uptime a)) })) ∧
      (100 ≤ n ∧ n ≤ 190 ∨ 1010 ≤ n ∧ n ≤ 1990 ∨ 5010 ≤ n ∧ n ≤ 9990 ∨ 50000 < n →
        exec (.syncPulseRejected w dt) s = .next (a.modHost fun h => { h with syncReject := h.syncReject + 1 })) ∧
      (n < 100 → exec (.syncPulseRejected w dt) s = .next (a.modPr fun r => { r with syncHigh := false }))) ∧
    (s.pr.syncHigh = false → began 1000000 → exec (.syncHighTimeout dt) s =
      .next ((a.modPr fun r => { r with syncHigh := true }).modHost fun h => { h with syncReject := h.syncReject + 1 })) ∧
    (s.pr.syncHigh = true → 50000 < n → exec (.syncPulseRejected w dt) s = .next (a.modPr fun r => { r with syncHigh := false }))

/-- DARK is reached from the entry: the power state is DARK, CRYPTO_LOCK is free, the AON wake timer runs if DEV_SLEEP gave one,
and staged commands, line ports, engines, keys and the queues of the traffic manager stay. Command-ready ends a wake or a boot:
phase RUN, power state READY, SEQ 0 for the first status frame, and after a boot BOOT_PROGRESS 9. -/
def Obligations.DarkAndReady : Prop :=
  ∀ (dt : Nat) (s : State), running (advance dt s) = true →
    let a := advance dt s
    (s.pr.sleepEntry = true → ∃ t, exec (.darkReached dt) s = .next t ∧ t.pr.power = .dark ∧ t.pr.sleepEntry = false ∧
      t.pr.cmdReady = false ∧ t.host.cryptoLock = none ∧ t.host.staged = s.host.staged ∧ t.lp = s.lp ∧ t.eng = s.eng ∧
      t.keys = s.keys ∧ t.tm = s.tm ∧ t.lanes = s.lanes ∧ t.hports = s.hports ∧ inDark t = !s.pr.waking ∧
      t.pr.wakeTimer = (if s.pr.wakeTimerS = 0 then s.pr.wakeTimer else some (a.now + secT s.pr.wakeTimerS))) ∧
    (s.pr.waking = true → ∃ t, exec (.commandReady dt) s = .next t ∧ t.pr.phase = .run ∧ t.pr.cmdReady = true ∧
      t.pr.waking = false ∧ t.pr.power = .ready ∧ t.pr.statusSeq = 0 ∧ t.pr.wakeCause = s.pr.wakeCause ∧
      t.host.staged = s.host.staged) ∧
    (s.pr.waking = false → s.pr.boot = .running → ∃ t, exec (.commandReady dt) s = .next t ∧ t.pr.phase = .run ∧
      t.pr.cmdReady = true ∧ t.pr.power = .ready ∧ t.pr.boot = .done ∧ t.pr.bootCode = 9 ∧ t.pr.bootReached = true ∧
      t.pr.statusSeq = 0)

/-- In the RUN phase a status frame is sent with SEQ counting modulo 16 and THERM_WARN following the hottest die (set from 100 C,
cleared below 98 C). From boot step 6 on a core-voltage move to 650 mV to 850 mV sends its transactions in order. The JTAG instruction register takes
an instruction of Table 18.3; a private one is refused and counted while the gate is closed or the device sealed, a boundary one
is BYPASS outside reset and FAULT; TRST_N sets it to IDCODE. -/
def Obligations.FrameVoltageJtag : Prop :=
  ∀ (hot : Int) (v code dt : Nat) (acks : List Bool) (s : State),
    let a := advance dt s
    let u := a.modPr fun r =>
      { r with thermWarn := if 100 ≤ hot then true else if hot < 98 then false else r.thermWarn }
    (running a = true → s.pr.phase = .run → s.pr.waking = false → exec (.statusFrame hot dt) s =
      .next (u.modPr fun r => { r with statusFrame := w32 (statusWord u), statusSeq := (s.pr.statusSeq + 1) % 16 })) ∧
    (running a = true → s.pr.boot = .running ∨ s.pr.boot = .done → 650 ≤ v → v ≤ 850 → exec (.avsVoltageUpdate v acks dt) s =
      .next (a.modPr fun r => acks.foldl (avsSend v) r)) ∧
    (s.pr.powered = true →
      (0x40 ≤ code → code ≤ 0x43 → s.sealSt.gateClosed = false → s.sealSt.fuseA = false →
        exec (.jtagInstructionLoad code dt) s = .next (a.modSeal fun x => { x with jtagIr := code })) ∧
      (0x40 ≤ code → code ≤ 0x43 → s.sealSt.gateClosed = true ∨ s.sealSt.fuseA = true →
        exec (.jtagInstructionLoad code dt) s =
          .next (a.modSeal fun x => { x with jtagIr := 0xFF, jtagRefused := x.jtagRefused + 1 })) ∧
      (code ∈ [0x00, 0x03, 0x04, 0x08, 0x09] → exec (.jtagInstructionLoad code dt) s = .next (a.modSeal fun x =>
        { x with jtagIr := if inReset s || s.pr.phase == .fault then code else 0xFF })) ∧
      (code = 0x01 ∨ code = 0x02 → exec (.jtagInstructionLoad code dt) s = .next (a.modSeal fun x => { x with jtagIr := code })) ∧
      (code ∉ [0x00, 0x01, 0x02, 0x03, 0x04, 0x08, 0x09, 0x40, 0x41, 0x42, 0x43] →
        exec (.jtagInstructionLoad code dt) s = .next (a.modSeal fun x => { x with jtagIr := 0xFF }))) ∧
    exec (.trstNAssert dt) s = .next (a.modSeal fun x => { x with jtagIr := 0x02 })


/-! ## Line converters and the chuck (chapter 04) -/

/-- Each converter command that Umcia takes for one line port at once and that passes its checks has its effect and replies OK
with its results, or is refused with the BAD_STATE that its state gives; the next state is that and no more. CONV_SLICE_RESTORE
with the synthesiser locked and TAP_DMA on PCIe are held as deferred and reply ACCEPTED. The channel powers are free values (log
entry 5) and the received power their sum; a sample with an uncorrectable memory error reads 0xDEAD_DEAD. -/
def Obligations.ConvCommandsRun : Prop :=
  ∀ (c : Cmd) (s : State),
    let r := ready c s
    let p := lpOfT c.target
    let x := (s.port p).conv
    (Runs convConfigOp c s →
      let cfg : ConvCfg := { rxMap := c.w 3 % 128, txMap := c.w 4 % 128, swing := [c.w 5, c.w 6, c.w 7, c.w 8],
                             losThr := sgn 32 (c.w 9), losHyst := c.w 10, losSet := c.w 11, losClr := c.w 12 }
      exec (.convConfig c) s = .next (okFrom 0x0201 c (convCfgWords cfg) (r.modConv p fun x => { x with cfg := cfg }))) ∧
    (Runs convStatusOp c s →
      let ps := (freeAt s.freeCtr 4).map fun w => sgn 16 (w.toNat % 65536)
      exec (.convStatus c) s = .next (okFrom 0x0202 c ([w32 (onBit (synthLocked r p) 0 + onBit x.los 1 + onBit x.loop 2)]
        ++ (List.range 4).map (fun ch => w32 (poolN r p ch)) ++ ps.map wI
        ++ [wI (receivedPower ps), w32 (convAlarmBits r c.target)]) { r with freeCtr := s.freeCtr + 4 })) ∧
    (Runs convSliceGetOp c s → exec (.convSliceGet c) s = .next (okFrom 0x0203 c
      (if c.w 4 = 0 then ((List.range 100).map (sliceWords r p (c.w 3))).flatten
       else (List.range 100).map (strobeWord r p (c.w 3))) r)) ∧
    (Runs convSliceRestoreOp c s → synthLocked r p = true → exec (.convSliceRestore c) s =
      .next (acceptedFrom 0x0204 c (r.modConv p fun x =>
        { x with restores := x.restores ++ [(c.w 3, maskSlices c 4, r.hk + msT 2)] }))) ∧
    (Runs convSliceRestoreOp c s → synthLocked r p = false →
      exec (.convSliceRestore c) s = .next (pump (reply 0x0204 c stBadState 0x0105 [] r))) ∧
    (Runs convSliceRetireOp c s →
      ((sliceOf r p (c.w 3) (c.w 4)).st ≠ 0 →
        exec (.convSliceRetire c) s = .next (okFrom 0x0205 c [w32 (poolN r p (c.w 3))] r)) ∧
      ((sliceOf r p (c.w 3) (c.w 4)).st = 0 → 92 < poolN r p (c.w 3) →
        let u := removeSlice p (c.w 3) (c.w 4) 2 r
        exec (.convSliceRetire c) s = .next (okFrom 0x0205 c [w32 (poolN u p (c.w 3))] u)) ∧
      ((sliceOf r p (c.w 3) (c.w 4)).st = 0 → poolN r p (c.w 3) ≤ 92 →
        exec (.convSliceRetire c) s = .next (pump (reply 0x0205 c stBadState 0x0104 [] r)))) ∧
    (Runs chuckGetOp c s → exec (.chuckGet c) s = .next (okFrom 0x0206 c [w32 (servingNum r p), w32 (receivers r p),
      w32 (dacSource r p), w32 (match selfLoop r p with | some n => n + n * 4 + 16 | none => 0)] r)) ∧
    (Runs convLoopOp c s → exec (.convLoop c) s = .next (okFrom 0x0207 c [w32 (c.w 3)] (setLoop p (c.w 3 == 1) r))) ∧
    (Runs tapArmOp c s →
      (tapWriting x.tap = false → inService r p = true → exec (.tapArm c) s = .next (okFrom 0x0209 c [] (setTap p .armed 0 r))) ∧
      (tapWriting x.tap = true → exec (.tapArm c) s = .next (pump (reply 0x0209 c stBadState 0x0101 [] r))) ∧
      (tapWriting x.tap = false → inService r p = false →
        exec (.tapArm c) s = .next (pump (reply 0x0209 c stBadState 0x0106 [] r)))) ∧
    (Runs tapStopOp c s →
      let u := if tapWriting x.tap then setTap p .done 0 r else r
      exec (.tapStop c) s = .next (okFrom 0x020A c [w32 (tapStNum (u.port p).conv.tap.st)] u)) ∧
    (Runs tapStatusOp c s →
      let n := tapBytes x.tap r.hk
      exec (.tapStatus c) s = .next (okFrom 0x020B c ([w32 (tapStNum x.tap.st)] ++ nat64 (n % tapSize x.tap)
        ++ nat64 (x.tap.trigAt % tapSize x.tap) ++ nat64 x.tap.resetPos ++ [w32 (b01 (decide (tapSize x.tap ≤ n)))]) r)) ∧
    (Runs tapReadOp c s →
      (tapWriting x.tap = false → (∀ i < c.w 5, SMap.get false x.tap.bad (w64 c 3 / 4 + i) = true →
          (tapWords x.tap (w64 c 3 / 4) (c.w 5))[i]? = some 0xDEADDEAD#32) ∧
        exec (.tapRead c) s = .next (okFrom 0x020C c (w32 (b01 (tapErrors x.tap (w64 c 3 / 4) (c.w 5) != 0)) ::
          tapWords x.tap (w64 c 3 / 4) (c.w 5)) r)) ∧
      (tapWriting x.tap = true → exec (.tapRead c) s = .next (pump (reply 0x020C c stBadState 0x0102 [] r)))) ∧
    (Runs tapDmaOp c s →
      (tapWriting x.tap = false → c.port = .pcie → exec (.tapDma c) s = .next (acceptedFrom 0x020D c (r.modTap p fun x =>
        { x with dma := x.dma ++ [{ addr := w64 c 3, off := w64 c 5, len := w64 c 7 }] }))) ∧
      (tapWriting x.tap = true → exec (.tapDma c) s = .next (pump (reply 0x020D c stBadState 0x0102 [] r))) ∧
      (tapWriting x.tap = false → c.port ≠ .pcie →
        exec (.tapDma c) s = .next (pump (reply 0x020D c stBadState 0x0103 [] r)))) ∧
    (Runs convCountersOp c s →
      let u := settleInterp p r
      exec (.convCounters c) s = .next (okFrom 0x020E c (ctrWords u c.target 0 (idRange 0x0201 0x0208))
        (if bit (c.w 3) 0 then ctrClearAll u c.target 0 (idRange 0x0201 0x0208) else u)))

/-- A TAP_CONFIG that passes its checks sets the fields of Table 4.7 of its line port's one tap while that is IDLE, DONE or
ABORTED and both taps together stay within the write rate and the buffer space, is refused with BAD_STATE 0x0100 where they do
not, and is refused with BAD_STATE 0x0101, with the tap unchanged, while it is ARMED or TRIGGERED. The other port's tap stays in
every case, and counts once it was configured or armed (log entry 129, the model's choice). -/
def Obligations.TapConfigState : Prop :=
  ∀ (c : Cmd) (s : State), Runs tapConfigOp c s →
    let r := ready c s
    let p := lpOfT c.target
    let old := (s.port p).conv.tap
    let n : Tap := { old with point := c.w 3, chMask := c.w 4, decim := c.w 5, format := c.w 6, bufLog2 := c.w 7, mode := c.w 8,
                              trigger := c.w 9, evtMask := c.w 10 % 16, pre := c.w 11, configured := true }
    let o := (s.port p.other).conv.tap
    let rate (x : Tap) : Nat := tapChans x * 384 * tapB x * 2 ^ (8 - x.decim)
    let counts : Bool := o.configured || o.st != .idle
    let sumRate := rate n + if counts then rate o else 0
    let sumSize := tapSize n + if counts then tapSize o else 0
    (old.st = .armed ∨ old.st = .triggered → exec (.tapConfig c) s = .next (pump (reply 0x0208 c stBadState 0x0101 [] r))) ∧
    (old.st = .idle ∨ old.st = .done ∨ old.st = .aborted → 1600 * 2 ^ 8 < sumRate ∨ 2 ^ 31 < sumSize →
      exec (.tapConfig c) s = .next (pump (reply 0x0208 c stBadState 0x0100 [] r))) ∧
    (old.st = .idle ∨ old.st = .done ∨ old.st = .aborted → sumRate ≤ 1600 * 2 ^ 8 → sumSize ≤ 2 ^ 31 →
      exec (.tapConfig c) s = .next (okFrom 0x0208 c
        [w32 n.point, w32 n.chMask, w32 n.decim, w32 n.format, w32 n.bufLog2, w32 n.mode, w32 n.trigger, w32 n.evtMask,
         w32 n.pre, w32 (tapRate n)] (r.modTap p fun _ => n)))

/-- While the device runs: with the synthesiser locked, a background update records each slice's corrections in index order, held
to their ranges, removes a slice out of limits for the third time running, counts the clipped samples and brings the channel's
alarms up to date; a self-check fault removes the slice; a DAC self-check sets the channel's condition and counts the saturated
samples of a source that transmits; CONV_FAIL clears after its second without the condition; a slice restore puts the slices
found within limits back and completes CONV_SLICE_RESTORE; the configured trigger source, or an event of EVT_MASK with the source
EVENT, triggers an ARMED tap; a SINGLE capture is DONE when its share after the trigger is written; a DMA puts its span in host
memory and completes TAP_DMA with its bytes and error words, those its own reads found included. -/
def Obligations.ConvEventsRun : Prop :=
  ∀ (p : Lp) (ch i n : Nat) (us : List SliceCal) (ss : List StrobeCal) (pass : Bool) (wins : List (List (Int × Int)))
    (ok found : List Nat) (dt : Nat) (s : State), running (advance dt s) = true →
    let a := advance dt s
    let x := (s.port p).conv
    (ch < 4 → synthLocked a p = true → (∀ u ∈ ss, u.phase < 100) →
      let v := (List.range 100).foldl (fun s i =>
        match us.find? fun u => u.slice == i with | some u => updateSlice p ch u s | none => s) a
      exec (.backgroundCalUpdate p ch us ss dt) s =
        .next (chanAlarms p ch (countClips p ch (us.map (·.clips)).sum (ss.foldl (fun s u => updateStrobe p ch u s) v)))) ∧
    (ch < 4 → i < 100 → exec (.sliceSelfCheckFault p ch i dt) s = .next (removeSlice p ch i 1 a)) ∧
    (ch < 4 → synthLocked a p = true →
      let d := (s.port p).dsp
      let sat := (wins.filter fun w => txSaturates d.txOld d.tx (fadeCycles d a.hk) ch w).length
      exec (.dacSelfCheck p ch ⟨pass, wins⟩ dt) s = .next (chanAlarms p ch
        ((if dacSource a p = 3 then a else lpCount a p 0x030A sat).modConv p fun c => { c with dacBad := c.dacBad.set ch (!pass) }))) ∧
    (due (x.failClear.getD ch none) a.hk = true → convGood a p ch = true → exec (.convFailClearTimer p ch dt) s =
      .next (chanAlarms p ch (clearAlarm 0x8212 (lpT p) ch [w32 ch]
        (a.modConv p fun c => { c with failClear := c.failClear.set ch none })))) ∧
    (∀ m e rest, x.restores = (ch, m, e) :: rest → e ≤ a.hk →
      let u := chanAlarms p ch ((m.filter fun i => ok.contains i).foldl (rejoinSlice p ch)
        (a.modConv p fun x => { x with restores := rest }))
      exec (.convSliceRestoreDone p ok dt) s = .next (pump (completeUnit 0x0204 (lpT p) stOk 0
        ([w32 ch] ++ slicesMask (m.filter fun i => (sliceOf u p ch i).st != 0) ++ [w32 (poolN u p ch)]) u))) ∧
    (x.tap.st = .armed → (n < 2 ∧ x.tap.trigger = n) ∨ (2 ≤ n ∧ x.tap.trigger = 2 ∧ x.tap.evtMask.testBit (n - 2) = true) → ∃ t, exec (.tapTrigger p n dt) s = .next t ∧
      (t.port p).conv.tap.st = .triggered ∧ (t.port p).conv.tap.trigAt = tapPlace x.tap (tapCycleSample x.tap a.hk) ∧
      (t.port p.other).conv = (s.port p.other).conv ∧ (t.port p).dsp = (s.port p).dsp ∧ t.eng = s.eng ∧ t.alarms = s.alarms) ∧
    (x.tap.st = .triggered → x.tap.mode = 0 → x.tap.trigAt + (16 - x.tap.pre) * tapSize x.tap / 16 ≤ tapBytes x.tap a.hk →
      ∃ t, exec (.tapCaptureDone p dt) s = .next t ∧ (t.port p).conv.tap.st = .done ∧
        (t.port p).conv.tap.written = tapBytes x.tap a.hk ∧ (t.port p.other).conv = (s.port p.other).conv ∧
        (t.port p).dsp = (s.port p).dsp ∧ t.eng = s.eng ∧ t.alarms = s.alarms) ∧
    (∀ d rest, x.tap.dma = d :: rest →
      let u := found.foldl (dmaFinds p d) a
      let y := (u.port p).conv.tap
      exec (.tapDmaDone p found dt) s = .next (pump (completeUnit 0x020D (lpT p) stOk 0
        [w32 d.len, w32 (tapErrors y (d.off / 4) (d.len / 4))] ((u.modTap p fun x => { x with dma := rest }).modPcie fun k =>
          { k with dmaDone := k.dmaDone ++ [(d.addr, tapWords y (d.off / 4) (d.len / 4))] }))))

/-- While the device runs: a starting or unlocked synthesiser that locks begins the sampling, restarts the power detectors with the
condition cleared and lets acquisition go on; a lost lock, or no lock 150 us after the start, is SYNTH_UNLOCK; lock held for 1 ms clears it. With the
synthesiser locked, received power, the sum of the channels' powers, below LOS_THRESHOLD for LOS_SET_TIME sets the LOS condition once, and outside CONV_LOOP sends the
acquisitions to WAIT_SIGNAL; power back at or above the threshold and hysteresis for LOS_CLR_TIME clears it. -/
def Obligations.SynthAndLos : Prop :=
  ∀ (p : Lp) (powers : List Int) (lasted e dt : Nat) (s : State), running (advance dt s) = true →
    let a := advance dt s
    let x := (s.port p).conv
    let wait (s : State) : State :=
      let s := if (s.port p).dsp.acq.st = .idle ∨ (s.port p).dsp.acq.st = .waitSignal then s else enterAcq p false .waitSignal s
      if (s.port p).dsp.spareAcq.st = .idle then s else enterAcq p true .waitSignal s
    (x.synth = .starting e ∨ x.synth = .unlocked → exec (.synthLock p dt) s =
      .next (acqSignal p (refreshPort p ((beginSampling p a).modConv p fun c => { c with
        synth := .locked, los := false, detSince := a.hk,
        synthHold := if raised s 0x8214 (lpT p) 0 then some (a.hk + msT 1) else none })))) ∧
    (x.synth = .locked → exec (.synthLockLoss p dt) s = .next (synthUnlock p a)) ∧
    (x.synth = .starting e → e ≤ a.hk → exec (.synthLockTimeout p dt) s = .next (synthUnlock p a)) ∧
    (x.synth = .locked → due x.synthHold a.hk = true → exec (.synthLockHoldExpiry p dt) s =
      .next (refreshPort p (clearAlarm 0x8214 (lpT p) 0 [] (a.modConv p fun c => { c with synthHold := none })))) ∧
    (x.synth = .locked → x.los = false → powerLin powers < levelLin (x.cfg.losThr * 50) → x.cfg.losSet ≤ lasted →
      x.detSince + usT lasted ≤ a.hk →
      let u := refreshPort p (lpCount (a.modConv p fun c => { c with los := true }) p 0x0207 1)
      exec (.losConditionRaise p ⟨powers, lasted⟩ dt) s = .next (if x.loop then u else wait u)) ∧
    (x.synth = .locked → x.los = true → levelLin ((x.cfg.losThr + x.cfg.losHyst) * 50) ≤ powerLin powers →
      10 * x.cfg.losClr ≤ lasted → x.detSince + usT lasted ≤ a.hk → exec (.losConditionClear p ⟨powers, lasted⟩ dt) s =
      .next (acqSignal p (refreshPort p (a.modConv p fun c => { c with los := false }))))


/-! ## Transmit and receive signal processing (chapter 05) -/

/-- Each signal-processing command that Umcia takes for one line port at once and that passes its checks has its effect and
replies OK with its results, or is refused with the BAD_STATE that its state gives; the next state is that and no more.
DSP_TX_CONFIG takes over the selected words, and starts the ramp where it selects the pre-compensation. DSP_SNR_SPECTRUM in TRACK
and DSP_ACQUIRE on a port in service whose acquisition runs reply ACCEPTED; in WAIT_SIGNAL the path of DSP_ACQUIRE is held.
Equaliser taps are free values (log entry 5). -/
def Obligations.DspCommandsRun : Prop :=
  ∀ (c : Cmd) (s : State),
    let r := ready c s
    let p := lpOfT c.target
    let d := (s.port p).dsp
    let pm := preMax (portSr r p)
    (Runs dspTxConfigOp c s →
      let x := txOf c d.tx
      let u := setTx p x r
      exec (.dspTxConfig c) s = .next (okFrom 0x0301 c ([0] ++ txWords x ++ [wI (clampI x.cdPre pm)])
        (if bit (c.w 3) 9 = true then rampGo p u else u))) ∧
    (Runs dspTxPreemphOp c s → exec (.dspTxPreemph c) s = .next (okFrom 0x0302 c (preemphWords (preemphOf c))
      (setTx p { d.tx with preemph := (List.range 4).map fun ch => (
        if bit (c.w 3) ch = true then preemphOf c else d.tx.preemph.getD ch []) } r))) ∧
    (Runs dspRxConfigOp c s →
      let x := rxOf c d.rx
      let start (v : Recv) : Recv := if d.rx.skewAuto = 0 ∧ x.skewAuto = 1 then { v with skew := x.skew } else v
      exec (.dspRxConfig c) s = .next (okFrom 0x0303 c
        ([0] ++ rxWords x ++ (effective x (s.port p).mode.running.reach).map w32)
        (r.modDsp p fun d => { d with rx := x, recv := start d.recv, spareRecv := start d.spareRecv }))) ∧
    (Runs dspStatusOp c s → exec (.dspStatus c) s = .next (okFrom 0x0304 c
      [w32 (acqWord r p), wI (clampCd r p d.recv.cdSet), w32 (filterWord r p), w32 (reachTaps (s.port p).mode.running.reach),
       w32 (b01 d.ramping), wI (rampNow d r.hk), w32 d.profileNext, w32 (b01 (inTrack r p))] r)) ∧
    (Runs dspEstimatesOp c s →
      (c.w 3 = 0 → exec (.dspEstimates c) s = .next (okFrom 0x0305 c (estimateWords d.est) r)) ∧
      (c.w 3 = 1 → warmShadow r p = true →
        exec (.dspEstimates c) s = .next (okFrom 0x0305 c (estimateWords d.spareEst) r)) ∧
      (c.w 3 = 1 → warmShadow r p = false →
        exec (.dspEstimates c) s = .next (pump (reply 0x0305 c stBadState 0x0101 [] r)))) ∧
    (Runs dspSnrSpectrumOp c s →
      (inTrack r p = true → exec (.dspSnrSpectrum c) s = .next (acceptedFrom 0x0306 c
        (r.modDsp p fun d => { d with spectrum := d.spectrum ++ [r.hk + msT (c.w 3)] }))) ∧
      (inTrack r p = false → exec (.dspSnrSpectrum c) s = .next (pump (reply 0x0306 c stBadState 0x0102 [] r)))) ∧
    (Runs dspProfileStoreOp c s →
      (inTrack r p = true → exec (.dspProfileStore c) s = .next (okFrom 0x0308 c
        (profileWords (presentProfile r p (w32 (c.w 4)))) (putProfile p (c.w 3) (presentProfile r p (w32 (c.w 4))) r))) ∧
      (inTrack r p = false → exec (.dspProfileStore c) s = .next (pump (reply 0x0308 c stBadState 0x0100 [] r)))) ∧
    (Runs dspProfileWriteOp c s → exec (.dspProfileWrite c) s = .next (okFrom 0x0309 c
      (profileWords (profileOfCmd c (uptime r))) (putProfile p (c.w 3) (profileOfCmd c (uptime r)) r))) ∧
    (Runs dspProfileReadOp c s →
      exec (.dspProfileRead c) s = .next (okFrom 0x030A c (profileWords (profileOf r p (c.w 3))) r)) ∧
    (Runs dspProfileSelectOp c s →
      (c.w 3 = 31 ∨ (profileOf r p (c.w 3)).valid = true → exec (.dspProfileSelect c) s = .next (okFrom 0x030B c
        [w32 (c.w 3)] (r.modDsp p fun d => { d with profileNext := c.w 3 }))) ∧
      (c.w 3 ≠ 31 → (profileOf r p (c.w 3)).valid = false →
        exec (.dspProfileSelect c) s = .next (pump (reply 0x030B c stBadState 0x0104 [] r)))) ∧
    (Runs dspProfileClearOp c s →
      let u := (List.range 17).foldl (fun s i => if bit (c.w 3) i then putProfile p i {} s else s) r
      exec (.dspProfileClear c) s = .next (okFrom 0x030C c [w32 (validMask u p)] u)) ∧
    (Runs dspEqReadOp c s →
      let spare := c.w 3 == 1
      let n := reachTaps (s.port p).mode.running.reach
      let u := if adapting (acqOf r p spare).st then holdEq p spare r else r
      (c.w 3 = 0 ∨ warmShadow r p = true → exec (.dspEqRead c) s = .next (okFrom 0x030D c
        (w32 n :: (List.range n).map fun i => Config.freeWord ((recvOf u p spare).eqBase + 64 * c.w 4 + i)) u)) ∧
      (c.w 3 = 1 → warmShadow r p = false →
        exec (.dspEqRead c) s = .next (pump (reply 0x030D c stBadState 0x0101 [] r)))) ∧
    (Runs dspCountersOp c s → exec (.dspCounters c) s = .next (okFrom 0x030E c
      (ctrWords r c.target 0 (idRange 0x0301 0x030A))
      (if bit (c.w 3) 0 then ctrClearAll r c.target 0 (idRange 0x0301 0x030A) else r))) ∧
    (Runs dspAcquireOp c s →
      (inService r p = false ∨ d.acq.st = .idle →
        exec (.dspAcquire c) s = .next (pump (reply 0x0307 c stBadState 0x0103 [] r))) ∧
      (inService r p = true → d.acq.st ≠ .idle → c.w 3 = 1 → (profileOf r p (c.w 4)).valid = false →
        exec (.dspAcquire c) s = .next (pump (reply 0x0307 c stBadState 0x0104 [] r))) ∧
      (inService r p = true → d.acq.st ≠ .idle → c.w 3 = 0 ∨ (profileOf r p (c.w 4)).valid = true →
        let hold (v : State) : State := v.modHost fun h => { h with deferred := h.deferred ++
          [{ port := c.port, code := 0x0307, tag := c.tag, multi := false,
             entries := [{ target := c.target, settled := false, status := stOk, detail := 0, words := [] }] }] }
        (d.acq.st = .waitSignal → exec (.dspAcquire c) s = .next (pump (reply 0x0307 c stAccepted 0 []
          (hold (modAcq r p false fun a => { a with held := some (c.w 3 == 1, c.w 4) }))))) ∧
        (d.acq.st ≠ .waitSignal →
          let u := reply 0x0307 c stAccepted 0 [] (hold r)
          exec (.dspAcquire c) s = .next (pump (if c.w 3 = 1 then startProfile p false (c.w 4) u else startCold p false u)))))

/-- While the device runs, for the serving engine and for a spare: a state whose work is done within its bound (frequency offset,
timing and pilots within the limits of Table 5.6) hands over to the next state; a profile-path bound that expires falls back to
the cold path; an expired cold sum starts the cold path again. Pilot lock lost in TRACK (fewer than 1/2 of the last 1,024 pilots
in their regions) goes to LOCK_HOLD, or with LOCK_HOLD 0 unlocks at once; pilot lock regained (3/4 of them) within LOCK_HOLD
returns to TRACK, and LOCK_HOLD run out unlocks. -/
def Obligations.AcquisitionRuns : Prop :=
  ∀ (p : Lp) (sp : Bool) (m : EstMeas) (slots : List PilotSlot) (b dt : Nat) (s : State), running (advance dt s) = true →
    let a := advance dt s
    let q := acqOf a p sp
    let hold := (s.port p).dsp.rx.lockHold
    let good := goodPilots a p slots
    (q.onProfile = true → profileBound q.st = some b → a.hk ≤ q.stFrom + b → workDone a p sp m = true →
      exec (.acqStateComplete p sp m dt) s = .next (pump (acqAdvance p sp m a))) ∧
    (q.onProfile = false → coldState q.st = true → a.hk ≤ q.coldFrom + usT 19900 → workDone a p sp m = true →
      exec (.acqStateComplete p sp m dt) s = .next (pump (acqAdvance p sp m a))) ∧
    (q.onProfile = true → profileBound q.st = some b → q.stFrom + b ≤ a.hk →
      exec (.acqProfileBoundExpiry p sp dt) s = .next (profileFallback p sp a)) ∧
    (q.onProfile = false → coldState q.st = true → q.coldFrom + usT 19900 ≤ a.hk →
      exec (.acqColdSumExpiry p sp dt) s = .next (pump (coldExpire p sp a))) ∧
    (q.st = .track → 2 * good < 1024 → hold = 0 → exec (.pilotLockLost ⟨p, sp⟩ slots dt) s = .next (unlockPort p sp a)) ∧
    (q.st = .track → 2 * good < 1024 → hold ≠ 0 → exec (.pilotLockLost ⟨p, sp⟩ slots dt) s =
      .next (enterAcq p sp .lockHold (if sp then a else lpCount a p 0x0306 1))) ∧
    (q.st = .lockHold → 3 * 1024 ≤ 4 * good → a.hk < q.stFrom + usT hold → exec (.pilotLockRegained ⟨p, sp⟩ slots dt) s =
      .next (if sp then enterAcq p true .track a
        else writeLast p (clearAcqAlarms p (enterAcq p false .track (lpCount a p 0x0307 1))))) ∧
    (q.st = .lockHold → q.stFrom + usT hold ≤ a.hk → exec (.lockHoldExpiry p sp dt) s = .next (unlockPort p sp a))

/-- While the device runs: a finished transmit ramp stands at its goal; in TRACK, for the serving engine and for a spare, the skew
estimate is held within 200, the CD setting moves by a residual above its limit, the bulk PMD correction follows the PMD loop, the
NLC scale is held within 4 times nominal, and the estimates are taken over with their VALID bits; of the serving engine the DGD
average and SOP_FAST follow the PMD loop, and LAST is written with CONV_LOOP off; a spectrum completes DSP_SNR_SPECTRUM; an alarm
whose persistence has run out is raised or cleared. The loops of the serving engine and the alarm times leave the other port,
MODE, converters, transmit and receive parameters, acquisition, engines, traffic manager and power as they are. -/
def Obligations.DspLoopsRun : Prop :=
  ∀ (p : Lp) (sp : Bool) (skew ps : List Int) (res : Int) (dgd sop scale e dt : Nat) (m : EstMeas) (bins : List Nat) (s : State),
    running (advance dt s) = true →
    let a := advance dt s
    let d := (s.port p).dsp
    let frame (t : State) : Prop :=
      t.port p.other = s.port p.other ∧ (t.port p).mode = (s.port p).mode ∧ (t.port p).conv = (s.port p).conv ∧
      (t.port p).dsp.tx = d.tx ∧ (t.port p).dsp.rx = d.rx ∧ (t.port p).dsp.acq = d.acq ∧ t.eng = s.eng ∧ t.tm = s.tm ∧ t.pr = s.pr
    (d.ramping = true → d.rampAt + (d.rampTo - d.rampFrom).natAbs * 9600000 ≤ a.hk → exec (.txCdRampEnd p dt) s =
      .next (a.modDsp p fun d => { d with rampFrom := d.rampTo, ramping := false })) ∧
    ((acqOf s p sp).st = .track →
      (d.rx.skewAuto = 1 →
        let k := (List.range 4).map fun i => max (-200) (min 200 (skew.getD i 0))
        exec (.rxSkewEstimate ⟨p, sp⟩ skew dt) s = .next ((modRecv p sp (fun v => { v with skew := k }) a).modDsp p fun d => (
          if sp then { d with spareEst := { d.spareEst with skew := k } } else { d with est := { d.est with skew := k } }))) ∧
      ((s.port p).mode.running.nlc = true → d.rx.nlcAdapt = 1 → exec (.nlcAdaptUpdate ⟨p, sp⟩ scale dt) s =
        .next (modRecv p sp (fun v => { v with nlcScale := min 4096 scale }) a)) ∧
      (∃ t, exec (.cdTrackUpdate ⟨p, sp⟩ res dt) s = .next t ∧ frame t ∧ t.alarms = s.alarms ∧
        (recvOf t p sp).cdSet = (if 20 * (310000 * 310000) < res.natAbs * (portSr a p * portSr a p)
          then clampCd a p ((recvOf s p sp).cdSet + res) else (recvOf s p sp).cdSet)) ∧
      (∃ t, exec (.bulkPmdUpdate ⟨p, sp⟩ ⟨dgd, ps⟩ sop dt) s = .next t ∧ frame t ∧
        (recvOf t p sp).dgd = min dgd (35 * dgdTol (portSr a p)) ∧ (recvOf t p sp).ps = ps ∧
        (sp = false → (t.port p).dsp.dgdSum = d.dgdSum + dgd ∧ (t.port p).dsp.dgdCount = d.dgdCount + 1 ∧
          (20000 < sop → raised t 0x8316 (lpT p) 0 = true))) ∧
      (∃ t, exec (.estimateUpdate p sp m dt) s = .next t ∧ frame t ∧ (recvOf t p sp).freqKHz = m.freqKHz ∧
        (recvOf t p sp).timing = m.timing ∧ (recvOf t p sp).sop = m.sop ∧
        (if sp then (t.port p).dsp.spareEst = takeEst m d.spareEst else (t.port p).dsp.est = takeEst m d.est))) ∧
    (d.acq.st = .track → (s.port p).conv.loop = false → exec (.lastProfileUpdate p dt) s =
      .next (putProfile p 16 (presentProfile a p 0) a)) ∧
    (∀ rest, d.spectrum = e :: rest → e ≤ a.hk → ∃ ws, ws.length = 33 ∧ exec (.dspSnrSpectrumDone p bins dt) s =
      .next (pump (completeUnit 0x0306 (lpT p) stOk 0 ws (a.modDsp p fun d => { d with spectrum := rest })))) ∧
    (due d.cdOut a.hk = true → ∃ t, exec (.dspAlarmTimerExpiry p 0x8312 dt) s = .next t ∧ frame t ∧
      raised t 0x8312 (lpT p) 0 = true ∧ (t.port p).dsp.cdOut = none) ∧
    (SMap.wf false s.alarms = true → due d.cdOut a.hk = false → due d.cdIn a.hk = true → ∃ t, exec (.dspAlarmTimerExpiry p 0x8312 dt) s = .next t ∧
      frame t ∧ raised t 0x8312 (lpT p) 0 = false) ∧
    (due d.dgdWindow a.hk = true → ∃ t, exec (.dspAlarmTimerExpiry p 0x8313 dt) s = .next t ∧ frame t ∧
      (t.port p).dsp.dgdSum = 0 ∧ (dgdTol (portSr a p) * 10 * d.dgdCount < d.dgdSum → raised t 0x8313 (lpT p) 0 = true)) ∧
    (SMap.wf false s.alarms = true → due d.sopSlow a.hk = true → ∃ t, exec (.dspAlarmTimerExpiry p 0x8316 dt) s = .next t ∧ frame t ∧
      raised t 0x8316 (lpT p) 0 = false)

/-! ## Spindles, kernels and engines (chapters 06 and 01) -/

/-- Each spindle-range command that Umcia takes for one engine at once and that passes its checks has its effect and replies OK
with its results, or is refused with the BAD_STATE that its state gives; the next state is that and no more. SPN_PERF_CONFIG
configures each spindle of its mask; SPN_PERF_READ reads the spindle itself, or the image where the reader is central, and clears
only when told; SPN_PERF_FREEZE freezes the unfrozen spindles of its mask at this CYCLE, or unfreezes the frozen ones and counts
their freeze; SPN_KERNEL_RESERVE that changes K places the roles anew and asks for the re-resolution of both ports;
SPN_KERNEL_START replies ACCEPTED and checks. What a kernel has not written and what counters did since they were last brought up
are free values (log entries 5 and 25). -/
def Obligations.SpindleCommandsRun : Prop :=
  ∀ (c : Cmd) (s : State),
    let r := ready c s
    let e := engOfT c.target
    let x := s.engine e
    let k := kernelOf s e (c.w 3)
    let ok (code : Nat) (ws : List Word) (t : State) : Host.Outcome State Fault Refusal := .next (okFrom code c ws t)
    let bad (code detail : Nat) : Host.Outcome State Fault Refusal := .next (pump (reply code c stBadState detail [] r))
    (Runs spnMapOp c s →
      let role (i : Nat) : Nat := (spnOf s e i).role
      exec (.spnMap c) s = ok 0x0401 ([w32 (availOf x + x.k * 2 ^ 8 + outCount x * 2 ^ 16 +
            ((List.range 96).filter fun i => within (role i) 1 3).length * 2 ^ 24)] ++
          (List.range 24).map (fun i => w32 (role (4 * i) + role (4 * i + 1) * 2 ^ 8 + role (4 * i + 2) * 2 ^ 16 +
            role (4 * i + 3) * 2 ^ 24)) ++
          (List.range 96).map (fun i => w32 (onBit (spindleAsleep r e i) 0 +
            onBit (spnOf s e i).perfUser 1 + onBit (spnOf s e i).frozen.isSome 2 + (spnOf s e i).build % 2 ^ 16 * 2 ^ 16))) r) ∧
    (Runs spnPerfConfigOp c s →
      let u := (maskSpn c 3).foldl (perfConfigure c e) r
      exec (.spnPerfConfig c) s = ok 0x0402 [w32 ((spnOf u e ((maskSpn c 3).headD 0)).perf.cfg.getD (c.w 6) 0)] u) ∧
    (Runs spnPerfReadOp c s →
      let u := settlePerf e (c.w 3) r
      let p := spnOf u e (c.w 3)
      let img := (perfSeen u e (c.w 3)).1
      let v := (perfSeen u e (c.w 3)).2
      let age := match img with | some a => min 255 ((u.hk - a) / usT 100) | none => 0
      let cyc := if img.isSome then (u.engine e).imageCycle else engineCycles u e
      let lost := lostBits u e (c.w 3) 63
      exec (.spnPerfRead c) s = ok 0x0403 ([w32 cyc, w32 (cyc / 2 ^ 32), w32 (onBit img.isSome 0 + onBit p.frozen.isSome 1 +
          onBit p.perfUser 2 + v.ovf * 2 ^ 8 + v.lost * 2 ^ 16 + age * 2 ^ 24)] ++ perfWords v ++ v.cfg.map w32)
        (if bit (c.w 4) 0 = true then modPerf e (c.w 3) (perfClear lost.1) lost.2 else u)) ∧
    (Runs spnPerfFreezeOp c s →
      let one (u : State) (i : Nat) : State :=
        let v := settlePerf e i u
        match (spnOf v e i).frozen with
        | none => if c.w 6 = 1 then setSpn e i { spnOf v e i with frozen := some (engineCycles v e) } v else v
        | some t =>
          if c.w 6 = 1 then v
          else engCount e 0x0407 (engineCycles v e - t) (setSpn e i { spnOf v e i with frozen := none } v)
      exec (.spnPerfFreeze c) s = ok 0x0404 [w32 (engineCycles r e), w32 (engineCycles r e / 2 ^ 32)]
        ((maskSpn c 3).foldl one r)) ∧
    (Runs spnReaderOp c s →
      let u := r.modEngine e fun x => { x with central := c.w 3 == 1, sweepUs := c.w 4 }
      exec (.spnReader c) s = ok 0x0405
        [w32 (c.w 3), w32 (c.w 4), w32 (b01 (decide (centralCause u e ≠ 0)) + centralCause u e * 2)] u) ∧
    (Runs spnKernelReserveOp c s →
      let u := checkIdle e (replaceRoles e (askResolve 1 (r.modEngine e fun x => { x with k := c.w 3 })))
      ((∃ i, i < 8 ∧ c.w 3 ≤ i ∧ (kernelOf s e i).st = .running) → exec (.spnKernelReserve c) s = bad 0x0406 0x0105) ∧
      ((∀ i, i < 8 → c.w 3 ≤ i → (kernelOf s e i).st ≠ .running) →
        exec (.spnKernelReserve c) s = (if x.k = c.w 3 then ok 0x0406 [w32 (c.w 3), w32 (availOf x)] r
          else ok 0x0406 [w32 (c.w 3), w32 (availOf (u.engine e))] u))) ∧
    (Runs spnKernelLoadOp c s →
      let n := c.w 4 / 4
      let gap := freeWs (n - k.staging.length) r
      let st := (k.staging ++ gap.1).take n ++ c.params.drop 2 ++ k.staging.drop (n + (c.params.drop 2).length)
      exec (.spnKernelLoad c) s = (if x.k ≤ c.w 3 then bad 0x0407 0x0100 else if kernelBusy k = true then bad 0x0407 0x0106
        else ok 0x0407 [w32 (4 * st.length)]
          (setKernelSt e (c.w 3) .loaded 0 (modKernel e (c.w 3) (fun k => { k with staging := st }) gap.2)))) ∧
    (Runs spnKernelStartOp c s →
      exec (.spnKernelStart c) s = (if x.k ≤ c.w 3 then bad 0x0408 0x0100 else if x.st = .cold then bad 0x0408 0x0103
        else if kernelBusy k = true then bad 0x0408 0x0106
        else .next (acceptedFrom 0x0408 c
          (modKernel e (c.w 3) (fun k => { k with checking := true, watchdogMs := c.w 4 }) r)))) ∧
    (Runs spnKernelStopOp c s →
      (k.st = .running ∨ k.st = .paused ∨ k.st = .faulted → exec (.spnKernelStop c) s = ok 0x0409 [4]
        (clearAlarm 0x8411 (engT e) (c.w 3) [w32 (c.w 3)] (setKernelSt e (c.w 3) .stopped 0 r))) ∧
      (k.st = .empty ∨ k.st = .loaded ∨ k.st = .stopped →
        exec (.spnKernelStop c) s = ok 0x0409 [w32 (kernelStNum k.st)] r)) ∧
    (Runs spnKernelReadOp c s → exec (.spnKernelRead c) s = ok 0x040A ((List.range (c.w 5)).map fun i =>
      (SMap.get none k.mailbox (c.w 4 + i)).getD (Config.mailboxWord (engNum e) (c.w 3) (c.w 4 + i))) r) ∧
    (Runs spnKernelStatusOp c s → exec (.spnKernelStatus c) s = ok 0x040B
      ([w32 (kernelStNum k.st), w32 k.cause, w32 (kernelSpindle x (c.w 3))] ++
        (List.range 12).map fun i => (kernelHash k).getD i 0) r) ∧
    (Runs spnCustKeyFuseOp c s → exec (.spnCustKeyFuse c) s = (if s.sealSt.custKey = none then
      ok 0x040C (c.params.take 12) (r.modSeal fun x => { x with custKey := some (c.params.take 12) })
      else bad 0x040C 0x0104)) ∧
    (Runs spnCountersOp c s → exec (.spnCounters c) s = ok 0x040D
      (ctrWords r c.target 0 (idRange 0x0401 0x0406) ++ [w32 (frozenCycles r e), w32 (frozenCycles r e / 2 ^ 32)] ++
        ctrWords r c.target 0 [0x0408])
      (if bit (c.w 3) 0 = true then rebaseFrozen e (ctrClearAll r c.target 0 (idRange 0x0401 0x0408)) else r))

/-- While the device runs and the engine is WARM or ACTIVE: a spindle that faults, misses its watchdog or fails the rotation test
counts, moves its role and is tested; a passed rotation test goes on to the next spindle, 10 s later; a finished move starts the
reader's recovery time; an outdated role moves to the new microcode, and a second mismatch of its load faults the spindle (its cause is a free
value, log entry 5); at the checkpoint what the spindles did is accounted and the local memory of each role is kept; an overflow
with OVF_EVENT raises EV_SPN_OVERFLOW; the due sweep of the central reader copies every counter into its image; a kernel faults,
misses its watchdog, sends its note or merges it. The end of a kernel's check completes SPN_KERNEL_START with its result: it runs,
waits paused on a COOL engine, is stopped on a COLD one, is answered SEALED, or is refused by its number. SPN_NO_IDLE clears when
an IDLE spindle has stood for 1 s. -/
def Obligations.SpindleEventsRun : Prop :=
  ∀ (e : Eng) (i cause n dt : Nat) (note : Word) (ok pass : Bool) (act : List SpnActivity) (mail : List KernelMail)
    (reads : List Nat) (s : State),
    running (advance dt s) = true →
    let a := advance dt s
    let x := s.engine e
    let p := spnOf s e i
    let k := kernelOf s e i
    (engRuns s e = true →
      (i < 96 → cause ≤ 2 → p.role ≠ 6 → exec (.spindleFault e i cause ok dt) s = .next (spindleFault e i (w32 cause) ok a)) ∧
      (i < 96 → 1 ≤ p.role → p.role ≤ 4 →
        exec (.roleWatchdogExpiry e i ok dt) s = .next (spindleFault e i (w32 3) ok a)) ∧
      (rotationNext s e = some i → due x.testAt a.hk = true → exec (.spindleSelfTestRotation e pass ok dt) s =
        .next (let u := a.modEngine e fun x => { x with rotation := (i + 1) % 96, testAt := some (a.hk + secT 10) }
               if pass then u else spindleFault e i (w32 4) ok u)) ∧
      (∀ j l, x.moves = j :: l → exec (.roleMoveDone e dt) s =
        .next (a.modEngine e fun x => { x with moves := l, recovery := some (a.hk + secT 1) })) ∧
      (∀ l, x.refresh = i :: l → x.moves = [] → s.fw.pause = none → 1 ≤ p.role → p.role ≤ 4 → p.build ≠ ucodeBuild s →
        let b := a.modEngine e fun x => { x with refresh := l }
        let v := moveRole e i (addBadLoads e [((highIdle b e).getD i, n)] b)
        exec (.microcodeRefresh e n dt) s = .next (if v.2.1 = true then checkIdle e v.2.2
          else spindleFault e (if v.1 = 0xFF then i else v.1) (freeW v.2.2).1 true (freeW v.2.2).2)) ∧
      exec (.roleCheckpoint e act mail reads dt) s = .next
        (let u := reads.foldl (codeReads e) (mail.foldl (kernelMail e) (act.foldl (accountSpn e) (addBadLoads e (act.map fun x => (x.spindle, x.badLoads)) a)))
         u.modEngine e fun x => { x with
           checkpointAt := some u.hk,
           spindles := (List.range 96).foldl (fun m i =>
             if within (SMap.get {} m i).role 1 4 then SMap.set {} m i { SMap.get {} m i with ckpt := (SMap.get {} m i).mem }
             else m) x.spindles }) ∧
      (centralCause a e ≠ 0 → sweepDue a e = true → exec (.centralSweep e dt) s = .next
        (let u := engCount e 0x0408 1 ((List.range 96).foldl (fun s i => settlePerf e i s) a)
         u.modEngine e fun x => { x with
           imageAt := some u.hk, imageCycle := engineCycles u e, imageCtrs := blockCounters u e,
           image := x.spindles.foldl (fun m p => SMap.set {} m p.1 p.2.perf) [] }))) ∧
    (n < 6 → bit p.perf.due n = true → exec (.spnCounterOverflow e i n dt) s = .next (emit 0x8402 (engT e) [w32 i, w32 n]
      (modPerf e i (fun y => { y with due := y.due ^^^ 2 ^ n }) a))) ∧
    (exec (.readerRecoveryExpiry e dt) s = .next (a.modEngine e fun y => { y with
      startup := (match x.startup with | some t => if due t a.hk then none else some t | none => none),
      recovery := if due x.recovery a.hk then none else x.recovery })) ∧
    (due x.noIdleClear a.hk = true → hasIdle x = true → exec (.spnNoIdleClearTimer e dt) s =
      .next (clearAlarm 0x8410 (engT e) 0 [] (a.modEngine e fun x => { x with noIdleClear := none }))) ∧
    (i < 8 → k.st = .running →
      (cause = 1 ∨ cause = 2 ∨ cause = 4 → exec (.kernelFault e i cause dt) s = .next (faultKernel e i cause a)) ∧
      (k.since + msT k.watchdogMs ≤ a.hk → exec (.kernelWatchdogExpiry e i dt) s = .next (faultKernel e i 3 a)) ∧
      (k.noteUntil ≤ a.hk → exec (.kernelNote e i note dt) s = .next (emit 0x8404 (engT e) [w32 i, note, w32 k.noteMerged]
        (modKernel e i (fun k => { k with noteMerged := 0, noteUntil := a.hk + msT 10 }) a))) ∧
      (a.hk < k.noteUntil → exec (.kernelNote e i note dt) s =
        .next (modKernel e i (fun k => { k with noteMerged := k.noteMerged + 1 }) a))) ∧
    (i < 8 → k.checking = true →
      let b := modKernel e i (fun k => { k with checking := false }) a
      let b' := modKernel e i (fun k => { k with since := a.hk }) b
      (kernelCheck s k = some 0 → exec (.spnKernelStartDone e i dt) s = .next (pump (completeUnit 0x0408 (engT e) stOk 0 [0]
        (clearAlarm 0x8411 (engT e) i [w32 i] (if x.st = .cold then setKernelSt e i .stopped 5 b'
          else setKernelSt e i (if engRuns s e then .running else .paused) 0 b'))))) ∧
      (∀ m, kernelCheck s k = some (m + 1) →
        exec (.spnKernelStartDone e i dt) s = .next (pump (completeUnit 0x0408 (engT e) stOk 0 [w32 (m + 1)] b))) ∧
      (kernelCheck s k = none →
        exec (.spnKernelStartDone e i dt) s = .next (pump (completeUnit 0x0408 (engT e) stSealed 0 [] b))))

/-- While the device runs, the end of an engine's transition takes it to the state of Table 1.9: power-up with its die-to-die
links up to COOL, the wake of the engine that serves a port in service to ACTIVE, the lock of a shadowing engine to WARM, power
gating to COLD, retention to COOL with its shadow given up. A link that fails is fault class 8. -/
def Obligations.EngineTransitionsEnd : Prop :=
  ∀ (e : Eng) (p : Lp) (bads : List (Nat × Nat)) (dt : Nat) (s : State), running (advance dt s) = true →
    let a := advance dt s
    let x := s.engine e
    (x.move = .toCool → restorePower s e = false →
      exec (.engineColdToCoolDone e false bads dt) s = .next (pump (steer ((addBadLoads e bads
        (setEngSt e .cool (endMove e a))).modProt fun y => { y with checker := y.checker.filter fun w => w.2.1 != engT e })))) ∧
    (x.move = .toCool → exec (.engineColdToCoolDone e true bads dt) s = .next (enterFault 8 a)) ∧
    (x.move = .waking → x.st = .cool → x.serves = some p → inService s p = true →
      exec (.engineWakeDone e dt) s = .next (pump (engineServes e p (endMove e a)))) ∧
    (x.move = .shadowing → x.shadows = some p → (s.port p).dsp.spareAcq.st = .track → s.prot.restore = none →
      e ≠ .les ∨ s.prot.burn.phase ≠ .acquire →
      let u := (setEngSt e .warm (endMove e a)).modEngine e fun x => { x with startup := some (some (a.hk + secT 1)) }
      exec (.engineShadowLock e dt) s = .next (pump (steer (checkIdle e (replaceRoles e u))))) ∧
    (x.move = .gating → restorePower s e = false →
      exec (.enginePowerGated e dt) s = .next (pump (steer (setEngSt e .cold (endMove e a))))) ∧
    (x.move = .retaining →
      let idle (u : State) : State :=
        (match x.shadows with | some q => acqIdle q true u | none => u).modEngine e fun x =>
          { x with move := .none, shadows := none }
      exec (.engineRetentionReached e dt) s = .next (pump (steer (setEngSt e .cool
        (match x.shadows with | some q => steerSynth q (idle a) | none => idle a)))))

/-! ## Coding, line frame and performance monitoring (chapters 07 and 08) -/

/-- Each coding-range and line-frame-range command that Umcia takes for one line port at once and that passes its checks has its
effect and replies OK with its results, or is refused with the BAD_STATE that its state gives; the next state is that and no more.
FEC_CONFIG, LF_CONFIG and PM_CONFIG take over the selected words and keep the others; FEC_HISTOGRAM and FEC_HDR_READ are refused
in ZR800, FEC_HDR_READ also before a header, PM_BIN_READ of an absent bin; PM_HISTORY_READ marks what it read; PM_CLEAR clears what
its mask names; the counters clear only when told. The words of ZR800 that have no meaning, and the numbers of an empty history,
are free values (log entry 5). -/
def Obligations.LineCommandsRun : Prop :=
  ∀ (c : Cmd) (s : State),
    let r := ready c s
    let p := lpOfT c.target
    let k := (s.port p).cod
    let f := (s.port p).frame
    let g := runningPoint s p
    let ok (code : Nat) (ws : List Word) (t : State) : Host.Outcome State Fault Refusal := .next (okFrom code c ws t)
    let bad (code detail : Nat) : Host.Outcome State Fault Refusal := .next (pump (reply code c stBadState detail [] r))
    (Runs fecConfigOp c s →
      let x : FecCfg := { iterCap := pick c 0 k.cfg.iterCap, sdBerLog := pick c 1 k.cfg.sdBerLog,
                          sdSeconds := pick c 2 k.cfg.sdSeconds, sfUncorr := pick c 3 k.cfg.sfUncorr }
      exec (.fecConfig c) s = ok 0x0501 ([0, x.iterCap, x.sdBerLog, x.sdSeconds, x.sfUncorr, iterCap g x].map w32)
        (noteCap p (r.modCod p fun k => { k with cfg := x }))) ∧
    (Runs fecStatusOp c s →
      let last := [iMax g, iterCap g k.cfg, delayNow r.hk g k, inFlight r.hk g k,
        onBit g.economy 0 + onBit (hdrOk k) 1 + onBit (decoderRuns r p) 2].map w32
      let f3 := freeWs 3 r
      exec (.fecStatus c) s = (if g.zr800 = true then ok 0x0502 ([w32 (2 + g.rate * 4)] ++ f3.1 ++ last) f3.2
        else ok 0x0502 ([(if is64 g.rate then 1 else 0) + g.rate * 4, blockB g.rate, blockK g.rate, wMax g.rate].map w32 ++
          last) r)) ∧
    (Runs fecHistogramOp c s →
      let ws := w32 (histW g) :: ((List.range 17).map fun i => lohi (ctr s (histKey p i))).flatten
      exec (.fecHistogram c) s = (if g.zr800 = true then bad 0x0503 0x0100 else ok 0x0503 ws
        (if bit (c.w 3) 0 then (List.range 17).foldl (fun s i => ctrClear s (histKey p i)) r else r))) ∧
    (Runs fecHdrReadOp c s →
      (g.zr800 = true → exec (.fecHdrRead c) s = bad 0x0504 0x0100) ∧
      (g.zr800 = false → k.hdr = none → exec (.fecHdrRead c) s = bad 0x0504 0x0101) ∧
      (∀ h w a b n, g.zr800 = false → k.hdr = some (h, w, a, b, n) →
        exec (.fecHdrRead c) s = ok 0x0504 (((List.range 8).map fun i => w32 (beNat ((h.drop (4 * i)).take 4))) ++
          [w, w32 (onBit a 0 + onBit b 1), w32 n]) r)) ∧
    (Runs fecCountersOp c s → exec (.fecCounters c) s = ok 0x0505 (ctrWords r c.target 0 (idRange 0x0501 0x050A))
      (if bit (c.w 3) 0 then ctrClearAll r c.target 0 (idRange 0x0501 0x050A) else r)) ∧
    (Runs lfConfigOp c s →
      let x : LfCfg := { f.cfg with expLabel := pick c 0 f.cfg.expLabel, plmEnable := pick c 1 f.cfg.plmEnable,
                                    timLen := pick c 2 f.cfg.timLen, timAction := pick c 3 f.cfg.timAction,
                                    txForce := pick c 4 f.cfg.txForce }
      exec (.lfConfig c) s = ok 0x0601 ([x.expLabel, x.plmEnable, x.timLen, x.timAction, x.txForce].map w32)
        (refreshPort p (r.modFrame p fun f => { f with cfg := x }))) ∧
    (Runs lfTraceSetOp c s →
      let bs := ((List.range 16).map fun i => beBytes 4 (c.w (4 + i))).flatten
      exec (.lfTraceSet c) s = ok 0x0602 (stringWords bs) (refreshPort p (r.modFrame p fun f => { f with
        cfg := if c.w 3 = 0 then { f.cfg with txTrace := bs } else { f.cfg with expTrace := bs } }))) ∧
    (Runs lfTraceGetOp c s → exec (.lfTraceGet c) s = ok 0x0603 (stringWords (f.traceAcc.getD []) ++
      stringWords f.cfg.expTrace ++ stringWords f.cfg.txTrace ++
      [w32 (onBit f.traceAcc.isSome 0 + onBit (bit f.defects 5) 1)]) r) ∧
    (Runs lfStatusOp c s →
      let w5 := if g.zr800 = true then freeW r else (w32 (frameBlocks g.cipher + stuffBits g.cipher * 2 ^ 16), r)
      exec (.lfStatus c) s = ok 0x0604
        [w32 (defectsWord r p), w32 (f.labelAcc.getD 0 + f.txLabel * 2 ^ 8 + onBit f.labelAcc.isSome 16), w5.1,
         w32 (clientMb (s.port p).mode.granted), w32 (intervalNum r)] w5.2) ∧
    (Runs pmHistoryReadOp c s →
      (f.records = [] → exec (.pmHistoryRead c) s = ok 0x0605 (freeWs 2 r).1 (freeWs 2 r).2) ∧
      (∀ o n, f.records.head? = some o → f.records.getLast? = some n →
        let got := (f.records.filter fun r => decide (c.w 3 ≤ r.seq)).take (c.w 4)
        exec (.pmHistoryRead c) s = ok 0x0605 ([w32 o.seq, w32 n.seq] ++ (got.map recordWords).flatten)
          (r.modFrame p fun f => { f with records := f.records.map fun r =>
            if (got.any fun g => g.seq == r.seq) then { r with readOut := true } else r }))) ∧
    (Runs pmBinReadOp c s →
      let l := if c.w 3 < 2 then f.bins15 else f.bins24
      let bin := if c.w 3 % 2 = 0 then l.head? else (l.drop 1)[c.w 4]?
      (bin = none → exec (.pmBinRead c) s = bad 0x0606 0x0100) ∧
      (∀ b, bin = some b → exec (.pmBinRead c) s = ok 0x0606 (binWords b) r)) ∧
    (Runs pmConfigOp c s →
      let x : PmCfg := { binAnchor := pick c 0 f.pmCfg.binAnchor, sesRatio := pick c 1 f.pmCfg.sesRatio }
      exec (.pmConfig c) s = ok 0x0607 [w32 x.binAnchor, w32 x.sesRatio] (if x = f.pmCfg then r else r.modFrame p fun f =>
        { f with pmCfg := x, bins15 := suspectHead f.bins15, bins24 := suspectHead f.bins24 })) ∧
    (Runs pmClearOp c s → exec (.pmClear c) s = ok 0x0608 [] (r.modFrame p fun f => { f with
      records := if bit (c.w 3) 0 then [] else f.records,
      bins15 := if bit (c.w 3) 1 then clearBins f.bins15 else suspectHead f.bins15,
      bins24 := if bit (c.w 3) 2 then clearBins f.bins24 else suspectHead f.bins24 })) ∧
    (Runs lfCountersOp c s → exec (.lfCounters c) s = ok 0x0609 (ctrWords r c.target 0 (idRange 0x0601 0x060B))
      (if bit (c.w 3) 0 then ctrClearAll r c.target 0 (idRange 0x0601 0x060B) else r))

/-- A codeword that converged within its cap counts its corrected bits and its 9,216 coded bits and its information bytes join
its frame, one that did not counts as uncorrectable alone and its bytes are flagged; 1 ms without one clears FEC_EXCESS. A good
robust header in HUNT takes alignment to CONFIRM, one with the next FRAME_NUM in CONFIRM takes it to IN_FRAME, any other takes it
to HUNT, and in IN_FRAME it is kept for its frame. A received frame and a frame to be sent are taken by the format in force, LOF
follows its 3 ms, the inhibit time ends, and the oldest record not evaluated is evaluated. What the decoder made of a codeword
comes with the command (log entry 143). -/
def Obligations.LineEventsRun : Prop :=
  ∀ (p : Lp) (anchor dt : Nat) (h : List Byte) (w : Word) (y : CodewordRx) (zc : Bool) (z1 z0 : Nat) (x : RxFrame) (blocks : List ClientBlock)
    (s : State), running (advance dt s) = true →
    let a := advance dt s
    let c := (s.port p).cod
    let f := (s.port p).frame
    let g := runningPoint s p
    (releases a p = true → c.drain = none → g.zr800 = false →
      let r := nativeResult g.rate (capOf a.hk g c).1 c y
      let full := decide (c.cw = 64)
      let at_ := if full then 0 else c.cw
      let marks := if full then [] else c.flagged
      ∃ t, exec (.codewordRelease p y zc z1 z0 dt) s = .next t ∧
        (t.port p).cod.bytes = (if full then [] else c.bytes) ++ infoBytes y.out ∧ (t.port p).cod.cw = at_ + 1 ∧
        (r.conv = true → c.spoil = false →
          (t.port p).cod.iUncorr = c.iUncorr ∧ (t.port p).cod.iConv = c.iConv + 1 ∧
          (t.port p).cod.iCoded = c.iCoded + 9216 ∧ (t.port p).cod.iCorr = c.iCorr + r.ones + r.zeros ∧
          (t.port p).cod.flagged = marks ∧ (t.port p).cod.last = some y.out ∧
          t.alarms = s.alarms ∧ t.port p.other = s.port p.other ∧ (t.port p).frame = f ∧ t.eng = s.eng ∧ t.tm = s.tm) ∧
        (r.conv = false ∨ c.spoil = true →
          (t.port p).cod.iUncorr = c.iUncorr + 1 ∧ (t.port p).cod.iConv = c.iConv ∧ (t.port p).cod.iCoded = c.iCoded ∧
          (t.port p).cod.iCorr = c.iCorr ∧ (t.port p).cod.flagged = marks ++ [at_] ∧ (t.port p).cod.last = none)) ∧
    (releases a p = true → exec (.codewordRelease p y zc z1 z0 dt) s = .next (codewordRelease p y zc z1 z0 a)) ∧
    (due c.excessClear a.hk = true → exec (.fecExcessClearTimer p dt) s = .next (refreshPort p
      (clearAlarm 0x8511 (lpT p) 0 [] (a.modCod p fun c => { c with excessClear := none, excess := [] })))) ∧
    (receives a p = true → g.zr800 = false →
      let j := judgeHeader p h w anchor a
      let restart := hcrcGood h && locGood w && locRestart w
      let kept := keepRestart p restart (stepGrid p j.2)
      let u := exec (.robustHeaderDecoded p h w anchor dt) s
      (f.align = .hunt → j.1 = true → u = .next (pump (refreshPort p ((j.2.modCod p fun c => { c with
          grid := some (nextGrid (portRate j.2 p)
            { lag := locLag w, bitOffset := locOffset w, anchor := anchor % 2 ^ 32 }),
          fresh := true, restarts := [locRestart w], cw := 0, bytes := [], flagged := [], last := none }).modFrame p fun f =>
        { f with align := .confirm, robust := [some h], lastGood := some ((frameNum h + 255) % 256), badRun := 0 })))) ∧
      (f.align = .hunt → j.1 = false → u = .next (pump j.2)) ∧
      (f.align = .confirm → j.1 = true → nextNum f = some (frameNum h) → u = .next (pump (reachInFrame p (frameNum h)
        (kept.modFrame p fun f => { f with robust := f.robust ++ [some h] })))) ∧
      (f.align = .confirm → j.1 = false ∨ nextNum f ≠ some (frameNum h) → u = .next (pump (loseFrame p j.2))) ∧
      (f.align = .inFrame → u = .next (pump (kept.modFrame p fun f =>
        { f with robust := f.robust ++ [if j.1 then some h else none] })))) ∧
    (receives a p = true → exec (.vlfFrameReceived p x dt) s =
      .next (pump (if g.zr800 then zrReceived p x a else vlfReceived p x a))) ∧
    (∀ e, inService a p = true → c.tx.running = true → servingEng s p = some e → (s.engine e).st = .active →
      (s.protPort p).tk = none →
      let b := (markWindow p (mapBoundary p a)).modProt fun x => { x with streamBad := false }
      exec (.vlfFrameSend p blocks dt) s = .next (pump (refreshPort p (if (runningPoint b p).zr800 = true then
        lpCount (b.modFrame p fun f => { f with txNum := (f.txNum + 1) % 256, txReplace := replaces b p,
                                                txRdi := sendsRdi b p, txLabel := txLabelOf b p }) p 0x0609 1
        else vlfSend p blocks b)))) ∧
    (due f.lofTimer a.hk = true → exec (.lofTimerExpiry p dt) s =
      .next (pump (refreshPort p (a.modFrame p fun f => { f with lof := !f.lof, lofTimer := none })))) ∧
    (due f.inhibit a.hk = true → exec (.inhibitTimeExpiry p dt) s =
      .next (pump (refreshPort p (a.modFrame p fun f => { f with inhibit := none })))) ∧
    (∀ r l, s.fw.pause = none → nextRecord f.records = some (r, l) →
      exec (.pmRecordEvaluate p dt) s = .next (pump (evaluateRecord p r l a)))

/-! ## Line encryption (chapter 09) -/

/-- Each encryption command that Umcia takes at once and that passes its checks has its effect and replies, or is refused with the
BAD_STATE that its state gives; the next state is that and no more. KEY_LOCK and KEY_UNLOCK on PCIe and SPI take and release
CRYPTO_LOCK, on any other port they are refused. With the lock held by the commanding port: KEY_LOAD into a slot not in use with a
KEY_ID that no other slot has fills it and replies KEY_CHECK, KEY_ACTIVATE of a slot that is not EMPTY with CIPHER ON and no
handshake replies ACCEPTED and starts one, KEY_ERASE of slots none of which is in use empties them. KEY_ZEROISE needs no lock and
erases everything, at once when its packet enters a receive queue, but not on an in-band port, where it is refused. KEY_STATUS
changes nothing; CIPHER_CONFIG keeps the words not selected. -/
def Obligations.CryptoCommandsRun : Prop :=
  ∀ (c : Cmd) (s : State),
    let r := ready c s
    let p := lpOfT c.target
    let k := (s.port p).crypto
    let hostPort : Prop := c.port = .pcie ∨ c.port = .spi
    let ok (code : Nat) (ws : List Word) (t : State) : Host.Outcome State Fault Refusal := .next (okFrom code c ws t)
    let no (code det : Nat) : Host.Outcome State Fault Refusal := .next (pump (reply code c stBadState det [] r))
    let free : Bool := !holdsCrypto r c
    (Runs keyLockOp c s → (hostPort → exec (.keyLock c) s = ok 0x0701 [w32 (portCode c.port)]
        (setLock r .crypto (some (c.port, r.hk)))) ∧ (¬ hostPort → exec (.keyLock c) s = no 0x0701 0x0103)) ∧
    (Runs keyUnlockOp c s → (hostPort → exec (.keyUnlock c) s = ok 0x0702 [] (releaseLock .crypto 0 r)) ∧
      (¬ hostPort → exec (.keyUnlock c) s = no 0x0702 0x0103)) ∧
    (s.host.cryptoLock = none → free = true) ∧
    (Runs keyLoadOp c s →
      let key := ((List.range 8).map fun i => beBytes 4 (c.w (5 + i))).flatten
      exec (.keyLoad c) s = (if free = true then no 0x0703 0x0100 else if tampered s = true then no 0x0703 0x0102
        else if slotState k (c.w 3) = 2 then no 0x0703 0x0104
        else if ((List.range 4).any fun i => i != c.w 3 && slotState k i != 0 && slotId k i == c.w 4) = true then
          no 0x0703 0x0105
        else ok 0x0703 [keyCheck key] (clearAlarm 0x8712 0 0 [] (setCrypto p (fun k => { k with
          slots := setAt k.slots (c.w 3) (some { key, keyId := c.w 4, check := keyCheck key }) }) r)))) ∧
    (Runs keyActivateOp c s →
      let u := clearAlarm 0x8714 c.target 0 [] r
      exec (.keyActivate c) s = (if free = true then no 0x0704 0x0100 else if k.hs.isSome = true then no 0x0704 0x0101
        else if slotState k (c.w 3) = 0 then no 0x0704 0x0106 else if cipherOn s p = false then no 0x0704 0x0107
        else .next (pump (startHandshake p (c.w 3) 0 (reply 0x0704 c stAccepted 0 []
          (u.modHost fun h => { h with deferred := h.deferred ++ [{
            port := c.port, code := 0x0704, tag := c.tag, multi := false,
            entries := [{ target := c.target, settled := false, status := stOk, detail := 0, words := [] }] }] })))))) ∧
    (Runs keyZeroiseOp c s →
      (c.port ≠ .ib0 → c.port ≠ .ib1 → exec (.keyZeroise c) s = ok 0x0705 [] (zeroise r)) ∧
      (c.port = .ib0 ∨ c.port = .ib1 → exec (.keyZeroise c) s = no 0x0705 0x0108)) ∧
    (let t := serve keyZeroiseOp c s
     let ws := cmdWords 0x0705 c
     keyZeroiseWaits s c = false → (s.host.rxq.get c.port).length < (t.host.rxq.get c.port).length →
      c.port ≠ .ib0 → c.port ≠ .ib1 → bits (ws.getD 1 0).toNat 16 16 = 0x0705 → bits (ws.getD 2 0).toNat 24 8 = 0 →
      crc32cWords ws.dropLast = ws.getLastD 0 → exec (.keyZeroise c) s = .next (zeroise t)) ∧
    (Runs keyEraseOp c s →
      let u := setCrypto p (fun k => { k with
        slots := (List.range 4).map fun i => if bit (c.w 3) i then none else k.slots.getD i none }) r
      exec (.keyErase c) s = (if free = true then no 0x0706 0x0100
        else if ((List.range 4).any fun i => bit (c.w 3) i && slotState k i == 2) = true then no 0x0706 0x0104
        else ok 0x0706 [w32 ((List.range 4).foldl (fun a i => a + onBit (slotState (u.port p).crypto i == 0) i) 0)] u)) ∧
    (Runs keyStatusOp c s →
      let check (i : Nat) : Word := match k.slots.getD i none with | some x => x.check | none => 0
      exec (.keyStatus c) s = ok 0x0707 ([w32 (cipherWord r p)] ++ (List.range 4).map (fun i => w32 (slotState k i)) ++
        (List.range 4).map (fun i => w32 (slotId k i)) ++ (List.range 4).map check ++
        [w32 (sessionNum k.tx), w32 (sessionNum k.rx)] ++ lohi k.txCounter ++ lohi k.rxCounter ++ lohi k.reserved ++
        [w32 (match lockHolder r .crypto with | some (q, _) => portCode q | none => 0)]) r) ∧
    (Runs cipherConfigOp c s → exec (.cipherConfig c) s = ok 0x0708
      [0, w32 (pick c 0 k.hsTimeout), w32 (pick c 1 k.authClear)] (r.modCrypto p fun k =>
        { k with hsTimeout := pick c 0 k.hsTimeout, authClear := pick c 1 k.authClear })) ∧
    (Runs cipherCountersOp c s → exec (.cipherCounters c) s = ok 0x0709 (ctrWords r c.target 0 (idRange 0x0701 0x070B))
      (if bit (c.w 3) 0 then ctrClearAll r c.target 0 (idRange 0x0701 0x070B) else r))

/-- While any tamper detector is asserted, a KEY_LOAD that passes its checks on the port that holds CRYPTO_LOCK is refused with
BAD_STATE 0x0102, and KEY_ZEROISED and every key slot stay as they are; on another port it is refused as well, for want of the
lock. With every detector clear, an accepted KEY_LOAD clears KEY_ZEROISED. -/
def Obligations.KeyLoadWhileTampered : Prop :=
  ∀ (c : Cmd) (s : State), Runs keyLoadOp c s → SMap.wf false s.alarms = true →
    let p := lpOfT c.target
    (tampered s = true → ∃ t det, exec (.keyLoad c) s = .next t ∧ t = pump (reply 0x0703 c stBadState det [] (ready c s)) ∧
      ((∃ u, s.host.cryptoLock = some (c.port, u)) → det = 0x0102) ∧ t.alarms = s.alarms ∧ t.lp = s.lp) ∧
    (tampered s = false → (∃ u, s.host.cryptoLock = some (c.port, u)) → slotState (s.port p).crypto (c.w 3) ≠ 2 →
      (∀ i, i < 4 → i ≠ c.w 3 → slotState (s.port p).crypto i = 0 ∨ slotId (s.port p).crypto i ≠ c.w 4) →
      ∃ t, exec (.keyLoad c) s = .next t ∧ raised t 0x8712 0 0 = false)

/-- While the device runs: the session of an offer is derived at both ends; an armed handshake switches at a cycle boundary to its
session with COUNTER 0 and a toggled phase; a handshake past its deadline fails with result 1; a COUNTER at 2^64 - 2^32 starts a
handshake on the slot in force, one at 2^64 - 16 is KEY_EXHAUST; a whole cycle's message is taken. A failed health test raises
RNG_FAIL and 1 s of passing tests clears it. A tamper detector erases every slot and session in every powered state. -/
def Obligations.CryptoEventsRun : Prop :=
  ∀ (p : Lp) (src : Tamper) (dt : Nat) (s : State),
    let a := advance dt s
    let k := (s.port p).crypto
    (running a = true →
      (∀ h, k.hs = some h → h.derived = none → exec (.sessionDerived p false dt) s = .next (setCrypto p (fun k =>
        { k with hs := some { h with derived := slotSession k h.slot h.session h.nonce } }) a)) ∧
      (∀ o, k.deriving_ = some o → exec (.sessionDerived p true dt) s = .next (setCrypto p (fun k =>
        { k with deriving_ := none, rxPend := slotSession k o.slot o.session o.nonce }) a)) ∧
      (∀ h x, k.hs = some h → h.derived = some x → h.armed = true → (s.port p).frame.txNum % 16 = 0 →
        ∃ t, exec (.handshakeSwitch p dt) s = .next t ∧ (t.port p).crypto.tx = some x ∧ (t.port p).crypto.txCounter = 0 ∧
          (t.port p).crypto.txPhase = (!k.txPhase) ∧ (t.port p).crypto.hs = none ∧ (t.port p).crypto.slots = k.slots ∧
          (t.port p).crypto.rx = k.rx ∧ t.port p.other = s.port p.other ∧ t.eng = s.eng ∧ t.tm = s.tm) ∧
      (∀ h, k.hs = some h → h.deadline ≤ a.hk → exec (.handshakeTimeout p dt) s = .next (pump (failHandshake p 1 a))) ∧
      (∀ x, k.tx = some x → k.hs = none → 2 ^ 64 - 2 ^ 32 ≤ k.txCounter.toNat →
        exec (.counterRederive p dt) s = .next (startHandshake p x.slot 1 a)) ∧
      (∀ x, k.tx = some x → k.exhausted = false → 2 ^ 64 - 16 ≤ k.txCounter.toNat → exec (.keyExhaust p dt) s =
        .next (raiseAlarm 0x8711 (lpT p) 0 [] (a.modCrypto p fun k => { k with exhausted := true }))) ∧
      (∀ msg own, k.cycle = some (msg, own) → exec (.cryptoCycleReceived p dt) s = .next (pump (takeAck p msg (takeOffer p msg
        (takeCounter p msg own (a.modCrypto p fun k => { k with cycle := none })))))) ∧
      exec (.rngHealthFail dt) s =
        .next (raiseAlarm 0x8715 0 0 [] { a with keys := { a.keys with rngGood := some (a.hk + secT 1) } }) ∧
      (due s.keys.rngGood a.hk = true → exec (.rngFailClearTimer dt) s =
        .next (clearAlarm 0x8715 0 0 [] { a with keys := { a.keys with rngGood := none } }))) ∧
    (s.pr.powered = true →
      (∃ t, exec (.tamperDetected src dt) s = .next t ∧ tampered t = true ∧ ∀ q, (t.port q).crypto.slots = [none, none, none, none] ∧
        (t.port q).crypto.tx = none ∧ (t.port q).crypto.rx = none ∧ (t.port q).crypto.rxPend = none ∧
        (t.port q).crypto.hs = none ∧ (t.port q).crypto.deriving_ = none ∧ (t.port q).dsp = (s.port q).dsp) ∧
      exec (.tamperDetectorClear src dt) s = .next { a with keys := setTamper src false a.keys })

/-! ## Host lanes and client mapping (chapter 10) -/

/-- Each host-range command that Umcia takes for one lane or port at once and that passes its checks has its effect and replies, or
is refused with the BAD_STATE that its state gives; the next state is that and no more. HL_CONFIG and HP_CONFIG take over the
selected words and keep the others, HP_CONFIG of an enabled lane port only where neither lanes nor slots of it are taken;
HL_STATUS and HP_STATUS change nothing, but that HL_STATUS of a lane no enabled port owns takes a free value for rate and owner
(log entry 38); HP_RETRAIN of an enabled port replies ACCEPTED and trains the named lanes afresh; HP_LOOPBACK of an enabled port
sets it, and a port that was UP on a loop that is cleared is in LOCAL_FAULT where a lane has no lock (log entry 146);
HL_SYNCE_SELECT sets or clears the candidate. What the monitors of a port counted since the last boundary is free (log entry
25). -/
def Obligations.HostCommandsRun : Prop :=
  ∀ (c : Cmd) (s : State),
    let r := ready c s
    let i := c.target - 0x20
    let n := c.target - 0x40
    let l := s.lane i
    let h := s.hport n
    let ok (code : Nat) (ws : List Word) (t : State) : Host.Outcome State Fault Refusal := .next (okFrom code c ws t)
    let no (code det : Nat) : Host.Outcome State Fault Refusal := .next (pump (reply code c stBadState det [] r))
    (Runs hlConfigOp c s →
      let o := hlCfg s i
      let x : HlCfg := { rxInv := if bit (c.w 3) 0 then bit (c.w 4) 0 else o.rxInv,
                         txInv := if bit (c.w 3) 0 then bit (c.w 4) 1 else o.txInv, refsel := pick c 1 o.refsel,
                         ffe := pick c 2 o.ffe, adapt := pick c 3 o.adapt, ctle := pick c 4 o.ctle }
      let u := r.modLane i fun l => { l with cfg := some x }
      exec (.hlConfig c) s = ok 0x0801 ([0] ++ hlWords x ++ [w32 (ffeInUse u i)]) u) ∧
    (Runs hlStatusOp c s →
      let f (n : Nat) : Nat := onBit l.locked 0 + onBit (laneAsleep r i) 1 + n
      let own : Nat × State := match laneOwner s i with
        | some m => (f ((hpCfg s m).laneRate * 4 + m * 16), r)
        | none => (f (bits (freeW r).1.toNat 2 8 * 4), (freeW r).2)
      let settled := l.locked || l.holdEnd.isSome || l.alone
      exec (.hlStatus c) s = ok 0x0802 [w32 own.1, wI l.meas.cdr,
        w32 (if (hlCfg s i).adapt = 2 ∨ settled = false then (hlCfg s i).ctle else l.meas.ctle), w32 l.meas.eyeH,
        w32 l.meas.eyeW, w32 (ffeInUse s i)] own.2) ∧
    (Runs hpConfigOp c s →
      let x := hpOf n c (hpCfg s n)
      let lane := isLanePort n && x.enable
      exec (.hpConfig c) s = (if (lane && lanesHeld s n x) = true then no 0x0803 0x0100
        else if (lane && slotsOverlap s n x) = true then no 0x0803 0x0101
        else ok 0x0803 (0 :: hpWords x) (setHpCfg n x r))) ∧
    (Runs hpStatusOp c s → exec (.hpStatus c) s = ok 0x0804
      [w32 (hpNum h.st + onBit h.unplaced 3 + onBit (raised s 0x8812 c.target 0) 4 + onBit (sendsLf r n) 5 + h.loopback * 64 +
          onBit (isLanePort n && iltOn (hpCfg s n)) 8),
        w32 ((portLanes s n).foldl (fun a j => a + onBit (s.lane j).locked (j - (hpCfg s n).firstLane)) 0),
        w32 h.fails, w32 h.skew, wI h.idleLast] r) ∧
    (Runs hpRetrainOp c s →
      ((hpCfg s n).enable = true → exec (.hpRetrain c) s = .next (acceptedFrom 0x0805 c (freshTraining n
        ((portLanes s n).filter fun j => c.w 3 == 0 || bit (c.w 3) (j - (hpCfg s n).firstLane)) 0 r))) ∧
      ((hpCfg s n).enable = false → exec (.hpRetrain c) s = no 0x0805 0x0102)) ∧
    (Runs hpLoopbackOp c s →
      ((hpCfg s n).enable = true →
        let u := r.modHport n fun h => { h with loopback := c.w 3 }
        let bad := (portLanes s n).filter fun j => !(s.lane j).locked
        exec (.hpLoopback c) s = ok 0x0806 [w32 (c.w 3)] (if h.loopback = 2 ∧ c.w 3 ≠ 2 ∧ h.st = .up ∧ bad ≠ [] then
          setHp n .localFault 0 (bad.foldl (fun u j => u.modLane j fun l => { l with alone := l.holdEnd.isNone }) u)
          else u)) ∧
      ((hpCfg s n).enable = false → exec (.hpLoopback c) s = no 0x0806 0x0102)) ∧
    (Runs hlSynceSelectOp c s →
      let v (o : Option Nat) : Option Nat := if bit (c.w 4) 0 then some i else if o = some i then none else o
      let y : Option Nat × Option Nat := if c.w 3 = 4 then (v s.synce.1, s.synce.2) else (s.synce.1, v s.synce.2)
      exec (.hlSynceSelect c) s = (if (bit (c.w 4) 0 && (laneOwner s i).isNone) = true then no 0x0807 0x0103
        else ok 0x0807 [w32 (y.1.getD 0xFF), w32 (y.2.getD 0xFF)] (hostClocks { r with synce := y }))) ∧
    (Runs hpCountersOp c s →
      let u := settleHost n r
      exec (.hpCounters c) s = ok 0x0808 (ctrWords u c.target 0 (idRange 0x0801 0x080F))
        (if bit (c.w 3) 0 then ctrClearAll u c.target 0 (idRange 0x0801 0x080F) else u))

/-- While the device runs: a lane that loses lock is lost; one whose signal returns, with an offset its CDR tracks, relocks within
LANE_HOLD, and retrains alone once LANE_HOLD has run out; a port in UP that loses alignment goes to LOCAL_FAULT; an attempt starts
after its backoff, fails after 50 ms, or reaches ALIGNING with every lane locked; ALIGNING fails after 10 ms or reaches UP with a
skew of at most 180 ns; a port in LOCAL_FAULT with every lane locked realigns; remote fault on a PACKET port in UP is raised, and
clears after 1 ms. -/
def Obligations.HostEventsRun : Prop :=
  ∀ (i n skew dt : Nat) (m : LaneMeas) (ms : List LaneMeas) (s : State), running (advance dt s) = true → i < 32 → n < 32 →
    let a := advance dt s
    let l := s.lane i
    let h := s.hport n
    (l.locked = true → exec (.hlCdrLockLoss i dt) s = .next (lanelost i a)) ∧
    (l.locked = false → laneOwner s i = some n → cdrTracks m = true →
      (∀ e, l.holdEnd = some e → a.hk < e → exec (.hlSignalReturn i m dt) s =
        .next (lockLane i (a.modLane i fun l => { l with meas := { l.meas with cdr := m.cdr } }))) ∧
      ((l.holdEnd = none ∧ l.alone = true) ∨ (∃ e, l.holdEnd = some e ∧ e ≤ a.hk) → h.st = .localFault →
        exec (.hlSignalReturn i m dt) s =
          .next (startAttempt n (setHp n .training 1 ((dropLane i a).modHport n fun h => { h with fails := 0 }))))) ∧
    (due l.holdEnd a.hk = true → exec (.laneHoldExpiry i dt) s =
      .next (a.modLane i fun l => { l with holdEnd := none, alone := true })) ∧
    (h.st = .up → exec (.pcsAlignmentLoss n dt) s = .next (setHp n .localFault 1 a)) ∧
    (h.st = .training → due h.backoff a.hk = true → exec (.trainAttemptStart n dt) s = .next (startAttempt n a)) ∧
    (∀ t, h.st = .training → h.attempt = some t → t + msT 50 ≤ a.hk →
      exec (.trainAttemptTimeout n dt) s = .next (pump (failAttempt n a))) ∧
    (∀ t, h.st = .aligning → h.aligning = some t → t + msT 10 ≤ a.hk →
      exec (.aligningTimeout n dt) s = .next (pump (failAttempt n a))) ∧
    (h.st = .training → h.attempt.isSome = true → ms.all cdrTracks = true →
      let u := ((portLanes s n).zip ms).foldl (fun s x => s.modLane x.1 fun l =>
        if l.locked then l else { l with meas := settled (hpCfg a n).laneRate x.2 }) a
      exec (.hpAligningReached n ms dt) s = .next (setHp n .aligning 0 (((portLanes s n).foldl (fun s j => lockLane j s)
        u).modHport n fun h => { h with aligning := some a.hk }))) ∧
    (skew ≤ 180 →
      ((h.st = .aligning ∨ h.st = .localFault) ∧ ((portLanes s n).all fun j => (s.lane j).locked) = true) ∨
        (h.loopback = 2 ∧ h.st ≠ .disabled ∧ h.st ≠ .up) →
      exec (.hpUpReached n skew dt) s = .next (pump (retrainDone n 0 (setHp n .up (if h.st = .localFault then 1 else 0)
        (a.modHport n fun h => { h with skew, fails := 0, attempt := none, aligning := none, backoff := none }))))) ∧
    (isPacket s n = true → h.st = .up → exec (.remoteFaultReceived n dt) s =
      .next (raiseAlarm 0x8812 (hpT n) 0 [] (a.modHport n fun h => { h with rfAt := a.hk }))) ∧
    (h.rfAt + msT 1 ≤ a.hk → exec (.remoteFaultClearTimer n dt) s = .next (clearAlarm 0x8812 (hpT n) 0 [] a))

/-! ## Traffic manager (chapter 11) -/

/-- Each traffic manager command that Umcia takes at once for the manager or one host port and that passes its checks has its
effect and replies, or is refused with the BAD_STATE that its state gives; the next state is that and no more. TM_CONFIG, TM_SOURCE_CONFIG and TM_QUEUE_CONFIG take over the selected words and keep the others; TM_POLICER_PROFILE sets
the profile and the buckets of every entry that names it; FLOW_WRITE replaces the entry of its key, or adds one, and with the
table full is refused with BAD_STATE 0x0100; FLOW_READ and FLOW_DELETE act on the entry named and refuse a key or index that
names none with BAD_STATE 0x0101; TM_GATE_CONFIG keeps its schedule for the next boundary; TM_QUEUE_STATUS and TM_STATUS change
nothing; TM_COUNTERS clears only when told. -/
def Obligations.TrafficCommandsRun : Prop :=
  ∀ (c : Cmd) (s : State),
    let r := ready c s
    let k := keyOf (c.w 3) (c.w 4)
    let f := newFlow r k (bits (c.w 5) 0 3) (bits (c.w 5) 8 6) (bits (c.w 5) 16 12) true
    let ok (code : Nat) (ws : List Word) (t : State) : Host.Outcome State Fault Refusal := .next (okFrom code c ws t)
    let no (code det : Nat) : Host.Outcome State Fault Refusal := .next (pump (reply code c stBadState det [] r))
    (Runs tmConfigOp c s →
      let o := s.tm.cfg
      let x : TmCfg := { age := pick c 0 o.age, sampleUs := pick c 1 o.sampleUs, poolGreen := pick c 2 o.poolGreen,
                         overhead := pick c 3 o.overhead }
      exec (.tmConfig c) s = ok 0x0901 [0, w32 x.age, w32 x.sampleUs, w32 x.poolGreen, w32 x.overhead]
        (poolAlarm (r.modTm fun m => { m with cfg := x }))) ∧
    (Runs tmSourceConfigOp c s →
      let o := srcCfg s (c.w 4)
      let x : SrcCfg := { learn := pick5 c 0 o.learn, learnProf := pick5 c 1 o.learnProf, learnClass := pick5 c 2 o.learnClass,
                          learnDest := pick5 c 3 o.learnDest, ovfProf := pick5 c 4 o.ovfProf,
                          ovfClass := pick5 c 5 o.ovfClass, ovfDest := pick5 c 6 o.ovfDest }
      exec (.tmSourceConfig c) s = ok 0x0902 [0, 0, w32 x.learn, w32 x.learnProf, w32 x.learnClass, w32 x.learnDest,
          w32 x.ovfProf, w32 x.ovfClass, w32 x.ovfDest]
        (r.modTm fun m => { m with
          sources := SMap.set {} m.sources (c.w 4) x,
          ovf := if x.ovfProf = o.ovfProf then m.ovf else SMap.set none m.ovf (c.w 4) none })) ∧
    (Runs tmPolicerProfileOp c s →
      let x : Policer := { cir := c.w 4, cbs := c.w 5, pir := c.w 6, pbs := c.w 7, aware := bit (c.w 8) 0, reset := c.w 9 }
      let named (e : Nat × Option Flow) : Bool := match e.2 with | some f => f.prof == c.w 3 | none => false
      ∃ t, exec (.tmPolicerProfile c) s = ok 0x0903 [0, w32 x.cir, w32 x.cbs, w32 x.pir, w32 x.pbs, w32 (b01 x.aware),
          w32 (s.tm.flows.filter named).length] t ∧ t.tm.profiles = SMap.set {} s.tm.profiles (c.w 3) x ∧
        t.tm.flows = (s.tm.flows.map fun e => if named e then (e.1, e.2.map fun f => { f with
          bk := resetBuckets x.reset x.cbs x.pbs (tmNow r) }) else e) ∧ t.tm.queues = s.tm.queues ∧ t.tm.sources = s.tm.sources ∧
        t.lp = s.lp ∧ t.eng = s.eng ∧ t.counters = s.counters ∧ t.alarms = s.alarms) ∧
    (∀ i, Runs flowWriteOp c s → findFlow r k = some i →
      exec (.flowWrite c) s = ok 0x0904 [w32 i, 1] (setFlow i (some f) r)) ∧
    (Runs flowWriteOp c s → findFlow r k = none →
      exec (.flowWrite c) s = (if flowMax ≤ flowCount r then no 0x0904 0x0100
        else ok 0x0904 [w32 (newIndex r).1, 0] (setFlow (newIndex r).1 (some f) (newIndex r).2))) ∧
    (Runs flowReadOp c s →
      (namedFlow r c = none → exec (.flowRead c) s = no 0x0905 0x0101) ∧
      (∀ i, namedFlow r c = some i → flowAt r i = none → exec (.flowRead c) s = no 0x0905 0x0101) ∧
      ∀ i x, namedFlow r c = some i → flowAt r i = some x → exec (.flowRead c) s = ok 0x0905 (flowWords x ++
        [w32 i, w32 (onBit (decide (x.lostUntil ≤ r.hk)) 0 + onBit x.static_ 1 + min 0xFFFF (s.clk.seq - x.lastHit) * 2 ^ 16)] ++
        lohi x.passed ++ lohi x.bytes ++ lohi x.red ++ [wI (x.bk.c / 1024), wI (x.bk.p / 1024)]) r) ∧
    (Runs flowDeleteOp c s →
      (∀ i, c.w 3 ≤ 1 → namedFlow r c = some i → exec (.flowDelete c) s = ok 0x0906 [1] (tableAlarm (setFlow i none r))) ∧
      (c.w 3 ≤ 1 → namedFlow r c = none → exec (.flowDelete c) s = no 0x0906 0x0101) ∧
      (2 ≤ c.w 3 →
        let x := removeFlows (fun f => !f.static_ && (c.w 3 == 3 || f.key.source == c.w 4)) r
        exec (.flowDelete c) s = ok 0x0906 [w32 x.1] x.2)) ∧
    (Runs tmQueueConfigOp c s →
      let cfgs := (pickedQueues c.target c).map fun q => queueCfgOf c (queueOf s q).cfg
      (∀ x ∈ cfgs, x.yellow ≤ x.maxDepth ∧ (x.pir = 0 ∨ x.cir ≤ x.pir)) ∧ exec (.tmQueueConfig c) s =
        ok 0x0907 ([0, 0] ++ queueCfgWords (cfgs.getD 0 {})) ((pickedQueues c.target c).foldl (setQueueCfg c) r)) ∧
    (Runs tmQueueStatusOp c s →
      let q := queueNo (c.w 3) (c.target - 0x40) (c.w 4)
      let k := queueOf s q
      let b := shaperNow r k
      let held : Bool := match k.frames.head? with
        | some f => !mayStart r (queueOutput r q) (c.w 4) q && !f.bytes.isEmpty
        | none => false
      let cut : Bool := match k.frames.head? with | some f => f.cut | none => false
      exec (.tmQueueStatus c) s = ok 0x0908 [w32 (depth k), w32 (depth k / 2 ^ 32), w32 k.frames.length, wI (b.c / 1024),
        wI (b.p / 1024), w32 (onBit (commOk r k) 0 + onBit (peakOk r k) 1 + onBit held 2 + onBit cut 3),
        w32 (cyclesNs (sojourn r k)), w32 (k.lMaxD / 1024), w32 (k.lMeanD / 1024), w32 (cyclesNs k.lMaxS),
        w32 s.tm.lSamples] r) ∧
    (Runs tmGateConfigOp c s →
      let u := modGate (c.w 3) (fun g => { g with next := some (schedOf c) }) r
      exec (.tmGateConfig c) s = ok 0x0909 ([0] ++ schedWords (gateOf u (c.w 3)).sched ++ [1]) u) ∧
    (Runs tmStatusOp c s → exec (.tmStatus c) s = ok 0x090A (tmStatusWords r) r) ∧
    (Runs tmCountersOp c s →
      (c.target = 0x80 → exec (.tmCounters c) s = ok 0x090B (ctrWords r 0x80 0 tmIds)
        (if bit (c.w 3) 0 then ctrClearAll r 0x80 0 tmIds else r)) ∧
      (c.target ≠ 0x80 → exec (.tmCounters c) s = ok 0x090B
        (((List.range 16).map fun k => ctrWords r c.target k queueIds).flatten)
        (if bit (c.w 3) 0 then (List.range 16).foldl (fun s k => ctrClearAll s c.target k queueIds) r else r)))

/-- While the device and the traffic manager's clock run: a frame arrives from a PACKET lane port in UP or from a line port with
CLIENT PACKET in service, a free output selects its next frame, a gate goes on to its next entry or to entry 0 at the restart, a
due sample is taken of every queue, a bank that held no cell for 1 ms sleeps while cells are packed and nothing keeps the manager
awake, and TM_POOL_HIGH clears after its 1 s. While the device runs a waking bank wakes. -/
def Obligations.TrafficEventsRun : Prop :=
  ∀ (src o b dt : Nat) (x : TmFrame) (full : Bool) (s : State), running (advance dt s) = true →
    let a := advance dt s
    let g := gateOf s o
    (s.tm.since.isSome = true →
      (src < 32 → isPacket s src = true → (s.hport src).st = .up →
        exec (.tmFrameArrival src x full dt) s = .next (arriveHost src x full a)) ∧
      (∀ p, packetOn s p = true → inService s p = true →
        exec (.tmFrameArrival (64 + lpNum p) x full dt) s = .next (arriveLine p x full a)) ∧
      (o < 66 → outputFree a o = true → exec (.tmFrameSelect o dt) s = .next (selectFrame o a)) ∧
      (s.tm.sampleAt ≤ a.hk → exec (.queueDepthSample dt) s = .next (s.tm.queues.foldl (fun s e => modQueue e.1 (fun k =>
          { k with maxD := max k.maxD (depth k), sumD := k.sumD + depth k, maxS := max k.maxS (sojourn s k) }) s)
        (a.modTm fun m => { m with sampleAt := m.sampleAt + usT m.cfg.sampleUs, samples := m.samples + 1 })))) ∧
    (s.tm.since.isSome = true → o < 66 → g.sched.express < 8 → g.sched.entries ≠ [] →
      (∀ t, g.restartAt = some t → t ≤ a.hk → exec (.gateChange o dt) s = .next (modGate o (fun g => { g with
        entry := 0, changeAt := t + nsT (entryNs g.sched 0), restartAt := none }) a)) ∧
      (g.restartAt = none → g.changeAt ≤ a.hk →
        let i := if g.entry + 1 < g.sched.entries.length then g.entry + 1 else 0
        exec (.gateChange o dt) s = .next (modGate o (fun g' => { g' with
          entry := i, changeAt := g.changeAt + nsT (entryNs g.sched i), restartAt := none }) a))) ∧
    (∀ t, s.tm.since.isSome = true → b < 4 → packing s = true → (bankOf s b).st = .awake → (bankOf s b).emptyFrom = some t → t + msT 1 ≤ a.hk →
      keptAwake a 0x80 = false → exec (.tmBankSleep b dt) s = .next (modBank b (fun k => { k with st := .asleep }) a)) ∧
    (b < 4 → (bankOf s b).st = .waking → exec (.tmBankWakeDone b dt) s = .next (modBank b (fun k =>
      { k with st := .awake, emptyFrom := k.emptyFrom.map fun _ => a.hk }) a)) ∧
    (s.tm.since.isSome = true → due s.tm.poolLow a.hk = true → exec (.tmPoolHighClearTimer dt) s =
      .next (clearAlarm 0x8911 0x80 0 [] (a.modTm fun m => { m with poolLow := none })))

/-! ## Protection and integrity (chapter 12) -/

/-- Each protection command that Umcia takes for one unit at once and that passes its checks has its effect and replies, or is
refused with the BAD_STATE that its state gives; the next state is that and no more. PROT_CONFIG and APS_CONFIG of a group the
other port does not have take over the selected words; PROT_STATUS changes no unit, and the times it has no value for are free
(log entry 5); PROT_ENGINE_SWITCH of a port in service, served by its home engine with a spare that can take it over, replies
ACCEPTED and decides the switch-over; PROT_ENGINE_RESTORE of a held engine, or of a degraded LES, replies ACCEPTED and powers it up
or tests it; PROT_SPINDLE_RESTORE of OUT spindles replies ACCEPTED and tests them; APS_COMMAND to a port in a group is the group's
command; PROT_INJECT kinds 0 to 3 and 5 count their faults up, kinds 4 and 6 act at once; PROT_CHECKER writes only a place nothing
uses. -/
def Obligations.ProtectionCommandsRun : Prop :=
  ∀ (c : Cmd) (s : State),
    let r := ready c s
    let p := lpOfT c.target
    let e := engOfT c.target
    let b := s.prot.burn
    let o := (s.aps p).cfg
    let ok (code : Nat) (ws : List Word) (t : State) : Host.Outcome State Fault Refusal := .next (okFrom code c ws t)
    let no (code det : Nat) : Host.Outcome State Fault Refusal := .next (pump (reply code c stBadState det [] r))
    (Runs protConfigOp c s → exec (.protConfig c) s = ok 0x0A01 [w32 (pick c 0 b.enable), w32 (pick c 1 b.period)]
      (burnSchedule (modBurn r fun b => { b with
        enable := pick c 0 b.enable, period := pick c 1 b.period,
        next := if pick c 1 b.period = b.period then b.next else none }))) ∧
    (Runs protStatusOp c s →
      (isLpT c.target = true → exec (.protStatus c) s = ok 0x0A02 ([w32 (engineStatusLp r p), w32 (protStatusWord r p),
        w32 ((s.protPort p).lastMarker + min 0xFFFFFF (s.protPort p).lastGap * 2 ^ 8)] ++ uptimeWords (s.protPort p).lastUp) r) ∧
      (c.target = 0x1A →
        let f : Word × State := match b.next with | some t => (w32 ((t - r.now) / secT 1), r) | none => freeW r
        exec (.protStatus c) s = ok 0x0A02 [w32 (spareStatus r), f.1, w32 b.phaseMm] f.2) ∧
      (c.target = 0x90 →
        let f : Word × State := match s.mate.apsAt with | some t => (w32 ((r.hk - t) / usT 1), r) | none => freeW r
        exec (.protStatus c) s = ok 0x0A02 [w32 (onBit (mateSilent r) 0 + onBit (!isPrimary r) 1), f.1] f.2)) ∧
    (Runs protEngineSwitchOp c s →
      (inService s p = false → exec (.protEngineSwitch c) s = no 0x0A03 0x0102) ∧
      (inService s p = true → tkRuns r = true → exec (.protEngineSwitch c) s = no 0x0A03 0x0101) ∧
      (inService s p = true → tkRuns r = false → servingEng s p = none ∨ servingEng s p = some .les ∨ spareKind s p = none →
        exec (.protEngineSwitch c) s = no 0x0A03 0x0100) ∧
      (∀ k g, inService s p = true → tkRuns r = false → servingEng s p = some g → g ≠ .les → spareKind s p = some k →
        exec (.protEngineSwitch c) s = .next (acceptedFrom 0x0A03 c
          (beginTk p k g .les 7 false (if k = 1 then endBurn 2 r else stopBurn 2 r))))) ∧
    (Runs protEngineRestoreOp c s →
      let x := s.engine e
      let u := r.modProt fun y => { y with restore := some { e, stage := .power } }
      exec (.protEngineRestore c) s = (if (tkRuns r || s.prot.restore.isSome) = true then no 0x0A04 0x0101
        else if (x.held || (e == .les && spareDegraded r)) = false then no 0x0A04 0x0103
        else .next (acceptedFrom 0x0A04 c (if x.st = .cold then
          (if x.move = .none then u.modEngine e fun x => { x with move := .toCool } else u)
          else beginTest (stopBurn 2 u))))) ∧
    (Runs protSpindleRestoreOp c s →
      ((∀ i ∈ spindleMask c, (spnOf s e i).role = 6) → exec (.protSpindleRestore c) s = .next (acceptedFrom 0x0A05 c
        (r.modProt fun x => { x with spindles := x.spindles ++ [(e, spindleMask c)] }))) ∧
      (¬ (∀ i ∈ spindleMask c, (spnOf s e i).role = 6) → exec (.protSpindleRestore c) s = no 0x0A05 0x0104)) ∧
    (Runs apsConfigOp c s →
      let x : ApsCfg := { group := pick c 0 o.group, role := pick c 1 o.role, bidir := pick c 2 o.bidir,
                          revert := pick c 3 o.revert, wtr := pick c 4 o.wtr, holdOff := pick c 5 o.holdOff,
                          sdEn := pick c 6 o.sdEn }
      let u := apsMismatchTimer p ((if x.group = o.group then r else leaveGroup p r).modAps p fun a => { a with cfg := x })
      exec (.apsConfig c) s = (if x.group ≠ 0 ∧ x.group = (s.aps p.other).cfg.group then no 0x0A06 0x0105
        else ok 0x0A06 (apsWords x) (if x.group = 0 then u
          else if x.group = o.group then apsDecide p (apsRefresh p u)
          else apsTake p (u.port p).frame.sf (u.port p).frame.sd u))) ∧
    (Runs apsCommandOp c s →
      (o.group = 0 → exec (.apsCommand c) s = no 0x0A07 0x0106) ∧
      (o.group ≠ 0 →
        let u := apsRefresh p (r.modAps p fun a => { a with command := c.w 3 })
        exec (.apsCommand c) s = ok 0x0A07 [w32 (u.aps p).request, w32 (b01 (u.aps p).prot)] u)) ∧
    (Runs protInjectOp c s →
      (injectValid (c.w 3) (c.w 4) c.target = false → exec (.protInject c) s = no 0x0A08 0x0108) ∧
      (injectValid (c.w 3) (c.w 4) c.target = true → c.w 3 ≠ 4 → c.w 3 ≠ 6 →
        let k := injKey (c.w 3) c.target (if c.w 3 ≤ 3 then c.w 4 else 0)
        exec (.protInject c) s = ok 0x0A08 [w32 (injPending s k + c.w 5)]
          (r.modProt fun x => { x with inject := SMap.set 0 x.inject k (injPending s k + c.w 5) })) ∧
      (injectValid 6 (c.w 4) c.target = true → c.w 3 = 6 → exec (.protInject c) s = .next (pump (ctrAdd (reply 0x0A08 c stOk 0 [0]
        (apsRefresh p (r.modAps p fun a => { a with injSf := some (r.hk + msT (c.w 5)) }))) (sel 0 0 0x0A06) 1))) ∧
      (injectValid 4 (c.w 4) c.target = true → c.w 3 = 4 →
        let u := ctrAdd (reply 0x0A08 c stOk 0 [0] r) (sel 0 0 0x0A06) 1
        exec (.protInject c) s = .next (pump (match servingEng s p with
          | some g => engineFault g 8 true true true u
          | none => u)))) ∧
    (Runs protCheckerOp c s →
      let tgt := if c.w 3 = 1 then bits (c.w 4) 0 8 else 0
      let spn := if c.w 3 = 1 then bits (c.w 4) 8 8 else 0
      let addr := c.w 5 + c.w 6 * 2 ^ 32
      (checkerPlace r (c.w 3) tgt spn addr = true → exec (.protChecker c) s = ok 0x0A09 [w32 (c.w 7), w32 (c.w 8), w32 (c.w 9)]
        (recordWord (c.w 3, tgt, spn, addr, u64Of (c.w 7) (c.w 8), w8 (c.w 9)) r)) ∧
      (checkerPlace r (c.w 3) tgt spn addr = false → exec (.protChecker c) s = no 0x0A09 0x0109)) ∧
    (Runs protCountersOp c s → exec (.protCounters c) s = ok 0x0A0A (ctrWords r c.target 0 (protIds c.target))
      (if bit (c.w 3) 0 then ctrClearAll r c.target 0 (protIds c.target) else r))

/-- While the device runs: a detected engine fault, a shortage of an engine's own spindles, or a missing heartbeat is a cause; a
disagreement of 10 us is SF_DISAGREE; the cut comes 8 cycles after the decision and gives the port to the incoming engine; 80
cycles after a WARM cut that engine's samples reach the converters and the window begins, which ends with the parting marker's
frame; a COOL takeover releases LES, consumes the skipped frames and restarts COUNTER at RESERVED. A restored engine's self-test
returns it or holds it COLD. A due burnishing period starts burnishing where LES stands idle, else it is skipped, and its phases
follow Table 12.4. -/
def Obligations.SwitchoversRun : Prop :=
  ∀ (p : Lp) (e : Eng) (cause skipped dt : Nat) (pass : Bool) (t : Takeover) (s : State), running (advance dt s) = true →
    let a := advance dt s
    let b := s.prot.burn
    (cause = 0 ∨ cause = 1 ∨ cause = 4 ∨ cause = 5 →
      exec (.engineFaultDetected e cause dt) s = .next (pump (engineFault e cause false true true a))) ∧
    (∀ q, (if (s.engine e).serves.isSome then (s.engine e).serves else if e = .les ∧ (s.engine e).burnish = true then none
        else (s.engine e).shadows) = some q →
      availOf (s.engine e) < reachCost (s.port q).mode.granted.reach + 4 →
      exec (.engineFaultDetected e 2 dt) s = .next (pump (engineFault e 2 false true true a))) ∧
    exec (.engineHeartbeatMissing e dt) s = .next (pump (engineFault e 3 false true true a)) ∧
    (due (s.protPort p).disagree a.hk = true → disagrees s p = true → servingEng s p = some e →
      exec (.sfDisagreeTimer p dt) s = .next (pump (engineFault e 6 false true true
        (a.modProtPort p fun x => { x with disagree := none })))) ∧
    ((s.protPort p).tk = some t →
      (t.step = .decided → t.cause = 4 ∨ t.decided + dpT 8 ≤ a.hk → exec (.switchoverCut p dt) s =
        .next (pump (refreshPort p (if t.kind = 2 then cutCool p t (tapEvent p 2 (holdDac p a))
          else cutWarm p t (tapEvent p 2 (holdDac p a)))))) ∧
      (t.step = .gap → t.cut + dpT 80 ≤ a.hk →
        let b := modTk p (fun t => { t with step := .window, marker := (s.port p).frame.txNum, resumed := a.hk })
          (setEngSt t.inn .active a)
        let u := b.modDsp p fun d =>
          if d.spareAcq.st = .idle then d
          else { d with acq := d.spareAcq, spareAcq := {}, recv := d.spareRecv,
                        est := { d.spareEst with updates := d.est.updates } }
        exec (.warmGapEnd p dt) s = .next (pump (refreshPort p
          (if inTrack s p = false ∧ inTrack u p = true then acquireDone p .track u else u)))) ∧
      (t.step = .window → t.windowEnd ≠ 0 → t.windowEnd ≤ a.hk → exec (.dualActiveWindowEnd p dt) s =
        .next (endTk p t 80 false (lpCount (clearOutgoing p (switchOut t
          (a.modEngine t.inn fun x => { x with dualActive := false }))) p 0x0A20 1))) ∧
      (t.step = .hold →
        let b := (modTk p (fun t => { t with step := .released }) (setEngSt t.inn .active a)).modEngine t.inn fun x =>
          { x with startup := some none }
        let u := checkIdle t.inn (replaceRoles t.inn b)
        exec (.coolTakeoverLesReleased p dt) s = .next (if (u.port p).dsp.acq.st = .profileLoad then
          enterAcq p false .freqAcq (loadProfile p false u) else u)) ∧
      (t.step = .released → ∃ u, exec (.coolTakeoverTransmit p skipped dt) s = .next u ∧
        (u.port p).frame.txNum = ((s.port p).frame.txNum + skipped) % 256 ∧ (u.port p).cod.tx.restart = true ∧
        (u.port p).crypto.txCounter =
          (if (s.port p).crypto.tx.isSome then (s.port p).crypto.reserved else (s.port p).crypto.txCounter) ∧
        (u.protPort p).tk = some { t with
          step := .acquiring, marker := ((s.port p).frame.txNum + skipped) % 256, resumed := a.hk } ∧
        u.port p.other = s.port p.other ∧ u.eng = s.eng ∧ u.alarms = s.alarms)) ∧
    (∀ r, s.prot.restore = some r → r.e = e → r.stage = .test → exec (.engineRestoreSelfTestDone e pass dt) s =
      .next (if pass then pump (testPassed e a)
        else pump (finishRestore 2 (setEngSt e .cold (a.modEngine e fun x => { x with move := .gating }))))) ∧
    (due b.next a.now = true →
      let u := modBurn a fun b => { b with next := b.next.map fun t => t + secT b.period }
      let idle := s.eng.les.st == .cool && s.eng.les.move == .none && !s.eng.les.held && spareAvailable u
      exec (.burnishPeriodTimer dt) s = .next (if b.enable = 1 ∧ s.pr.power = .service ∧ idle = true ∧ b.phase = .none ∧
          tkRuns u = false ∧ s.prot.restore = none then pump (startBurn (burnPorts u) u) else u)) ∧
    (b.phaseEnd ≤ a.hk →
      (b.phase = .acquire → exec (.burnishPhaseEnd dt) s = .next (pump (lesToCool (stopBurn 2 a)))) ∧
      (b.phase = .shadow → exec (.burnishPhaseEnd dt) s =
        .next (pump (modBurn (passPhase a) fun b => { b with phase := .loop, phaseEnd := a.hk + msT 20, phaseMm := 0 }))) ∧
      (b.phase = .loop → exec (.burnishPhaseEnd dt) s =
        .next (pump (modBurn (passPhase a) fun b => { b with phase := .leave, phaseEnd := a.hk + usT 10 }))) ∧
      (b.phase = .leave → exec (.burnishPhaseEnd dt) s = .next (pump (burnLeave a))))

/-- While the device runs: a parity error whose word the producer still holds is replayed, unless the last replay on the link is
less than 64 cycles old; any other persists; a good replayed word ends it and a bad one persists; 1 s without one clears
PARITY_PERSIST. A memory error is corrected and counted or handled as uncorrectable; a scrub pass that is due reads the words of
the checker test mode that still stand and handles what it finds. Hold-off, wait-to-restore, mismatch and injected signal fail of
a group run out; the spindles that passed PROT_SPINDLE_RESTORE return to IDLE. -/
def Obligations.IntegrityEventsRun : Prop :=
  ∀ (p : Lp) (e : Eng) (l : ParityLink) (m : MemErr) (ms : List MemErr) (tx bad : Bool) (id tg dt : Nat)
    (passed : List Nat)
    (s : State), running (advance dt s) = true →
    let a := advance dt s
    let key := linkKey l
    (linkRuns a l = true →
      let k := parityInjected a l
      let u := useParity l k a
      let v := match l with | .engine d _ => excludeFrame d u | _ => u
      let last := SMap.get 0 u.prot.lastReplay key
      let d : Bool × Bool := match l with | .engine _ i => if i < 4 then linkDirs l false else (true, true) | _ => (true, true)
      let lost : Host.Outcome State Fault Refusal := .next (pump (parityPersist l (k != 0) d.1 d.2 u))
      (last = 0 ∨ last - 1 + dpT 64 ≤ u.hk →
        exec (.parityErrorDetected l true dt) s = .next (linkCount l 0x0A10 (v.modProt fun x => { x with
          replays := x.replays ++ [(key, u.hk + dpT 8, k)], lastReplay := SMap.set 0 x.lastReplay key (u.hk + 1) }))) ∧
      (last ≠ 0 → u.hk < last - 1 + dpT 64 → exec (.parityErrorDetected l true dt) s = lost) ∧
      exec (.parityErrorDetected l false dt) s = lost) ∧
    (∀ x rest, takeFirst (fun x => x.1 == key && decide (x.2.1 ≤ a.hk)) s.prot.replays = some (x, rest) →
      let u := a.modProt fun x => { x with replays := rest }
      exec (.replayReceived l bad tx dt) s = .next (if bad || x.2.2 == 2 then
        pump (parityPersist l (x.2.2 != 0) (linkDirs l tx).1 (linkDirs l tx).2 u) else u)) ∧
    (due (SMap.get none s.prot.persist tg) a.hk = true → exec (.parityPersistClearTimer tg dt) s =
      .next (pump (clearAlarm 0x8A12 tg 0 [0] (a.modProt fun x => { x with persist := SMap.set none x.persist tg none })))) ∧
    (memUnitOk m.id m.target = true → memRuns s m.id m.target = true →
      exec (.memoryErrorDetected m dt) s = .next (pump (memoryError m a))) ∧
    (∀ t, scrubPeriod id = some t → memUnitOk id tg = true → memRuns s id tg = true →
      SMap.get 0 s.prot.scrubs (id * 256 + tg) = 0 ∨ SMap.get 0 s.prot.scrubs (id * 256 + tg) - 1 + t ≤ a.hk →
      let u := (s.prot.checker.filter fun w => w.1 == id && w.2.1 == tg && stands a w).foldl (fun s w => checkerRead w s) a
      let v := (ms.filter fun m => m.id == id && m.target == tg).foldl (fun s m => memoryError m s) u
      exec (.scrubPass id tg ms dt) s = .next (pump (v.modProt fun x => { x with
        scrubs := SMap.set 0 x.scrubs (id * 256 + tg) (v.hk + 1) }))) ∧
    (exec (.apsHoldOffExpiry p dt) s = .next (pump (apsExpire p (s.port p).frame.sf (s.port p).frame.sd a))) ∧
    (due (s.aps p).wtr a.now = true → exec (.apsWtrExpiry p dt) s =
      .next (pump (apsRefresh p (a.modAps p fun x => { x with wtr := none })))) ∧
    (due (s.aps p).mismatch a.hk = true → exec (.apsMismatchTimer p dt) s = .next (pump (apsDecide p
      (alarmIf (apsDisagrees (s.aps p)) 0x8A14 (lpT p) 0 [] (a.modAps p fun x => { x with mismatch := none }))))) ∧
    (due (s.aps p).injSf a.hk = true → exec (.injectedApsSfExpiry p dt) s =
      .next (pump (apsRefresh p (a.modAps p fun x => { x with injSf := none })))) ∧
    (∀ x rest, takeFirst (fun x => x.1 == e) s.prot.spindles = some (x, rest) →
      let back := x.2.filter fun i => passed.contains i && (spnOf s e i).role == 6
      let u := back.foldl (spindleBack e) (a.modProt fun x => { x with spindles := rest })
      exec (.protSpindleRestoreDone e passed dt) s = .next (pump (completeUnit 0x0A05 (engT e) stOk 0 (spindleWords back)
        (if back.isEmpty then u else checkIdle e (askResolve 2 u)))))

/-! ## Mate link (chapter 13) -/

/-- Each mate-range command that Umcia takes at once and that passes its checks has its effect and replies, or is refused with the
BAD_STATE that its state gives; the next state is that and no more. MATE_CONFIG takes over the selected
words, and a changed ENABLE takes effect; MATE_STATUS and MATE_MIRROR_READ change nothing, but
that a record not held reads free values (log entry 5); MATE_RETRAIN of a link that is not
DISABLED replies ACCEPTED and trains, on a DISABLED link it is refused with BAD_STATE 0x0101 and over the mate port with 0x0102;
MATE_WAKE_PEER while MATE_DOWN is raised replies ACCEPTED and sends the wake sequence, otherwise it is refused with BAD_STATE
0x0100, and on a DISABLED link with 0x0101. -/
def Obligations.MateCommandsRun : Prop :=
  ∀ (c : Cmd) (s : State),
    let r := ready c s
    let m := s.mate
    let ok (code : Nat) (ws : List Word) (t : State) : Host.Outcome State Fault Refusal := .next (okFrom code c ws t)
    let no (code det : Nat) : Host.Outcome State Fault Refusal := .next (pump (reply code c stBadState det [] r))
    (Runs mateConfigOp c s →
      let en := pick c 0 m.enable
      let sl := pick c 2 m.rxSleep
      let u := r.modMate fun m => { m with
        enable := en, rateMax := pick c 1 m.rateMax, rxSleep := sl, retries := pick c 3 m.retries,
        asleep := m.asleep && sl == 1 }
      exec (.mateConfig c) s = ok 0x0B01 [w32 en, w32 (pick c 1 m.rateMax), w32 sl, w32 (pick c 3 m.retries)]
        (if en = m.enable then u else mateEnable en u)) ∧
    (Runs mateStatusOp c s → exec (.mateStatus c) s = ok 0x0B02 (mateStatusWords r) r) ∧
    (Runs mateRetrainOp c s →
      (m.st = .disabled → exec (.mateRetrain c) s = no 0x0B03 0x0101) ∧
      (m.st ≠ .disabled → c.port = .mate → exec (.mateRetrain c) s = no 0x0B03 0x0102) ∧
      (m.st ≠ .disabled → c.port ≠ .mate → exec (.mateRetrain c) s = .next (acceptedFrom 0x0B03 c (startTraining r)))) ∧
    (Runs mateWakePeerOp c s →
      (mateSilent s = false → exec (.mateWakePeer c) s = no 0x0B04 0x0100) ∧
      (mateSilent s = true → m.st = .disabled → exec (.mateWakePeer c) s = no 0x0B04 0x0101) ∧
      (mateSilent s = true → m.st ≠ .disabled → exec (.mateWakePeer c) s = .next (acceptedFrom 0x0B04 c
        (mateCount 0x0B0A 1 (r.modMate fun m => { m with wakePeer := some (r.hk + usT 400 + msT 10) }))))) ∧
    (Runs mateMirrorReadOp c s →
      let own := heldRecord ((groupPort s (c.w 3)).map (mirrorRecord s)) r
      let mate := heldRecord (mateRecord s (c.w 3)) own.2
      exec (.mateMirrorRead c) s = ok 0x0B05 (own.1 ++ mate.1 ++
        [w32 (onBit (mateRecord s (c.w 3)).isSome 0 + onBit (raised s 0x8B13 0x90 (c.w 3)) 1)]) mate.2) ∧
    (Runs mateCountersOp c s → exec (.mateCounters c) s = ok 0x0B06 (ctrWords r c.target 0 (idRange 0x0B01 0x0B0A))
      (if bit (c.w 3) 0 then ctrClearAll r c.target 0 (idRange 0x0B01 0x0B0A) else r))

/-- While the device runs: an awake receiver takes the first candidate, in one symbol time the stronger one, and a later one 6 dB
stronger in its place; a candidate without SFD is abandoned after 160 symbols; a burst with a bad CRC counts in BURST_CRC_ERR and
changes no sequence, a good one counts in BURSTS_RX, ends the silence unless it is a GOODBYE, and is taken by the state of the
link. A training phase ends by Table 13.7, an attempt times out, a backoff starts the next, RESUME times out into TRAINING; 300 us
of silence is MATE_DOWN; HEARTBEATs, acknowledgements and retries go out when due; incomplete packets and a wake that no one
answers are given up; mirror records are sent and compared; a sleeping receiver wakes for a HEARTBEAT or a wake lead and goes back
to sleep; the primary announces the next lower rate while the margin is poor. -/
def Obligations.MateEventsRun : Prop :=
  ∀ (rate g dt : Nat) (xs : List Int) (p : Lp) (b : RxBurst) (f : TrainFinds) (s : State), running (advance dt s) = true →
    let a := advance dt s
    let m := s.mate
    let rec_ := mirrorRecord s p
    let c := (preambleCorr xs).toNat
    let beat := pumpMate 8 (applyRate (sendHeartbeat false
      (a.modMate fun m => { m with heartbeat := m.heartbeat.map fun t => t + usT 100 })))
    (mateHears a = true → rate ≤ 2 → isCandidate xs = true →
      let take := a.modMate fun m => { m with cand := some (rate, c, a.hk) }
      (m.cand = none → exec (.mateCandidate rate xs dt) s = .next take) ∧
      ∀ r0 c0 t0, m.cand = some (r0, c0, t0) → exec (.mateCandidate rate xs dt) s = .next (
        if 7 * t0 / 192 = 7 * a.hk / 192 then (if c0 < c ∨ (c0 = c ∧ r0 < rate) then take else a)
        else if above6dB c c0 = true then mateCount 0x0B05 1 take else a)) ∧
    (∀ r0 c0 t0, m.cand = some (r0, c0, t0) → 160 * 192 ≤ (a.hk - t0) * (7 * 2 ^ r0) →
      exec (.mateSfdTimeout dt) s = .next (mateCount 0x0B04 1 (a.modMate fun m => { m with cand := none }))) ∧
    (∀ c0 t0, m.cand = some (b.rate, c0, t0) → mateHears a = true →
      let bs := burstBack b.syms
      (sfdFound b.sfd = false → exec (.mateBurstReceived b dt) s = .next a) ∧
      (sfdFound b.sfd = true → burstGood bs = false → ∃ t, exec (.mateBurstReceived b dt) s = .next t ∧ t.mate.cand = none ∧
        t.mate.st = m.st ∧ t.mate.rxSeq = m.rxSeq ∧ t.mate.lastGood = m.lastGood ∧ t.lp = s.lp ∧ t.eng = s.eng ∧
        t.host.rxq = s.host.rxq) ∧
      (sfdFound b.sfd = true → burstGood bs = true →
        let u := mateCount 0x0B02 1 ((judgeLink b.margin true (a.modMate fun m =>
          { m with cand := none, listenEnd := none })).modMate fun m => { m with lastGood := some a.hk })
        let v := if (bs.getD 0 0).toNat = 5 then u else mateBack u
        let w := if v.mate.st = .training then takeTraining b.rate bs v else takeBurst bs v
        exec (.mateBurstReceived b dt) s = .next (pump (w.modMate fun m => { m with
          asleep := m.rxSleep == 1 && m.st == .up && m.expect.isSome && !keptAwake w 0x90 })))) ∧
    (m.attempt.isSome = true → exec (.mateTrainPhaseEnd f dt) s = .next (pump (trainPhaseEnd f a))) ∧
    (∀ t, m.attempt = some t → t + msT 50 ≤ a.hk → exec (.mateTrainAttemptTimeout dt) s = .next (pump (failTraining 0 a))) ∧
    (due m.backoff a.hk = true → m.st = .training → exec (.mateTrainBackoffExpiry dt) s = .next (pump (startTraining a))) ∧
    (∀ t, m.resumeFrom = some t → m.st = .resume → t + msT 50 ≤ a.hk →
      exec (.mateResumeTimeout dt) s = .next (pump (startTraining a))) ∧
    (m.lastGood = none ∨ (∃ t, m.lastGood = some t ∧ t + usT 300 ≤ a.hk) →
      exec (.mateSilenceTimeout dt) s = .next (pump (if (mateDown a).mate.st = .up then toResume (mateDown a) else mateDown a)) ∧
      (m.st = .up → ∃ u, exec (.mateSilenceTimeout dt) s = .next u ∧
        u.mate.st = .resume ∧ u.mate.resumeFrom = some a.hk ∧ raised u 0x8B10 0x90 0 = true)) ∧
    (due m.heartbeat a.hk = true → m.phase = .confirm ∨ linkTalks s = true →
      exec (.mateHeartbeatTimer dt) s = .next beat) ∧
    (due m.ackDue a.hk = true → linkTalks s = true →
      exec (.mateAckOnlyTimer dt) s = .next (applyRate (sendHeartbeat true a))) ∧
    (∀ u, m.unacked.find? (fun u => decide (u.at_ + usT 20 ≤ a.hk)) = some u → m.st = .up →
      exec (.mateRetransmitTimer dt) s = .next (resend u a)) ∧
    (let late (j : Join) : Bool := decide (j.from_ + msT 10 ≤ a.hk)
     exec (.mateSegmentTimeout dt) s = .next (mateCount 0x0B07 (m.joins.filter late).length
       (a.modMate fun m => { m with joins := m.joins.filter fun j => !late j }))) ∧
    (due m.wakePeer a.hk = true → exec (.mateWakePeerTimeout dt) s =
      .next (pump (completeAll 0x0B04 0x90 stOk 0 [1] (a.modMate fun m => { m with wakePeer := none })))) ∧
    ((s.aps p).cfg.group ≠ 0 →
      let last := match p with | .lp0 => m.sentMirror.lp0 | .lp1 => m.sentMirror.lp1
      last = none ∨ (∃ o t, last = some (o, t) ∧ (o ≠ rec_ ∨ t + secT 1 ≤ a.hk)) →
      (m.st ≠ .up → exec (.mateMirrorTimer p dt) s = .next (mirrorTimer (s.aps p).cfg.group a)) ∧
      (m.st = .up → exec (.mateMirrorTimer p dt) s = .next (pumpMate 8 ((mirrorTimer (s.aps p).cfg.group a).modMate fun m =>
        { m with
          sentMirror := match p with
            | .lp0 => { m.sentMirror with lp0 := some (rec_, a.hk) }
            | .lp1 => { m.sentMirror with lp1 := some (rec_, a.hk) }
          queue := m.queue ++ [⟨4, (rec_.map wordBytesBE).flatten, a.hk⟩] })))) ∧
    (due (SMap.get none m.mirror g) a.hk = true → exec (.mirrorMismatchTimer g dt) s =
      .next (pump (alarmIf (mirrorDiffers s g) 0x8B13 0x90 g [w32 g] (a.modMate fun m =>
        { m with mirror := SMap.set none m.mirror g none })))) ∧
    (∀ t, m.expect = some t → m.asleep = true → t ≤ a.hk + usT 2 → exec (.mateRxWakeTimer dt) s =
      .next (a.modMate fun m => { m with asleep := false, listenEnd := some (t + usT 5) })) ∧
    (due m.listenEnd a.hk = true → m.st = .up → m.rxSleep = 1 → exec (.mateRxListenTimeout dt) s =
      .next (a.modMate fun m => { m with
        asleep := !keptAwake a 0x90, listenEnd := none,
        expect := m.expect.map fun t => if t ≤ a.hk then t + usT 100 else t })) ∧
    (m.asleep = true → exec (.mateWakeLeadDetected dt) s =
      .next (a.modMate fun m => { m with asleep := false, listenEnd := some (a.hk + usT 5) })) ∧
    (m.st = .up →
      let low := match m.lowFrom with | some t => decide (t + msT 10 ≤ a.hk) | none => false
      let poor := m.poor || low
      exec (.mateRateDown dt) s = .next (
        if isPrimary s = true ∧ 0 < m.rate ∧ m.nextRate = none ∧ (poor = true ∨ m.partnerMargin = 0) then
          a.modMate fun x => { x with poor, nextRate := some (m.rate - 1), rateSent := false, rateSeen := false }
        else a.modMate fun x => { x with poor }))

/-! ## References and clocks (chapter 14) -/

/-- Each clock-range command that Umcia takes at once and that passes its checks has its effect and replies OK with its results, or
is refused with the BAD_STATE that its state gives; the next state is that and no more. CLK_CONFIG (whose REQUAL the checks hold
5 below DISQ), CLK_CAND_CONFIG, CLK_OUT_CONFIG and PPS_CONFIG take over the selected words and keep the others; CLK_STATUS changes
no unit, and what has no value is free (log entry 5); CLK_SELECT of a selectable candidate, of AUTO, or of HOLDOVER with 10 steady
windows or in HOLDOVER takes effect, or waits for the switch in progress; CLK_COUNTERS clears only when told. -/
def Obligations.ClockCommandsRun : Prop :=
  ∀ (c : Cmd) (s : State),
    let r := ready c s
    let k := s.clk
    let ok (code : Nat) (ws : List Word) (t : State) : Host.Outcome State Fault Refusal := .next (okFrom code c ws t)
    let no (code det : Nat) : Host.Outcome State Fault Refusal := .next (pump (reply code c stBadState det [] r))
    (Runs clkConfigOp c s →
      let x : ClkCfg := { revertive := pick c 0 k.cfg.revertive, wtr := pick c 1 k.cfg.wtr, bw := pick c 2 k.cfg.bw,
                          pull := pick c 3 k.cfg.pull, disq := pick c 4 k.cfg.disq, requal := pick c 5 k.cfg.requal,
                          disagree := pick c 6 k.cfg.disagree, limit := pick c 7 k.cfg.limit, grade := pick c 8 k.cfg.grade,
                          aging := pick c 9 k.cfg.aging, temp := pick c 10 k.cfg.temp }
      x.requal + 5 ≤ x.disq ∧ exec (.clkConfig c) s = ok 0x0C01 (0 :: clkCfgWords x)
        (reselect 3 (checkBudget (r.modClk fun u => { u with cfg := x, budget := budgetOf x u.freezeErr })))) ∧
    (Runs clkCandConfigOp c s →
      let o := cand s (c.w 4)
      let n := { o with prio := pick5 c 0 o.prio, freq := pick5 c 1 o.freq }
      let n := if o.prio = 0 ∧ n.prio ≠ 0 then { n with qual := false, windows := [], part := true, wtr := none } else n
      exec (.clkCandConfig c) s = ok 0x0C02 [0, 0, w32 n.prio, w32 n.freq] (reselect 3 (clkAlarms (setCand (c.w 4) n r)))) ∧
    (Runs clkStatusOp c s →
      let h := clkStatusHead r
      let f := freeWs 5 h.2
      let times := match k.budget with | some t => uptimeWords t | none => [0xFFFFFFFF, 0xFFFFFFFF]
      let avg := (List.range 8).foldl (fun (x : List Word × State) i =>
        (x.1 ++ [(candAvg (cand x.2 i) x.2).1], (candAvg (cand x.2 i) x.2).2)) ([], f.2)
      exec (.clkStatus c) s = ok 0x0C03 (h.1 ++ (if k.st = .holdover then uptimeWords (holdElapsed r) ++ times else f.1.take 4) ++
        [if k.selected.isSome then sat32 k.phase else f.1.getD 4 0] ++
        (List.range 8).map (fun i => w32 (candBits r (cand s i))) ++ avg.1) avg.2) ∧
    (Runs clkSelectOp c s →
      let m : ClkMode := if c.w 3 = 0 then .auto else if c.w 3 = 1 then .manual (c.w 4) else .holdover
      let u := if k.switching.isSome then r.modClk fun k => { k with modeNext := some m } else applySelect m r
      exec (.clkSelect c) s = (if c.w 3 = 1 ∧ selectable (cand s (c.w 4)) = false then no 0x0C04 0x0100
        else if c.w 3 = 2 ∧ k.st ≠ .holdover ∧ (steadyWindows k).length < 10 then no 0x0C04 0x0101
        else ok 0x0C04 [w32 (clkModeNum u.clk.mode), w32 (candNum u.clk.selected)] u)) ∧
    (Runs clkOutConfigOp c s →
      let o := k.outs.getD (c.w 4) {}
      let n : ClkOut := { enable := pick5 c 0 o.enable, source := pick5 c 1 o.source, freq := pick5 c 2 o.freq,
                          squelch := pick5 c 3 o.squelch }
      exec (.clkOutConfig c) s = ok 0x0C05
        [0, 0, w32 n.enable, w32 n.source, w32 n.freq, w32 n.squelch, w32 (b01 (squelched s n))]
        (r.modClk fun k => { k with outs := k.outs.set (c.w 4) n })) ∧
    (Runs ppsConfigOp c s →
      let n : PpsCfg := { inEn := pick c 0 k.pps.inEn, edge := pick c 1 k.pps.edge, outEn := pick c 2 k.pps.outEn,
                          offset := pick c 3 k.pps.offset, width := pick c 4 k.pps.width }
      let u := r.modClk fun k => { k with pps := n }
      let u := if n.inEn = 0 ∨ n.edge ≠ k.pps.edge then ppsAbsent u else u
      let u := if n.inEn = 0 then clearAlarm 0x8C15 0xA0 0 [] u else u
      exec (.ppsConfig c) s = ok 0x0C06 ([0, n.inEn, n.edge, n.outEn, n.offset, n.width].map w32)
        (if n.outEn = 0 then u.modClk fun k => { k with riseAt := none, fallAt := none, ppsOut := false } else u)) ∧
    (Runs clkCountersOp c s → exec (.clkCounters c) s = ok 0x0C07 (ctrWords r c.target 0 (idRange 0x0C01 0x0C07))
      (if bit (c.w 3) 0 then ctrClearAll r c.target 0 (idRange 0x0C01 0x0C07) else r))

/-- While the device runs: a candidate whose source delivers becomes valid and starts disqualified with no windows; one whose source
does not becomes invalid, is disqualified, and the selection is made again; a window moves the windows on and the next is due 1 s
later; a finished WTR makes the selection again; a switch completes, and a CLK_SELECT that waited takes effect; lock is reached
within 10 ppb, with a free cause word (log entry 5); and a spent holdover budget is HOLDOVER_EXPIRED. A PPS_IN edge of the
configured polarity within 1 s and 100 us of the last is accepted, one after a search that saw none in that time begins it anew,
another counts as rejected, none for longer is absence. PPS_OUT rises and falls at its times. A due tick is a boundary unless a
new source's tick comes within 500 ms of the last; in HOLDOVER it counts. -/
def Obligations.ClockEventsRun : Prop :=
  ∀ (i cause w dt : Nat) (oe : Option Nat) (phase cleaned diff : Int) (offs : List Int) (m : SecMeas) (s : State),
    running (advance dt s) = true →
    let a := advance dt s
    let k := s.clk
    let x := cand s i
    let rises : Bool := k.pps.edge == 0
    (i < 8 → x.valid = false → delivering a i oe = true → exec (.refCandidateValid ⟨i, oe⟩ dt) s = .next (pump (setCand i
      { x with valid := true, qual := false, windows := [], part := true, wtr := none } a))) ∧
    (i < 8 → x.valid = true → delivering a i oe = false → exec (.refCandidateInvalid ⟨i, oe⟩ dt) s = .next (pump (reselect 0
      (setCand i { x with valid := false, qual := false, windows := [], wtr := none } (ctrAdd a (sel 0xA0 0 0x0C05) 1))))) ∧
    (due k.windowAt a.now = true → ∃ t, exec (.qualificationWindowEnd offs cleaned phase dt) s = .next t ∧
      t.clk.windowAt = k.windowAt.map (· + secT 1) ∧ t.clk.lastOff = some cleaned ∧
      t.clk.history = (if k.st = .acquiring ∨ k.st = .locked then (cleaned :: k.history).take 68 else k.history) ∧
      t.clk.selected = k.selected ∧ t.clk.st = k.st ∧ t.lp = s.lp ∧ t.eng = s.eng) ∧
    (i < 8 → due x.wtr a.hk = true → exec (.clkWtrExpiry i dt) s = .next (pump (reselect 2 (setCand i { x with wtr := none } a)))) ∧
    (k.switching = some cause →
      let u := performSwitch (w32 cause) phase a
      exec (.clkSwitchComplete phase dt) s = .next (pump (match u.clk.modeNext with
        | some m => applySelect m (u.modClk fun k => { k with modeNext := none })
        | none => u))) ∧
    (k.st = .acquiring → k.switching = none → diff.natAbs ≤ 100 → exec (.clkLockedReached ⟨diff, dt⟩) s = .next (pump (setClk .locked
      k.selected (Config.freeWord s.freeCtr) { a with freeCtr := s.freeCtr + 1 }))) ∧
    (budgetSpent a = true → exec (.holdoverTimerExpiry dt) s = .next (pump (raiseAlarm 0x8C11 0xA0 0 [] a))) ∧
    (k.pps.inEn = 1 → 100 ≤ w →
      (k.lastEdge = none → exec (.ppsInEdge rises w dt) s = .next (pump (ppsAccept a))) ∧
      ∀ t, k.lastEdge = some t →
        (within (a.now - t) (secT 1 - usT 100) (secT 1 + usT 100) = true →
          exec (.ppsInEdge rises w dt) s = .next (pump (ppsAccept a))) ∧
        (within (a.now - t) (secT 1 - usT 100) (secT 1 + usT 100) = false → exec (.ppsInEdge rises w dt) s = .next (pump
          (if k.present = false ∧ secT 1 + usT 100 < a.now - t then ppsAccept (a.modClk fun k => { k with run := 0 })
          else ctrAdd a (sel 0xA0 0 0x0C06) 1)))) ∧
    (∀ t, k.present = true → k.lastEdge = some t → t + (secT 1 + usT 100) ≤ a.now →
      exec (.ppsInAbsentTimeout dt) s = .next (pump (ppsAbsent a))) ∧
    (k.pps.outEn = 1 → k.ppsOut = false → due k.riseAt a.now = true → exec (.ppsOutPulse dt) s = .next (a.modClk fun k =>
      { k with ppsOut := true, riseAt := none, fallAt := k.riseAt.map (· + usT k.pps.width) })) ∧
    (k.ppsOut = true → due k.fallAt a.now = true → exec (.ppsOutPulse dt) s =
      .next (a.modClk fun k => { k with ppsOut := false, fallAt := none })) ∧
    (∀ t, k.nextTick = some t → t ≤ a.now →
      let b := if k.st = .holdover then ctrAdd a (sel 0xA0 0 0x0C03) 1 else a
      let early := k.changed && match k.lastTick with | some l => decide (t < l + msT 500) | none => false
      let u := if early = true then b else boundary t m b
      exec (.oneSecondTick m dt) s = .next (pump (u.modClk fun k => { k with
        nextTick := if k.present then none else some (t + secT 1),
        riseAt := if running u && k.pps.outEn == 1 then some (t + nsT k.pps.offset) else none })))


/-! ## Monitor converters and bias (chapter 15) -/

/-- Each monitor command that Umcia takes at once has its effect and replies OK with its results; all else stays. The
configuration commands take over the selected words and keep the others, for a converter that is not loop-owned (and, for its
sequence, does not run: else BAD_STATE 0x0102); a changed chain starts anew. MON_CONTROL stops, starts or injects;
MON_DECIM_RESET resets every chain; MON_CALIBRATE and MON_BUF_DMA over PCIe reply ACCEPTED, and an empty CONV_MASK completes
behind its reply; the DMA on another port is refused with 0x0103; MON_INJ_READ makes the results not fresh; MON_BUF_CONFIG, which
passes its checks with regions of at most 1,024 KiB alone, takes them while no converter runs, else BAD_STATE 0x0100;
MON_BUF_READ consumes only when told; for a loop-owned MC3 the sequence, injected, chain, control and calibration commands are
refused with BAD_STATE 0x0101. -/
def Obligations.MonitorCommandsRun : Prop :=
  ∀ (c : Cmd) (s : State),
    let r := ready c s
    let i := c.w 4
    let k := conv s i
    let ok (code : Nat) (ws : List Word) (t : State) : Host.Outcome State Fault Refusal := .next (okFrom code c ws t)
    let bad (code det : Nat) : Host.Outcome State Fault Refusal := .next (pump (reply code c stBadState det [] r))
    let no (code : Nat) := bad code 0x0101
    let chosen := convs4.filter fun i => bit (c.w 3) i
    (Runs monChanConfigOp c s →
      let o := monChan s i
      exec (.monChanConfig c) s = ok 0x0D01 [0, 0, w32 (pick5 c 0 o.diff), w32 (pick5 c 1 o.lo), w32 (pick5 c 2 o.hi)]
        (modChan i (fun _ => { o with diff := pick5 c 0 o.diff, lo := pick5 c 1 o.lo, hi := pick5 c 2 o.hi }) r)) ∧
    (Runs monSeqConfigOp c s →
      let es := pickEntries c 5 k.entries
      (isOwned s i = true → exec (.monSeqConfig c) s = no 0x0D02) ∧
      (isOwned s i = false → k.running = true → exec (.monSeqConfig c) s = bad 0x0D02 0x0102) ∧
      (isOwned s i = false → k.running = false → exec (.monSeqConfig c) s = ok 0x0D02
        ([0, 0, w32 (pick5 c 0 k.align), w32 (pick5 c 1 k.pdMode), w32 (pick5 c 2 k.trigger), w32 (pick5 c 3 k.period),
          w32 (pick5 c 4 k.count)] ++ es.map entryWord)
        (modConv i (fun _ => { k with
          align := pick5 c 0 k.align, pdMode := pick5 c 1 k.pdMode, trigger := pick5 c 2 k.trigger,
          period := pick5 c 3 k.period, count := pick5 c 4 k.count, entries := es }) r))) ∧
    (Runs monInjConfigOp c s →
      let es := pickEntries c 3 k.injEntries
      let p := pick5 c 1 k.injPeriod
      (isOwned s i = true → exec (.monInjConfig c) s = no 0x0D03) ∧
      (isOwned s i = false → exec (.monInjConfig c) s = ok 0x0D03
        ([0, 0, w32 (pick5 c 0 k.injTrigger), w32 p, w32 (pick5 c 2 k.injCount)] ++ es.map entryWord ++
          [w32 (pick5 c 7 k.injEvent)])
        (modConv i (fun _ => { k with
          injTrigger := pick5 c 0 k.injTrigger, injPeriod := p, injCount := pick5 c 2 k.injCount, injEntries := es,
          injEvent := pick5 c 7 k.injEvent,
          injAt := if bit (c.w 3) 0 || bit (c.w 3) 1 then r.hk + hkT p else k.injAt }) r))) ∧
    (Runs monDecimConfigOp c s →
      let n := { k with stages := pick5 c 0 k.stages, resp := pick5 c 1 k.resp, shift := pick5 c 2 k.shift,
                        fir := pick5 c 3 k.fir, firDecim := pick5 c 4 k.firDecim }
      let ws := [0, 0, n.stages, n.resp, n.shift, n.fir, n.firDecim, 2 ^ n.stages * n.firDecim].map w32
      (isOwned s i = true → exec (.monDecimConfig c) s = no 0x0D04) ∧
      (isOwned s i = false → n = k → exec (.monDecimConfig c) s = ok 0x0D04 ws (modConv i (fun _ => n) r)) ∧
      (isOwned s i = false → n ≠ k → exec (.monDecimConfig c) s = ok 0x0D04 ws
        (modConv i (fun _ => { n with streams := List.replicate 16 {} }) r))) ∧
    (Runs monControlOp c s →
      (s.mon.owned = true → bit (c.w 3) 3 = true → exec (.monControl c) s = no 0x0D05) ∧
      ((s.mon.owned && bit (c.w 3) 3) = false →
        let u := chosen.foldl (fun s i => if c.w 4 = 0 then monStop i s else if c.w 4 = 1 then monStart i s
          else if (conv s i).injTrigger = 0 then trigInject i s.hk s else s) r
        exec (.monControl c) s = ok 0x0D05 [w32 (runningMask u)] u)) ∧
    (Runs monDecimResetOp c s → exec (.monDecimReset c) s = ok 0x0D06 (uptimeWords (uptime r)) (decimReset r)) ∧
    (Runs monCalibrateOp c s →
      (s.mon.owned = true → bit (c.w 3) 3 = true → exec (.monCalibrate c) s = no 0x0D07) ∧
      ((s.mon.owned && bit (c.w 3) 3) = false →
        let v := chosen.foldl (fun s i =>
          let u := modConv i (fun k => { k with calAsked := true }) s
          if (conv u i).act = .idle then freeUp i u.hk u else u)
          (r.modMon fun m => { m with cals := m.cals ++ [(c.w 3, c.w 3)] })
        let u := reply 0x0D07 c stAccepted 0 [] (v.modHost fun h => { h with deferred := h.deferred ++
          [{ port := c.port, code := 0x0D07, tag := c.tag, multi := false,
             entries := [{ target := c.target, settled := false, status := stOk, detail := 0, words := [] }] }] })
        exec (.monCalibrate c) s = .next (pump (finishCals u.mon.cals.length u)))) ∧
    (Runs monInjReadOp c s →
      let k := conv s (c.w 3)
      exec (.monInjRead c) s = ok 0x0D08 (k.injResults ++ [w32 (k.fresh % 16 + onBit k.injPending 4)])
        (modConv (c.w 3) (fun k => { k with fresh := 0 }) r)) ∧
    (Runs monBufConfigOp c s →
      let size (j : Nat) : Nat := pick5 c j (conv s j).region
      let w := pick5 c 4 s.mon.watermark
      size 0 + size 1 + size 2 + size 3 ≤ 1024 ∧
      (runningMask s ≠ 0 → exec (.monBufConfig c) s = bad 0x0D09 0x0100) ∧
      (runningMask s = 0 → ∃ t, exec (.monBufConfig c) s = ok 0x0D09
        [0, 0, w32 (size 0), w32 (size 1), w32 (size 2), w32 (size 3), w32 w, w32 (pick5 c 5 s.mon.overrun),
          w32 (pick5 c 6 s.mon.groupPeriod)] t ∧
        t.mon.watermark = w ∧ t.mon.overrun = pick5 c 5 s.mon.overrun ∧ t.mon.groupPeriod = pick5 c 6 s.mon.groupPeriod ∧
        t = { r with mon := t.mon })) ∧
    (Runs monBufReadOp c s →
      exec (.monBufRead c) s = ok 0x0D0A (w32 (conv s (c.w 3)).unread :: unreadWords (conv s (c.w 3)) i)
        (if bit (c.w 5) 0 then consume (c.w 3) i r else r)) ∧
    (Runs monBufDmaOp c s →
      (c.port ≠ .pcie → exec (.monBufDma c) s = bad 0x0D0B 0x0103) ∧
      (c.port = .pcie → exec (.monBufDma c) s = .next (acceptedFrom 0x0D0B c
        (r.modMon fun m => { m with dma := m.dma ++ [(c.w 3, c.w 4 + c.w 5 * 2 ^ 32, c.w 6)] })))) ∧
    (Runs monStatusOp c s → ∃ ws, ws.length = 9 ∧ ws.drop 1 = ([0, 1, 2, 3].map fun i => w32 (conv s i).unread) ++
        ([0, 1, 2, 3].map fun i => w32 (conv s i).write) ∧
      exec (.monStatus c) s = ok 0x0D0C ws r) ∧
    (Runs monCountersOp c s →
      exec (.monCounters c) s = ok 0x0D0F ((monCtrs c.target).flatMap fun x => lohi (ctr r (sel c.target x.1 x.2)))
        (if bit (c.w 3) 0 then (monCtrs c.target).foldl (fun s x => ctrClear s (sel c.target x.1 x.2)) r else r))

/-- While the device runs: a due timer trigger of a converter starts its round at the trigger, 300 cycles later if the converter
was powered down, and is due again a period later; the group timer triggers the GROUP members; an injected trigger due in the
same cycle goes first; a due INJ_PERIOD triggers the injected sequence, and while one waits it counts as an overrun. The end of a
regular conversion hands its code on and frees the converter for what is due; that of an injected one stores its result and
starts the next entry, or ends the sequence. A calibration within 256 LSB and 2 % gives the new correction, another keeps the
old one and raises MON_CAL_FAIL. A finished DMA puts the oldest unread words in host memory, consumes them and completes its
command. -/
def Obligations.MonitorEventsRun : Prop :=
  ∀ (i code dt : Nat) (offset gain : Int) (s : State), running (advance dt s) = true →
    let a := advance dt s
    let k := conv s i
    (i < 4 → k.running = true → k.trigger = 1 → isOwned s i = false → k.timerAt ≤ a.hk →
      let w := injFirst k.timerAt a i
      let v := modConv i (fun k => { k with timerAt := k.timerAt + hkT k.period }) w
      (monAsleep w i = false → exec (.monRegularTrigger (.timer i) dt) s = .next (trigRound i k.timerAt v)) ∧
      (monAsleep w i = true → exec (.monRegularTrigger (.timer i) dt) s = .next (trigRound i (k.timerAt + hkT 300) v))) ∧
    ((∃ j, j ∈ convs4 ∧ (conv s j).running = true ∧ (conv s j).trigger = 3) → s.mon.groupAt ≤ a.hk →
      let w := (convs4.filter fun i => (conv s i).running && (conv s i).trigger == 3).foldl (injFirst s.mon.groupAt) a
      exec (.monRegularTrigger .group dt) s = .next (trigGroup 3 w.mon.groupAt
        (w.modMon fun m => { m with groupAt := m.groupAt + hkT m.groupPeriod }))) ∧
    (i < 4 → k.injTrigger = 1 → isOwned s i = false → k.injAt ≤ a.hk →
      let v := modConv i (fun k => { k with injAt := k.injAt + hkT k.injPeriod }) a
      (k.injPending = true → s.mon.convs.length = 4 →
        exec (.monInjTrigger i dt) s = .next (ctrAdd v (sel 0xB0 i 0x0D03) 1)) ∧
      (k.injPending = false → exec (.monInjTrigger i dt) s = .next (trigInject i k.injAt v))) ∧
    (∀ j, i < 4 → k.actEnd ≤ a.hk → k.act = .regular j →
      exec (.monConversionDone i code dt) s = .next (pump (freeUp i k.actEnd (regularDone i j code a)))) ∧
    (∀ j, i < 4 → k.actEnd ≤ a.hk → k.act = .injected j →
      let v := injectedDone i j code a
      ((conv v i).act ≠ .idle → exec (.monConversionDone i code dt) s = .next (pump v)) ∧
      ((conv v i).act = .idle → exec (.monConversionDone i code dt) s = .next (pump (freeUp i k.actEnd v)))) ∧
    (i < 4 → k.act = .calibrating →
      let more (u : State) : State :=
        let u := u.modMon fun m => { m with cals := tickCal i m.cals }
        let u := if u.mon.cals.any (fun x => bit x.2 i) then modConv i (fun k => { k with calAsked := true }) u else u
        pump (freeUp i u.hk (finishCals u.mon.cals.length u))
      (withinI offset (-256) 256 = true → withinI gain (-2000) 2000 = true →
        exec (.monCalibrationDone i offset gain dt) s = .next (more (clearAlarm 0x8D11 0xB0 i [w32 i] (modConv i (fun k =>
          { k with act := .idle, calOut := 0, calOffset := offset, calGain := gain }) a)))) ∧
      ((withinI offset (-256) 256 && withinI gain (-2000) 2000) = false →
        exec (.monCalibrationDone i offset gain dt) s = .next (more (raiseAlarm 0x8D11 0xB0 i [w32 i] (modConv i (fun k =>
          { k with act := .idle, calOut := 1 }) a))))) ∧
    (∀ j x n rest, s.mon.dma = (j, x, n) :: rest →
      let m := min n (conv s j).unread
      exec (.monBufDmaDone dt) s = .next (pump (completeUnit 0x0D0B 0xB0 stOk 0 [w32 m]
        ((consume j m (a.modMon fun y => { y with dma := rest })).modPcie fun k =>
          { k with dmaDone := k.dmaDone ++ [(x, unreadWords (conv s j) m)] }))))

/-- BIAS_CONFIG for OUTPUT 8 takes BIAS_SLEW alone; for an output, where it passes its checks only with MIN_MV below MAX_MV, it
takes over the selected words, and a changed MODE or manual value takes effect; MIN_MV not below MAX_MV is refused with
BAD_PARAM at the MIN_MV word, or at the MAX_MV word where MIN_MV is not selected (log entry 117). BIAS_STATUS changes nothing. While
the device runs, a due update of a port in service updates its loops in output order and the next is due within 1 ms; in a
firmware pause, and out of service, it changes nothing. A ramp that ends leads to ACQUIRE, or, for a QUAD output whose children
are not both LOCKED, holds. 500 ms of ACQUIRE raise BIAS_UNLOCK, 10 ms of HOLD BIAS_NO_LIGHT, and 10 ms of light clear it. -/
def Obligations.BiasRuns : Prop :=
  ∀ (c : Cmd) (o dt : Nat) (p : Lp) (ms : List BiasMeas) (s : State),
    let r := ready c s
    let q := lpOfT c.target
    let b := biasOut s q (c.w 4)
    let slewed := modBiasPort q (fun x => { x with slew := pick5 c 10 x.slew }) r
    (Runs biasConfigOp c s →
      (c.w 4 = 8 → exec (.biasConfig c) s = .next (okFrom 0x0D0D c
        (List.replicate 12 0 ++ [w32 (pick5 c 10 (biasPort s q).slew)]) slewed)) ∧
      (c.w 4 ≠ 8 → pick5 c 3 b.minMv < pick5 c 4 b.maxMv ∧
        let n : Bias := { b with
          mode := pick5 c 0 b.mode, manualMv := pick5 c 1 b.manualMv, startMv := pick5 c 2 b.startMv,
          minMv := pick5 c 3 b.minMv, maxMv := pick5 c 4 b.maxMv, dither := pick5 c 5 b.dither, gain := pick5 c 6 b.gain,
          quadNeg := if bit (c.w 3) 7 then c.w 12 == 1 else b.quadNeg, input := pick5 c 8 b.input,
          lightMin := pick5 c 9 b.lightMin }
        let v := modBias q (c.w 4) (fun _ => n) slewed
        let u := refreshOwner (if n.mode ≠ b.mode ∨ (n.mode = 1 ∧ n.manualMv ≠ b.manualMv) then biasApply q (c.w 4) v else v)
        exec (.biasConfig c) s = .next (okFrom 0x0D0D c ([0, 0] ++ biasCfgWords u q (c.w 4)) u))) ∧
    (Served c s → isLpT c.target = true → 2 ≤ c.params.length → biasConfigOp.badParam r c = none → c.w 4 ≠ 8 →
      pick5 c 4 b.maxMv ≤ pick5 c 3 b.minMv →
      exec (.biasConfig c) s = .next (pump (reply 0x0D0D c stBadParam (if bit (c.w 3) 3 then 8 else 9) [] r))) ∧
    (Runs biasStatusOp c s →
      exec (.biasStatus c) s = .next (okFrom 0x0D0E c ((biasPort s q).outs.map (biasStatusWord r)) r)) ∧
    (running (advance dt s) = true →
      let a := advance dt s
      let x := biasPort s p
      let y := biasOut s p o
      (inService a p = true → s.fw.pause = none → x.updateAt ≤ a.hk →
        let at_ := x.updateAt + msT ((a.hk - x.updateAt) / msT 1 + 1)
        exec (.biasLoopUpdate p ms dt) s = .next (pump (biasUpdates p ms (modBiasPort p (fun b => { b with updateAt := at_ }) a))) ∧
        a.hk < at_ ∧ at_ ≤ a.hk + msT 1) ∧
      (s.fw.pause ≠ none ∨ inService a p = false → exec (.biasLoopUpdate p ms dt) s = .next a) ∧
      (o < 8 → s.fw.pause = none → y.st = .ramp → due y.rampEnd a.hk = true →
        ((isQuad o = true → childrenLocked s p o = true) → exec (.biasRampEnd p o dt) s = .next (pump (biasAcquire p o a))) ∧
        (isQuad o = true → childrenLocked s p o = false →
          exec (.biasRampEnd p o dt) s = .next (modBias p o (fun b => { b with rampEnd := none }) a))) ∧
      (∀ t, o < 8 → s.fw.pause = none → y.st = .acquire ∨ y.st = .hold → y.acquireFrom = some t → t + msT 500 ≤ a.hk →
        ∃ u, exec (.biasAcquireTimeout p o dt) s = .next u ∧ raised u 0x8D12 (lpT p) o = true ∧ (biasOut u p o).st = y.st) ∧
      (∀ t, o < 8 → y.holdFrom = some t → t + msT 10 ≤ a.hk →
        exec (.biasNoLightTimer p o dt) s = .next (pump (raiseAlarm 0x8D14 (lpT p) o [w32 o] a))) ∧
      (∀ t, o < 8 → y.holdFrom = none → y.lightFrom = some t → t + msT 10 ≤ a.hk →
        exec (.biasNoLightTimer p o dt) s = .next (pump (clearAlarm 0x8D14 (lpT p) o [w32 o]
          (modBias p o (fun b => { b with lightFrom := none }) a)))))


/-! ## Boot and firmware update (chapter 16) -/

/-- Each boot-range command that Umcia takes at once has its effect and replies; all else stays. FW_LOCK and FW_UNLOCK take and
free UPDATE_LOCK, but not on the in-band ports (0x0109). On the port that holds it: FW_UPDATE_BEGIN outside a trial, an END and an activation opens a session; a chunk at
the next OFFSET that fits is kept, but a first chunk whose header fails a check of Table 16.4 is refused with that check's
DETAIL and ends the session; a chunk at another OFFSET is refused with 0x0104; FW_UPDATE_END of a complete package is accepted
and the inactive bank is no longer valid; FW_UPDATE_ABORT ends the session; FW_ACTIVATE of a valid bank that does not run, and
FW_CONFIRM in a trial, are accepted; CFG_SAVE and CFG_CLEAR outside a trial are accepted, CFG_SAVE with the settings in force;
CFG_POLICY writes a boot record. FW_STATUS replies Table 16.8's words and clears UPDATE_FELL_BACK only with
ACK; CFG_STATUS replies the slots and changes nothing (of a bank or slot that is not valid, every word but the valid bit is a
free value, log entry 5). The BAD_STATE refusals of Table 16.8 are stated beside: without the lock 0x0100, in a trial 0x0101 or
0x0105, with an END or an activation in progress 0x0102, with no session 0x0103, of a bank that may not be activated 0x0107,
with nothing to confirm 0x0108. A port the boot ROM downloads from takes FW_UPDATE_BEGIN, CHUNK and END without the lock and
leaves both banks, and answers another opcode of the range with UNKNOWN_OPCODE (its FW_UPDATE_BEGIN reply's bank is a free value,
log entry 5). -/
def Obligations.FirmwareCommandsRun : Prop :=
  ∀ (c : Cmd) (x : UpdSession) (s : State),
    let r := ready c s
    let f := s.fw
    let ws := c.params.drop 1
    let ok (code : Nat) (ws : List Word) (t : State) : Host.Outcome State Fault Refusal := .next (okFrom code c ws t)
    let no (code det : Nat) (t : State) : Host.Outcome State Fault Refusal := .next (pump (reply code c stBadState det [] t))
    let later (code : Nat) (t : State) : Host.Outcome State Fault Refusal := .next (acceptedFrom code c t)
    let kept (x : UpdSession) : State := r.modFw fun f => { f with session := some { length := x.length, data := x.data ++ ws } }
    (Runs fwLockOp c s → c.port ≠ .ib0 → c.port ≠ .ib1 →
      exec (.fwLock c) s = ok 0x0E06 [w32 (portCode c.port)] (setLock r .update (some (c.port, r.hk)))) ∧
    (Runs fwUnlockOp c s → c.port ≠ .ib0 → c.port ≠ .ib1 → exec (.fwUnlock c) s = ok 0x0E07 [] (releaseLock .update 0 r)) ∧
    (c.port = .ib0 ∨ c.port = .ib1 → (Runs fwLockOp c s → exec (.fwLock c) s = no 0x0E06 0x0109 r) ∧
      (Runs fwUnlockOp c s → exec (.fwUnlock c) s = no 0x0E07 0x0109 r)) ∧
    (Runs fwStatusOp c s →
      let b0 := bankWords 0 r
      let b1 := bankWords 1 b0.2
      let state := f.runBank % 2 + onBit f.download 1 + onBit f.trial.isSome 2 + onBit f.staged.isSome 3 +
        (recInForce f).lastFallback % 16 * 16
      let bytes := match f.session with | some y => 4 * y.data.length | none => 0
      exec (.fwStatus c) s = ok 0x0E08
        ([w32 state] ++ b0.1 ++ b1.1 ++ [w32 f.rollbackFused, w32 (trialLeft r), w32 bytes])
        (if bit (c.w 3) 0 then clearAlarm 0x8E10 0 0 [] b1.2 else b1.2)) ∧
    (Runs cfgStatusOp c s →
      let a := slotWords s.store.a r
      let b := slotWords s.store.b a.2
      exec (.cfgStatus c) s = ok 0x0E0D (a.1 ++ b.1 ++ [w32 f.lastRestore]) b.2) ∧
    (Runs fwUpdateBeginOp c s →
      (holdsUpdate r c = false → exec (.fwUpdateBegin c) s = no 0x0E01 0x0100 r) ∧
      (holdsUpdate r c = true → f.trial.isSome = true → exec (.fwUpdateBegin c) s = no 0x0E01 0x0101 r) ∧
      (holdsUpdate r c = true → f.trial = none → f.ending.isSome = true ∨ f.activation.isSome = true →
        exec (.fwUpdateBegin c) s = no 0x0E01 0x0102 r) ∧
      (holdsUpdate r c = true → f.trial = none → f.ending = none → f.activation = none →
        exec (.fwUpdateBegin c) s = ok 0x0E01 [w32 (inactiveBank f)]
          (r.modFw fun f => { f with session := some { length := c.w 3, data := [] }, staged := none }))) ∧
    (holdsUpdate r c = false →
      (Runs fwUpdateChunkOp c s → exec (.fwUpdateChunk c) s = no 0x0E02 0x0100 r) ∧
      (Runs fwUpdateEndOp c s → exec (.fwUpdateEnd c) s = no 0x0E03 0x0100 r) ∧
      (Runs fwUpdateAbortOp c s → exec (.fwUpdateAbort c) s = no 0x0E09 0x0100 r) ∧
      (Runs fwActivateOp c s → exec (.fwActivate c) s = no 0x0E04 0x0100 r) ∧
      (Runs fwConfirmOp c s → exec (.fwConfirm c) s = no 0x0E05 0x0100 r) ∧
      (Runs cfgSaveOp c s → exec (.cfgSave c) s = no 0x0E0A 0x0100 r) ∧
      (Runs cfgClearOp c s → exec (.cfgClear c) s = no 0x0E0B 0x0100 r) ∧
      (Runs cfgPolicyOp c s → exec (.cfgPolicy c) s = no 0x0E0C 0x0100 r)) ∧
    (holdsUpdate r c = true →
      (f.session = none →
        (Runs fwUpdateChunkOp c s → exec (.fwUpdateChunk c) s = no 0x0E02 0x0103 r) ∧
        (Runs fwUpdateEndOp c s → exec (.fwUpdateEnd c) s = no 0x0E03 0x0103 r) ∧
        (Runs fwUpdateAbortOp c s → exec (.fwUpdateAbort c) s = no 0x0E09 0x0103 r)) ∧
      (Runs fwUpdateChunkOp c s → f.session = some x →
        (c.w 3 ≠ 4 * x.data.length → exec (.fwUpdateChunk c) s = no 0x0E02 0x0104 r) ∧
        (c.w 3 = 4 * x.data.length → x.data ≠ [] →
          exec (.fwUpdateChunk c) s = ok 0x0E02 [w32 (4 * (x.data.length + ws.length))] (kept x)) ∧
        (c.w 3 = 0 → x.data = [] → 128 ≤ ws.length ∧ 4 * ws.length ≤ x.length ∧
          (packageFault false r x.length (ws.take 128) = none →
            exec (.fwUpdateChunk c) s = ok 0x0E02 [w32 (4 * ws.length)] (kept x)) ∧
          ∀ d, packageFault false r x.length (ws.take 128) = some d →
            exec (.fwUpdateChunk c) s = no 0x0E02 d (r.modFw fun f => { f with session := none }))) ∧
      (Runs fwUpdateEndOp c s → f.session = some x →
        (4 * x.data.length ≠ x.length → exec (.fwUpdateEnd c) s = no 0x0E03 0x0106 r) ∧
        (4 * x.data.length = x.length → ∃ t, exec (.fwUpdateEnd c) s = later 0x0E03 t ∧
          t.fw.session = none ∧ t.fw.ending = some x ∧ bankValid t.fw (inactiveBank f) = false ∧
          t.fw.recA = f.recA ∧ t.fw.recB = f.recB ∧ t.fw.running = f.running)) ∧
      (Runs fwUpdateAbortOp c s → f.session = some x →
        exec (.fwUpdateAbort c) s = ok 0x0E09 [] (r.modFw fun f => { f with session := none })) ∧
      (Runs fwActivateOp c s → f.trial.isSome = true → exec (.fwActivate c) s = no 0x0E04 0x0101 r) ∧
      (Runs fwActivateOp c s → f.trial = none → f.activation.isSome = true → exec (.fwActivate c) s = no 0x0E04 0x0102 r) ∧
      (Runs fwActivateOp c s → f.trial = none → f.activation = none →
        bankValid f (c.w 3) = false ∨ (f.download = false ∧ f.runBank = c.w 3) → exec (.fwActivate c) s = no 0x0E04 0x0107 r) ∧
      (Runs fwActivateOp c s → f.trial = none → f.activation = none → bankValid f (c.w 3) = true →
        f.download = true ∨ f.runBank ≠ c.w 3 →
        let go (loaded : Bool) (f : Firmware) : Firmware := { f with
          activation := some { bank := c.w 3, window := if c.w 4 = 0 then 600 else c.w 4, paused := loaded },
          staged := if loaded then f.staged else none }
        ((∀ i, f.staged ≠ some (c.w 3, i)) → exec (.fwActivate c) s = later 0x0E04 (r.modFw (go false))) ∧
        (∀ i, f.staged = some (c.w 3, i) → f.pause = none → ∃ t, exec (.fwActivate c) s = .next t ∧
          t.fw = { go true f with pause := some { cause := 0, since := r.hk, reason := none } } ∧
          pendingOn t 0x0E04 c.target = true ∧ t.lp = s.lp ∧ t.eng = s.eng ∧ t.tm = s.tm)) ∧
      (Runs fwConfirmOp c s → f.trial = none → exec (.fwConfirm c) s = no 0x0E05 0x0108 r) ∧
      (∀ tr, Runs fwConfirmOp c s → f.trial = some tr →
        (r.now < tr.expiry → exec (.fwConfirm c) s = later 0x0E05 r) ∧
        (tr.expiry ≤ r.now → exec (.fwConfirm c) s = no 0x0E05 0x0108 r)) ∧
      (Runs cfgSaveOp c s →
        (f.trial = none → exec (.cfgSave c) s = later 0x0E0A { r with store :=
          { (putSlot none s.store).1 with writing := s.store.writing ++ [savedCfg r] } }) ∧
        (f.trial.isSome = true → exec (.cfgSave c) s = no 0x0E0A 0x0105 r)) ∧
      (Runs cfgClearOp c s →
        (f.trial = none → exec (.cfgClear c) s = later 0x0E0B r) ∧
        (f.trial.isSome = true → exec (.cfgClear c) s = no 0x0E0B 0x0105 r)) ∧
      (Runs cfgPolicyOp c s → exec (.cfgPolicy c) s = ok 0x0E0C [w32 (c.w 3), w32 (c.w 4)]
        (r.modFw fun f => writeRec (fun r => { r with autoRestore := c.w 3, restoreService := c.w 4 }) f))) ∧
    (bootRomReads (advance c.dt s) c.port = true → s.host.rxq.get c.port = [] → Direct c →
      let b := lockActivity c.port (advance c.dt s)
      (checks fwUpdateBeginOp c false b = none → f.trial = none → f.ending = none → f.activation = none →
        ∃ w t, exec (.fwUpdateBegin c) s = ok 0x0E01 [w] t ∧ t.fw = { f with session := some { length := c.w 3, data := [] }, staged := none }) ∧
      (checks fwUpdateChunkOp c false b = none → f.session = some x → c.w 3 = 4 * x.data.length →
        x.data ≠ [] ∨ packageFault true b x.length (ws.take 128) = none →
        exec (.fwUpdateChunk c) s = ok 0x0E02 [w32 (4 * (x.data.length + ws.length))]
          ((b.modFw fun f => { f with session := some { length := x.length, data := x.data ++ ws } }).modPr fun k =>
            { k with bootCode := 0xB, bootPlan := [] })) ∧
      (checks fwUpdateEndOp c false b = none → f.session = some x → 4 * x.data.length = x.length →
        exec (.fwUpdateEnd c) s = later 0x0E03 (b.modFw fun f => { f with session := none, ending := some x })) ∧
      exec (.fwLock c) s = .next (pump (reply 0x0E06 c stUnknown 0 [] (advance c.dt s))) ∧
      exec (.fwActivate c) s = .next (pump (reply 0x0E04 c stUnknown 0 [] (advance c.dt s))))

/-- (SEQUENCE numbers are 32-bit, R406.) While the device runs and no pause does: the end of FW_UPDATE_END writes the inactive
bank, re-encrypted, and stages the image, or completes with the failed step and leaves the banks alone; the running bank and the
boot record stay; the end of a download's starts its image and leaves the banks. The image of
FW_ACTIVATE is loaded and the pause begins, or the command completes with result 2. A pause of FW_ACTIVATE that ends in time puts
the new bank on trial, with TRIAL_WINDOW on the AON clock; at its deadline a fallback with reason 4 follows; a fallback pause
that ends runs the fallback copy, raises UPDATE_FELL_BACK and keeps ACTIVE_BANK. An expired trial begins a fallback with reason
2. FW_CONFIRM raises ROLLBACK_FUSED to the image's, makes the bank on trial the active one and drops the fallback copy.
CFG_SAVE's settings go into the slot that is not in force; CFG_CLEAR empties both. -/
def Obligations.FirmwareEventsRun : Prop :=
  ∀ (flashOk hOk sOk : Bool) (dt : Nat) (x : UpdSession) (act : Activation) (tr : Trial) (cfg : SavedCfg)
    (cfgs : List SavedCfg) (s : State), running (advance dt s) = true →
    (recInForce s.fw).seq < 2 ^ 32 → (∀ z, slotInForce s.store = some z → z.seq < 2 ^ 32) →
    let a := advance dt s
    let f := s.fw
    let b := inactiveBank f
    (f.pause = none → f.ending = some x → pendingOn s 0x0E03 0 = true → (∀ p q, s.pr.boot ≠ .download p q) →
      ((packageImage a x).1 ≠ 0 → exec (.fwUpdateEndDone flashOk dt) s = .next (pump (completeUnit 0x0E03 0 stOk 0
        [w32 (packageImage a x).1] (a.modFw fun f => { f with ending := none })))) ∧
      ((packageImage a x).1 = 0 → ∃ t iv, exec (.fwUpdateEndDone flashOk dt) s = .next t ∧ iv.length = 3 ∧
        let k := reencrypt iv (x.data.take 128) (packageImage a x).2
        flashBank t.fw b = { k with whole := flashOk } ∧ t.fw.staged = some (b, ⟨k.hdr, (packageImage a x).2⟩) ∧
        t.fw.ending = none ∧ (b ≠ 1 → t.fw.bank1 = f.bank1) ∧ (b = 1 → t.fw.bank0 = f.bank0) ∧ t.fw.recA = f.recA ∧
        t.fw.recB = f.recB ∧ t.fw.running = f.running ∧ t.lp = s.lp ∧ t.tm = s.tm)) ∧
    (∀ p q, f.pause = none → f.ending = some x → pendingOn s 0x0E03 0 = true → s.pr.boot = .download p q →
      (packageImage a x).1 = 0 → ∃ t, exec (.fwUpdateEndDone flashOk dt) s = .next t ∧ t.pr.boot = .running ∧
        t.fw.running = some ⟨x.data.take 128, (packageImage a x).2⟩ ∧ t.fw.download = true ∧ t.fw.ending = none ∧
        t.fw.bank0 = f.bank0 ∧ t.fw.bank1 = f.bank1 ∧ t.lp = s.lp) ∧
    (f.pause = none → f.activation = some act → act.paused = false → pendingOn s 0x0E04 0 = true →
      (∀ i, bankImage f act.bank = some i → exec (.fwActivateImageLoaded dt) s = .next (pump (beginPause 0 none (a.modFw fun f =>
        { f with staged := some (act.bank, i), activation := some { act with paused := true } })))) ∧
      (bankImage f act.bank = none → ∃ t, exec (.fwActivateImageLoaded dt) s = .next t ∧ t.fw.activation = none ∧
        t.fw.pause = none ∧ t.fw.running = f.running)) ∧
    (∀ p, f.pause = some p → p.cause = 0 → f.activation = some act →
      (a.hk ≤ p.since + msT 40 → hOk = true → sOk = true → ∃ t, exec (.fwPauseEnd hOk sOk dt) s = .next (pump (afterPause t)) ∧
        t.fw.trial = some { bank := act.bank, expiry := a.now + secT act.window } ∧ t.fw.pause = none ∧
        t.fw.activation = none ∧ t.fw.runBank = act.bank ∧ (recInForce t.fw).trial = true ∧
        (recInForce t.fw).trialBank = act.bank ∧ (recInForce t.fw).active = (recInForce f).active ∧
        t.fw.fallback = f.running.map (fun i => (f.runBank, i)) ∧
        ∀ k i, f.staged = some (k, i) → t.fw.running = some i) ∧
      (p.since + msT 40 ≤ a.hk → exec (.fwPauseDeadline dt) s = .next (pump (beginFallback 4 (endPause (runStaged act a)))))) ∧
    (∀ p n k i, f.pause = some p → p.cause = 1 → p.reason = some n → f.fallback = some (k, i) →
      ∃ t, exec (.fwPauseEnd hOk sOk dt) s = .next (pump (afterPause t)) ∧ t.fw.running = some i ∧ t.fw.runBank = k ∧ t.fw.trial = none ∧
        t.fw.pause = none ∧ t.fw.fallback = none ∧ t.fw.activation = none ∧ raised t 0x8E10 0 0 = true ∧
        (recInForce t.fw).lastFallback = n ∧ (recInForce t.fw).trial = false ∧
        (recInForce t.fw).active = (recInForce f).active) ∧
    (f.pause = none → trialOver a = true → umciaReads (wakeBy 5 a) = true →
      exec (.trialTimerExpiry dt) s = .next (pump (beginFallback 2 (wakeBy 5 a)))) ∧
    (f.pause = none → f.trial = some tr → pendingOn s 0x0E05 0 = true → ∃ t, exec (.fwConfirmDone dt) s = .next t ∧
      t.fw.trial = none ∧ t.fw.fallback = none ∧ (recInForce t.fw).active = tr.bank ∧ (recInForce t.fw).trial = false ∧
      f.rollbackFused ≤ t.fw.rollbackFused ∧ (∀ i, f.running = some i → t.fw.rollbackFused = max f.rollbackFused (hdrW i.hdr 5)) ∧
      t.lp = s.lp ∧ t.tm = s.tm) ∧
    (f.pause = none → s.store.writing = cfg :: cfgs → pendingOn s 0x0E0A 0 = true → ∃ t,
      exec (.cfgSaveDone dt) s = .next t ∧ t.store.writing = cfgs ∧ (∃ y, slotInForce t.store = some y ∧
        (slotAFirst s.store = true → t.store.b = some y ∧ t.store.a = s.store.a) ∧
        (slotAFirst s.store = false → t.store.a = some y ∧ t.store.b = s.store.b) ∧
        y.cfg = cfg ∧ y.schema = runSchema s ∧ y.uptime = uptime a) ∧ t.lp = s.lp) ∧
    (f.pause = none → pendingOn s 0x0E0B 0 = true → ∃ t, exec (.cfgClearDone dt) s = .next t ∧ t.store.a = none ∧
      t.store.b = none ∧ t.lp = s.lp ∧ t.fw = f)


/-! ## Seal and test access (chapter 18) -/

/-- Over PCIe or SPI SEAL_DEVICE with a private JTAG instruction loaded is refused with BAD_STATE 0x0101, with an unsigned kernel
running with 0x0102, and otherwise is accepted with the gate closed; over another port it is refused with 0x0100. Its readback
reports success only if both copies read blown; a blown copy stays blown. SEAL_STATUS changes nothing. A debug access to memory 5
is refused with 0x0103. Another read replies its words with their check bits and, where no word written with wrong check bits
stands, changes only free values. Another write changes the checker's words and, in a spindle's local memory, the words it names
there, which then read as written. A gate found open on a sealed device zeroises the keys, closes the gate, raises SEAL_VIOLATION
and makes a private JTAG instruction BYPASS; with the gate closed, or the device not sealed, nothing happens. -/
def Obligations.SealCommandsRun : Prop :=
  ∀ (c : Cmd) (x y z : Bool) (dt : Nat) (s : State),
    let r := ready c s
    let tgt := bits (c.w 4) 0 8
    (Runs sealDeviceOp c s → c.port ≠ .pcie → c.port ≠ .spi →
      exec (.sealDevice c) s = .next (pump (reply 0x0F01 c stBadState 0x0100 [] r))) ∧
    (Runs sealDeviceOp c s → c.port = .pcie ∨ c.port = .spi →
      (jtagPrivate s.sealSt.jtagIr = true → exec (.sealDevice c) s = .next (pump (reply 0x0F01 c stBadState 0x0101 [] r))) ∧
      (jtagPrivate s.sealSt.jtagIr = false → unsignedKernel r = true →
        exec (.sealDevice c) s = .next (pump (reply 0x0F01 c stBadState 0x0102 [] r))) ∧
      (jtagPrivate s.sealSt.jtagIr = false → unsignedKernel r = false →
        exec (.sealDevice c) s = .next (acceptedFrom 0x0F01 c (r.modSeal fun x => { x with gateClosed := true })))) ∧
    (running (advance dt s) = true → pendingOn s 0x0F01 0 = true → ∃ t, exec (.sealDeviceDone x y z dt) s = .next t ∧
      t.sealSt.fuseA = (s.sealSt.fuseA || x) ∧ t.sealSt.fuseB = (s.sealSt.fuseB || y || (x && z)) ∧
      t.sealSt.gateClosed = s.sealSt.gateClosed ∧ t.lp = s.lp ∧ t.keys = s.keys ∧ t.fw = s.fw) ∧
    (Runs sealStatusOp c s → ∃ w, w.getLsbD 0 = isSealed s ∧ w.getLsbD 1 = s.sealSt.fuseA ∧ w.getLsbD 2 = s.sealSt.fuseB ∧
      w.getLsbD 3 = s.sealSt.gateClosed ∧ exec (.sealStatus c) s = .next (okFrom 0x0F02 c [w, s.sealSt.jtagRefused] r)) ∧
    (Runs dbgMemReadOp c s →
      (c.w 3 = 5 → exec (.dbgMemRead c) s = .next (pump (reply 0x0F03 c stBadState 0x0103 [] r))) ∧
      (c.w 3 ≠ 5 →
        let l := dbgWords (c.w 3) tgt (dbgSpn c) (c.w 7) (dbgAddr c) r
        exec (.dbgMemRead c) s = .next (okFrom 0x0F03 c (dbgReply l.1.length l.1) l.2) ∧ l.1.length = c.w 7 ∧
        ((∀ w, w ∈ s.prot.checker → secdedOf w.2.2.2.2.1 w.2.2.2.2.2 = none) → l.2 = { r with freeCtr := l.2.freeCtr }))) ∧
    (Runs dbgMemWriteOp c s →
      (c.w 3 = 5 → exec (.dbgMemWrite c) s = .next (pump (reply 0x0F04 c stBadState 0x0103 [] r))) ∧
      (c.w 3 ≠ 5 → ∃ t, exec (.dbgMemWrite c) s = .next (okFrom 0x0F04 c [w32 (c.w 7)] t) ∧
        t = { r with prot := { s.prot with checker := t.prot.checker }, eng := t.eng } ∧ (c.w 3 ≠ 1 → t.eng = s.eng) ∧
        (∀ e i, e ≠ engOfT tgt ∨ i ≠ dbgSpn c → spnOf t e i = spnOf s e i) ∧
        (c.w 3 = 1 → SMap.wf {} (s.engine (engOfT tgt)).spindles = true →
          SMap.wf 0 (spnOf s (engOfT tgt) (dbgSpn c)).mem = true →
          let p := spnOf t (engOfT tgt) (dbgSpn c)
          p = { spnOf s (engOfT tgt) (dbgSpn c) with mem := p.mem } ∧
          ∀ j, j < c.w 7 → dbgAddr c + j < 8192 →
            spnWord t tgt (dbgSpn c) (dbgAddr c + j) = u64Of (c.w (8 + 2 * j)) (c.w (9 + 2 * j))))) ∧
    (running (advance dt s) = true → isSealed s = true → ∃ t, exec (.sealGateCheck true dt) s = .next t ∧
      t.sealSt.gateClosed = true ∧ t.sealSt.violation = true ∧ raised t 0x8F10 0 0 = true ∧ jtagPrivate t.sealSt.jtagIr = false ∧
      (∀ p : Lp, (t.port p).crypto.slots = [none, none, none, none]) ∧
      t.sealSt.fuseA = s.sealSt.fuseA ∧ t.sealSt.fuseB = s.sealSt.fuseB ∧ t.fw = s.fw) ∧
    (exec (.sealGateCheck false dt) s = .next (advance dt s)) ∧
    (isSealed s = false → exec (.sealGateCheck x dt) s = .next (advance dt s))


/-! ## Checks, alarms, counters, policing -/

/-- Of a command of any opcode that Umcia takes at once, the first failed check of 6 to 11 of Table 2.5 gives STATUS and DETAIL
(a target not accepted, a reply over 1,020 words, a flag the opcode does not name, the first parameter word that is missing, or
out of the range of the opcode or of the values the unit holds (log entry 116), no staging space, a lock another port holds, the seal), and nothing but its reply changes. A command to one unit whose unit refuses
it at check 12 is answered so as well. -/
def Obligations.FirstFailedCheck : Prop :=
  ∀ (op : OpSpec) (c : Cmd) (s : State), Served c s → c.target ≠ 0xFE → c.target ≠ 0xFF →
    let r := ready c s
    let refused (st det : Nat) : Prop := serve op c s = pump (reply op.code c st det [] r)
    let extra := (c.flags % 16) &&& (15 ^^^ op.flags)
    (op.targets c.target = false → refused stBadTarget 0) ∧
    (op.targets c.target = true →
      (1020 < op.resLen r c.target c → refused stBadLength 4) ∧
      (op.resLen r c.target c ≤ 1020 →
        (extra ≠ 0 → refused stBadParam 2) ∧
        (extra = 0 →
          let bad := [if c.params.length < op.nparams then some (3 + c.params.length) else none, op.badParam r c,
            op.unitBad r c.target c]
          (∀ w, some w ∈ bad → (∀ v, some v ∈ bad → w ≤ v) → refused stBadParam w) ∧
          ((∀ x, x ∈ bad → x = none) →
            let full := c.flag 2 = true ∧ c.flag 1 = false ∧ 256 ≤ r.host.staged.length
            (full → refused stBadState 0x0011) ∧
            (¬ full →
              (∀ l q t, op.lock = some l → lockHolder r l = some (q, t) → q ≠ c.port →
                refused stLocked (lockNum l * 256 + portCode q)) ∧
              ((∀ l q t, op.lock = some l → lockHolder r l = some (q, t) → q = c.port) →
                (op.sealable = true → isSealed s = true → refused stSealed 0) ∧
                (op.sealable = false ∨ isSealed s = false → c.flag 1 = false → c.flag 2 = false → ∀ det,
                  op.run r c.target c = refuse r stBadState det → refused stBadState det)))))))

/-- Raising an alarm leaves it raised, clearing it leaves it not raised, and every other alarm as it was; an alarm already in that
place changes nothing. A counter that counts gains that much modulo 2^64, a cleared one reads 0, and every other counter keeps
its value. The canonical form of the alarms, counters and window selectors is kept, and no unit changes. -/
def Obligations.AlarmsAndCounters : Prop :=
  ∀ (code target sub k n other : Nat) (data : List Word) (s : State), s.canonical = true →
    let up := raiseAlarm code target sub data s
    let down := clearAlarm code target sub data s
    let key := alarmKey code target sub
    raised up code target sub = true ∧ raised down code target sub = false ∧
    (raised s code target sub = true → up = s) ∧ (raised s code target sub = false → down = s) ∧
    (other ≠ key → SMap.get false up.alarms other = SMap.get false s.alarms other ∧
      SMap.get false down.alarms other = SMap.get false s.alarms other) ∧
    up.canonical = true ∧ down.canonical = true ∧
    ctr (ctrAdd s k n) k = ctr s k + BitVec.ofNat 64 n ∧ ctr (ctrClear s k) k = 0 ∧
    (other ≠ k → ctr (ctrAdd s k n) other = ctr s other ∧ ctr (ctrClear s k) other = ctr s other) ∧
    (ctrAdd s k n).canonical = true ∧ (ctrClear s k).canonical = true ∧
    (∀ t, t = up ∨ t = down ∨ t = ctrAdd s k n ∨ t = ctrClear s k →
      t.lp = s.lp ∧ t.eng = s.eng ∧ t.tm = s.tm ∧ t.keys = s.keys ∧ t.prot = s.prot ∧ t.clk = s.clk ∧ t.mon = s.mon ∧
      t.fw = s.fw ∧ t.store = s.store ∧ t.sealSt = s.sealSt ∧ t.pending = s.pending ∧ t.now = s.now ∧ t.hk = s.hk)

/-- With profile 0 every frame is green and no bucket is kept. With another profile, both buckets filled at most to CBS and PBS: a
frame is red, and takes nothing, exactly if it comes red to a colour-aware profile or Tp is short; else yellow, and takes from
Tp alone, exactly if it comes yellow to a colour-aware profile or Tc is short; else green, and takes from both. Buckets that
are not below 0 never go below 0; a frame longer than PBS is always red, and one longer than CBS never green. -/
def Obligations.PolicerColours : Prop :=
  ∀ (s : State) (prof len : Nat) (b : Buckets) (col : Colour),
    let f := profileOfTm s prof
    let x := bucketsAt b f.cir f.cbs f.pir f.pbs (tmNow s)
    let a : Int := (len * 1024 : Nat)
    let out := police s prof b len col
    (prof = 0 → out = (.green, b)) ∧
    (prof ≠ 0 →
      x.c ≤ ((f.cbs * 1024 : Nat) : Int) ∧ x.p ≤ ((f.pbs * 1024 : Nat) : Int) ∧
      (out.1 = .red ↔ (f.aware = true ∧ col = .red) ∨ x.p < a) ∧
      (out.1 = .green ↔ (f.aware = true → col = .green) ∧ a ≤ x.p ∧ a ≤ x.c) ∧
      (out.1 = .red → out.2 = x) ∧
      (out.1 = .yellow → out.2 = { x with p := x.p - a }) ∧
      (out.1 = .green → out.2 = { x with p := x.p - a, c := x.c - a }) ∧
      (0 ≤ b.c → 0 ≤ b.p → 0 ≤ out.2.c ∧ 0 ≤ out.2.p) ∧
      (f.pbs < len → out.1 = .red) ∧ (f.cbs < len → out.1 ≠ .green))
end

