-- ==== Sys2Proof/Laws/Data.lean ====
section
/-!
SUPPORT. Sys2Proof/Laws/Data.lean: reading after writing, and the canonical form, of sparse data (alarms, counters, lanes,
tables).
-/
namespace Sys2Proof.Machine
open Sys2Proof

theorem SMap.wfFrom_get {α : Type} [DecidableEq α] {d : α} {m : SMap α} {lo k : Nat} (h : SMap.wfFrom d (some lo) m = true)
    (hk : k ≤ lo) : SMap.get d m k = d := by
  induction m generalizing lo with
  | nil => rfl
  | cons e r ih =>
    obtain ⟨j, v⟩ := e
    simp only [SMap.wfFrom, Bool.and_eq_true, decide_eq_true_eq] at h
    have : k ≠ j := by omega
    simp only [SMap.get, this, ↓reduceIte]
    exact ih h.2 (by omega)

theorem SMap.wfFrom_none {α : Type} [DecidableEq α] {d : α} {m : SMap α} {lo : Nat} (h : SMap.wfFrom d (some lo) m = true) :
    SMap.wfFrom d none m = true := by
  cases m with
  | nil => rfl
  | cons e r =>
    obtain ⟨j, v⟩ := e
    simp only [SMap.wfFrom, Bool.and_eq_true, Bool.true_and] at h ⊢
    exact ⟨h.1.2, h.2⟩

theorem SMap.wfFrom_mono {α : Type} [DecidableEq α] {d : α} {m : SMap α} {a b : Nat} (h : SMap.wfFrom d (some b) m = true)
    (l : a ≤ b) : SMap.wfFrom d (some a) m = true := by
  cases m with
  | nil => rfl
  | cons e r =>
    obtain ⟨j, v⟩ := e
    simp only [SMap.wfFrom, Bool.and_eq_true, decide_eq_true_eq] at h ⊢
    exact ⟨⟨by omega, h.1.2⟩, h.2⟩

/-- Reading the key that was written. -/
theorem SMap.get_set_self {α : Type} [DecidableEq α] {d : α} {m : SMap α} (k : Nat) (v : α) {lo : Option Nat}
    (h : SMap.wfFrom d lo m = true) : SMap.get d (SMap.set d m k v) k = v := by
  induction m generalizing lo with
  | nil => by_cases hv : v = d <;> simp [SMap.set, SMap.get, hv]
  | cons e r ih =>
    obtain ⟨j, u⟩ := e
    simp only [SMap.wfFrom, Bool.and_eq_true] at h
    by_cases h1 : k < j
    · by_cases hv : v = d
      · have hj : k ≠ j := by omega
        simp only [SMap.set, h1, hv, ↓reduceIte, SMap.get, hj]
        exact SMap.wfFrom_get h.2 (by omega)
      · simp [SMap.set, SMap.get, h1, hv]
    · by_cases h2 : k = j
      · subst h2
        by_cases hv : v = d
        · simp only [SMap.set, h1, hv, ↓reduceIte]
          exact SMap.wfFrom_get h.2 (Nat.le_refl _)
        · simp [SMap.set, SMap.get, hv]
      · simp only [SMap.set, h1, h2, ↓reduceIte, SMap.get]
        exact ih h.2

/-- Another key reads as before. -/
theorem SMap.get_set_other {α : Type} [DecidableEq α] {d : α} {m : SMap α} {k o : Nat} (v : α) (hne : o ≠ k) :
    SMap.get d (SMap.set d m k v) o = SMap.get d m o := by
  induction m with
  | nil => by_cases hv : v = d <;> simp [SMap.set, SMap.get, hv, hne]
  | cons e r ih =>
    obtain ⟨j, u⟩ := e
    by_cases h1 : k < j
    · by_cases hv : v = d <;> simp [SMap.set, SMap.get, h1, hv, hne]
    · by_cases h2 : k = j
      · subst h2
        by_cases hv : v = d <;> simp [SMap.set, SMap.get, hv, hne]
      · by_cases h3 : o = j <;> simp [SMap.set, SMap.get, h1, h2, h3, ih]

theorem SMap.wfFrom_set {α : Type} [DecidableEq α] {d : α} {m : SMap α} {lo : Option Nat} (k : Nat) (v : α)
    (h : SMap.wfFrom d lo m = true) (hk : ∀ l, lo = some l → l < k) : SMap.wfFrom d lo (SMap.set d m k v) = true := by
  induction m generalizing lo with
  | nil =>
    by_cases hv : v = d
    · simp [SMap.set, SMap.wfFrom, hv]
    · cases lo with
      | none => simp [SMap.set, SMap.wfFrom, hv]
      | some l => simp [SMap.set, SMap.wfFrom, hv, hk l rfl]
  | cons e r ih =>
    obtain ⟨j, u⟩ := e
    by_cases h1 : k < j
    · by_cases hv : v = d
      · simpa [SMap.set, h1, hv] using h
      · have hu := h
        simp only [SMap.wfFrom, Bool.and_eq_true] at hu
        cases lo with
        | none =>
          simp only [SMap.set, h1, hv, ↓reduceIte, SMap.wfFrom]
          simp [hu.1.2, hu.2]
        | some l =>
          simp only [SMap.set, h1, hv, ↓reduceIte, SMap.wfFrom]
          simp [hk l rfl] at hu ⊢
          exact ⟨hu.1.2, hu.2⟩
    · by_cases h2 : k = j
      · subst h2
        simp only [SMap.wfFrom, Bool.and_eq_true] at h
        by_cases hv : v = d
        · simp only [SMap.set, h1, hv, ↓reduceIte]
          cases lo with
          | none => exact SMap.wfFrom_none h.2
          | some l => exact SMap.wfFrom_mono h.2 (Nat.le_of_lt (hk l rfl))
        · simp only [SMap.set, h1, hv, ↓reduceIte, SMap.wfFrom, Bool.and_eq_true]
          exact ⟨⟨h.1.1, by simp⟩, h.2⟩
      · simp only [SMap.set, h1, h2, ↓reduceIte]
        simp only [SMap.wfFrom, Bool.and_eq_true] at h ⊢
        exact ⟨h.1, ih h.2 (by intro l e; cases e; omega)⟩

/-- Every write keeps the canonical form. -/
theorem SMap.wf_set {α : Type} [DecidableEq α] {d : α} {m : SMap α} (k : Nat) (v : α) (h : SMap.wf d m = true) :
    SMap.wf d (SMap.set d m k v) = true := SMap.wfFrom_set k v h (by intro l e; cases e)

end Sys2Proof.Machine
end

