-- ==== Sys2Proof/Laws/State.lean ====
section
/-!
SUPPORT. Sys2Proof/Laws/State.lean: what each update of the state leaves in each field of it, one lemma per field per
update.
-/
namespace Sys2Proof.Machine
open Sys2Proof

/-! ### State.modHost -/

@[simp] theorem State.modHost_now (s : State) (f : HostIf → HostIf) : (s.modHost f).now = s.now := rfl
@[simp] theorem State.modHost_hk (s : State) (f : HostIf → HostIf) : (s.modHost f).hk = s.hk := rfl
@[simp] theorem State.modHost_pr (s : State) (f : HostIf → HostIf) : (s.modHost f).pr = s.pr := rfl
@[simp] theorem State.modHost_host (s : State) (f : HostIf → HostIf) : (s.modHost f).host = f s.host := rfl
@[simp] theorem State.modHost_lp (s : State) (f : HostIf → HostIf) : (s.modHost f).lp = s.lp := rfl
@[simp] theorem State.modHost_eng (s : State) (f : HostIf → HostIf) : (s.modHost f).eng = s.eng := rfl
@[simp] theorem State.modHost_warmPort (s : State) (f : HostIf → HostIf) : (s.modHost f).warmPort = s.warmPort := rfl
@[simp] theorem State.modHost_reresolve (s : State) (f : HostIf → HostIf) : (s.modHost f).reresolve = s.reresolve := rfl
@[simp] theorem State.modHost_lanes (s : State) (f : HostIf → HostIf) : (s.modHost f).lanes = s.lanes := rfl
@[simp] theorem State.modHost_hports (s : State) (f : HostIf → HostIf) : (s.modHost f).hports = s.hports := rfl
@[simp] theorem State.modHost_synce (s : State) (f : HostIf → HostIf) : (s.modHost f).synce = s.synce := rfl
@[simp] theorem State.modHost_tm (s : State) (f : HostIf → HostIf) : (s.modHost f).tm = s.tm := rfl
@[simp] theorem State.modHost_keys (s : State) (f : HostIf → HostIf) : (s.modHost f).keys = s.keys := rfl
@[simp] theorem State.modHost_prot (s : State) (f : HostIf → HostIf) : (s.modHost f).prot = s.prot := rfl
@[simp] theorem State.modHost_mate (s : State) (f : HostIf → HostIf) : (s.modHost f).mate = s.mate := rfl
@[simp] theorem State.modHost_clk (s : State) (f : HostIf → HostIf) : (s.modHost f).clk = s.clk := rfl
@[simp] theorem State.modHost_mon (s : State) (f : HostIf → HostIf) : (s.modHost f).mon = s.mon := rfl
@[simp] theorem State.modHost_fw (s : State) (f : HostIf → HostIf) : (s.modHost f).fw = s.fw := rfl
@[simp] theorem State.modHost_store (s : State) (f : HostIf → HostIf) : (s.modHost f).store = s.store := rfl
@[simp] theorem State.modHost_sealSt (s : State) (f : HostIf → HostIf) : (s.modHost f).sealSt = s.sealSt := rfl
@[simp] theorem State.modHost_alarms (s : State) (f : HostIf → HostIf) : (s.modHost f).alarms = s.alarms := rfl
@[simp] theorem State.modHost_counters (s : State) (f : HostIf → HostIf) : (s.modHost f).counters = s.counters := rfl
@[simp] theorem State.modHost_freeCtr (s : State) (f : HostIf → HostIf) : (s.modHost f).freeCtr = s.freeCtr := rfl
@[simp] theorem State.modHost_pending (s : State) (f : HostIf → HostIf) : (s.modHost f).pending = s.pending := rfl

/-! ### State.modPcie -/

@[simp] theorem State.modPcie_now (s : State) (f : PcieState → PcieState) : (s.modPcie f).now = s.now := rfl
@[simp] theorem State.modPcie_hk (s : State) (f : PcieState → PcieState) : (s.modPcie f).hk = s.hk := rfl
@[simp] theorem State.modPcie_pr (s : State) (f : PcieState → PcieState) : (s.modPcie f).pr = s.pr := rfl
@[simp] theorem State.modPcie_host (s : State) (f : PcieState → PcieState) : (s.modPcie f).host = { s.host with pcie := f s.host.pcie } := rfl
@[simp] theorem State.modPcie_lp (s : State) (f : PcieState → PcieState) : (s.modPcie f).lp = s.lp := rfl
@[simp] theorem State.modPcie_eng (s : State) (f : PcieState → PcieState) : (s.modPcie f).eng = s.eng := rfl
@[simp] theorem State.modPcie_warmPort (s : State) (f : PcieState → PcieState) : (s.modPcie f).warmPort = s.warmPort := rfl
@[simp] theorem State.modPcie_reresolve (s : State) (f : PcieState → PcieState) : (s.modPcie f).reresolve = s.reresolve := rfl
@[simp] theorem State.modPcie_lanes (s : State) (f : PcieState → PcieState) : (s.modPcie f).lanes = s.lanes := rfl
@[simp] theorem State.modPcie_hports (s : State) (f : PcieState → PcieState) : (s.modPcie f).hports = s.hports := rfl
@[simp] theorem State.modPcie_synce (s : State) (f : PcieState → PcieState) : (s.modPcie f).synce = s.synce := rfl
@[simp] theorem State.modPcie_tm (s : State) (f : PcieState → PcieState) : (s.modPcie f).tm = s.tm := rfl
@[simp] theorem State.modPcie_keys (s : State) (f : PcieState → PcieState) : (s.modPcie f).keys = s.keys := rfl
@[simp] theorem State.modPcie_prot (s : State) (f : PcieState → PcieState) : (s.modPcie f).prot = s.prot := rfl
@[simp] theorem State.modPcie_mate (s : State) (f : PcieState → PcieState) : (s.modPcie f).mate = s.mate := rfl
@[simp] theorem State.modPcie_clk (s : State) (f : PcieState → PcieState) : (s.modPcie f).clk = s.clk := rfl
@[simp] theorem State.modPcie_mon (s : State) (f : PcieState → PcieState) : (s.modPcie f).mon = s.mon := rfl
@[simp] theorem State.modPcie_fw (s : State) (f : PcieState → PcieState) : (s.modPcie f).fw = s.fw := rfl
@[simp] theorem State.modPcie_store (s : State) (f : PcieState → PcieState) : (s.modPcie f).store = s.store := rfl
@[simp] theorem State.modPcie_sealSt (s : State) (f : PcieState → PcieState) : (s.modPcie f).sealSt = s.sealSt := rfl
@[simp] theorem State.modPcie_alarms (s : State) (f : PcieState → PcieState) : (s.modPcie f).alarms = s.alarms := rfl
@[simp] theorem State.modPcie_counters (s : State) (f : PcieState → PcieState) : (s.modPcie f).counters = s.counters := rfl
@[simp] theorem State.modPcie_freeCtr (s : State) (f : PcieState → PcieState) : (s.modPcie f).freeCtr = s.freeCtr := rfl
@[simp] theorem State.modPcie_pending (s : State) (f : PcieState → PcieState) : (s.modPcie f).pending = s.pending := rfl

/-! ### State.modSpi -/

@[simp] theorem State.modSpi_now (s : State) (f : SpiState → SpiState) : (s.modSpi f).now = s.now := rfl
@[simp] theorem State.modSpi_hk (s : State) (f : SpiState → SpiState) : (s.modSpi f).hk = s.hk := rfl
@[simp] theorem State.modSpi_pr (s : State) (f : SpiState → SpiState) : (s.modSpi f).pr = s.pr := rfl
@[simp] theorem State.modSpi_host (s : State) (f : SpiState → SpiState) : (s.modSpi f).host = { s.host with spi := f s.host.spi } := rfl
@[simp] theorem State.modSpi_lp (s : State) (f : SpiState → SpiState) : (s.modSpi f).lp = s.lp := rfl
@[simp] theorem State.modSpi_eng (s : State) (f : SpiState → SpiState) : (s.modSpi f).eng = s.eng := rfl
@[simp] theorem State.modSpi_warmPort (s : State) (f : SpiState → SpiState) : (s.modSpi f).warmPort = s.warmPort := rfl
@[simp] theorem State.modSpi_reresolve (s : State) (f : SpiState → SpiState) : (s.modSpi f).reresolve = s.reresolve := rfl
@[simp] theorem State.modSpi_lanes (s : State) (f : SpiState → SpiState) : (s.modSpi f).lanes = s.lanes := rfl
@[simp] theorem State.modSpi_hports (s : State) (f : SpiState → SpiState) : (s.modSpi f).hports = s.hports := rfl
@[simp] theorem State.modSpi_synce (s : State) (f : SpiState → SpiState) : (s.modSpi f).synce = s.synce := rfl
@[simp] theorem State.modSpi_tm (s : State) (f : SpiState → SpiState) : (s.modSpi f).tm = s.tm := rfl
@[simp] theorem State.modSpi_keys (s : State) (f : SpiState → SpiState) : (s.modSpi f).keys = s.keys := rfl
@[simp] theorem State.modSpi_prot (s : State) (f : SpiState → SpiState) : (s.modSpi f).prot = s.prot := rfl
@[simp] theorem State.modSpi_mate (s : State) (f : SpiState → SpiState) : (s.modSpi f).mate = s.mate := rfl
@[simp] theorem State.modSpi_clk (s : State) (f : SpiState → SpiState) : (s.modSpi f).clk = s.clk := rfl
@[simp] theorem State.modSpi_mon (s : State) (f : SpiState → SpiState) : (s.modSpi f).mon = s.mon := rfl
@[simp] theorem State.modSpi_fw (s : State) (f : SpiState → SpiState) : (s.modSpi f).fw = s.fw := rfl
@[simp] theorem State.modSpi_store (s : State) (f : SpiState → SpiState) : (s.modSpi f).store = s.store := rfl
@[simp] theorem State.modSpi_sealSt (s : State) (f : SpiState → SpiState) : (s.modSpi f).sealSt = s.sealSt := rfl
@[simp] theorem State.modSpi_alarms (s : State) (f : SpiState → SpiState) : (s.modSpi f).alarms = s.alarms := rfl
@[simp] theorem State.modSpi_counters (s : State) (f : SpiState → SpiState) : (s.modSpi f).counters = s.counters := rfl
@[simp] theorem State.modSpi_freeCtr (s : State) (f : SpiState → SpiState) : (s.modSpi f).freeCtr = s.freeCtr := rfl
@[simp] theorem State.modSpi_pending (s : State) (f : SpiState → SpiState) : (s.modSpi f).pending = s.pending := rfl

/-! ### State.modPr -/

@[simp] theorem State.modPr_now (s : State) (f : PowerReset → PowerReset) : (s.modPr f).now = s.now := rfl
@[simp] theorem State.modPr_hk (s : State) (f : PowerReset → PowerReset) : (s.modPr f).hk = s.hk := rfl
@[simp] theorem State.modPr_pr (s : State) (f : PowerReset → PowerReset) : (s.modPr f).pr = f s.pr := rfl
@[simp] theorem State.modPr_host (s : State) (f : PowerReset → PowerReset) : (s.modPr f).host = s.host := rfl
@[simp] theorem State.modPr_lp (s : State) (f : PowerReset → PowerReset) : (s.modPr f).lp = s.lp := rfl
@[simp] theorem State.modPr_eng (s : State) (f : PowerReset → PowerReset) : (s.modPr f).eng = s.eng := rfl
@[simp] theorem State.modPr_warmPort (s : State) (f : PowerReset → PowerReset) : (s.modPr f).warmPort = s.warmPort := rfl
@[simp] theorem State.modPr_reresolve (s : State) (f : PowerReset → PowerReset) : (s.modPr f).reresolve = s.reresolve := rfl
@[simp] theorem State.modPr_lanes (s : State) (f : PowerReset → PowerReset) : (s.modPr f).lanes = s.lanes := rfl
@[simp] theorem State.modPr_hports (s : State) (f : PowerReset → PowerReset) : (s.modPr f).hports = s.hports := rfl
@[simp] theorem State.modPr_synce (s : State) (f : PowerReset → PowerReset) : (s.modPr f).synce = s.synce := rfl
@[simp] theorem State.modPr_tm (s : State) (f : PowerReset → PowerReset) : (s.modPr f).tm = s.tm := rfl
@[simp] theorem State.modPr_keys (s : State) (f : PowerReset → PowerReset) : (s.modPr f).keys = s.keys := rfl
@[simp] theorem State.modPr_prot (s : State) (f : PowerReset → PowerReset) : (s.modPr f).prot = s.prot := rfl
@[simp] theorem State.modPr_mate (s : State) (f : PowerReset → PowerReset) : (s.modPr f).mate = s.mate := rfl
@[simp] theorem State.modPr_clk (s : State) (f : PowerReset → PowerReset) : (s.modPr f).clk = s.clk := rfl
@[simp] theorem State.modPr_mon (s : State) (f : PowerReset → PowerReset) : (s.modPr f).mon = s.mon := rfl
@[simp] theorem State.modPr_fw (s : State) (f : PowerReset → PowerReset) : (s.modPr f).fw = s.fw := rfl
@[simp] theorem State.modPr_store (s : State) (f : PowerReset → PowerReset) : (s.modPr f).store = s.store := rfl
@[simp] theorem State.modPr_sealSt (s : State) (f : PowerReset → PowerReset) : (s.modPr f).sealSt = s.sealSt := rfl
@[simp] theorem State.modPr_alarms (s : State) (f : PowerReset → PowerReset) : (s.modPr f).alarms = s.alarms := rfl
@[simp] theorem State.modPr_counters (s : State) (f : PowerReset → PowerReset) : (s.modPr f).counters = s.counters := rfl
@[simp] theorem State.modPr_freeCtr (s : State) (f : PowerReset → PowerReset) : (s.modPr f).freeCtr = s.freeCtr := rfl
@[simp] theorem State.modPr_pending (s : State) (f : PowerReset → PowerReset) : (s.modPr f).pending = s.pending := rfl

/-! ### State.modFw -/

@[simp] theorem State.modFw_now (s : State) (f : Firmware → Firmware) : (s.modFw f).now = s.now := rfl
@[simp] theorem State.modFw_hk (s : State) (f : Firmware → Firmware) : (s.modFw f).hk = s.hk := rfl
@[simp] theorem State.modFw_pr (s : State) (f : Firmware → Firmware) : (s.modFw f).pr = s.pr := rfl
@[simp] theorem State.modFw_host (s : State) (f : Firmware → Firmware) : (s.modFw f).host = s.host := rfl
@[simp] theorem State.modFw_lp (s : State) (f : Firmware → Firmware) : (s.modFw f).lp = s.lp := rfl
@[simp] theorem State.modFw_eng (s : State) (f : Firmware → Firmware) : (s.modFw f).eng = s.eng := rfl
@[simp] theorem State.modFw_warmPort (s : State) (f : Firmware → Firmware) : (s.modFw f).warmPort = s.warmPort := rfl
@[simp] theorem State.modFw_reresolve (s : State) (f : Firmware → Firmware) : (s.modFw f).reresolve = s.reresolve := rfl
@[simp] theorem State.modFw_lanes (s : State) (f : Firmware → Firmware) : (s.modFw f).lanes = s.lanes := rfl
@[simp] theorem State.modFw_hports (s : State) (f : Firmware → Firmware) : (s.modFw f).hports = s.hports := rfl
@[simp] theorem State.modFw_synce (s : State) (f : Firmware → Firmware) : (s.modFw f).synce = s.synce := rfl
@[simp] theorem State.modFw_tm (s : State) (f : Firmware → Firmware) : (s.modFw f).tm = s.tm := rfl
@[simp] theorem State.modFw_keys (s : State) (f : Firmware → Firmware) : (s.modFw f).keys = s.keys := rfl
@[simp] theorem State.modFw_prot (s : State) (f : Firmware → Firmware) : (s.modFw f).prot = s.prot := rfl
@[simp] theorem State.modFw_mate (s : State) (f : Firmware → Firmware) : (s.modFw f).mate = s.mate := rfl
@[simp] theorem State.modFw_clk (s : State) (f : Firmware → Firmware) : (s.modFw f).clk = s.clk := rfl
@[simp] theorem State.modFw_mon (s : State) (f : Firmware → Firmware) : (s.modFw f).mon = s.mon := rfl
@[simp] theorem State.modFw_fw (s : State) (f : Firmware → Firmware) : (s.modFw f).fw = f s.fw := rfl
@[simp] theorem State.modFw_store (s : State) (f : Firmware → Firmware) : (s.modFw f).store = s.store := rfl
@[simp] theorem State.modFw_sealSt (s : State) (f : Firmware → Firmware) : (s.modFw f).sealSt = s.sealSt := rfl
@[simp] theorem State.modFw_alarms (s : State) (f : Firmware → Firmware) : (s.modFw f).alarms = s.alarms := rfl
@[simp] theorem State.modFw_counters (s : State) (f : Firmware → Firmware) : (s.modFw f).counters = s.counters := rfl
@[simp] theorem State.modFw_freeCtr (s : State) (f : Firmware → Firmware) : (s.modFw f).freeCtr = s.freeCtr := rfl
@[simp] theorem State.modFw_pending (s : State) (f : Firmware → Firmware) : (s.modFw f).pending = s.pending := rfl

/-! ### State.modSeal -/

@[simp] theorem State.modSeal_now (s : State) (f : Seal → Seal) : (s.modSeal f).now = s.now := rfl
@[simp] theorem State.modSeal_hk (s : State) (f : Seal → Seal) : (s.modSeal f).hk = s.hk := rfl
@[simp] theorem State.modSeal_pr (s : State) (f : Seal → Seal) : (s.modSeal f).pr = s.pr := rfl
@[simp] theorem State.modSeal_host (s : State) (f : Seal → Seal) : (s.modSeal f).host = s.host := rfl
@[simp] theorem State.modSeal_lp (s : State) (f : Seal → Seal) : (s.modSeal f).lp = s.lp := rfl
@[simp] theorem State.modSeal_eng (s : State) (f : Seal → Seal) : (s.modSeal f).eng = s.eng := rfl
@[simp] theorem State.modSeal_warmPort (s : State) (f : Seal → Seal) : (s.modSeal f).warmPort = s.warmPort := rfl
@[simp] theorem State.modSeal_reresolve (s : State) (f : Seal → Seal) : (s.modSeal f).reresolve = s.reresolve := rfl
@[simp] theorem State.modSeal_lanes (s : State) (f : Seal → Seal) : (s.modSeal f).lanes = s.lanes := rfl
@[simp] theorem State.modSeal_hports (s : State) (f : Seal → Seal) : (s.modSeal f).hports = s.hports := rfl
@[simp] theorem State.modSeal_synce (s : State) (f : Seal → Seal) : (s.modSeal f).synce = s.synce := rfl
@[simp] theorem State.modSeal_tm (s : State) (f : Seal → Seal) : (s.modSeal f).tm = s.tm := rfl
@[simp] theorem State.modSeal_keys (s : State) (f : Seal → Seal) : (s.modSeal f).keys = s.keys := rfl
@[simp] theorem State.modSeal_prot (s : State) (f : Seal → Seal) : (s.modSeal f).prot = s.prot := rfl
@[simp] theorem State.modSeal_mate (s : State) (f : Seal → Seal) : (s.modSeal f).mate = s.mate := rfl
@[simp] theorem State.modSeal_clk (s : State) (f : Seal → Seal) : (s.modSeal f).clk = s.clk := rfl
@[simp] theorem State.modSeal_mon (s : State) (f : Seal → Seal) : (s.modSeal f).mon = s.mon := rfl
@[simp] theorem State.modSeal_fw (s : State) (f : Seal → Seal) : (s.modSeal f).fw = s.fw := rfl
@[simp] theorem State.modSeal_store (s : State) (f : Seal → Seal) : (s.modSeal f).store = s.store := rfl
@[simp] theorem State.modSeal_sealSt (s : State) (f : Seal → Seal) : (s.modSeal f).sealSt = f s.sealSt := rfl
@[simp] theorem State.modSeal_alarms (s : State) (f : Seal → Seal) : (s.modSeal f).alarms = s.alarms := rfl
@[simp] theorem State.modSeal_counters (s : State) (f : Seal → Seal) : (s.modSeal f).counters = s.counters := rfl
@[simp] theorem State.modSeal_freeCtr (s : State) (f : Seal → Seal) : (s.modSeal f).freeCtr = s.freeCtr := rfl
@[simp] theorem State.modSeal_pending (s : State) (f : Seal → Seal) : (s.modSeal f).pending = s.pending := rfl

/-! ### State.modMate -/

@[simp] theorem State.modMate_now (s : State) (f : Mate → Mate) : (s.modMate f).now = s.now := rfl
@[simp] theorem State.modMate_hk (s : State) (f : Mate → Mate) : (s.modMate f).hk = s.hk := rfl
@[simp] theorem State.modMate_pr (s : State) (f : Mate → Mate) : (s.modMate f).pr = s.pr := rfl
@[simp] theorem State.modMate_host (s : State) (f : Mate → Mate) : (s.modMate f).host = s.host := rfl
@[simp] theorem State.modMate_lp (s : State) (f : Mate → Mate) : (s.modMate f).lp = s.lp := rfl
@[simp] theorem State.modMate_eng (s : State) (f : Mate → Mate) : (s.modMate f).eng = s.eng := rfl
@[simp] theorem State.modMate_warmPort (s : State) (f : Mate → Mate) : (s.modMate f).warmPort = s.warmPort := rfl
@[simp] theorem State.modMate_reresolve (s : State) (f : Mate → Mate) : (s.modMate f).reresolve = s.reresolve := rfl
@[simp] theorem State.modMate_lanes (s : State) (f : Mate → Mate) : (s.modMate f).lanes = s.lanes := rfl
@[simp] theorem State.modMate_hports (s : State) (f : Mate → Mate) : (s.modMate f).hports = s.hports := rfl
@[simp] theorem State.modMate_synce (s : State) (f : Mate → Mate) : (s.modMate f).synce = s.synce := rfl
@[simp] theorem State.modMate_tm (s : State) (f : Mate → Mate) : (s.modMate f).tm = s.tm := rfl
@[simp] theorem State.modMate_keys (s : State) (f : Mate → Mate) : (s.modMate f).keys = s.keys := rfl
@[simp] theorem State.modMate_prot (s : State) (f : Mate → Mate) : (s.modMate f).prot = s.prot := rfl
@[simp] theorem State.modMate_mate (s : State) (f : Mate → Mate) : (s.modMate f).mate = f s.mate := rfl
@[simp] theorem State.modMate_clk (s : State) (f : Mate → Mate) : (s.modMate f).clk = s.clk := rfl
@[simp] theorem State.modMate_mon (s : State) (f : Mate → Mate) : (s.modMate f).mon = s.mon := rfl
@[simp] theorem State.modMate_fw (s : State) (f : Mate → Mate) : (s.modMate f).fw = s.fw := rfl
@[simp] theorem State.modMate_store (s : State) (f : Mate → Mate) : (s.modMate f).store = s.store := rfl
@[simp] theorem State.modMate_sealSt (s : State) (f : Mate → Mate) : (s.modMate f).sealSt = s.sealSt := rfl
@[simp] theorem State.modMate_alarms (s : State) (f : Mate → Mate) : (s.modMate f).alarms = s.alarms := rfl
@[simp] theorem State.modMate_counters (s : State) (f : Mate → Mate) : (s.modMate f).counters = s.counters := rfl
@[simp] theorem State.modMate_freeCtr (s : State) (f : Mate → Mate) : (s.modMate f).freeCtr = s.freeCtr := rfl
@[simp] theorem State.modMate_pending (s : State) (f : Mate → Mate) : (s.modMate f).pending = s.pending := rfl

/-! ### State.modProt -/

@[simp] theorem State.modProt_now (s : State) (f : Prot → Prot) : (s.modProt f).now = s.now := rfl
@[simp] theorem State.modProt_hk (s : State) (f : Prot → Prot) : (s.modProt f).hk = s.hk := rfl
@[simp] theorem State.modProt_pr (s : State) (f : Prot → Prot) : (s.modProt f).pr = s.pr := rfl
@[simp] theorem State.modProt_host (s : State) (f : Prot → Prot) : (s.modProt f).host = s.host := rfl
@[simp] theorem State.modProt_lp (s : State) (f : Prot → Prot) : (s.modProt f).lp = s.lp := rfl
@[simp] theorem State.modProt_eng (s : State) (f : Prot → Prot) : (s.modProt f).eng = s.eng := rfl
@[simp] theorem State.modProt_warmPort (s : State) (f : Prot → Prot) : (s.modProt f).warmPort = s.warmPort := rfl
@[simp] theorem State.modProt_reresolve (s : State) (f : Prot → Prot) : (s.modProt f).reresolve = s.reresolve := rfl
@[simp] theorem State.modProt_lanes (s : State) (f : Prot → Prot) : (s.modProt f).lanes = s.lanes := rfl
@[simp] theorem State.modProt_hports (s : State) (f : Prot → Prot) : (s.modProt f).hports = s.hports := rfl
@[simp] theorem State.modProt_synce (s : State) (f : Prot → Prot) : (s.modProt f).synce = s.synce := rfl
@[simp] theorem State.modProt_tm (s : State) (f : Prot → Prot) : (s.modProt f).tm = s.tm := rfl
@[simp] theorem State.modProt_keys (s : State) (f : Prot → Prot) : (s.modProt f).keys = s.keys := rfl
@[simp] theorem State.modProt_prot (s : State) (f : Prot → Prot) : (s.modProt f).prot = f s.prot := rfl
@[simp] theorem State.modProt_mate (s : State) (f : Prot → Prot) : (s.modProt f).mate = s.mate := rfl
@[simp] theorem State.modProt_clk (s : State) (f : Prot → Prot) : (s.modProt f).clk = s.clk := rfl
@[simp] theorem State.modProt_mon (s : State) (f : Prot → Prot) : (s.modProt f).mon = s.mon := rfl
@[simp] theorem State.modProt_fw (s : State) (f : Prot → Prot) : (s.modProt f).fw = s.fw := rfl
@[simp] theorem State.modProt_store (s : State) (f : Prot → Prot) : (s.modProt f).store = s.store := rfl
@[simp] theorem State.modProt_sealSt (s : State) (f : Prot → Prot) : (s.modProt f).sealSt = s.sealSt := rfl
@[simp] theorem State.modProt_alarms (s : State) (f : Prot → Prot) : (s.modProt f).alarms = s.alarms := rfl
@[simp] theorem State.modProt_counters (s : State) (f : Prot → Prot) : (s.modProt f).counters = s.counters := rfl
@[simp] theorem State.modProt_freeCtr (s : State) (f : Prot → Prot) : (s.modProt f).freeCtr = s.freeCtr := rfl
@[simp] theorem State.modProt_pending (s : State) (f : Prot → Prot) : (s.modProt f).pending = s.pending := rfl

/-! ### State.modClk -/

@[simp] theorem State.modClk_now (s : State) (f : Clk → Clk) : (s.modClk f).now = s.now := rfl
@[simp] theorem State.modClk_hk (s : State) (f : Clk → Clk) : (s.modClk f).hk = s.hk := rfl
@[simp] theorem State.modClk_pr (s : State) (f : Clk → Clk) : (s.modClk f).pr = s.pr := rfl
@[simp] theorem State.modClk_host (s : State) (f : Clk → Clk) : (s.modClk f).host = s.host := rfl
@[simp] theorem State.modClk_lp (s : State) (f : Clk → Clk) : (s.modClk f).lp = s.lp := rfl
@[simp] theorem State.modClk_eng (s : State) (f : Clk → Clk) : (s.modClk f).eng = s.eng := rfl
@[simp] theorem State.modClk_warmPort (s : State) (f : Clk → Clk) : (s.modClk f).warmPort = s.warmPort := rfl
@[simp] theorem State.modClk_reresolve (s : State) (f : Clk → Clk) : (s.modClk f).reresolve = s.reresolve := rfl
@[simp] theorem State.modClk_lanes (s : State) (f : Clk → Clk) : (s.modClk f).lanes = s.lanes := rfl
@[simp] theorem State.modClk_hports (s : State) (f : Clk → Clk) : (s.modClk f).hports = s.hports := rfl
@[simp] theorem State.modClk_synce (s : State) (f : Clk → Clk) : (s.modClk f).synce = s.synce := rfl
@[simp] theorem State.modClk_tm (s : State) (f : Clk → Clk) : (s.modClk f).tm = s.tm := rfl
@[simp] theorem State.modClk_keys (s : State) (f : Clk → Clk) : (s.modClk f).keys = s.keys := rfl
@[simp] theorem State.modClk_prot (s : State) (f : Clk → Clk) : (s.modClk f).prot = s.prot := rfl
@[simp] theorem State.modClk_mate (s : State) (f : Clk → Clk) : (s.modClk f).mate = s.mate := rfl
@[simp] theorem State.modClk_clk (s : State) (f : Clk → Clk) : (s.modClk f).clk = f s.clk := rfl
@[simp] theorem State.modClk_mon (s : State) (f : Clk → Clk) : (s.modClk f).mon = s.mon := rfl
@[simp] theorem State.modClk_fw (s : State) (f : Clk → Clk) : (s.modClk f).fw = s.fw := rfl
@[simp] theorem State.modClk_store (s : State) (f : Clk → Clk) : (s.modClk f).store = s.store := rfl
@[simp] theorem State.modClk_sealSt (s : State) (f : Clk → Clk) : (s.modClk f).sealSt = s.sealSt := rfl
@[simp] theorem State.modClk_alarms (s : State) (f : Clk → Clk) : (s.modClk f).alarms = s.alarms := rfl
@[simp] theorem State.modClk_counters (s : State) (f : Clk → Clk) : (s.modClk f).counters = s.counters := rfl
@[simp] theorem State.modClk_freeCtr (s : State) (f : Clk → Clk) : (s.modClk f).freeCtr = s.freeCtr := rfl
@[simp] theorem State.modClk_pending (s : State) (f : Clk → Clk) : (s.modClk f).pending = s.pending := rfl

/-! ### State.modMon -/

@[simp] theorem State.modMon_now (s : State) (f : Mon → Mon) : (s.modMon f).now = s.now := rfl
@[simp] theorem State.modMon_hk (s : State) (f : Mon → Mon) : (s.modMon f).hk = s.hk := rfl
@[simp] theorem State.modMon_pr (s : State) (f : Mon → Mon) : (s.modMon f).pr = s.pr := rfl
@[simp] theorem State.modMon_host (s : State) (f : Mon → Mon) : (s.modMon f).host = s.host := rfl
@[simp] theorem State.modMon_lp (s : State) (f : Mon → Mon) : (s.modMon f).lp = s.lp := rfl
@[simp] theorem State.modMon_eng (s : State) (f : Mon → Mon) : (s.modMon f).eng = s.eng := rfl
@[simp] theorem State.modMon_warmPort (s : State) (f : Mon → Mon) : (s.modMon f).warmPort = s.warmPort := rfl
@[simp] theorem State.modMon_reresolve (s : State) (f : Mon → Mon) : (s.modMon f).reresolve = s.reresolve := rfl
@[simp] theorem State.modMon_lanes (s : State) (f : Mon → Mon) : (s.modMon f).lanes = s.lanes := rfl
@[simp] theorem State.modMon_hports (s : State) (f : Mon → Mon) : (s.modMon f).hports = s.hports := rfl
@[simp] theorem State.modMon_synce (s : State) (f : Mon → Mon) : (s.modMon f).synce = s.synce := rfl
@[simp] theorem State.modMon_tm (s : State) (f : Mon → Mon) : (s.modMon f).tm = s.tm := rfl
@[simp] theorem State.modMon_keys (s : State) (f : Mon → Mon) : (s.modMon f).keys = s.keys := rfl
@[simp] theorem State.modMon_prot (s : State) (f : Mon → Mon) : (s.modMon f).prot = s.prot := rfl
@[simp] theorem State.modMon_mate (s : State) (f : Mon → Mon) : (s.modMon f).mate = s.mate := rfl
@[simp] theorem State.modMon_clk (s : State) (f : Mon → Mon) : (s.modMon f).clk = s.clk := rfl
@[simp] theorem State.modMon_mon (s : State) (f : Mon → Mon) : (s.modMon f).mon = f s.mon := rfl
@[simp] theorem State.modMon_fw (s : State) (f : Mon → Mon) : (s.modMon f).fw = s.fw := rfl
@[simp] theorem State.modMon_store (s : State) (f : Mon → Mon) : (s.modMon f).store = s.store := rfl
@[simp] theorem State.modMon_sealSt (s : State) (f : Mon → Mon) : (s.modMon f).sealSt = s.sealSt := rfl
@[simp] theorem State.modMon_alarms (s : State) (f : Mon → Mon) : (s.modMon f).alarms = s.alarms := rfl
@[simp] theorem State.modMon_counters (s : State) (f : Mon → Mon) : (s.modMon f).counters = s.counters := rfl
@[simp] theorem State.modMon_freeCtr (s : State) (f : Mon → Mon) : (s.modMon f).freeCtr = s.freeCtr := rfl
@[simp] theorem State.modMon_pending (s : State) (f : Mon → Mon) : (s.modMon f).pending = s.pending := rfl

/-! ### State.modTm -/

@[simp] theorem State.modTm_now (s : State) (f : Tm → Tm) : (s.modTm f).now = s.now := rfl
@[simp] theorem State.modTm_hk (s : State) (f : Tm → Tm) : (s.modTm f).hk = s.hk := rfl
@[simp] theorem State.modTm_pr (s : State) (f : Tm → Tm) : (s.modTm f).pr = s.pr := rfl
@[simp] theorem State.modTm_host (s : State) (f : Tm → Tm) : (s.modTm f).host = s.host := rfl
@[simp] theorem State.modTm_lp (s : State) (f : Tm → Tm) : (s.modTm f).lp = s.lp := rfl
@[simp] theorem State.modTm_eng (s : State) (f : Tm → Tm) : (s.modTm f).eng = s.eng := rfl
@[simp] theorem State.modTm_warmPort (s : State) (f : Tm → Tm) : (s.modTm f).warmPort = s.warmPort := rfl
@[simp] theorem State.modTm_reresolve (s : State) (f : Tm → Tm) : (s.modTm f).reresolve = s.reresolve := rfl
@[simp] theorem State.modTm_lanes (s : State) (f : Tm → Tm) : (s.modTm f).lanes = s.lanes := rfl
@[simp] theorem State.modTm_hports (s : State) (f : Tm → Tm) : (s.modTm f).hports = s.hports := rfl
@[simp] theorem State.modTm_synce (s : State) (f : Tm → Tm) : (s.modTm f).synce = s.synce := rfl
@[simp] theorem State.modTm_tm (s : State) (f : Tm → Tm) : (s.modTm f).tm = f s.tm := rfl
@[simp] theorem State.modTm_keys (s : State) (f : Tm → Tm) : (s.modTm f).keys = s.keys := rfl
@[simp] theorem State.modTm_prot (s : State) (f : Tm → Tm) : (s.modTm f).prot = s.prot := rfl
@[simp] theorem State.modTm_mate (s : State) (f : Tm → Tm) : (s.modTm f).mate = s.mate := rfl
@[simp] theorem State.modTm_clk (s : State) (f : Tm → Tm) : (s.modTm f).clk = s.clk := rfl
@[simp] theorem State.modTm_mon (s : State) (f : Tm → Tm) : (s.modTm f).mon = s.mon := rfl
@[simp] theorem State.modTm_fw (s : State) (f : Tm → Tm) : (s.modTm f).fw = s.fw := rfl
@[simp] theorem State.modTm_store (s : State) (f : Tm → Tm) : (s.modTm f).store = s.store := rfl
@[simp] theorem State.modTm_sealSt (s : State) (f : Tm → Tm) : (s.modTm f).sealSt = s.sealSt := rfl
@[simp] theorem State.modTm_alarms (s : State) (f : Tm → Tm) : (s.modTm f).alarms = s.alarms := rfl
@[simp] theorem State.modTm_counters (s : State) (f : Tm → Tm) : (s.modTm f).counters = s.counters := rfl
@[simp] theorem State.modTm_freeCtr (s : State) (f : Tm → Tm) : (s.modTm f).freeCtr = s.freeCtr := rfl
@[simp] theorem State.modTm_pending (s : State) (f : Tm → Tm) : (s.modTm f).pending = s.pending := rfl

/-! ### State.modLane -/

@[simp] theorem State.modLane_now (s : State) (n : Nat) (f : HostLane → HostLane) : (s.modLane n f).now = s.now := rfl
@[simp] theorem State.modLane_hk (s : State) (n : Nat) (f : HostLane → HostLane) : (s.modLane n f).hk = s.hk := rfl
@[simp] theorem State.modLane_pr (s : State) (n : Nat) (f : HostLane → HostLane) : (s.modLane n f).pr = s.pr := rfl
@[simp] theorem State.modLane_host (s : State) (n : Nat) (f : HostLane → HostLane) : (s.modLane n f).host = s.host := rfl
@[simp] theorem State.modLane_lp (s : State) (n : Nat) (f : HostLane → HostLane) : (s.modLane n f).lp = s.lp := rfl
@[simp] theorem State.modLane_eng (s : State) (n : Nat) (f : HostLane → HostLane) : (s.modLane n f).eng = s.eng := rfl
@[simp] theorem State.modLane_warmPort (s : State) (n : Nat) (f : HostLane → HostLane) : (s.modLane n f).warmPort = s.warmPort := rfl
@[simp] theorem State.modLane_reresolve (s : State) (n : Nat) (f : HostLane → HostLane) : (s.modLane n f).reresolve = s.reresolve := rfl
@[simp] theorem State.modLane_lanes (s : State) (n : Nat) (f : HostLane → HostLane) : (s.modLane n f).lanes = SMap.set {} s.lanes n (f (s.lane n)) := rfl
@[simp] theorem State.modLane_hports (s : State) (n : Nat) (f : HostLane → HostLane) : (s.modLane n f).hports = s.hports := rfl
@[simp] theorem State.modLane_synce (s : State) (n : Nat) (f : HostLane → HostLane) : (s.modLane n f).synce = s.synce := rfl
@[simp] theorem State.modLane_tm (s : State) (n : Nat) (f : HostLane → HostLane) : (s.modLane n f).tm = s.tm := rfl
@[simp] theorem State.modLane_keys (s : State) (n : Nat) (f : HostLane → HostLane) : (s.modLane n f).keys = s.keys := rfl
@[simp] theorem State.modLane_prot (s : State) (n : Nat) (f : HostLane → HostLane) : (s.modLane n f).prot = s.prot := rfl
@[simp] theorem State.modLane_mate (s : State) (n : Nat) (f : HostLane → HostLane) : (s.modLane n f).mate = s.mate := rfl
@[simp] theorem State.modLane_clk (s : State) (n : Nat) (f : HostLane → HostLane) : (s.modLane n f).clk = s.clk := rfl
@[simp] theorem State.modLane_mon (s : State) (n : Nat) (f : HostLane → HostLane) : (s.modLane n f).mon = s.mon := rfl
@[simp] theorem State.modLane_fw (s : State) (n : Nat) (f : HostLane → HostLane) : (s.modLane n f).fw = s.fw := rfl
@[simp] theorem State.modLane_store (s : State) (n : Nat) (f : HostLane → HostLane) : (s.modLane n f).store = s.store := rfl
@[simp] theorem State.modLane_sealSt (s : State) (n : Nat) (f : HostLane → HostLane) : (s.modLane n f).sealSt = s.sealSt := rfl
@[simp] theorem State.modLane_alarms (s : State) (n : Nat) (f : HostLane → HostLane) : (s.modLane n f).alarms = s.alarms := rfl
@[simp] theorem State.modLane_counters (s : State) (n : Nat) (f : HostLane → HostLane) : (s.modLane n f).counters = s.counters := rfl
@[simp] theorem State.modLane_freeCtr (s : State) (n : Nat) (f : HostLane → HostLane) : (s.modLane n f).freeCtr = s.freeCtr := rfl
@[simp] theorem State.modLane_pending (s : State) (n : Nat) (f : HostLane → HostLane) : (s.modLane n f).pending = s.pending := rfl

/-! ### State.modHport -/

@[simp] theorem State.modHport_now (s : State) (n : Nat) (f : HostPort → HostPort) : (s.modHport n f).now = s.now := rfl
@[simp] theorem State.modHport_hk (s : State) (n : Nat) (f : HostPort → HostPort) : (s.modHport n f).hk = s.hk := rfl
@[simp] theorem State.modHport_pr (s : State) (n : Nat) (f : HostPort → HostPort) : (s.modHport n f).pr = s.pr := rfl
@[simp] theorem State.modHport_host (s : State) (n : Nat) (f : HostPort → HostPort) : (s.modHport n f).host = s.host := rfl
@[simp] theorem State.modHport_lp (s : State) (n : Nat) (f : HostPort → HostPort) : (s.modHport n f).lp = s.lp := rfl
@[simp] theorem State.modHport_eng (s : State) (n : Nat) (f : HostPort → HostPort) : (s.modHport n f).eng = s.eng := rfl
@[simp] theorem State.modHport_warmPort (s : State) (n : Nat) (f : HostPort → HostPort) : (s.modHport n f).warmPort = s.warmPort := rfl
@[simp] theorem State.modHport_reresolve (s : State) (n : Nat) (f : HostPort → HostPort) : (s.modHport n f).reresolve = s.reresolve := rfl
@[simp] theorem State.modHport_lanes (s : State) (n : Nat) (f : HostPort → HostPort) : (s.modHport n f).lanes = s.lanes := rfl
@[simp] theorem State.modHport_hports (s : State) (n : Nat) (f : HostPort → HostPort) : (s.modHport n f).hports = SMap.set {} s.hports n (f (s.hport n)) := rfl
@[simp] theorem State.modHport_synce (s : State) (n : Nat) (f : HostPort → HostPort) : (s.modHport n f).synce = s.synce := rfl
@[simp] theorem State.modHport_tm (s : State) (n : Nat) (f : HostPort → HostPort) : (s.modHport n f).tm = s.tm := rfl
@[simp] theorem State.modHport_keys (s : State) (n : Nat) (f : HostPort → HostPort) : (s.modHport n f).keys = s.keys := rfl
@[simp] theorem State.modHport_prot (s : State) (n : Nat) (f : HostPort → HostPort) : (s.modHport n f).prot = s.prot := rfl
@[simp] theorem State.modHport_mate (s : State) (n : Nat) (f : HostPort → HostPort) : (s.modHport n f).mate = s.mate := rfl
@[simp] theorem State.modHport_clk (s : State) (n : Nat) (f : HostPort → HostPort) : (s.modHport n f).clk = s.clk := rfl
@[simp] theorem State.modHport_mon (s : State) (n : Nat) (f : HostPort → HostPort) : (s.modHport n f).mon = s.mon := rfl
@[simp] theorem State.modHport_fw (s : State) (n : Nat) (f : HostPort → HostPort) : (s.modHport n f).fw = s.fw := rfl
@[simp] theorem State.modHport_store (s : State) (n : Nat) (f : HostPort → HostPort) : (s.modHport n f).store = s.store := rfl
@[simp] theorem State.modHport_sealSt (s : State) (n : Nat) (f : HostPort → HostPort) : (s.modHport n f).sealSt = s.sealSt := rfl
@[simp] theorem State.modHport_alarms (s : State) (n : Nat) (f : HostPort → HostPort) : (s.modHport n f).alarms = s.alarms := rfl
@[simp] theorem State.modHport_counters (s : State) (n : Nat) (f : HostPort → HostPort) : (s.modHport n f).counters = s.counters := rfl
@[simp] theorem State.modHport_freeCtr (s : State) (n : Nat) (f : HostPort → HostPort) : (s.modHport n f).freeCtr = s.freeCtr := rfl
@[simp] theorem State.modHport_pending (s : State) (n : Nat) (f : HostPort → HostPort) : (s.modHport n f).pending = s.pending := rfl

/-! ### State.setPort -/

@[simp] theorem State.setPort_now (s : State) (p : Lp) (v : LinePort) : (s.setPort p v).now = s.now := by cases p <;> rfl
@[simp] theorem State.setPort_hk (s : State) (p : Lp) (v : LinePort) : (s.setPort p v).hk = s.hk := by cases p <;> rfl
@[simp] theorem State.setPort_pr (s : State) (p : Lp) (v : LinePort) : (s.setPort p v).pr = s.pr := by cases p <;> rfl
@[simp] theorem State.setPort_host (s : State) (p : Lp) (v : LinePort) : (s.setPort p v).host = s.host := by cases p <;> rfl
@[simp] theorem State.setPort_eng (s : State) (p : Lp) (v : LinePort) : (s.setPort p v).eng = s.eng := by cases p <;> rfl
@[simp] theorem State.setPort_warmPort (s : State) (p : Lp) (v : LinePort) : (s.setPort p v).warmPort = s.warmPort := by cases p <;> rfl
@[simp] theorem State.setPort_reresolve (s : State) (p : Lp) (v : LinePort) : (s.setPort p v).reresolve = s.reresolve := by cases p <;> rfl
@[simp] theorem State.setPort_lanes (s : State) (p : Lp) (v : LinePort) : (s.setPort p v).lanes = s.lanes := by cases p <;> rfl
@[simp] theorem State.setPort_hports (s : State) (p : Lp) (v : LinePort) : (s.setPort p v).hports = s.hports := by cases p <;> rfl
@[simp] theorem State.setPort_synce (s : State) (p : Lp) (v : LinePort) : (s.setPort p v).synce = s.synce := by cases p <;> rfl
@[simp] theorem State.setPort_tm (s : State) (p : Lp) (v : LinePort) : (s.setPort p v).tm = s.tm := by cases p <;> rfl
@[simp] theorem State.setPort_keys (s : State) (p : Lp) (v : LinePort) : (s.setPort p v).keys = s.keys := by cases p <;> rfl
@[simp] theorem State.setPort_prot (s : State) (p : Lp) (v : LinePort) : (s.setPort p v).prot = s.prot := by cases p <;> rfl
@[simp] theorem State.setPort_mate (s : State) (p : Lp) (v : LinePort) : (s.setPort p v).mate = s.mate := by cases p <;> rfl
@[simp] theorem State.setPort_clk (s : State) (p : Lp) (v : LinePort) : (s.setPort p v).clk = s.clk := by cases p <;> rfl
@[simp] theorem State.setPort_mon (s : State) (p : Lp) (v : LinePort) : (s.setPort p v).mon = s.mon := by cases p <;> rfl
@[simp] theorem State.setPort_fw (s : State) (p : Lp) (v : LinePort) : (s.setPort p v).fw = s.fw := by cases p <;> rfl
@[simp] theorem State.setPort_store (s : State) (p : Lp) (v : LinePort) : (s.setPort p v).store = s.store := by cases p <;> rfl
@[simp] theorem State.setPort_sealSt (s : State) (p : Lp) (v : LinePort) : (s.setPort p v).sealSt = s.sealSt := by cases p <;> rfl
@[simp] theorem State.setPort_alarms (s : State) (p : Lp) (v : LinePort) : (s.setPort p v).alarms = s.alarms := by cases p <;> rfl
@[simp] theorem State.setPort_counters (s : State) (p : Lp) (v : LinePort) : (s.setPort p v).counters = s.counters := by cases p <;> rfl
@[simp] theorem State.setPort_freeCtr (s : State) (p : Lp) (v : LinePort) : (s.setPort p v).freeCtr = s.freeCtr := by cases p <;> rfl
@[simp] theorem State.setPort_pending (s : State) (p : Lp) (v : LinePort) : (s.setPort p v).pending = s.pending := by cases p <;> rfl

/-! ### State.setEngine -/

@[simp] theorem State.setEngine_now (s : State) (e : Eng) (v : Engine) : (s.setEngine e v).now = s.now := by cases e <;> rfl
@[simp] theorem State.setEngine_hk (s : State) (e : Eng) (v : Engine) : (s.setEngine e v).hk = s.hk := by cases e <;> rfl
@[simp] theorem State.setEngine_pr (s : State) (e : Eng) (v : Engine) : (s.setEngine e v).pr = s.pr := by cases e <;> rfl
@[simp] theorem State.setEngine_host (s : State) (e : Eng) (v : Engine) : (s.setEngine e v).host = s.host := by cases e <;> rfl
@[simp] theorem State.setEngine_lp (s : State) (e : Eng) (v : Engine) : (s.setEngine e v).lp = s.lp := by cases e <;> rfl
@[simp] theorem State.setEngine_warmPort (s : State) (e : Eng) (v : Engine) : (s.setEngine e v).warmPort = s.warmPort := by cases e <;> rfl
@[simp] theorem State.setEngine_reresolve (s : State) (e : Eng) (v : Engine) : (s.setEngine e v).reresolve = s.reresolve := by cases e <;> rfl
@[simp] theorem State.setEngine_lanes (s : State) (e : Eng) (v : Engine) : (s.setEngine e v).lanes = s.lanes := by cases e <;> rfl
@[simp] theorem State.setEngine_hports (s : State) (e : Eng) (v : Engine) : (s.setEngine e v).hports = s.hports := by cases e <;> rfl
@[simp] theorem State.setEngine_synce (s : State) (e : Eng) (v : Engine) : (s.setEngine e v).synce = s.synce := by cases e <;> rfl
@[simp] theorem State.setEngine_tm (s : State) (e : Eng) (v : Engine) : (s.setEngine e v).tm = s.tm := by cases e <;> rfl
@[simp] theorem State.setEngine_keys (s : State) (e : Eng) (v : Engine) : (s.setEngine e v).keys = s.keys := by cases e <;> rfl
@[simp] theorem State.setEngine_prot (s : State) (e : Eng) (v : Engine) : (s.setEngine e v).prot = s.prot := by cases e <;> rfl
@[simp] theorem State.setEngine_mate (s : State) (e : Eng) (v : Engine) : (s.setEngine e v).mate = s.mate := by cases e <;> rfl
@[simp] theorem State.setEngine_clk (s : State) (e : Eng) (v : Engine) : (s.setEngine e v).clk = s.clk := by cases e <;> rfl
@[simp] theorem State.setEngine_mon (s : State) (e : Eng) (v : Engine) : (s.setEngine e v).mon = s.mon := by cases e <;> rfl
@[simp] theorem State.setEngine_fw (s : State) (e : Eng) (v : Engine) : (s.setEngine e v).fw = s.fw := by cases e <;> rfl
@[simp] theorem State.setEngine_store (s : State) (e : Eng) (v : Engine) : (s.setEngine e v).store = s.store := by cases e <;> rfl
@[simp] theorem State.setEngine_sealSt (s : State) (e : Eng) (v : Engine) : (s.setEngine e v).sealSt = s.sealSt := by cases e <;> rfl
@[simp] theorem State.setEngine_alarms (s : State) (e : Eng) (v : Engine) : (s.setEngine e v).alarms = s.alarms := by cases e <;> rfl
@[simp] theorem State.setEngine_counters (s : State) (e : Eng) (v : Engine) : (s.setEngine e v).counters = s.counters := by cases e <;> rfl
@[simp] theorem State.setEngine_freeCtr (s : State) (e : Eng) (v : Engine) : (s.setEngine e v).freeCtr = s.freeCtr := by cases e <;> rfl
@[simp] theorem State.setEngine_pending (s : State) (e : Eng) (v : Engine) : (s.setEngine e v).pending = s.pending := by cases e <;> rfl

/-! ### State.modProtPort -/

@[simp] theorem State.modProtPort_now (s : State) (p : Lp) (f : ProtPort → ProtPort) : (s.modProtPort p f).now = s.now := by cases p <;> rfl
@[simp] theorem State.modProtPort_hk (s : State) (p : Lp) (f : ProtPort → ProtPort) : (s.modProtPort p f).hk = s.hk := by cases p <;> rfl
@[simp] theorem State.modProtPort_pr (s : State) (p : Lp) (f : ProtPort → ProtPort) : (s.modProtPort p f).pr = s.pr := by cases p <;> rfl
@[simp] theorem State.modProtPort_host (s : State) (p : Lp) (f : ProtPort → ProtPort) : (s.modProtPort p f).host = s.host := by cases p <;> rfl
@[simp] theorem State.modProtPort_lp (s : State) (p : Lp) (f : ProtPort → ProtPort) : (s.modProtPort p f).lp = s.lp := by cases p <;> rfl
@[simp] theorem State.modProtPort_eng (s : State) (p : Lp) (f : ProtPort → ProtPort) : (s.modProtPort p f).eng = s.eng := by cases p <;> rfl
@[simp] theorem State.modProtPort_warmPort (s : State) (p : Lp) (f : ProtPort → ProtPort) : (s.modProtPort p f).warmPort = s.warmPort := by cases p <;> rfl
@[simp] theorem State.modProtPort_reresolve (s : State) (p : Lp) (f : ProtPort → ProtPort) : (s.modProtPort p f).reresolve = s.reresolve := by cases p <;> rfl
@[simp] theorem State.modProtPort_lanes (s : State) (p : Lp) (f : ProtPort → ProtPort) : (s.modProtPort p f).lanes = s.lanes := by cases p <;> rfl
@[simp] theorem State.modProtPort_hports (s : State) (p : Lp) (f : ProtPort → ProtPort) : (s.modProtPort p f).hports = s.hports := by cases p <;> rfl
@[simp] theorem State.modProtPort_synce (s : State) (p : Lp) (f : ProtPort → ProtPort) : (s.modProtPort p f).synce = s.synce := by cases p <;> rfl
@[simp] theorem State.modProtPort_tm (s : State) (p : Lp) (f : ProtPort → ProtPort) : (s.modProtPort p f).tm = s.tm := by cases p <;> rfl
@[simp] theorem State.modProtPort_keys (s : State) (p : Lp) (f : ProtPort → ProtPort) : (s.modProtPort p f).keys = s.keys := by cases p <;> rfl
@[simp] theorem State.modProtPort_mate (s : State) (p : Lp) (f : ProtPort → ProtPort) : (s.modProtPort p f).mate = s.mate := by cases p <;> rfl
@[simp] theorem State.modProtPort_clk (s : State) (p : Lp) (f : ProtPort → ProtPort) : (s.modProtPort p f).clk = s.clk := by cases p <;> rfl
@[simp] theorem State.modProtPort_mon (s : State) (p : Lp) (f : ProtPort → ProtPort) : (s.modProtPort p f).mon = s.mon := by cases p <;> rfl
@[simp] theorem State.modProtPort_fw (s : State) (p : Lp) (f : ProtPort → ProtPort) : (s.modProtPort p f).fw = s.fw := by cases p <;> rfl
@[simp] theorem State.modProtPort_store (s : State) (p : Lp) (f : ProtPort → ProtPort) : (s.modProtPort p f).store = s.store := by cases p <;> rfl
@[simp] theorem State.modProtPort_sealSt (s : State) (p : Lp) (f : ProtPort → ProtPort) : (s.modProtPort p f).sealSt = s.sealSt := by cases p <;> rfl
@[simp] theorem State.modProtPort_alarms (s : State) (p : Lp) (f : ProtPort → ProtPort) : (s.modProtPort p f).alarms = s.alarms := by cases p <;> rfl
@[simp] theorem State.modProtPort_counters (s : State) (p : Lp) (f : ProtPort → ProtPort) : (s.modProtPort p f).counters = s.counters := by cases p <;> rfl
@[simp] theorem State.modProtPort_freeCtr (s : State) (p : Lp) (f : ProtPort → ProtPort) : (s.modProtPort p f).freeCtr = s.freeCtr := by cases p <;> rfl
@[simp] theorem State.modProtPort_pending (s : State) (p : Lp) (f : ProtPort → ProtPort) : (s.modProtPort p f).pending = s.pending := by cases p <;> rfl

/-! ### Line ports and engines -/

@[simp] theorem State.port_setPort (s : State) (p q : Lp) (v : LinePort) :
    (s.setPort p v).port q = if q = p then v else s.port q := by cases p <;> cases q <;> rfl

@[simp] theorem State.engine_setEngine (s : State) (e d : Eng) (v : Engine) :
    (s.setEngine e v).engine d = if d = e then v else s.engine d := by cases e <;> cases d <;> rfl

@[simp] theorem State.engine_modEngine (s : State) (e d : Eng) (f : Engine → Engine) :
    (s.modEngine e f).engine d = if d = e then f (s.engine e) else s.engine d := by cases e <;> cases d <;> rfl

@[simp] theorem State.protPort_modProtPort (s : State) (p q : Lp) (f : ProtPort → ProtPort) :
    (s.modProtPort p f).protPort q = if q = p then f (s.protPort p) else s.protPort q := by
  cases p <;> cases q <;> rfl

/-- The port of a state depends on its line ports alone. -/
theorem State.port_congr {s t : State} (h : t.lp = s.lp) (p : Lp) : t.port p = s.port p := by
  cases p <;> simp [State.port, h]

/-- The engine of a state depends on its engines alone. -/
theorem State.engine_congr {s t : State} (h : t.eng = s.eng) (e : Eng) : t.engine e = s.engine e := by
  cases e <;> simp [State.engine, h]

@[simp] theorem State.port_modMode (s : State) (p q : Lp) (f : ModePort → ModePort) :
    (s.modMode p f).port q = if q = p then { s.port p with mode := f (s.port p).mode } else s.port q := by
  simp [State.modMode]

@[simp] theorem State.modMode_now (s : State) (p : Lp) (f : ModePort → ModePort) : (s.modMode p f).now = s.now := by
  simp [State.modMode]
@[simp] theorem State.modMode_hk (s : State) (p : Lp) (f : ModePort → ModePort) : (s.modMode p f).hk = s.hk := by
  simp [State.modMode]
@[simp] theorem State.modMode_pr (s : State) (p : Lp) (f : ModePort → ModePort) : (s.modMode p f).pr = s.pr := by
  simp [State.modMode]
@[simp] theorem State.modMode_host (s : State) (p : Lp) (f : ModePort → ModePort) : (s.modMode p f).host = s.host := by
  simp [State.modMode]
@[simp] theorem State.modMode_eng (s : State) (p : Lp) (f : ModePort → ModePort) : (s.modMode p f).eng = s.eng := by
  simp [State.modMode]
@[simp] theorem State.modMode_warmPort (s : State) (p : Lp) (f : ModePort → ModePort) : (s.modMode p f).warmPort = s.warmPort := by
  simp [State.modMode]
@[simp] theorem State.modMode_reresolve (s : State) (p : Lp) (f : ModePort → ModePort) : (s.modMode p f).reresolve = s.reresolve := by
  simp [State.modMode]
@[simp] theorem State.modMode_lanes (s : State) (p : Lp) (f : ModePort → ModePort) : (s.modMode p f).lanes = s.lanes := by
  simp [State.modMode]
@[simp] theorem State.modMode_hports (s : State) (p : Lp) (f : ModePort → ModePort) : (s.modMode p f).hports = s.hports := by
  simp [State.modMode]
@[simp] theorem State.modMode_synce (s : State) (p : Lp) (f : ModePort → ModePort) : (s.modMode p f).synce = s.synce := by
  simp [State.modMode]
@[simp] theorem State.modMode_tm (s : State) (p : Lp) (f : ModePort → ModePort) : (s.modMode p f).tm = s.tm := by
  simp [State.modMode]
@[simp] theorem State.modMode_keys (s : State) (p : Lp) (f : ModePort → ModePort) : (s.modMode p f).keys = s.keys := by
  simp [State.modMode]
@[simp] theorem State.modMode_prot (s : State) (p : Lp) (f : ModePort → ModePort) : (s.modMode p f).prot = s.prot := by
  simp [State.modMode]
@[simp] theorem State.modMode_mate (s : State) (p : Lp) (f : ModePort → ModePort) : (s.modMode p f).mate = s.mate := by
  simp [State.modMode]
@[simp] theorem State.modMode_clk (s : State) (p : Lp) (f : ModePort → ModePort) : (s.modMode p f).clk = s.clk := by
  simp [State.modMode]
@[simp] theorem State.modMode_mon (s : State) (p : Lp) (f : ModePort → ModePort) : (s.modMode p f).mon = s.mon := by
  simp [State.modMode]
@[simp] theorem State.modMode_fw (s : State) (p : Lp) (f : ModePort → ModePort) : (s.modMode p f).fw = s.fw := by
  simp [State.modMode]
@[simp] theorem State.modMode_store (s : State) (p : Lp) (f : ModePort → ModePort) : (s.modMode p f).store = s.store := by
  simp [State.modMode]
@[simp] theorem State.modMode_sealSt (s : State) (p : Lp) (f : ModePort → ModePort) : (s.modMode p f).sealSt = s.sealSt := by
  simp [State.modMode]
@[simp] theorem State.modMode_alarms (s : State) (p : Lp) (f : ModePort → ModePort) : (s.modMode p f).alarms = s.alarms := by
  simp [State.modMode]
@[simp] theorem State.modMode_counters (s : State) (p : Lp) (f : ModePort → ModePort) : (s.modMode p f).counters = s.counters := by
  simp [State.modMode]
@[simp] theorem State.modMode_freeCtr (s : State) (p : Lp) (f : ModePort → ModePort) : (s.modMode p f).freeCtr = s.freeCtr := by
  simp [State.modMode]
@[simp] theorem State.modMode_pending (s : State) (p : Lp) (f : ModePort → ModePort) : (s.modMode p f).pending = s.pending := by
  simp [State.modMode]

@[simp] theorem State.port_modConv (s : State) (p q : Lp) (f : Conv → Conv) :
    (s.modConv p f).port q = if q = p then { s.port p with conv := f (s.port p).conv } else s.port q := by
  simp [State.modConv]

@[simp] theorem State.modConv_now (s : State) (p : Lp) (f : Conv → Conv) : (s.modConv p f).now = s.now := by
  simp [State.modConv]
@[simp] theorem State.modConv_hk (s : State) (p : Lp) (f : Conv → Conv) : (s.modConv p f).hk = s.hk := by
  simp [State.modConv]
@[simp] theorem State.modConv_pr (s : State) (p : Lp) (f : Conv → Conv) : (s.modConv p f).pr = s.pr := by
  simp [State.modConv]
@[simp] theorem State.modConv_host (s : State) (p : Lp) (f : Conv → Conv) : (s.modConv p f).host = s.host := by
  simp [State.modConv]
@[simp] theorem State.modConv_eng (s : State) (p : Lp) (f : Conv → Conv) : (s.modConv p f).eng = s.eng := by
  simp [State.modConv]
@[simp] theorem State.modConv_warmPort (s : State) (p : Lp) (f : Conv → Conv) : (s.modConv p f).warmPort = s.warmPort := by
  simp [State.modConv]
@[simp] theorem State.modConv_reresolve (s : State) (p : Lp) (f : Conv → Conv) : (s.modConv p f).reresolve = s.reresolve := by
  simp [State.modConv]
@[simp] theorem State.modConv_lanes (s : State) (p : Lp) (f : Conv → Conv) : (s.modConv p f).lanes = s.lanes := by
  simp [State.modConv]
@[simp] theorem State.modConv_hports (s : State) (p : Lp) (f : Conv → Conv) : (s.modConv p f).hports = s.hports := by
  simp [State.modConv]
@[simp] theorem State.modConv_synce (s : State) (p : Lp) (f : Conv → Conv) : (s.modConv p f).synce = s.synce := by
  simp [State.modConv]
@[simp] theorem State.modConv_tm (s : State) (p : Lp) (f : Conv → Conv) : (s.modConv p f).tm = s.tm := by
  simp [State.modConv]
@[simp] theorem State.modConv_keys (s : State) (p : Lp) (f : Conv → Conv) : (s.modConv p f).keys = s.keys := by
  simp [State.modConv]
@[simp] theorem State.modConv_prot (s : State) (p : Lp) (f : Conv → Conv) : (s.modConv p f).prot = s.prot := by
  simp [State.modConv]
@[simp] theorem State.modConv_mate (s : State) (p : Lp) (f : Conv → Conv) : (s.modConv p f).mate = s.mate := by
  simp [State.modConv]
@[simp] theorem State.modConv_clk (s : State) (p : Lp) (f : Conv → Conv) : (s.modConv p f).clk = s.clk := by
  simp [State.modConv]
@[simp] theorem State.modConv_mon (s : State) (p : Lp) (f : Conv → Conv) : (s.modConv p f).mon = s.mon := by
  simp [State.modConv]
@[simp] theorem State.modConv_fw (s : State) (p : Lp) (f : Conv → Conv) : (s.modConv p f).fw = s.fw := by
  simp [State.modConv]
@[simp] theorem State.modConv_store (s : State) (p : Lp) (f : Conv → Conv) : (s.modConv p f).store = s.store := by
  simp [State.modConv]
@[simp] theorem State.modConv_sealSt (s : State) (p : Lp) (f : Conv → Conv) : (s.modConv p f).sealSt = s.sealSt := by
  simp [State.modConv]
@[simp] theorem State.modConv_alarms (s : State) (p : Lp) (f : Conv → Conv) : (s.modConv p f).alarms = s.alarms := by
  simp [State.modConv]
@[simp] theorem State.modConv_counters (s : State) (p : Lp) (f : Conv → Conv) : (s.modConv p f).counters = s.counters := by
  simp [State.modConv]
@[simp] theorem State.modConv_freeCtr (s : State) (p : Lp) (f : Conv → Conv) : (s.modConv p f).freeCtr = s.freeCtr := by
  simp [State.modConv]
@[simp] theorem State.modConv_pending (s : State) (p : Lp) (f : Conv → Conv) : (s.modConv p f).pending = s.pending := by
  simp [State.modConv]

@[simp] theorem State.port_modDsp (s : State) (p q : Lp) (f : Dsp → Dsp) :
    (s.modDsp p f).port q = if q = p then { s.port p with dsp := f (s.port p).dsp } else s.port q := by
  simp [State.modDsp]

@[simp] theorem State.modDsp_now (s : State) (p : Lp) (f : Dsp → Dsp) : (s.modDsp p f).now = s.now := by
  simp [State.modDsp]
@[simp] theorem State.modDsp_hk (s : State) (p : Lp) (f : Dsp → Dsp) : (s.modDsp p f).hk = s.hk := by
  simp [State.modDsp]
@[simp] theorem State.modDsp_pr (s : State) (p : Lp) (f : Dsp → Dsp) : (s.modDsp p f).pr = s.pr := by
  simp [State.modDsp]
@[simp] theorem State.modDsp_host (s : State) (p : Lp) (f : Dsp → Dsp) : (s.modDsp p f).host = s.host := by
  simp [State.modDsp]
@[simp] theorem State.modDsp_eng (s : State) (p : Lp) (f : Dsp → Dsp) : (s.modDsp p f).eng = s.eng := by
  simp [State.modDsp]
@[simp] theorem State.modDsp_warmPort (s : State) (p : Lp) (f : Dsp → Dsp) : (s.modDsp p f).warmPort = s.warmPort := by
  simp [State.modDsp]
@[simp] theorem State.modDsp_reresolve (s : State) (p : Lp) (f : Dsp → Dsp) : (s.modDsp p f).reresolve = s.reresolve := by
  simp [State.modDsp]
@[simp] theorem State.modDsp_lanes (s : State) (p : Lp) (f : Dsp → Dsp) : (s.modDsp p f).lanes = s.lanes := by
  simp [State.modDsp]
@[simp] theorem State.modDsp_hports (s : State) (p : Lp) (f : Dsp → Dsp) : (s.modDsp p f).hports = s.hports := by
  simp [State.modDsp]
@[simp] theorem State.modDsp_synce (s : State) (p : Lp) (f : Dsp → Dsp) : (s.modDsp p f).synce = s.synce := by
  simp [State.modDsp]
@[simp] theorem State.modDsp_tm (s : State) (p : Lp) (f : Dsp → Dsp) : (s.modDsp p f).tm = s.tm := by
  simp [State.modDsp]
@[simp] theorem State.modDsp_keys (s : State) (p : Lp) (f : Dsp → Dsp) : (s.modDsp p f).keys = s.keys := by
  simp [State.modDsp]
@[simp] theorem State.modDsp_prot (s : State) (p : Lp) (f : Dsp → Dsp) : (s.modDsp p f).prot = s.prot := by
  simp [State.modDsp]
@[simp] theorem State.modDsp_mate (s : State) (p : Lp) (f : Dsp → Dsp) : (s.modDsp p f).mate = s.mate := by
  simp [State.modDsp]
@[simp] theorem State.modDsp_clk (s : State) (p : Lp) (f : Dsp → Dsp) : (s.modDsp p f).clk = s.clk := by
  simp [State.modDsp]
@[simp] theorem State.modDsp_mon (s : State) (p : Lp) (f : Dsp → Dsp) : (s.modDsp p f).mon = s.mon := by
  simp [State.modDsp]
@[simp] theorem State.modDsp_fw (s : State) (p : Lp) (f : Dsp → Dsp) : (s.modDsp p f).fw = s.fw := by
  simp [State.modDsp]
@[simp] theorem State.modDsp_store (s : State) (p : Lp) (f : Dsp → Dsp) : (s.modDsp p f).store = s.store := by
  simp [State.modDsp]
@[simp] theorem State.modDsp_sealSt (s : State) (p : Lp) (f : Dsp → Dsp) : (s.modDsp p f).sealSt = s.sealSt := by
  simp [State.modDsp]
@[simp] theorem State.modDsp_alarms (s : State) (p : Lp) (f : Dsp → Dsp) : (s.modDsp p f).alarms = s.alarms := by
  simp [State.modDsp]
@[simp] theorem State.modDsp_counters (s : State) (p : Lp) (f : Dsp → Dsp) : (s.modDsp p f).counters = s.counters := by
  simp [State.modDsp]
@[simp] theorem State.modDsp_freeCtr (s : State) (p : Lp) (f : Dsp → Dsp) : (s.modDsp p f).freeCtr = s.freeCtr := by
  simp [State.modDsp]
@[simp] theorem State.modDsp_pending (s : State) (p : Lp) (f : Dsp → Dsp) : (s.modDsp p f).pending = s.pending := by
  simp [State.modDsp]

@[simp] theorem State.port_modCod (s : State) (p q : Lp) (f : Coding → Coding) :
    (s.modCod p f).port q = if q = p then { s.port p with cod := f (s.port p).cod } else s.port q := by
  simp [State.modCod]

@[simp] theorem State.modCod_now (s : State) (p : Lp) (f : Coding → Coding) : (s.modCod p f).now = s.now := by
  simp [State.modCod]
@[simp] theorem State.modCod_hk (s : State) (p : Lp) (f : Coding → Coding) : (s.modCod p f).hk = s.hk := by
  simp [State.modCod]
@[simp] theorem State.modCod_pr (s : State) (p : Lp) (f : Coding → Coding) : (s.modCod p f).pr = s.pr := by
  simp [State.modCod]
@[simp] theorem State.modCod_host (s : State) (p : Lp) (f : Coding → Coding) : (s.modCod p f).host = s.host := by
  simp [State.modCod]
@[simp] theorem State.modCod_eng (s : State) (p : Lp) (f : Coding → Coding) : (s.modCod p f).eng = s.eng := by
  simp [State.modCod]
@[simp] theorem State.modCod_warmPort (s : State) (p : Lp) (f : Coding → Coding) : (s.modCod p f).warmPort = s.warmPort := by
  simp [State.modCod]
@[simp] theorem State.modCod_reresolve (s : State) (p : Lp) (f : Coding → Coding) : (s.modCod p f).reresolve = s.reresolve := by
  simp [State.modCod]
@[simp] theorem State.modCod_lanes (s : State) (p : Lp) (f : Coding → Coding) : (s.modCod p f).lanes = s.lanes := by
  simp [State.modCod]
@[simp] theorem State.modCod_hports (s : State) (p : Lp) (f : Coding → Coding) : (s.modCod p f).hports = s.hports := by
  simp [State.modCod]
@[simp] theorem State.modCod_synce (s : State) (p : Lp) (f : Coding → Coding) : (s.modCod p f).synce = s.synce := by
  simp [State.modCod]
@[simp] theorem State.modCod_tm (s : State) (p : Lp) (f : Coding → Coding) : (s.modCod p f).tm = s.tm := by
  simp [State.modCod]
@[simp] theorem State.modCod_keys (s : State) (p : Lp) (f : Coding → Coding) : (s.modCod p f).keys = s.keys := by
  simp [State.modCod]
@[simp] theorem State.modCod_prot (s : State) (p : Lp) (f : Coding → Coding) : (s.modCod p f).prot = s.prot := by
  simp [State.modCod]
@[simp] theorem State.modCod_mate (s : State) (p : Lp) (f : Coding → Coding) : (s.modCod p f).mate = s.mate := by
  simp [State.modCod]
@[simp] theorem State.modCod_clk (s : State) (p : Lp) (f : Coding → Coding) : (s.modCod p f).clk = s.clk := by
  simp [State.modCod]
@[simp] theorem State.modCod_mon (s : State) (p : Lp) (f : Coding → Coding) : (s.modCod p f).mon = s.mon := by
  simp [State.modCod]
@[simp] theorem State.modCod_fw (s : State) (p : Lp) (f : Coding → Coding) : (s.modCod p f).fw = s.fw := by
  simp [State.modCod]
@[simp] theorem State.modCod_store (s : State) (p : Lp) (f : Coding → Coding) : (s.modCod p f).store = s.store := by
  simp [State.modCod]
@[simp] theorem State.modCod_sealSt (s : State) (p : Lp) (f : Coding → Coding) : (s.modCod p f).sealSt = s.sealSt := by
  simp [State.modCod]
@[simp] theorem State.modCod_alarms (s : State) (p : Lp) (f : Coding → Coding) : (s.modCod p f).alarms = s.alarms := by
  simp [State.modCod]
@[simp] theorem State.modCod_counters (s : State) (p : Lp) (f : Coding → Coding) : (s.modCod p f).counters = s.counters := by
  simp [State.modCod]
@[simp] theorem State.modCod_freeCtr (s : State) (p : Lp) (f : Coding → Coding) : (s.modCod p f).freeCtr = s.freeCtr := by
  simp [State.modCod]
@[simp] theorem State.modCod_pending (s : State) (p : Lp) (f : Coding → Coding) : (s.modCod p f).pending = s.pending := by
  simp [State.modCod]

@[simp] theorem State.port_modFrame (s : State) (p q : Lp) (f : Frame → Frame) :
    (s.modFrame p f).port q = if q = p then { s.port p with frame := f (s.port p).frame } else s.port q := by
  simp [State.modFrame]

@[simp] theorem State.modFrame_now (s : State) (p : Lp) (f : Frame → Frame) : (s.modFrame p f).now = s.now := by
  simp [State.modFrame]
@[simp] theorem State.modFrame_hk (s : State) (p : Lp) (f : Frame → Frame) : (s.modFrame p f).hk = s.hk := by
  simp [State.modFrame]
@[simp] theorem State.modFrame_pr (s : State) (p : Lp) (f : Frame → Frame) : (s.modFrame p f).pr = s.pr := by
  simp [State.modFrame]
@[simp] theorem State.modFrame_host (s : State) (p : Lp) (f : Frame → Frame) : (s.modFrame p f).host = s.host := by
  simp [State.modFrame]
@[simp] theorem State.modFrame_eng (s : State) (p : Lp) (f : Frame → Frame) : (s.modFrame p f).eng = s.eng := by
  simp [State.modFrame]
@[simp] theorem State.modFrame_warmPort (s : State) (p : Lp) (f : Frame → Frame) : (s.modFrame p f).warmPort = s.warmPort := by
  simp [State.modFrame]
@[simp] theorem State.modFrame_reresolve (s : State) (p : Lp) (f : Frame → Frame) : (s.modFrame p f).reresolve = s.reresolve := by
  simp [State.modFrame]
@[simp] theorem State.modFrame_lanes (s : State) (p : Lp) (f : Frame → Frame) : (s.modFrame p f).lanes = s.lanes := by
  simp [State.modFrame]
@[simp] theorem State.modFrame_hports (s : State) (p : Lp) (f : Frame → Frame) : (s.modFrame p f).hports = s.hports := by
  simp [State.modFrame]
@[simp] theorem State.modFrame_synce (s : State) (p : Lp) (f : Frame → Frame) : (s.modFrame p f).synce = s.synce := by
  simp [State.modFrame]
@[simp] theorem State.modFrame_tm (s : State) (p : Lp) (f : Frame → Frame) : (s.modFrame p f).tm = s.tm := by
  simp [State.modFrame]
@[simp] theorem State.modFrame_keys (s : State) (p : Lp) (f : Frame → Frame) : (s.modFrame p f).keys = s.keys := by
  simp [State.modFrame]
@[simp] theorem State.modFrame_prot (s : State) (p : Lp) (f : Frame → Frame) : (s.modFrame p f).prot = s.prot := by
  simp [State.modFrame]
@[simp] theorem State.modFrame_mate (s : State) (p : Lp) (f : Frame → Frame) : (s.modFrame p f).mate = s.mate := by
  simp [State.modFrame]
@[simp] theorem State.modFrame_clk (s : State) (p : Lp) (f : Frame → Frame) : (s.modFrame p f).clk = s.clk := by
  simp [State.modFrame]
@[simp] theorem State.modFrame_mon (s : State) (p : Lp) (f : Frame → Frame) : (s.modFrame p f).mon = s.mon := by
  simp [State.modFrame]
@[simp] theorem State.modFrame_fw (s : State) (p : Lp) (f : Frame → Frame) : (s.modFrame p f).fw = s.fw := by
  simp [State.modFrame]
@[simp] theorem State.modFrame_store (s : State) (p : Lp) (f : Frame → Frame) : (s.modFrame p f).store = s.store := by
  simp [State.modFrame]
@[simp] theorem State.modFrame_sealSt (s : State) (p : Lp) (f : Frame → Frame) : (s.modFrame p f).sealSt = s.sealSt := by
  simp [State.modFrame]
@[simp] theorem State.modFrame_alarms (s : State) (p : Lp) (f : Frame → Frame) : (s.modFrame p f).alarms = s.alarms := by
  simp [State.modFrame]
@[simp] theorem State.modFrame_counters (s : State) (p : Lp) (f : Frame → Frame) : (s.modFrame p f).counters = s.counters := by
  simp [State.modFrame]
@[simp] theorem State.modFrame_freeCtr (s : State) (p : Lp) (f : Frame → Frame) : (s.modFrame p f).freeCtr = s.freeCtr := by
  simp [State.modFrame]
@[simp] theorem State.modFrame_pending (s : State) (p : Lp) (f : Frame → Frame) : (s.modFrame p f).pending = s.pending := by
  simp [State.modFrame]

@[simp] theorem State.port_modCrypto (s : State) (p q : Lp) (f : Crypto → Crypto) :
    (s.modCrypto p f).port q = if q = p then { s.port p with crypto := f (s.port p).crypto } else s.port q := by
  simp [State.modCrypto]

@[simp] theorem State.modCrypto_now (s : State) (p : Lp) (f : Crypto → Crypto) : (s.modCrypto p f).now = s.now := by
  simp [State.modCrypto]
@[simp] theorem State.modCrypto_hk (s : State) (p : Lp) (f : Crypto → Crypto) : (s.modCrypto p f).hk = s.hk := by
  simp [State.modCrypto]
@[simp] theorem State.modCrypto_pr (s : State) (p : Lp) (f : Crypto → Crypto) : (s.modCrypto p f).pr = s.pr := by
  simp [State.modCrypto]
@[simp] theorem State.modCrypto_host (s : State) (p : Lp) (f : Crypto → Crypto) : (s.modCrypto p f).host = s.host := by
  simp [State.modCrypto]
@[simp] theorem State.modCrypto_eng (s : State) (p : Lp) (f : Crypto → Crypto) : (s.modCrypto p f).eng = s.eng := by
  simp [State.modCrypto]
@[simp] theorem State.modCrypto_warmPort (s : State) (p : Lp) (f : Crypto → Crypto) : (s.modCrypto p f).warmPort = s.warmPort := by
  simp [State.modCrypto]
@[simp] theorem State.modCrypto_reresolve (s : State) (p : Lp) (f : Crypto → Crypto) : (s.modCrypto p f).reresolve = s.reresolve := by
  simp [State.modCrypto]
@[simp] theorem State.modCrypto_lanes (s : State) (p : Lp) (f : Crypto → Crypto) : (s.modCrypto p f).lanes = s.lanes := by
  simp [State.modCrypto]
@[simp] theorem State.modCrypto_hports (s : State) (p : Lp) (f : Crypto → Crypto) : (s.modCrypto p f).hports = s.hports := by
  simp [State.modCrypto]
@[simp] theorem State.modCrypto_synce (s : State) (p : Lp) (f : Crypto → Crypto) : (s.modCrypto p f).synce = s.synce := by
  simp [State.modCrypto]
@[simp] theorem State.modCrypto_tm (s : State) (p : Lp) (f : Crypto → Crypto) : (s.modCrypto p f).tm = s.tm := by
  simp [State.modCrypto]
@[simp] theorem State.modCrypto_keys (s : State) (p : Lp) (f : Crypto → Crypto) : (s.modCrypto p f).keys = s.keys := by
  simp [State.modCrypto]
@[simp] theorem State.modCrypto_prot (s : State) (p : Lp) (f : Crypto → Crypto) : (s.modCrypto p f).prot = s.prot := by
  simp [State.modCrypto]
@[simp] theorem State.modCrypto_mate (s : State) (p : Lp) (f : Crypto → Crypto) : (s.modCrypto p f).mate = s.mate := by
  simp [State.modCrypto]
@[simp] theorem State.modCrypto_clk (s : State) (p : Lp) (f : Crypto → Crypto) : (s.modCrypto p f).clk = s.clk := by
  simp [State.modCrypto]
@[simp] theorem State.modCrypto_mon (s : State) (p : Lp) (f : Crypto → Crypto) : (s.modCrypto p f).mon = s.mon := by
  simp [State.modCrypto]
@[simp] theorem State.modCrypto_fw (s : State) (p : Lp) (f : Crypto → Crypto) : (s.modCrypto p f).fw = s.fw := by
  simp [State.modCrypto]
@[simp] theorem State.modCrypto_store (s : State) (p : Lp) (f : Crypto → Crypto) : (s.modCrypto p f).store = s.store := by
  simp [State.modCrypto]
@[simp] theorem State.modCrypto_sealSt (s : State) (p : Lp) (f : Crypto → Crypto) : (s.modCrypto p f).sealSt = s.sealSt := by
  simp [State.modCrypto]
@[simp] theorem State.modCrypto_alarms (s : State) (p : Lp) (f : Crypto → Crypto) : (s.modCrypto p f).alarms = s.alarms := by
  simp [State.modCrypto]
@[simp] theorem State.modCrypto_counters (s : State) (p : Lp) (f : Crypto → Crypto) : (s.modCrypto p f).counters = s.counters := by
  simp [State.modCrypto]
@[simp] theorem State.modCrypto_freeCtr (s : State) (p : Lp) (f : Crypto → Crypto) : (s.modCrypto p f).freeCtr = s.freeCtr := by
  simp [State.modCrypto]
@[simp] theorem State.modCrypto_pending (s : State) (p : Lp) (f : Crypto → Crypto) : (s.modCrypto p f).pending = s.pending := by
  simp [State.modCrypto]

@[simp] theorem State.modEngine_now (s : State) (e : Eng) (f : Engine → Engine) : (s.modEngine e f).now = s.now := by
  simp [State.modEngine]
@[simp] theorem State.modEngine_hk (s : State) (e : Eng) (f : Engine → Engine) : (s.modEngine e f).hk = s.hk := by
  simp [State.modEngine]
@[simp] theorem State.modEngine_pr (s : State) (e : Eng) (f : Engine → Engine) : (s.modEngine e f).pr = s.pr := by
  simp [State.modEngine]
@[simp] theorem State.modEngine_host (s : State) (e : Eng) (f : Engine → Engine) : (s.modEngine e f).host = s.host := by
  simp [State.modEngine]
@[simp] theorem State.modEngine_lp (s : State) (e : Eng) (f : Engine → Engine) : (s.modEngine e f).lp = s.lp := by
  simp [State.modEngine]
@[simp] theorem State.modEngine_warmPort (s : State) (e : Eng) (f : Engine → Engine) : (s.modEngine e f).warmPort = s.warmPort := by
  simp [State.modEngine]
@[simp] theorem State.modEngine_reresolve (s : State) (e : Eng) (f : Engine → Engine) : (s.modEngine e f).reresolve = s.reresolve := by
  simp [State.modEngine]
@[simp] theorem State.modEngine_lanes (s : State) (e : Eng) (f : Engine → Engine) : (s.modEngine e f).lanes = s.lanes := by
  simp [State.modEngine]
@[simp] theorem State.modEngine_hports (s : State) (e : Eng) (f : Engine → Engine) : (s.modEngine e f).hports = s.hports := by
  simp [State.modEngine]
@[simp] theorem State.modEngine_synce (s : State) (e : Eng) (f : Engine → Engine) : (s.modEngine e f).synce = s.synce := by
  simp [State.modEngine]
@[simp] theorem State.modEngine_tm (s : State) (e : Eng) (f : Engine → Engine) : (s.modEngine e f).tm = s.tm := by
  simp [State.modEngine]
@[simp] theorem State.modEngine_keys (s : State) (e : Eng) (f : Engine → Engine) : (s.modEngine e f).keys = s.keys := by
  simp [State.modEngine]
@[simp] theorem State.modEngine_prot (s : State) (e : Eng) (f : Engine → Engine) : (s.modEngine e f).prot = s.prot := by
  simp [State.modEngine]
@[simp] theorem State.modEngine_mate (s : State) (e : Eng) (f : Engine → Engine) : (s.modEngine e f).mate = s.mate := by
  simp [State.modEngine]
@[simp] theorem State.modEngine_clk (s : State) (e : Eng) (f : Engine → Engine) : (s.modEngine e f).clk = s.clk := by
  simp [State.modEngine]
@[simp] theorem State.modEngine_mon (s : State) (e : Eng) (f : Engine → Engine) : (s.modEngine e f).mon = s.mon := by
  simp [State.modEngine]
@[simp] theorem State.modEngine_fw (s : State) (e : Eng) (f : Engine → Engine) : (s.modEngine e f).fw = s.fw := by
  simp [State.modEngine]
@[simp] theorem State.modEngine_store (s : State) (e : Eng) (f : Engine → Engine) : (s.modEngine e f).store = s.store := by
  simp [State.modEngine]
@[simp] theorem State.modEngine_sealSt (s : State) (e : Eng) (f : Engine → Engine) : (s.modEngine e f).sealSt = s.sealSt := by
  simp [State.modEngine]
@[simp] theorem State.modEngine_alarms (s : State) (e : Eng) (f : Engine → Engine) : (s.modEngine e f).alarms = s.alarms := by
  simp [State.modEngine]
@[simp] theorem State.modEngine_counters (s : State) (e : Eng) (f : Engine → Engine) : (s.modEngine e f).counters = s.counters := by
  simp [State.modEngine]
@[simp] theorem State.modEngine_freeCtr (s : State) (e : Eng) (f : Engine → Engine) : (s.modEngine e f).freeCtr = s.freeCtr := by
  simp [State.modEngine]
@[simp] theorem State.modEngine_pending (s : State) (e : Eng) (f : Engine → Engine) : (s.modEngine e f).pending = s.pending := by
  simp [State.modEngine]

end Sys2Proof.Machine
end

