-- ==== Sys2Proof/Laws/Ops.lean ====
section
/-!
SUPPORT. Sys2Proof/Laws/Ops.lean: what each shared operation can change: time, replies, events, alarms and counters.
-/
namespace Sys2Proof.Machine
open Sys2Proof

/-! ## Time -/

/-- `advance` changes the two clocks alone. -/
theorem advance_eq (dt : Nat) (s : State) :
    advance dt s = { s with now := (advance dt s).now, hk := (advance dt s).hk } := by
  unfold advance; split <;> rfl

/-! ## What the sending of packets changes -/

/-- `s` with the parts that the sending of packets changes taken from `t`: ring slots and indices, output queues, event
queues, MSI-X counts, REPLY_DROP, the transmit side of the mate link, counters. -/
def sentAs (s t : State) : State :=
  { s with
    host := { s.host with
      replyDrop := t.host.replyDrop, evt := t.host.evt, heldEvents := t.host.heldEvents, alarmSeen := t.host.alarmSeen,
      pcie := { s.host.pcie with
        rplProd := t.host.pcie.rplProd, evtProd := t.host.pcie.evtProd, rplRing := t.host.pcie.rplRing,
        evtRing := t.host.pcie.evtRing, rplWait := t.host.pcie.rplWait, msix0 := t.host.pcie.msix0,
        msix1 := t.host.pcie.msix1, msix2 := t.host.pcie.msix2 },
      spi := { s.host.spi with out := t.host.spi.out, wait := t.host.spi.wait },
      ib := { lp0 := { s.host.ib.lp0 with tx := t.host.ib.lp0.tx }, lp1 := { s.host.ib.lp1 with tx := t.host.ib.lp1.tx } } },
    mate := { s.mate with
      queue := t.mate.queue, unacked := t.mate.unacked, txSeq := t.mate.txSeq, msgId := t.mate.msgId, tx := t.mate.tx,
      ackDue := t.mate.ackDue, rateSent := t.mate.rateSent },
    counters := t.counters }

/-- From `s` to `t` packets were sent or queued, and nothing else happened. -/
def Sends (s t : State) : Prop := t = sentAs s t

/-- From `s` to `t` alarms changed, and packets were sent or queued. -/
def Alarms (s t : State) : Prop := Sends { s with alarms := t.alarms } t

theorem Sends.refl (s : State) : Sends s s := rfl

theorem Sends.trans {s t u : State} (h : Sends s t) (k : Sends t u) : Sends s u := by
  have e : sentAs (sentAs s t) u = sentAs s u := rfl
  unfold Sends at h k ⊢
  rw [h, e] at k
  exact k

theorem Sends.ite {c : Prop} [Decidable c] {s t u : State} (h : Sends s t) (k : Sends s u) :
    Sends s (if c then t else u) := by split <;> assumption

/-- A fold of operations each of which only sends. -/
theorem Sends.foldl {α : Type} (f : State → α → State) (h : ∀ s a, Sends s (f s a)) (l : List α) (s : State) :
    Sends s (l.foldl f s) := by
  induction l generalizing s with
  | nil => exact .refl s
  | cons a r ih => exact (h s a).trans (ih _)

theorem sends_modEvt (s : State) (p : Port) (f : EvtPort → EvtPort) : Sends s (modEvt s p f) := rfl
theorem sends_ctrAdd (s : State) (k n : Nat) : Sends s (ctrAdd s k n) := rfl

theorem sends_sendBurst (type flags seq : Nat) (payload : List Byte) (s : State) :
    Sends s (sendBurst type flags seq payload s) := rfl

theorem sends_pumpMate (n : Nat) (s : State) : Sends s (pumpMate n s) := by
  induction n generalizing s with
  | zero => exact .refl s
  | succ n ih =>
    rw [pumpMate]
    split
    · exact .refl s
    · split
      · refine Sends.trans ?_ (ih _)
        refine Sends.trans ?_ (sends_sendBurst _ _ _ _ _)
        rfl
      · exact .refl s

theorem sends_queuePacket (ws : List Word) (s : State) : Sends s (queuePacket ws s) := by
  refine Sends.trans ?_ (sends_pumpMate _ _)
  rfl

theorem sends_place (s : State) (p : Port) (k : OutPkt) : Sends s (place s p k) := by
  cases p <;> simp only [place]
  · split <;> rfl
  · rfl
  · rfl
  · rfl
  · exact sends_queuePacket _ _

theorem sends_emitTo (p : Port) (code target flags : Nat) (data : List Word) (s : State) :
    Sends s (emitTo p code target flags data s) :=
  ((sends_modEvt s _ _).trans (sends_place _ _ _)).ite ((sends_modEvt s _ _).trans (sends_modEvt _ _ _))

theorem sends_emitF (code target flags : Nat) (data : List Word) (s : State) :
    Sends s (emitF code target flags data s) := by
  unfold emitF
  split
  · rfl
  · exact Sends.foldl _ (fun s p => (sends_emitTo _ _ _ _ _ _).ite (.refl s)) _ _

theorem sends_emit (code target : Nat) (data : List Word) (s : State) : Sends s (emit code target data s) :=
  sends_emitF _ _ _ _ _

theorem sends_alarmNotify (s : State) : Sends s (alarmNotify s) := (Sends.refl s).ite rfl

theorem Sends.alarms_eq {s t : State} (h : Sends s t) : t.alarms = s.alarms := by
  have k := congrArg State.alarms h; exact k

theorem Sends.alarms_of {s t : State} (h : Sends s t) : Alarms s t := by
  unfold Alarms
  rw [h.alarms_eq]
  exact h

theorem Alarms.ite {c : Prop} [Decidable c] {s t u : State} (h : Alarms s t) (k : Alarms s u) :
    Alarms s (if c then t else u) := by split <;> assumption

theorem alarms_notified (code target flags : Nat) (data : List Word) (s : State) (a : SMap Bool) :
    Alarms s (alarmNotify (emitF code target flags data { s with alarms := a })) := by
  have h := (sends_emitF code target flags data { s with alarms := a }).trans (sends_alarmNotify _)
  unfold Alarms
  rw [h.alarms_eq]
  exact h

theorem alarms_raiseAlarm (code target sub : Nat) (data : List Word) (s : State) :
    Alarms s (raiseAlarm code target sub data s) := by
  unfold raiseAlarm
  exact (Sends.refl s).alarms_of.ite (alarms_notified code target 3 data s _)

theorem alarms_clearAlarm (code target sub : Nat) (data : List Word) (s : State) :
    Alarms s (clearAlarm code target sub data s) := by
  unfold clearAlarm
  exact (alarms_notified code target 1 data s _).ite (Sends.refl s).alarms_of

theorem alarms_alarmIf (b : Bool) (code target sub : Nat) (data : List Word) (s : State) :
    Alarms s (alarmIf b code target sub data s) :=
  (alarms_raiseAlarm _ _ _ _ _).ite (alarms_clearAlarm _ _ _ _ _)

theorem sends_placeReply (s : State) (p : Port) (k : OutPkt) : Sends s (placeReply s p k) := by
  cases p <;> simp only [placeReply]
  · split
    · exact sends_place _ _ _
    · rfl
  · split
    · exact sends_place _ _ _
    · split
      · refine Sends.trans ?_ ((sends_modEvt _ _ _).trans (sends_place _ _ _))
        rfl
      · rfl
  all_goals exact sends_place _ _ _

theorem sends_sendReply (p : Port) (k : OutPkt) (s : State) : Sends s (sendReply p k s) :=
  (sends_placeReply _ _ _).ite rfl

theorem sends_reply (code : Nat) (c : Cmd) (status detail : Nat) (data : List Word) (s : State) :
    Sends s (reply code c status detail data s) := sends_sendReply _ _ _

theorem sends_pumpPcieReplies (n : Nat) (s : State) : Sends s (pumpPcieReplies n s) := by
  induction n generalizing s with
  | zero => exact .refl s
  | succ n ih =>
    simp only [pumpPcieReplies]
    split
    · exact .refl s
    · split
      · refine Sends.trans ?_ (ih _)
        refine Sends.trans ?_ (sends_place _ _ _)
        rfl
      · exact .refl s

theorem sends_pumpSpiReplies (n : Nat) (s : State) : Sends s (pumpSpiReplies n s) := by
  induction n generalizing s with
  | zero => exact .refl s
  | succ n ih =>
    simp only [pumpSpiReplies]
    split
    · exact .refl s
    · split
      · refine Sends.trans ?_ (ih _)
        refine Sends.trans ?_ (sends_place _ _ _)
        rfl
      · exact .refl s

theorem sends_pumpEvent (s : State) (p : Port) : Sends s (pumpEvent s p) := by
  simp only [pumpEvent, takeSeq]
  split
  · split
    · exact ((sends_modEvt s _ _).trans (sends_modEvt _ _ _)).trans (sends_place _ _ _)
    · split
      · exact .refl s
      · exact (sends_modEvt s _ _).trans (sends_place _ _ _)
  · exact .refl s

theorem sends_pumpEvents (n : Nat) (s : State) (p : Port) : Sends s (pumpEvents n s p) := by
  induction n generalizing s with
  | zero => exact .refl s
  | succ n ih => exact (sends_pumpEvent s p).trans (ih _)

/-- Everything `pump` can do. -/
theorem sends_pump (s : State) : Sends s (pump s) :=
  ((sends_pumpPcieReplies _ s).trans (sends_pumpSpiReplies _ _)).trans
    (Sends.foldl _ (fun s p => sends_pumpEvents _ s p) _ _)

theorem sends_emitDone (d : Deferred) (s : State) : Sends s (emitDone d s) :=
  (sends_emitTo _ _ _ _ _ _).ite rfl

/-- `s` with the deferred commands, holds and wakes of `t`: an ATOMIC DEV_WAKE that fails takes its holds back. -/
def deferAs (s t : State) : State :=
  { s with host := { s.host with deferred := t.host.deferred, holds := t.host.holds, wakes := t.host.wakes } }

/-- Everything the completion of a deferred command's unit can do. -/
theorem sends_completeUnit (code t status detail : Nat) (ws : List Word) (s : State) :
    Sends (deferAs s (completeUnit code t status detail ws s)) (completeUnit code t status detail ws s) := by
  have key : ∀ (s u : State) (d : List Deferred) (m : SMap Nat) (k : SMap (Option Nat)),
      Sends (s.modHost fun h => { h with deferred := d, holds := m, wakes := k }) u → Sends (deferAs s u) u := by
    intro s u d m k h
    have e : u.host.deferred = d := by have k := congrArg (fun s : State => s.host.deferred) h; exact k
    have em : u.host.holds = m := by have k := congrArg (fun s : State => s.host.holds) h; exact k
    have ek : u.host.wakes = k := by have k := congrArg (fun s : State => s.host.wakes) h; exact k
    unfold deferAs
    rw [e, em, ek]
    exact h
  simp only [completeUnit]
  split
  · exact .refl s
  · next d _ _ =>
    generalize (d.atomic && decide (0x100 ≤ status)) = back
    cases back <;> simp only [if_true, if_false, Bool.false_eq_true]
    all_goals
      split
      · exact key s _ _ _ _ (sends_emitDone _ _)
      · exact rfl

/-- `s` with the locks of `t`. -/
def locksAs (s t : State) : State :=
  { s with host := { s.host with cryptoLock := t.host.cryptoLock, updateLock := t.host.updateLock } }

/-- Activity on a port changes the times of the locks alone. -/
theorem lockActivity_eq (p : Port) (s : State) : lockActivity p s = locksAs s (lockActivity p s) := by
  simp only [lockActivity, List.foldl, lockHolder, setLock, locksAs]
  repeat' split
  all_goals rfl

theorem lockActivity_cryptoLock_isSome (p : Port) (s : State) :
    (lockActivity p s).host.cryptoLock.isSome = s.host.cryptoLock.isSome := by
  simp only [lockActivity, List.foldl, lockHolder, setLock]
  repeat' split
  all_goals simp_all [State.modHost]

theorem lockActivity_updateLock_isSome (p : Port) (s : State) :
    (lockActivity p s).host.updateLock.isSome = s.host.updateLock.isSome := by
  simp only [lockActivity, List.foldl, lockHolder, setLock]
  repeat' split
  all_goals simp_all [State.modHost]


theorem Sends.now {s t : State} (h : Sends s t) : t.now = s.now := by
  have k := congrArg (fun s : State => s.now) h; exact k
theorem Sends.hk {s t : State} (h : Sends s t) : t.hk = s.hk := by
  have k := congrArg (fun s : State => s.hk) h; exact k
theorem Sends.pr {s t : State} (h : Sends s t) : t.pr = s.pr := by
  have k := congrArg (fun s : State => s.pr) h; exact k
theorem Sends.lp {s t : State} (h : Sends s t) : t.lp = s.lp := by
  have k := congrArg (fun s : State => s.lp) h; exact k
theorem Sends.eng {s t : State} (h : Sends s t) : t.eng = s.eng := by
  have k := congrArg (fun s : State => s.eng) h; exact k
theorem Sends.warmPort {s t : State} (h : Sends s t) : t.warmPort = s.warmPort := by
  have k := congrArg (fun s : State => s.warmPort) h; exact k
theorem Sends.reresolve {s t : State} (h : Sends s t) : t.reresolve = s.reresolve := by
  have k := congrArg (fun s : State => s.reresolve) h; exact k
theorem Sends.lanes {s t : State} (h : Sends s t) : t.lanes = s.lanes := by
  have k := congrArg (fun s : State => s.lanes) h; exact k
theorem Sends.hports {s t : State} (h : Sends s t) : t.hports = s.hports := by
  have k := congrArg (fun s : State => s.hports) h; exact k
theorem Sends.synce {s t : State} (h : Sends s t) : t.synce = s.synce := by
  have k := congrArg (fun s : State => s.synce) h; exact k
theorem Sends.tm {s t : State} (h : Sends s t) : t.tm = s.tm := by
  have k := congrArg (fun s : State => s.tm) h; exact k
theorem Sends.keys {s t : State} (h : Sends s t) : t.keys = s.keys := by
  have k := congrArg (fun s : State => s.keys) h; exact k
theorem Sends.prot {s t : State} (h : Sends s t) : t.prot = s.prot := by
  have k := congrArg (fun s : State => s.prot) h; exact k
theorem Sends.clk {s t : State} (h : Sends s t) : t.clk = s.clk := by
  have k := congrArg (fun s : State => s.clk) h; exact k
theorem Sends.mon {s t : State} (h : Sends s t) : t.mon = s.mon := by
  have k := congrArg (fun s : State => s.mon) h; exact k
theorem Sends.fw {s t : State} (h : Sends s t) : t.fw = s.fw := by
  have k := congrArg (fun s : State => s.fw) h; exact k
theorem Sends.store {s t : State} (h : Sends s t) : t.store = s.store := by
  have k := congrArg (fun s : State => s.store) h; exact k
theorem Sends.sealSt {s t : State} (h : Sends s t) : t.sealSt = s.sealSt := by
  have k := congrArg (fun s : State => s.sealSt) h; exact k
theorem Sends.alarms {s t : State} (h : Sends s t) : t.alarms = s.alarms := by
  have k := congrArg (fun s : State => s.alarms) h; exact k
theorem Sends.freeCtr {s t : State} (h : Sends s t) : t.freeCtr = s.freeCtr := by
  have k := congrArg (fun s : State => s.freeCtr) h; exact k
theorem Sends.pending {s t : State} (h : Sends s t) : t.pending = s.pending := by
  have k := congrArg (fun s : State => s.pending) h; exact k
theorem Sends.host_rxq {s t : State} (h : Sends s t) : t.host.rxq = s.host.rxq := by
  have k := congrArg (fun s : State => s.host.rxq) h; exact k
theorem Sends.host_deferred {s t : State} (h : Sends s t) : t.host.deferred = s.host.deferred := by
  have k := congrArg (fun s : State => s.host.deferred) h; exact k
theorem Sends.host_spiAbort {s t : State} (h : Sends s t) : t.host.spiAbort = s.host.spiAbort := by
  have k := congrArg (fun s : State => s.host.spiAbort) h; exact k
theorem Sends.host_inbandDiscard {s t : State} (h : Sends s t) : t.host.inbandDiscard = s.host.inbandDiscard := by
  have k := congrArg (fun s : State => s.host.inbandDiscard) h; exact k
theorem Sends.host_syncReject {s t : State} (h : Sends s t) : t.host.syncReject = s.host.syncReject := by
  have k := congrArg (fun s : State => s.host.syncReject) h; exact k
theorem Sends.host_rxqDrop {s t : State} (h : Sends s t) : t.host.rxqDrop = s.host.rxqDrop := by
  have k := congrArg (fun s : State => s.host.rxqDrop) h; exact k
theorem Sends.host_mateEnable {s t : State} (h : Sends s t) : t.host.mateEnable = s.host.mateEnable := by
  have k := congrArg (fun s : State => s.host.mateEnable) h; exact k
theorem Sends.host_alarmMask {s t : State} (h : Sends s t) : t.host.alarmMask = s.host.alarmMask := by
  have k := congrArg (fun s : State => s.host.alarmMask) h; exact k
theorem Sends.host_fswMap {s t : State} (h : Sends s t) : t.host.fswMap = s.host.fswMap := by
  have k := congrArg (fun s : State => s.host.fswMap) h; exact k
theorem Sends.host_staged {s t : State} (h : Sends s t) : t.host.staged = s.host.staged := by
  have k := congrArg (fun s : State => s.host.staged) h; exact k
theorem Sends.host_cryptoLock {s t : State} (h : Sends s t) : t.host.cryptoLock = s.host.cryptoLock := by
  have k := congrArg (fun s : State => s.host.cryptoLock) h; exact k
theorem Sends.host_updateLock {s t : State} (h : Sends s t) : t.host.updateLock = s.host.updateLock := by
  have k := congrArg (fun s : State => s.host.updateLock) h; exact k
theorem Sends.host_syncLatched {s t : State} (h : Sends s t) : t.host.syncLatched = s.host.syncLatched := by
  have k := congrArg (fun s : State => s.host.syncLatched) h; exact k
theorem Sends.host_syncTaken {s t : State} (h : Sends s t) : t.host.syncTaken = s.host.syncTaken := by
  have k := congrArg (fun s : State => s.host.syncTaken) h; exact k
theorem Sends.host_holds {s t : State} (h : Sends s t) : t.host.holds = s.host.holds := by
  have k := congrArg (fun s : State => s.host.holds) h; exact k
theorem Sends.host_wakes {s t : State} (h : Sends s t) : t.host.wakes = s.host.wakes := by
  have k := congrArg (fun s : State => s.host.wakes) h; exact k
theorem Sends.pcie_linkUp {s t : State} (h : Sends s t) : t.host.pcie.linkUp = s.host.pcie.linkUp := by
  have k := congrArg (fun s : State => s.host.pcie.linkUp) h; exact k
theorem Sends.pcie_ringSize {s t : State} (h : Sends s t) : t.host.pcie.ringSize = s.host.pcie.ringSize := by
  have k := congrArg (fun s : State => s.host.pcie.ringSize) h; exact k
theorem Sends.pcie_enable {s t : State} (h : Sends s t) : t.host.pcie.enable = s.host.pcie.enable := by
  have k := congrArg (fun s : State => s.host.pcie.enable) h; exact k
theorem Sends.pcie_cmdProd {s t : State} (h : Sends s t) : t.host.pcie.cmdProd = s.host.pcie.cmdProd := by
  have k := congrArg (fun s : State => s.host.pcie.cmdProd) h; exact k
theorem Sends.pcie_cmdCons {s t : State} (h : Sends s t) : t.host.pcie.cmdCons = s.host.pcie.cmdCons := by
  have k := congrArg (fun s : State => s.host.pcie.cmdCons) h; exact k
theorem Sends.pcie_rplCons {s t : State} (h : Sends s t) : t.host.pcie.rplCons = s.host.pcie.rplCons := by
  have k := congrArg (fun s : State => s.host.pcie.rplCons) h; exact k
theorem Sends.pcie_evtCons {s t : State} (h : Sends s t) : t.host.pcie.evtCons = s.host.pcie.evtCons := by
  have k := congrArg (fun s : State => s.host.pcie.evtCons) h; exact k
theorem Sends.pcie_dmaDone {s t : State} (h : Sends s t) : t.host.pcie.dmaDone = s.host.pcie.dmaDone := by
  have k := congrArg (fun s : State => s.host.pcie.dmaDone) h; exact k
theorem Sends.spi_latch {s t : State} (h : Sends s t) : t.host.spi.latch = s.host.spi.latch := by
  have k := congrArg (fun s : State => s.host.spi.latch) h; exact k
theorem Sends.spi_miso {s t : State} (h : Sends s t) : t.host.spi.miso = s.host.spi.miso := by
  have k := congrArg (fun s : State => s.host.spi.miso) h; exact k
theorem Sends.ib0_enable {s t : State} (h : Sends s t) : t.host.ib.lp0.enable = s.host.ib.lp0.enable := by
  have k := congrArg (fun s : State => s.host.ib.lp0.enable) h; exact k
theorem Sends.ib1_enable {s t : State} (h : Sends s t) : t.host.ib.lp1.enable = s.host.ib.lp1.enable := by
  have k := congrArg (fun s : State => s.host.ib.lp1.enable) h; exact k
theorem Sends.mate_st {s t : State} (h : Sends s t) : t.mate.st = s.mate.st := by
  have k := congrArg (fun s : State => s.mate.st) h; exact k
theorem Sends.mate_asleep {s t : State} (h : Sends s t) : t.mate.asleep = s.mate.asleep := by
  have k := congrArg (fun s : State => s.mate.asleep) h; exact k
theorem Sends.mate_granted {s t : State} (h : Sends s t) : t.mate.granted = s.mate.granted := by
  have k := congrArg (fun s : State => s.mate.granted) h; exact k
theorem Sends.mate_rate {s t : State} (h : Sends s t) : t.mate.rate = s.mate.rate := by
  have k := congrArg (fun s : State => s.mate.rate) h; exact k
theorem Sends.mate_fails {s t : State} (h : Sends s t) : t.mate.fails = s.mate.fails := by
  have k := congrArg (fun s : State => s.mate.fails) h; exact k

theorem Alarms.now {s t : State} (h : Alarms s t) : t.now = s.now := by
  have k := congrArg (fun s : State => s.now) h; exact k
theorem Alarms.hk {s t : State} (h : Alarms s t) : t.hk = s.hk := by
  have k := congrArg (fun s : State => s.hk) h; exact k
theorem Alarms.pr {s t : State} (h : Alarms s t) : t.pr = s.pr := by
  have k := congrArg (fun s : State => s.pr) h; exact k
theorem Alarms.lp {s t : State} (h : Alarms s t) : t.lp = s.lp := by
  have k := congrArg (fun s : State => s.lp) h; exact k
theorem Alarms.eng {s t : State} (h : Alarms s t) : t.eng = s.eng := by
  have k := congrArg (fun s : State => s.eng) h; exact k
theorem Alarms.warmPort {s t : State} (h : Alarms s t) : t.warmPort = s.warmPort := by
  have k := congrArg (fun s : State => s.warmPort) h; exact k
theorem Alarms.reresolve {s t : State} (h : Alarms s t) : t.reresolve = s.reresolve := by
  have k := congrArg (fun s : State => s.reresolve) h; exact k
theorem Alarms.lanes {s t : State} (h : Alarms s t) : t.lanes = s.lanes := by
  have k := congrArg (fun s : State => s.lanes) h; exact k
theorem Alarms.hports {s t : State} (h : Alarms s t) : t.hports = s.hports := by
  have k := congrArg (fun s : State => s.hports) h; exact k
theorem Alarms.synce {s t : State} (h : Alarms s t) : t.synce = s.synce := by
  have k := congrArg (fun s : State => s.synce) h; exact k
theorem Alarms.tm {s t : State} (h : Alarms s t) : t.tm = s.tm := by
  have k := congrArg (fun s : State => s.tm) h; exact k
theorem Alarms.keys {s t : State} (h : Alarms s t) : t.keys = s.keys := by
  have k := congrArg (fun s : State => s.keys) h; exact k
theorem Alarms.prot {s t : State} (h : Alarms s t) : t.prot = s.prot := by
  have k := congrArg (fun s : State => s.prot) h; exact k
theorem Alarms.clk {s t : State} (h : Alarms s t) : t.clk = s.clk := by
  have k := congrArg (fun s : State => s.clk) h; exact k
theorem Alarms.mon {s t : State} (h : Alarms s t) : t.mon = s.mon := by
  have k := congrArg (fun s : State => s.mon) h; exact k
theorem Alarms.fw {s t : State} (h : Alarms s t) : t.fw = s.fw := by
  have k := congrArg (fun s : State => s.fw) h; exact k
theorem Alarms.store {s t : State} (h : Alarms s t) : t.store = s.store := by
  have k := congrArg (fun s : State => s.store) h; exact k
theorem Alarms.sealSt {s t : State} (h : Alarms s t) : t.sealSt = s.sealSt := by
  have k := congrArg (fun s : State => s.sealSt) h; exact k
theorem Alarms.freeCtr {s t : State} (h : Alarms s t) : t.freeCtr = s.freeCtr := by
  have k := congrArg (fun s : State => s.freeCtr) h; exact k
theorem Alarms.pending {s t : State} (h : Alarms s t) : t.pending = s.pending := by
  have k := congrArg (fun s : State => s.pending) h; exact k
theorem Alarms.host_rxq {s t : State} (h : Alarms s t) : t.host.rxq = s.host.rxq := by
  have k := congrArg (fun s : State => s.host.rxq) h; exact k
theorem Alarms.host_deferred {s t : State} (h : Alarms s t) : t.host.deferred = s.host.deferred := by
  have k := congrArg (fun s : State => s.host.deferred) h; exact k
theorem Alarms.host_spiAbort {s t : State} (h : Alarms s t) : t.host.spiAbort = s.host.spiAbort := by
  have k := congrArg (fun s : State => s.host.spiAbort) h; exact k
theorem Alarms.host_inbandDiscard {s t : State} (h : Alarms s t) : t.host.inbandDiscard = s.host.inbandDiscard := by
  have k := congrArg (fun s : State => s.host.inbandDiscard) h; exact k
theorem Alarms.host_syncReject {s t : State} (h : Alarms s t) : t.host.syncReject = s.host.syncReject := by
  have k := congrArg (fun s : State => s.host.syncReject) h; exact k
theorem Alarms.host_rxqDrop {s t : State} (h : Alarms s t) : t.host.rxqDrop = s.host.rxqDrop := by
  have k := congrArg (fun s : State => s.host.rxqDrop) h; exact k
theorem Alarms.host_mateEnable {s t : State} (h : Alarms s t) : t.host.mateEnable = s.host.mateEnable := by
  have k := congrArg (fun s : State => s.host.mateEnable) h; exact k
theorem Alarms.host_alarmMask {s t : State} (h : Alarms s t) : t.host.alarmMask = s.host.alarmMask := by
  have k := congrArg (fun s : State => s.host.alarmMask) h; exact k
theorem Alarms.host_fswMap {s t : State} (h : Alarms s t) : t.host.fswMap = s.host.fswMap := by
  have k := congrArg (fun s : State => s.host.fswMap) h; exact k
theorem Alarms.host_staged {s t : State} (h : Alarms s t) : t.host.staged = s.host.staged := by
  have k := congrArg (fun s : State => s.host.staged) h; exact k
theorem Alarms.host_cryptoLock {s t : State} (h : Alarms s t) : t.host.cryptoLock = s.host.cryptoLock := by
  have k := congrArg (fun s : State => s.host.cryptoLock) h; exact k
theorem Alarms.host_updateLock {s t : State} (h : Alarms s t) : t.host.updateLock = s.host.updateLock := by
  have k := congrArg (fun s : State => s.host.updateLock) h; exact k
theorem Alarms.host_syncLatched {s t : State} (h : Alarms s t) : t.host.syncLatched = s.host.syncLatched := by
  have k := congrArg (fun s : State => s.host.syncLatched) h; exact k
theorem Alarms.host_syncTaken {s t : State} (h : Alarms s t) : t.host.syncTaken = s.host.syncTaken := by
  have k := congrArg (fun s : State => s.host.syncTaken) h; exact k
theorem Alarms.host_holds {s t : State} (h : Alarms s t) : t.host.holds = s.host.holds := by
  have k := congrArg (fun s : State => s.host.holds) h; exact k
theorem Alarms.host_wakes {s t : State} (h : Alarms s t) : t.host.wakes = s.host.wakes := by
  have k := congrArg (fun s : State => s.host.wakes) h; exact k
theorem Alarms.pcie_linkUp {s t : State} (h : Alarms s t) : t.host.pcie.linkUp = s.host.pcie.linkUp := by
  have k := congrArg (fun s : State => s.host.pcie.linkUp) h; exact k
theorem Alarms.pcie_ringSize {s t : State} (h : Alarms s t) : t.host.pcie.ringSize = s.host.pcie.ringSize := by
  have k := congrArg (fun s : State => s.host.pcie.ringSize) h; exact k
theorem Alarms.pcie_enable {s t : State} (h : Alarms s t) : t.host.pcie.enable = s.host.pcie.enable := by
  have k := congrArg (fun s : State => s.host.pcie.enable) h; exact k
theorem Alarms.pcie_cmdProd {s t : State} (h : Alarms s t) : t.host.pcie.cmdProd = s.host.pcie.cmdProd := by
  have k := congrArg (fun s : State => s.host.pcie.cmdProd) h; exact k
theorem Alarms.pcie_cmdCons {s t : State} (h : Alarms s t) : t.host.pcie.cmdCons = s.host.pcie.cmdCons := by
  have k := congrArg (fun s : State => s.host.pcie.cmdCons) h; exact k
theorem Alarms.pcie_rplCons {s t : State} (h : Alarms s t) : t.host.pcie.rplCons = s.host.pcie.rplCons := by
  have k := congrArg (fun s : State => s.host.pcie.rplCons) h; exact k
theorem Alarms.pcie_evtCons {s t : State} (h : Alarms s t) : t.host.pcie.evtCons = s.host.pcie.evtCons := by
  have k := congrArg (fun s : State => s.host.pcie.evtCons) h; exact k
theorem Alarms.pcie_dmaDone {s t : State} (h : Alarms s t) : t.host.pcie.dmaDone = s.host.pcie.dmaDone := by
  have k := congrArg (fun s : State => s.host.pcie.dmaDone) h; exact k
theorem Alarms.spi_latch {s t : State} (h : Alarms s t) : t.host.spi.latch = s.host.spi.latch := by
  have k := congrArg (fun s : State => s.host.spi.latch) h; exact k
theorem Alarms.spi_miso {s t : State} (h : Alarms s t) : t.host.spi.miso = s.host.spi.miso := by
  have k := congrArg (fun s : State => s.host.spi.miso) h; exact k
theorem Alarms.ib0_enable {s t : State} (h : Alarms s t) : t.host.ib.lp0.enable = s.host.ib.lp0.enable := by
  have k := congrArg (fun s : State => s.host.ib.lp0.enable) h; exact k
theorem Alarms.ib1_enable {s t : State} (h : Alarms s t) : t.host.ib.lp1.enable = s.host.ib.lp1.enable := by
  have k := congrArg (fun s : State => s.host.ib.lp1.enable) h; exact k
theorem Alarms.mate_st {s t : State} (h : Alarms s t) : t.mate.st = s.mate.st := by
  have k := congrArg (fun s : State => s.mate.st) h; exact k
theorem Alarms.mate_asleep {s t : State} (h : Alarms s t) : t.mate.asleep = s.mate.asleep := by
  have k := congrArg (fun s : State => s.mate.asleep) h; exact k
theorem Alarms.mate_granted {s t : State} (h : Alarms s t) : t.mate.granted = s.mate.granted := by
  have k := congrArg (fun s : State => s.mate.granted) h; exact k
theorem Alarms.mate_rate {s t : State} (h : Alarms s t) : t.mate.rate = s.mate.rate := by
  have k := congrArg (fun s : State => s.mate.rate) h; exact k
theorem Alarms.mate_fails {s t : State} (h : Alarms s t) : t.mate.fails = s.mate.fails := by
  have k := congrArg (fun s : State => s.mate.fails) h; exact k

/-! ### pump -/

@[simp] theorem pump_now (s : State) :
    (pump s).now = s.now := (sends_pump _).now
@[simp] theorem pump_hk (s : State) :
    (pump s).hk = s.hk := (sends_pump _).hk
@[simp] theorem pump_pr (s : State) :
    (pump s).pr = s.pr := (sends_pump _).pr
@[simp] theorem pump_lp (s : State) :
    (pump s).lp = s.lp := (sends_pump _).lp
@[simp] theorem pump_eng (s : State) :
    (pump s).eng = s.eng := (sends_pump _).eng
@[simp] theorem pump_warmPort (s : State) :
    (pump s).warmPort = s.warmPort := (sends_pump _).warmPort
@[simp] theorem pump_reresolve (s : State) :
    (pump s).reresolve = s.reresolve := (sends_pump _).reresolve
@[simp] theorem pump_lanes (s : State) :
    (pump s).lanes = s.lanes := (sends_pump _).lanes
@[simp] theorem pump_hports (s : State) :
    (pump s).hports = s.hports := (sends_pump _).hports
@[simp] theorem pump_synce (s : State) :
    (pump s).synce = s.synce := (sends_pump _).synce
@[simp] theorem pump_tm (s : State) :
    (pump s).tm = s.tm := (sends_pump _).tm
@[simp] theorem pump_keys (s : State) :
    (pump s).keys = s.keys := (sends_pump _).keys
@[simp] theorem pump_prot (s : State) :
    (pump s).prot = s.prot := (sends_pump _).prot
@[simp] theorem pump_clk (s : State) :
    (pump s).clk = s.clk := (sends_pump _).clk
@[simp] theorem pump_mon (s : State) :
    (pump s).mon = s.mon := (sends_pump _).mon
@[simp] theorem pump_fw (s : State) :
    (pump s).fw = s.fw := (sends_pump _).fw
@[simp] theorem pump_store (s : State) :
    (pump s).store = s.store := (sends_pump _).store
@[simp] theorem pump_sealSt (s : State) :
    (pump s).sealSt = s.sealSt := (sends_pump _).sealSt
@[simp] theorem pump_alarms (s : State) :
    (pump s).alarms = s.alarms := (sends_pump _).alarms
@[simp] theorem pump_freeCtr (s : State) :
    (pump s).freeCtr = s.freeCtr := (sends_pump _).freeCtr
@[simp] theorem pump_pending (s : State) :
    (pump s).pending = s.pending := (sends_pump _).pending
@[simp] theorem pump_host_rxq (s : State) :
    (pump s).host.rxq = s.host.rxq := (sends_pump _).host_rxq
@[simp] theorem pump_host_deferred (s : State) :
    (pump s).host.deferred = s.host.deferred := (sends_pump _).host_deferred
@[simp] theorem pump_host_spiAbort (s : State) :
    (pump s).host.spiAbort = s.host.spiAbort := (sends_pump _).host_spiAbort
@[simp] theorem pump_host_inbandDiscard (s : State) :
    (pump s).host.inbandDiscard = s.host.inbandDiscard := (sends_pump _).host_inbandDiscard
@[simp] theorem pump_host_syncReject (s : State) :
    (pump s).host.syncReject = s.host.syncReject := (sends_pump _).host_syncReject
@[simp] theorem pump_host_rxqDrop (s : State) :
    (pump s).host.rxqDrop = s.host.rxqDrop := (sends_pump _).host_rxqDrop
@[simp] theorem pump_host_mateEnable (s : State) :
    (pump s).host.mateEnable = s.host.mateEnable := (sends_pump _).host_mateEnable
@[simp] theorem pump_host_alarmMask (s : State) :
    (pump s).host.alarmMask = s.host.alarmMask := (sends_pump _).host_alarmMask
@[simp] theorem pump_host_fswMap (s : State) :
    (pump s).host.fswMap = s.host.fswMap := (sends_pump _).host_fswMap
@[simp] theorem pump_host_staged (s : State) :
    (pump s).host.staged = s.host.staged := (sends_pump _).host_staged
@[simp] theorem pump_host_cryptoLock (s : State) :
    (pump s).host.cryptoLock = s.host.cryptoLock := (sends_pump _).host_cryptoLock
@[simp] theorem pump_host_updateLock (s : State) :
    (pump s).host.updateLock = s.host.updateLock := (sends_pump _).host_updateLock
@[simp] theorem pump_host_syncLatched (s : State) :
    (pump s).host.syncLatched = s.host.syncLatched := (sends_pump _).host_syncLatched
@[simp] theorem pump_host_syncTaken (s : State) :
    (pump s).host.syncTaken = s.host.syncTaken := (sends_pump _).host_syncTaken
@[simp] theorem pump_host_holds (s : State) :
    (pump s).host.holds = s.host.holds := (sends_pump _).host_holds
@[simp] theorem pump_host_wakes (s : State) :
    (pump s).host.wakes = s.host.wakes := (sends_pump _).host_wakes
@[simp] theorem pump_pcie_linkUp (s : State) :
    (pump s).host.pcie.linkUp = s.host.pcie.linkUp := (sends_pump _).pcie_linkUp
@[simp] theorem pump_pcie_ringSize (s : State) :
    (pump s).host.pcie.ringSize = s.host.pcie.ringSize := (sends_pump _).pcie_ringSize
@[simp] theorem pump_pcie_enable (s : State) :
    (pump s).host.pcie.enable = s.host.pcie.enable := (sends_pump _).pcie_enable
@[simp] theorem pump_pcie_cmdProd (s : State) :
    (pump s).host.pcie.cmdProd = s.host.pcie.cmdProd := (sends_pump _).pcie_cmdProd
@[simp] theorem pump_pcie_cmdCons (s : State) :
    (pump s).host.pcie.cmdCons = s.host.pcie.cmdCons := (sends_pump _).pcie_cmdCons
@[simp] theorem pump_pcie_rplCons (s : State) :
    (pump s).host.pcie.rplCons = s.host.pcie.rplCons := (sends_pump _).pcie_rplCons
@[simp] theorem pump_pcie_evtCons (s : State) :
    (pump s).host.pcie.evtCons = s.host.pcie.evtCons := (sends_pump _).pcie_evtCons
@[simp] theorem pump_pcie_dmaDone (s : State) :
    (pump s).host.pcie.dmaDone = s.host.pcie.dmaDone := (sends_pump _).pcie_dmaDone
@[simp] theorem pump_spi_latch (s : State) :
    (pump s).host.spi.latch = s.host.spi.latch := (sends_pump _).spi_latch
@[simp] theorem pump_spi_miso (s : State) :
    (pump s).host.spi.miso = s.host.spi.miso := (sends_pump _).spi_miso
@[simp] theorem pump_ib0_enable (s : State) :
    (pump s).host.ib.lp0.enable = s.host.ib.lp0.enable := (sends_pump _).ib0_enable
@[simp] theorem pump_ib1_enable (s : State) :
    (pump s).host.ib.lp1.enable = s.host.ib.lp1.enable := (sends_pump _).ib1_enable
@[simp] theorem pump_mate_st (s : State) :
    (pump s).mate.st = s.mate.st := (sends_pump _).mate_st
@[simp] theorem pump_mate_asleep (s : State) :
    (pump s).mate.asleep = s.mate.asleep := (sends_pump _).mate_asleep
@[simp] theorem pump_mate_granted (s : State) :
    (pump s).mate.granted = s.mate.granted := (sends_pump _).mate_granted
@[simp] theorem pump_mate_rate (s : State) :
    (pump s).mate.rate = s.mate.rate := (sends_pump _).mate_rate
@[simp] theorem pump_mate_fails (s : State) :
    (pump s).mate.fails = s.mate.fails := (sends_pump _).mate_fails

/-! ### emit -/

@[simp] theorem emit_now (code target : Nat) (data : List Word) (s : State) :
    (emit code target data s).now = s.now := (sends_emit _ _ _ _).now
@[simp] theorem emit_hk (code target : Nat) (data : List Word) (s : State) :
    (emit code target data s).hk = s.hk := (sends_emit _ _ _ _).hk
@[simp] theorem emit_pr (code target : Nat) (data : List Word) (s : State) :
    (emit code target data s).pr = s.pr := (sends_emit _ _ _ _).pr
@[simp] theorem emit_lp (code target : Nat) (data : List Word) (s : State) :
    (emit code target data s).lp = s.lp := (sends_emit _ _ _ _).lp
@[simp] theorem emit_eng (code target : Nat) (data : List Word) (s : State) :
    (emit code target data s).eng = s.eng := (sends_emit _ _ _ _).eng
@[simp] theorem emit_warmPort (code target : Nat) (data : List Word) (s : State) :
    (emit code target data s).warmPort = s.warmPort := (sends_emit _ _ _ _).warmPort
@[simp] theorem emit_reresolve (code target : Nat) (data : List Word) (s : State) :
    (emit code target data s).reresolve = s.reresolve := (sends_emit _ _ _ _).reresolve
@[simp] theorem emit_lanes (code target : Nat) (data : List Word) (s : State) :
    (emit code target data s).lanes = s.lanes := (sends_emit _ _ _ _).lanes
@[simp] theorem emit_hports (code target : Nat) (data : List Word) (s : State) :
    (emit code target data s).hports = s.hports := (sends_emit _ _ _ _).hports
@[simp] theorem emit_synce (code target : Nat) (data : List Word) (s : State) :
    (emit code target data s).synce = s.synce := (sends_emit _ _ _ _).synce
@[simp] theorem emit_tm (code target : Nat) (data : List Word) (s : State) :
    (emit code target data s).tm = s.tm := (sends_emit _ _ _ _).tm
@[simp] theorem emit_keys (code target : Nat) (data : List Word) (s : State) :
    (emit code target data s).keys = s.keys := (sends_emit _ _ _ _).keys
@[simp] theorem emit_prot (code target : Nat) (data : List Word) (s : State) :
    (emit code target data s).prot = s.prot := (sends_emit _ _ _ _).prot
@[simp] theorem emit_clk (code target : Nat) (data : List Word) (s : State) :
    (emit code target data s).clk = s.clk := (sends_emit _ _ _ _).clk
@[simp] theorem emit_mon (code target : Nat) (data : List Word) (s : State) :
    (emit code target data s).mon = s.mon := (sends_emit _ _ _ _).mon
@[simp] theorem emit_fw (code target : Nat) (data : List Word) (s : State) :
    (emit code target data s).fw = s.fw := (sends_emit _ _ _ _).fw
@[simp] theorem emit_store (code target : Nat) (data : List Word) (s : State) :
    (emit code target data s).store = s.store := (sends_emit _ _ _ _).store
@[simp] theorem emit_sealSt (code target : Nat) (data : List Word) (s : State) :
    (emit code target data s).sealSt = s.sealSt := (sends_emit _ _ _ _).sealSt
@[simp] theorem emit_alarms (code target : Nat) (data : List Word) (s : State) :
    (emit code target data s).alarms = s.alarms := (sends_emit _ _ _ _).alarms
@[simp] theorem emit_freeCtr (code target : Nat) (data : List Word) (s : State) :
    (emit code target data s).freeCtr = s.freeCtr := (sends_emit _ _ _ _).freeCtr
@[simp] theorem emit_pending (code target : Nat) (data : List Word) (s : State) :
    (emit code target data s).pending = s.pending := (sends_emit _ _ _ _).pending
@[simp] theorem emit_host_rxq (code target : Nat) (data : List Word) (s : State) :
    (emit code target data s).host.rxq = s.host.rxq := (sends_emit _ _ _ _).host_rxq
@[simp] theorem emit_host_deferred (code target : Nat) (data : List Word) (s : State) :
    (emit code target data s).host.deferred = s.host.deferred := (sends_emit _ _ _ _).host_deferred
@[simp] theorem emit_host_spiAbort (code target : Nat) (data : List Word) (s : State) :
    (emit code target data s).host.spiAbort = s.host.spiAbort := (sends_emit _ _ _ _).host_spiAbort
@[simp] theorem emit_host_inbandDiscard (code target : Nat) (data : List Word) (s : State) :
    (emit code target data s).host.inbandDiscard = s.host.inbandDiscard := (sends_emit _ _ _ _).host_inbandDiscard
@[simp] theorem emit_host_syncReject (code target : Nat) (data : List Word) (s : State) :
    (emit code target data s).host.syncReject = s.host.syncReject := (sends_emit _ _ _ _).host_syncReject
@[simp] theorem emit_host_rxqDrop (code target : Nat) (data : List Word) (s : State) :
    (emit code target data s).host.rxqDrop = s.host.rxqDrop := (sends_emit _ _ _ _).host_rxqDrop
@[simp] theorem emit_host_mateEnable (code target : Nat) (data : List Word) (s : State) :
    (emit code target data s).host.mateEnable = s.host.mateEnable := (sends_emit _ _ _ _).host_mateEnable
@[simp] theorem emit_host_alarmMask (code target : Nat) (data : List Word) (s : State) :
    (emit code target data s).host.alarmMask = s.host.alarmMask := (sends_emit _ _ _ _).host_alarmMask
@[simp] theorem emit_host_fswMap (code target : Nat) (data : List Word) (s : State) :
    (emit code target data s).host.fswMap = s.host.fswMap := (sends_emit _ _ _ _).host_fswMap
@[simp] theorem emit_host_staged (code target : Nat) (data : List Word) (s : State) :
    (emit code target data s).host.staged = s.host.staged := (sends_emit _ _ _ _).host_staged
@[simp] theorem emit_host_cryptoLock (code target : Nat) (data : List Word) (s : State) :
    (emit code target data s).host.cryptoLock = s.host.cryptoLock := (sends_emit _ _ _ _).host_cryptoLock
@[simp] theorem emit_host_updateLock (code target : Nat) (data : List Word) (s : State) :
    (emit code target data s).host.updateLock = s.host.updateLock := (sends_emit _ _ _ _).host_updateLock
@[simp] theorem emit_host_syncLatched (code target : Nat) (data : List Word) (s : State) :
    (emit code target data s).host.syncLatched = s.host.syncLatched := (sends_emit _ _ _ _).host_syncLatched
@[simp] theorem emit_host_syncTaken (code target : Nat) (data : List Word) (s : State) :
    (emit code target data s).host.syncTaken = s.host.syncTaken := (sends_emit _ _ _ _).host_syncTaken
@[simp] theorem emit_host_holds (code target : Nat) (data : List Word) (s : State) :
    (emit code target data s).host.holds = s.host.holds := (sends_emit _ _ _ _).host_holds
@[simp] theorem emit_host_wakes (code target : Nat) (data : List Word) (s : State) :
    (emit code target data s).host.wakes = s.host.wakes := (sends_emit _ _ _ _).host_wakes
@[simp] theorem emit_pcie_linkUp (code target : Nat) (data : List Word) (s : State) :
    (emit code target data s).host.pcie.linkUp = s.host.pcie.linkUp := (sends_emit _ _ _ _).pcie_linkUp
@[simp] theorem emit_pcie_ringSize (code target : Nat) (data : List Word) (s : State) :
    (emit code target data s).host.pcie.ringSize = s.host.pcie.ringSize := (sends_emit _ _ _ _).pcie_ringSize
@[simp] theorem emit_pcie_enable (code target : Nat) (data : List Word) (s : State) :
    (emit code target data s).host.pcie.enable = s.host.pcie.enable := (sends_emit _ _ _ _).pcie_enable
@[simp] theorem emit_pcie_cmdProd (code target : Nat) (data : List Word) (s : State) :
    (emit code target data s).host.pcie.cmdProd = s.host.pcie.cmdProd := (sends_emit _ _ _ _).pcie_cmdProd
@[simp] theorem emit_pcie_cmdCons (code target : Nat) (data : List Word) (s : State) :
    (emit code target data s).host.pcie.cmdCons = s.host.pcie.cmdCons := (sends_emit _ _ _ _).pcie_cmdCons
@[simp] theorem emit_pcie_rplCons (code target : Nat) (data : List Word) (s : State) :
    (emit code target data s).host.pcie.rplCons = s.host.pcie.rplCons := (sends_emit _ _ _ _).pcie_rplCons
@[simp] theorem emit_pcie_evtCons (code target : Nat) (data : List Word) (s : State) :
    (emit code target data s).host.pcie.evtCons = s.host.pcie.evtCons := (sends_emit _ _ _ _).pcie_evtCons
@[simp] theorem emit_pcie_dmaDone (code target : Nat) (data : List Word) (s : State) :
    (emit code target data s).host.pcie.dmaDone = s.host.pcie.dmaDone := (sends_emit _ _ _ _).pcie_dmaDone
@[simp] theorem emit_spi_latch (code target : Nat) (data : List Word) (s : State) :
    (emit code target data s).host.spi.latch = s.host.spi.latch := (sends_emit _ _ _ _).spi_latch
@[simp] theorem emit_spi_miso (code target : Nat) (data : List Word) (s : State) :
    (emit code target data s).host.spi.miso = s.host.spi.miso := (sends_emit _ _ _ _).spi_miso
@[simp] theorem emit_ib0_enable (code target : Nat) (data : List Word) (s : State) :
    (emit code target data s).host.ib.lp0.enable = s.host.ib.lp0.enable := (sends_emit _ _ _ _).ib0_enable
@[simp] theorem emit_ib1_enable (code target : Nat) (data : List Word) (s : State) :
    (emit code target data s).host.ib.lp1.enable = s.host.ib.lp1.enable := (sends_emit _ _ _ _).ib1_enable
@[simp] theorem emit_mate_st (code target : Nat) (data : List Word) (s : State) :
    (emit code target data s).mate.st = s.mate.st := (sends_emit _ _ _ _).mate_st
@[simp] theorem emit_mate_asleep (code target : Nat) (data : List Word) (s : State) :
    (emit code target data s).mate.asleep = s.mate.asleep := (sends_emit _ _ _ _).mate_asleep
@[simp] theorem emit_mate_granted (code target : Nat) (data : List Word) (s : State) :
    (emit code target data s).mate.granted = s.mate.granted := (sends_emit _ _ _ _).mate_granted
@[simp] theorem emit_mate_rate (code target : Nat) (data : List Word) (s : State) :
    (emit code target data s).mate.rate = s.mate.rate := (sends_emit _ _ _ _).mate_rate
@[simp] theorem emit_mate_fails (code target : Nat) (data : List Word) (s : State) :
    (emit code target data s).mate.fails = s.mate.fails := (sends_emit _ _ _ _).mate_fails

/-! ### reply -/

@[simp] theorem reply_now (code : Nat) (c : Cmd) (status detail : Nat) (data : List Word) (s : State) :
    (reply code c status detail data s).now = s.now := (sends_reply _ _ _ _ _ _).now
@[simp] theorem reply_hk (code : Nat) (c : Cmd) (status detail : Nat) (data : List Word) (s : State) :
    (reply code c status detail data s).hk = s.hk := (sends_reply _ _ _ _ _ _).hk
@[simp] theorem reply_pr (code : Nat) (c : Cmd) (status detail : Nat) (data : List Word) (s : State) :
    (reply code c status detail data s).pr = s.pr := (sends_reply _ _ _ _ _ _).pr
@[simp] theorem reply_lp (code : Nat) (c : Cmd) (status detail : Nat) (data : List Word) (s : State) :
    (reply code c status detail data s).lp = s.lp := (sends_reply _ _ _ _ _ _).lp
@[simp] theorem reply_eng (code : Nat) (c : Cmd) (status detail : Nat) (data : List Word) (s : State) :
    (reply code c status detail data s).eng = s.eng := (sends_reply _ _ _ _ _ _).eng
@[simp] theorem reply_warmPort (code : Nat) (c : Cmd) (status detail : Nat) (data : List Word) (s : State) :
    (reply code c status detail data s).warmPort = s.warmPort := (sends_reply _ _ _ _ _ _).warmPort
@[simp] theorem reply_reresolve (code : Nat) (c : Cmd) (status detail : Nat) (data : List Word) (s : State) :
    (reply code c status detail data s).reresolve = s.reresolve := (sends_reply _ _ _ _ _ _).reresolve
@[simp] theorem reply_lanes (code : Nat) (c : Cmd) (status detail : Nat) (data : List Word) (s : State) :
    (reply code c status detail data s).lanes = s.lanes := (sends_reply _ _ _ _ _ _).lanes
@[simp] theorem reply_hports (code : Nat) (c : Cmd) (status detail : Nat) (data : List Word) (s : State) :
    (reply code c status detail data s).hports = s.hports := (sends_reply _ _ _ _ _ _).hports
@[simp] theorem reply_synce (code : Nat) (c : Cmd) (status detail : Nat) (data : List Word) (s : State) :
    (reply code c status detail data s).synce = s.synce := (sends_reply _ _ _ _ _ _).synce
@[simp] theorem reply_tm (code : Nat) (c : Cmd) (status detail : Nat) (data : List Word) (s : State) :
    (reply code c status detail data s).tm = s.tm := (sends_reply _ _ _ _ _ _).tm
@[simp] theorem reply_keys (code : Nat) (c : Cmd) (status detail : Nat) (data : List Word) (s : State) :
    (reply code c status detail data s).keys = s.keys := (sends_reply _ _ _ _ _ _).keys
@[simp] theorem reply_prot (code : Nat) (c : Cmd) (status detail : Nat) (data : List Word) (s : State) :
    (reply code c status detail data s).prot = s.prot := (sends_reply _ _ _ _ _ _).prot
@[simp] theorem reply_clk (code : Nat) (c : Cmd) (status detail : Nat) (data : List Word) (s : State) :
    (reply code c status detail data s).clk = s.clk := (sends_reply _ _ _ _ _ _).clk
@[simp] theorem reply_mon (code : Nat) (c : Cmd) (status detail : Nat) (data : List Word) (s : State) :
    (reply code c status detail data s).mon = s.mon := (sends_reply _ _ _ _ _ _).mon
@[simp] theorem reply_fw (code : Nat) (c : Cmd) (status detail : Nat) (data : List Word) (s : State) :
    (reply code c status detail data s).fw = s.fw := (sends_reply _ _ _ _ _ _).fw
@[simp] theorem reply_store (code : Nat) (c : Cmd) (status detail : Nat) (data : List Word) (s : State) :
    (reply code c status detail data s).store = s.store := (sends_reply _ _ _ _ _ _).store
@[simp] theorem reply_sealSt (code : Nat) (c : Cmd) (status detail : Nat) (data : List Word) (s : State) :
    (reply code c status detail data s).sealSt = s.sealSt := (sends_reply _ _ _ _ _ _).sealSt
@[simp] theorem reply_alarms (code : Nat) (c : Cmd) (status detail : Nat) (data : List Word) (s : State) :
    (reply code c status detail data s).alarms = s.alarms := (sends_reply _ _ _ _ _ _).alarms
@[simp] theorem reply_freeCtr (code : Nat) (c : Cmd) (status detail : Nat) (data : List Word) (s : State) :
    (reply code c status detail data s).freeCtr = s.freeCtr := (sends_reply _ _ _ _ _ _).freeCtr
@[simp] theorem reply_pending (code : Nat) (c : Cmd) (status detail : Nat) (data : List Word) (s : State) :
    (reply code c status detail data s).pending = s.pending := (sends_reply _ _ _ _ _ _).pending
@[simp] theorem reply_host_rxq (code : Nat) (c : Cmd) (status detail : Nat) (data : List Word) (s : State) :
    (reply code c status detail data s).host.rxq = s.host.rxq := (sends_reply _ _ _ _ _ _).host_rxq
@[simp] theorem reply_host_deferred (code : Nat) (c : Cmd) (status detail : Nat) (data : List Word) (s : State) :
    (reply code c status detail data s).host.deferred = s.host.deferred := (sends_reply _ _ _ _ _ _).host_deferred
@[simp] theorem reply_host_spiAbort (code : Nat) (c : Cmd) (status detail : Nat) (data : List Word) (s : State) :
    (reply code c status detail data s).host.spiAbort = s.host.spiAbort := (sends_reply _ _ _ _ _ _).host_spiAbort
@[simp] theorem reply_host_inbandDiscard (code : Nat) (c : Cmd) (status detail : Nat) (data : List Word) (s : State) :
    (reply code c status detail data s).host.inbandDiscard = s.host.inbandDiscard := (sends_reply _ _ _ _ _ _).host_inbandDiscard
@[simp] theorem reply_host_syncReject (code : Nat) (c : Cmd) (status detail : Nat) (data : List Word) (s : State) :
    (reply code c status detail data s).host.syncReject = s.host.syncReject := (sends_reply _ _ _ _ _ _).host_syncReject
@[simp] theorem reply_host_rxqDrop (code : Nat) (c : Cmd) (status detail : Nat) (data : List Word) (s : State) :
    (reply code c status detail data s).host.rxqDrop = s.host.rxqDrop := (sends_reply _ _ _ _ _ _).host_rxqDrop
@[simp] theorem reply_host_mateEnable (code : Nat) (c : Cmd) (status detail : Nat) (data : List Word) (s : State) :
    (reply code c status detail data s).host.mateEnable = s.host.mateEnable := (sends_reply _ _ _ _ _ _).host_mateEnable
@[simp] theorem reply_host_alarmMask (code : Nat) (c : Cmd) (status detail : Nat) (data : List Word) (s : State) :
    (reply code c status detail data s).host.alarmMask = s.host.alarmMask := (sends_reply _ _ _ _ _ _).host_alarmMask
@[simp] theorem reply_host_fswMap (code : Nat) (c : Cmd) (status detail : Nat) (data : List Word) (s : State) :
    (reply code c status detail data s).host.fswMap = s.host.fswMap := (sends_reply _ _ _ _ _ _).host_fswMap
@[simp] theorem reply_host_staged (code : Nat) (c : Cmd) (status detail : Nat) (data : List Word) (s : State) :
    (reply code c status detail data s).host.staged = s.host.staged := (sends_reply _ _ _ _ _ _).host_staged
@[simp] theorem reply_host_cryptoLock (code : Nat) (c : Cmd) (status detail : Nat) (data : List Word) (s : State) :
    (reply code c status detail data s).host.cryptoLock = s.host.cryptoLock := (sends_reply _ _ _ _ _ _).host_cryptoLock
@[simp] theorem reply_host_updateLock (code : Nat) (c : Cmd) (status detail : Nat) (data : List Word) (s : State) :
    (reply code c status detail data s).host.updateLock = s.host.updateLock := (sends_reply _ _ _ _ _ _).host_updateLock
@[simp] theorem reply_host_syncLatched (code : Nat) (c : Cmd) (status detail : Nat) (data : List Word) (s : State) :
    (reply code c status detail data s).host.syncLatched = s.host.syncLatched := (sends_reply _ _ _ _ _ _).host_syncLatched
@[simp] theorem reply_host_syncTaken (code : Nat) (c : Cmd) (status detail : Nat) (data : List Word) (s : State) :
    (reply code c status detail data s).host.syncTaken = s.host.syncTaken := (sends_reply _ _ _ _ _ _).host_syncTaken
@[simp] theorem reply_host_holds (code : Nat) (c : Cmd) (status detail : Nat) (data : List Word) (s : State) :
    (reply code c status detail data s).host.holds = s.host.holds := (sends_reply _ _ _ _ _ _).host_holds
@[simp] theorem reply_host_wakes (code : Nat) (c : Cmd) (status detail : Nat) (data : List Word) (s : State) :
    (reply code c status detail data s).host.wakes = s.host.wakes := (sends_reply _ _ _ _ _ _).host_wakes
@[simp] theorem reply_pcie_linkUp (code : Nat) (c : Cmd) (status detail : Nat) (data : List Word) (s : State) :
    (reply code c status detail data s).host.pcie.linkUp = s.host.pcie.linkUp := (sends_reply _ _ _ _ _ _).pcie_linkUp
@[simp] theorem reply_pcie_ringSize (code : Nat) (c : Cmd) (status detail : Nat) (data : List Word) (s : State) :
    (reply code c status detail data s).host.pcie.ringSize = s.host.pcie.ringSize := (sends_reply _ _ _ _ _ _).pcie_ringSize
@[simp] theorem reply_pcie_enable (code : Nat) (c : Cmd) (status detail : Nat) (data : List Word) (s : State) :
    (reply code c status detail data s).host.pcie.enable = s.host.pcie.enable := (sends_reply _ _ _ _ _ _).pcie_enable
@[simp] theorem reply_pcie_cmdProd (code : Nat) (c : Cmd) (status detail : Nat) (data : List Word) (s : State) :
    (reply code c status detail data s).host.pcie.cmdProd = s.host.pcie.cmdProd := (sends_reply _ _ _ _ _ _).pcie_cmdProd
@[simp] theorem reply_pcie_cmdCons (code : Nat) (c : Cmd) (status detail : Nat) (data : List Word) (s : State) :
    (reply code c status detail data s).host.pcie.cmdCons = s.host.pcie.cmdCons := (sends_reply _ _ _ _ _ _).pcie_cmdCons
@[simp] theorem reply_pcie_rplCons (code : Nat) (c : Cmd) (status detail : Nat) (data : List Word) (s : State) :
    (reply code c status detail data s).host.pcie.rplCons = s.host.pcie.rplCons := (sends_reply _ _ _ _ _ _).pcie_rplCons
@[simp] theorem reply_pcie_evtCons (code : Nat) (c : Cmd) (status detail : Nat) (data : List Word) (s : State) :
    (reply code c status detail data s).host.pcie.evtCons = s.host.pcie.evtCons := (sends_reply _ _ _ _ _ _).pcie_evtCons
@[simp] theorem reply_pcie_dmaDone (code : Nat) (c : Cmd) (status detail : Nat) (data : List Word) (s : State) :
    (reply code c status detail data s).host.pcie.dmaDone = s.host.pcie.dmaDone := (sends_reply _ _ _ _ _ _).pcie_dmaDone
@[simp] theorem reply_spi_latch (code : Nat) (c : Cmd) (status detail : Nat) (data : List Word) (s : State) :
    (reply code c status detail data s).host.spi.latch = s.host.spi.latch := (sends_reply _ _ _ _ _ _).spi_latch
@[simp] theorem reply_spi_miso (code : Nat) (c : Cmd) (status detail : Nat) (data : List Word) (s : State) :
    (reply code c status detail data s).host.spi.miso = s.host.spi.miso := (sends_reply _ _ _ _ _ _).spi_miso
@[simp] theorem reply_ib0_enable (code : Nat) (c : Cmd) (status detail : Nat) (data : List Word) (s : State) :
    (reply code c status detail data s).host.ib.lp0.enable = s.host.ib.lp0.enable := (sends_reply _ _ _ _ _ _).ib0_enable
@[simp] theorem reply_ib1_enable (code : Nat) (c : Cmd) (status detail : Nat) (data : List Word) (s : State) :
    (reply code c status detail data s).host.ib.lp1.enable = s.host.ib.lp1.enable := (sends_reply _ _ _ _ _ _).ib1_enable
@[simp] theorem reply_mate_st (code : Nat) (c : Cmd) (status detail : Nat) (data : List Word) (s : State) :
    (reply code c status detail data s).mate.st = s.mate.st := (sends_reply _ _ _ _ _ _).mate_st
@[simp] theorem reply_mate_asleep (code : Nat) (c : Cmd) (status detail : Nat) (data : List Word) (s : State) :
    (reply code c status detail data s).mate.asleep = s.mate.asleep := (sends_reply _ _ _ _ _ _).mate_asleep
@[simp] theorem reply_mate_granted (code : Nat) (c : Cmd) (status detail : Nat) (data : List Word) (s : State) :
    (reply code c status detail data s).mate.granted = s.mate.granted := (sends_reply _ _ _ _ _ _).mate_granted
@[simp] theorem reply_mate_rate (code : Nat) (c : Cmd) (status detail : Nat) (data : List Word) (s : State) :
    (reply code c status detail data s).mate.rate = s.mate.rate := (sends_reply _ _ _ _ _ _).mate_rate
@[simp] theorem reply_mate_fails (code : Nat) (c : Cmd) (status detail : Nat) (data : List Word) (s : State) :
    (reply code c status detail data s).mate.fails = s.mate.fails := (sends_reply _ _ _ _ _ _).mate_fails

/-! ### raiseAlarm -/

@[simp] theorem raiseAlarm_now (code target sub : Nat) (data : List Word) (s : State) :
    (raiseAlarm code target sub data s).now = s.now := (alarms_raiseAlarm _ _ _ _ _).now
@[simp] theorem raiseAlarm_hk (code target sub : Nat) (data : List Word) (s : State) :
    (raiseAlarm code target sub data s).hk = s.hk := (alarms_raiseAlarm _ _ _ _ _).hk
@[simp] theorem raiseAlarm_pr (code target sub : Nat) (data : List Word) (s : State) :
    (raiseAlarm code target sub data s).pr = s.pr := (alarms_raiseAlarm _ _ _ _ _).pr
@[simp] theorem raiseAlarm_lp (code target sub : Nat) (data : List Word) (s : State) :
    (raiseAlarm code target sub data s).lp = s.lp := (alarms_raiseAlarm _ _ _ _ _).lp
@[simp] theorem raiseAlarm_eng (code target sub : Nat) (data : List Word) (s : State) :
    (raiseAlarm code target sub data s).eng = s.eng := (alarms_raiseAlarm _ _ _ _ _).eng
@[simp] theorem raiseAlarm_warmPort (code target sub : Nat) (data : List Word) (s : State) :
    (raiseAlarm code target sub data s).warmPort = s.warmPort := (alarms_raiseAlarm _ _ _ _ _).warmPort
@[simp] theorem raiseAlarm_reresolve (code target sub : Nat) (data : List Word) (s : State) :
    (raiseAlarm code target sub data s).reresolve = s.reresolve := (alarms_raiseAlarm _ _ _ _ _).reresolve
@[simp] theorem raiseAlarm_lanes (code target sub : Nat) (data : List Word) (s : State) :
    (raiseAlarm code target sub data s).lanes = s.lanes := (alarms_raiseAlarm _ _ _ _ _).lanes
@[simp] theorem raiseAlarm_hports (code target sub : Nat) (data : List Word) (s : State) :
    (raiseAlarm code target sub data s).hports = s.hports := (alarms_raiseAlarm _ _ _ _ _).hports
@[simp] theorem raiseAlarm_synce (code target sub : Nat) (data : List Word) (s : State) :
    (raiseAlarm code target sub data s).synce = s.synce := (alarms_raiseAlarm _ _ _ _ _).synce
@[simp] theorem raiseAlarm_tm (code target sub : Nat) (data : List Word) (s : State) :
    (raiseAlarm code target sub data s).tm = s.tm := (alarms_raiseAlarm _ _ _ _ _).tm
@[simp] theorem raiseAlarm_keys (code target sub : Nat) (data : List Word) (s : State) :
    (raiseAlarm code target sub data s).keys = s.keys := (alarms_raiseAlarm _ _ _ _ _).keys
@[simp] theorem raiseAlarm_prot (code target sub : Nat) (data : List Word) (s : State) :
    (raiseAlarm code target sub data s).prot = s.prot := (alarms_raiseAlarm _ _ _ _ _).prot
@[simp] theorem raiseAlarm_clk (code target sub : Nat) (data : List Word) (s : State) :
    (raiseAlarm code target sub data s).clk = s.clk := (alarms_raiseAlarm _ _ _ _ _).clk
@[simp] theorem raiseAlarm_mon (code target sub : Nat) (data : List Word) (s : State) :
    (raiseAlarm code target sub data s).mon = s.mon := (alarms_raiseAlarm _ _ _ _ _).mon
@[simp] theorem raiseAlarm_fw (code target sub : Nat) (data : List Word) (s : State) :
    (raiseAlarm code target sub data s).fw = s.fw := (alarms_raiseAlarm _ _ _ _ _).fw
@[simp] theorem raiseAlarm_store (code target sub : Nat) (data : List Word) (s : State) :
    (raiseAlarm code target sub data s).store = s.store := (alarms_raiseAlarm _ _ _ _ _).store
@[simp] theorem raiseAlarm_sealSt (code target sub : Nat) (data : List Word) (s : State) :
    (raiseAlarm code target sub data s).sealSt = s.sealSt := (alarms_raiseAlarm _ _ _ _ _).sealSt
@[simp] theorem raiseAlarm_freeCtr (code target sub : Nat) (data : List Word) (s : State) :
    (raiseAlarm code target sub data s).freeCtr = s.freeCtr := (alarms_raiseAlarm _ _ _ _ _).freeCtr
@[simp] theorem raiseAlarm_pending (code target sub : Nat) (data : List Word) (s : State) :
    (raiseAlarm code target sub data s).pending = s.pending := (alarms_raiseAlarm _ _ _ _ _).pending
@[simp] theorem raiseAlarm_host_rxq (code target sub : Nat) (data : List Word) (s : State) :
    (raiseAlarm code target sub data s).host.rxq = s.host.rxq := (alarms_raiseAlarm _ _ _ _ _).host_rxq
@[simp] theorem raiseAlarm_host_deferred (code target sub : Nat) (data : List Word) (s : State) :
    (raiseAlarm code target sub data s).host.deferred = s.host.deferred := (alarms_raiseAlarm _ _ _ _ _).host_deferred
@[simp] theorem raiseAlarm_host_spiAbort (code target sub : Nat) (data : List Word) (s : State) :
    (raiseAlarm code target sub data s).host.spiAbort = s.host.spiAbort := (alarms_raiseAlarm _ _ _ _ _).host_spiAbort
@[simp] theorem raiseAlarm_host_inbandDiscard (code target sub : Nat) (data : List Word) (s : State) :
    (raiseAlarm code target sub data s).host.inbandDiscard = s.host.inbandDiscard := (alarms_raiseAlarm _ _ _ _ _).host_inbandDiscard
@[simp] theorem raiseAlarm_host_syncReject (code target sub : Nat) (data : List Word) (s : State) :
    (raiseAlarm code target sub data s).host.syncReject = s.host.syncReject := (alarms_raiseAlarm _ _ _ _ _).host_syncReject
@[simp] theorem raiseAlarm_host_rxqDrop (code target sub : Nat) (data : List Word) (s : State) :
    (raiseAlarm code target sub data s).host.rxqDrop = s.host.rxqDrop := (alarms_raiseAlarm _ _ _ _ _).host_rxqDrop
@[simp] theorem raiseAlarm_host_mateEnable (code target sub : Nat) (data : List Word) (s : State) :
    (raiseAlarm code target sub data s).host.mateEnable = s.host.mateEnable := (alarms_raiseAlarm _ _ _ _ _).host_mateEnable
@[simp] theorem raiseAlarm_host_alarmMask (code target sub : Nat) (data : List Word) (s : State) :
    (raiseAlarm code target sub data s).host.alarmMask = s.host.alarmMask := (alarms_raiseAlarm _ _ _ _ _).host_alarmMask
@[simp] theorem raiseAlarm_host_fswMap (code target sub : Nat) (data : List Word) (s : State) :
    (raiseAlarm code target sub data s).host.fswMap = s.host.fswMap := (alarms_raiseAlarm _ _ _ _ _).host_fswMap
@[simp] theorem raiseAlarm_host_staged (code target sub : Nat) (data : List Word) (s : State) :
    (raiseAlarm code target sub data s).host.staged = s.host.staged := (alarms_raiseAlarm _ _ _ _ _).host_staged
@[simp] theorem raiseAlarm_host_cryptoLock (code target sub : Nat) (data : List Word) (s : State) :
    (raiseAlarm code target sub data s).host.cryptoLock = s.host.cryptoLock := (alarms_raiseAlarm _ _ _ _ _).host_cryptoLock
@[simp] theorem raiseAlarm_host_updateLock (code target sub : Nat) (data : List Word) (s : State) :
    (raiseAlarm code target sub data s).host.updateLock = s.host.updateLock := (alarms_raiseAlarm _ _ _ _ _).host_updateLock
@[simp] theorem raiseAlarm_host_syncLatched (code target sub : Nat) (data : List Word) (s : State) :
    (raiseAlarm code target sub data s).host.syncLatched = s.host.syncLatched := (alarms_raiseAlarm _ _ _ _ _).host_syncLatched
@[simp] theorem raiseAlarm_host_syncTaken (code target sub : Nat) (data : List Word) (s : State) :
    (raiseAlarm code target sub data s).host.syncTaken = s.host.syncTaken := (alarms_raiseAlarm _ _ _ _ _).host_syncTaken
@[simp] theorem raiseAlarm_host_holds (code target sub : Nat) (data : List Word) (s : State) :
    (raiseAlarm code target sub data s).host.holds = s.host.holds := (alarms_raiseAlarm _ _ _ _ _).host_holds
@[simp] theorem raiseAlarm_host_wakes (code target sub : Nat) (data : List Word) (s : State) :
    (raiseAlarm code target sub data s).host.wakes = s.host.wakes := (alarms_raiseAlarm _ _ _ _ _).host_wakes
@[simp] theorem raiseAlarm_pcie_linkUp (code target sub : Nat) (data : List Word) (s : State) :
    (raiseAlarm code target sub data s).host.pcie.linkUp = s.host.pcie.linkUp := (alarms_raiseAlarm _ _ _ _ _).pcie_linkUp
@[simp] theorem raiseAlarm_pcie_ringSize (code target sub : Nat) (data : List Word) (s : State) :
    (raiseAlarm code target sub data s).host.pcie.ringSize = s.host.pcie.ringSize := (alarms_raiseAlarm _ _ _ _ _).pcie_ringSize
@[simp] theorem raiseAlarm_pcie_enable (code target sub : Nat) (data : List Word) (s : State) :
    (raiseAlarm code target sub data s).host.pcie.enable = s.host.pcie.enable := (alarms_raiseAlarm _ _ _ _ _).pcie_enable
@[simp] theorem raiseAlarm_pcie_cmdProd (code target sub : Nat) (data : List Word) (s : State) :
    (raiseAlarm code target sub data s).host.pcie.cmdProd = s.host.pcie.cmdProd := (alarms_raiseAlarm _ _ _ _ _).pcie_cmdProd
@[simp] theorem raiseAlarm_pcie_cmdCons (code target sub : Nat) (data : List Word) (s : State) :
    (raiseAlarm code target sub data s).host.pcie.cmdCons = s.host.pcie.cmdCons := (alarms_raiseAlarm _ _ _ _ _).pcie_cmdCons
@[simp] theorem raiseAlarm_pcie_rplCons (code target sub : Nat) (data : List Word) (s : State) :
    (raiseAlarm code target sub data s).host.pcie.rplCons = s.host.pcie.rplCons := (alarms_raiseAlarm _ _ _ _ _).pcie_rplCons
@[simp] theorem raiseAlarm_pcie_evtCons (code target sub : Nat) (data : List Word) (s : State) :
    (raiseAlarm code target sub data s).host.pcie.evtCons = s.host.pcie.evtCons := (alarms_raiseAlarm _ _ _ _ _).pcie_evtCons
@[simp] theorem raiseAlarm_pcie_dmaDone (code target sub : Nat) (data : List Word) (s : State) :
    (raiseAlarm code target sub data s).host.pcie.dmaDone = s.host.pcie.dmaDone := (alarms_raiseAlarm _ _ _ _ _).pcie_dmaDone
@[simp] theorem raiseAlarm_spi_latch (code target sub : Nat) (data : List Word) (s : State) :
    (raiseAlarm code target sub data s).host.spi.latch = s.host.spi.latch := (alarms_raiseAlarm _ _ _ _ _).spi_latch
@[simp] theorem raiseAlarm_spi_miso (code target sub : Nat) (data : List Word) (s : State) :
    (raiseAlarm code target sub data s).host.spi.miso = s.host.spi.miso := (alarms_raiseAlarm _ _ _ _ _).spi_miso
@[simp] theorem raiseAlarm_ib0_enable (code target sub : Nat) (data : List Word) (s : State) :
    (raiseAlarm code target sub data s).host.ib.lp0.enable = s.host.ib.lp0.enable := (alarms_raiseAlarm _ _ _ _ _).ib0_enable
@[simp] theorem raiseAlarm_ib1_enable (code target sub : Nat) (data : List Word) (s : State) :
    (raiseAlarm code target sub data s).host.ib.lp1.enable = s.host.ib.lp1.enable := (alarms_raiseAlarm _ _ _ _ _).ib1_enable
@[simp] theorem raiseAlarm_mate_st (code target sub : Nat) (data : List Word) (s : State) :
    (raiseAlarm code target sub data s).mate.st = s.mate.st := (alarms_raiseAlarm _ _ _ _ _).mate_st
@[simp] theorem raiseAlarm_mate_asleep (code target sub : Nat) (data : List Word) (s : State) :
    (raiseAlarm code target sub data s).mate.asleep = s.mate.asleep := (alarms_raiseAlarm _ _ _ _ _).mate_asleep
@[simp] theorem raiseAlarm_mate_granted (code target sub : Nat) (data : List Word) (s : State) :
    (raiseAlarm code target sub data s).mate.granted = s.mate.granted := (alarms_raiseAlarm _ _ _ _ _).mate_granted
@[simp] theorem raiseAlarm_mate_rate (code target sub : Nat) (data : List Word) (s : State) :
    (raiseAlarm code target sub data s).mate.rate = s.mate.rate := (alarms_raiseAlarm _ _ _ _ _).mate_rate
@[simp] theorem raiseAlarm_mate_fails (code target sub : Nat) (data : List Word) (s : State) :
    (raiseAlarm code target sub data s).mate.fails = s.mate.fails := (alarms_raiseAlarm _ _ _ _ _).mate_fails

/-! ### clearAlarm -/

@[simp] theorem clearAlarm_now (code target sub : Nat) (data : List Word) (s : State) :
    (clearAlarm code target sub data s).now = s.now := (alarms_clearAlarm _ _ _ _ _).now
@[simp] theorem clearAlarm_hk (code target sub : Nat) (data : List Word) (s : State) :
    (clearAlarm code target sub data s).hk = s.hk := (alarms_clearAlarm _ _ _ _ _).hk
@[simp] theorem clearAlarm_pr (code target sub : Nat) (data : List Word) (s : State) :
    (clearAlarm code target sub data s).pr = s.pr := (alarms_clearAlarm _ _ _ _ _).pr
@[simp] theorem clearAlarm_lp (code target sub : Nat) (data : List Word) (s : State) :
    (clearAlarm code target sub data s).lp = s.lp := (alarms_clearAlarm _ _ _ _ _).lp
@[simp] theorem clearAlarm_eng (code target sub : Nat) (data : List Word) (s : State) :
    (clearAlarm code target sub data s).eng = s.eng := (alarms_clearAlarm _ _ _ _ _).eng
@[simp] theorem clearAlarm_warmPort (code target sub : Nat) (data : List Word) (s : State) :
    (clearAlarm code target sub data s).warmPort = s.warmPort := (alarms_clearAlarm _ _ _ _ _).warmPort
@[simp] theorem clearAlarm_reresolve (code target sub : Nat) (data : List Word) (s : State) :
    (clearAlarm code target sub data s).reresolve = s.reresolve := (alarms_clearAlarm _ _ _ _ _).reresolve
@[simp] theorem clearAlarm_lanes (code target sub : Nat) (data : List Word) (s : State) :
    (clearAlarm code target sub data s).lanes = s.lanes := (alarms_clearAlarm _ _ _ _ _).lanes
@[simp] theorem clearAlarm_hports (code target sub : Nat) (data : List Word) (s : State) :
    (clearAlarm code target sub data s).hports = s.hports := (alarms_clearAlarm _ _ _ _ _).hports
@[simp] theorem clearAlarm_synce (code target sub : Nat) (data : List Word) (s : State) :
    (clearAlarm code target sub data s).synce = s.synce := (alarms_clearAlarm _ _ _ _ _).synce
@[simp] theorem clearAlarm_tm (code target sub : Nat) (data : List Word) (s : State) :
    (clearAlarm code target sub data s).tm = s.tm := (alarms_clearAlarm _ _ _ _ _).tm
@[simp] theorem clearAlarm_keys (code target sub : Nat) (data : List Word) (s : State) :
    (clearAlarm code target sub data s).keys = s.keys := (alarms_clearAlarm _ _ _ _ _).keys
@[simp] theorem clearAlarm_prot (code target sub : Nat) (data : List Word) (s : State) :
    (clearAlarm code target sub data s).prot = s.prot := (alarms_clearAlarm _ _ _ _ _).prot
@[simp] theorem clearAlarm_clk (code target sub : Nat) (data : List Word) (s : State) :
    (clearAlarm code target sub data s).clk = s.clk := (alarms_clearAlarm _ _ _ _ _).clk
@[simp] theorem clearAlarm_mon (code target sub : Nat) (data : List Word) (s : State) :
    (clearAlarm code target sub data s).mon = s.mon := (alarms_clearAlarm _ _ _ _ _).mon
@[simp] theorem clearAlarm_fw (code target sub : Nat) (data : List Word) (s : State) :
    (clearAlarm code target sub data s).fw = s.fw := (alarms_clearAlarm _ _ _ _ _).fw
@[simp] theorem clearAlarm_store (code target sub : Nat) (data : List Word) (s : State) :
    (clearAlarm code target sub data s).store = s.store := (alarms_clearAlarm _ _ _ _ _).store
@[simp] theorem clearAlarm_sealSt (code target sub : Nat) (data : List Word) (s : State) :
    (clearAlarm code target sub data s).sealSt = s.sealSt := (alarms_clearAlarm _ _ _ _ _).sealSt
@[simp] theorem clearAlarm_freeCtr (code target sub : Nat) (data : List Word) (s : State) :
    (clearAlarm code target sub data s).freeCtr = s.freeCtr := (alarms_clearAlarm _ _ _ _ _).freeCtr
@[simp] theorem clearAlarm_pending (code target sub : Nat) (data : List Word) (s : State) :
    (clearAlarm code target sub data s).pending = s.pending := (alarms_clearAlarm _ _ _ _ _).pending
@[simp] theorem clearAlarm_host_rxq (code target sub : Nat) (data : List Word) (s : State) :
    (clearAlarm code target sub data s).host.rxq = s.host.rxq := (alarms_clearAlarm _ _ _ _ _).host_rxq
@[simp] theorem clearAlarm_host_deferred (code target sub : Nat) (data : List Word) (s : State) :
    (clearAlarm code target sub data s).host.deferred = s.host.deferred := (alarms_clearAlarm _ _ _ _ _).host_deferred
@[simp] theorem clearAlarm_host_spiAbort (code target sub : Nat) (data : List Word) (s : State) :
    (clearAlarm code target sub data s).host.spiAbort = s.host.spiAbort := (alarms_clearAlarm _ _ _ _ _).host_spiAbort
@[simp] theorem clearAlarm_host_inbandDiscard (code target sub : Nat) (data : List Word) (s : State) :
    (clearAlarm code target sub data s).host.inbandDiscard = s.host.inbandDiscard := (alarms_clearAlarm _ _ _ _ _).host_inbandDiscard
@[simp] theorem clearAlarm_host_syncReject (code target sub : Nat) (data : List Word) (s : State) :
    (clearAlarm code target sub data s).host.syncReject = s.host.syncReject := (alarms_clearAlarm _ _ _ _ _).host_syncReject
@[simp] theorem clearAlarm_host_rxqDrop (code target sub : Nat) (data : List Word) (s : State) :
    (clearAlarm code target sub data s).host.rxqDrop = s.host.rxqDrop := (alarms_clearAlarm _ _ _ _ _).host_rxqDrop
@[simp] theorem clearAlarm_host_mateEnable (code target sub : Nat) (data : List Word) (s : State) :
    (clearAlarm code target sub data s).host.mateEnable = s.host.mateEnable := (alarms_clearAlarm _ _ _ _ _).host_mateEnable
@[simp] theorem clearAlarm_host_alarmMask (code target sub : Nat) (data : List Word) (s : State) :
    (clearAlarm code target sub data s).host.alarmMask = s.host.alarmMask := (alarms_clearAlarm _ _ _ _ _).host_alarmMask
@[simp] theorem clearAlarm_host_fswMap (code target sub : Nat) (data : List Word) (s : State) :
    (clearAlarm code target sub data s).host.fswMap = s.host.fswMap := (alarms_clearAlarm _ _ _ _ _).host_fswMap
@[simp] theorem clearAlarm_host_staged (code target sub : Nat) (data : List Word) (s : State) :
    (clearAlarm code target sub data s).host.staged = s.host.staged := (alarms_clearAlarm _ _ _ _ _).host_staged
@[simp] theorem clearAlarm_host_cryptoLock (code target sub : Nat) (data : List Word) (s : State) :
    (clearAlarm code target sub data s).host.cryptoLock = s.host.cryptoLock := (alarms_clearAlarm _ _ _ _ _).host_cryptoLock
@[simp] theorem clearAlarm_host_updateLock (code target sub : Nat) (data : List Word) (s : State) :
    (clearAlarm code target sub data s).host.updateLock = s.host.updateLock := (alarms_clearAlarm _ _ _ _ _).host_updateLock
@[simp] theorem clearAlarm_host_syncLatched (code target sub : Nat) (data : List Word) (s : State) :
    (clearAlarm code target sub data s).host.syncLatched = s.host.syncLatched := (alarms_clearAlarm _ _ _ _ _).host_syncLatched
@[simp] theorem clearAlarm_host_syncTaken (code target sub : Nat) (data : List Word) (s : State) :
    (clearAlarm code target sub data s).host.syncTaken = s.host.syncTaken := (alarms_clearAlarm _ _ _ _ _).host_syncTaken
@[simp] theorem clearAlarm_host_holds (code target sub : Nat) (data : List Word) (s : State) :
    (clearAlarm code target sub data s).host.holds = s.host.holds := (alarms_clearAlarm _ _ _ _ _).host_holds
@[simp] theorem clearAlarm_host_wakes (code target sub : Nat) (data : List Word) (s : State) :
    (clearAlarm code target sub data s).host.wakes = s.host.wakes := (alarms_clearAlarm _ _ _ _ _).host_wakes
@[simp] theorem clearAlarm_pcie_linkUp (code target sub : Nat) (data : List Word) (s : State) :
    (clearAlarm code target sub data s).host.pcie.linkUp = s.host.pcie.linkUp := (alarms_clearAlarm _ _ _ _ _).pcie_linkUp
@[simp] theorem clearAlarm_pcie_ringSize (code target sub : Nat) (data : List Word) (s : State) :
    (clearAlarm code target sub data s).host.pcie.ringSize = s.host.pcie.ringSize := (alarms_clearAlarm _ _ _ _ _).pcie_ringSize
@[simp] theorem clearAlarm_pcie_enable (code target sub : Nat) (data : List Word) (s : State) :
    (clearAlarm code target sub data s).host.pcie.enable = s.host.pcie.enable := (alarms_clearAlarm _ _ _ _ _).pcie_enable
@[simp] theorem clearAlarm_pcie_cmdProd (code target sub : Nat) (data : List Word) (s : State) :
    (clearAlarm code target sub data s).host.pcie.cmdProd = s.host.pcie.cmdProd := (alarms_clearAlarm _ _ _ _ _).pcie_cmdProd
@[simp] theorem clearAlarm_pcie_cmdCons (code target sub : Nat) (data : List Word) (s : State) :
    (clearAlarm code target sub data s).host.pcie.cmdCons = s.host.pcie.cmdCons := (alarms_clearAlarm _ _ _ _ _).pcie_cmdCons
@[simp] theorem clearAlarm_pcie_rplCons (code target sub : Nat) (data : List Word) (s : State) :
    (clearAlarm code target sub data s).host.pcie.rplCons = s.host.pcie.rplCons := (alarms_clearAlarm _ _ _ _ _).pcie_rplCons
@[simp] theorem clearAlarm_pcie_evtCons (code target sub : Nat) (data : List Word) (s : State) :
    (clearAlarm code target sub data s).host.pcie.evtCons = s.host.pcie.evtCons := (alarms_clearAlarm _ _ _ _ _).pcie_evtCons
@[simp] theorem clearAlarm_pcie_dmaDone (code target sub : Nat) (data : List Word) (s : State) :
    (clearAlarm code target sub data s).host.pcie.dmaDone = s.host.pcie.dmaDone := (alarms_clearAlarm _ _ _ _ _).pcie_dmaDone
@[simp] theorem clearAlarm_spi_latch (code target sub : Nat) (data : List Word) (s : State) :
    (clearAlarm code target sub data s).host.spi.latch = s.host.spi.latch := (alarms_clearAlarm _ _ _ _ _).spi_latch
@[simp] theorem clearAlarm_spi_miso (code target sub : Nat) (data : List Word) (s : State) :
    (clearAlarm code target sub data s).host.spi.miso = s.host.spi.miso := (alarms_clearAlarm _ _ _ _ _).spi_miso
@[simp] theorem clearAlarm_ib0_enable (code target sub : Nat) (data : List Word) (s : State) :
    (clearAlarm code target sub data s).host.ib.lp0.enable = s.host.ib.lp0.enable := (alarms_clearAlarm _ _ _ _ _).ib0_enable
@[simp] theorem clearAlarm_ib1_enable (code target sub : Nat) (data : List Word) (s : State) :
    (clearAlarm code target sub data s).host.ib.lp1.enable = s.host.ib.lp1.enable := (alarms_clearAlarm _ _ _ _ _).ib1_enable
@[simp] theorem clearAlarm_mate_st (code target sub : Nat) (data : List Word) (s : State) :
    (clearAlarm code target sub data s).mate.st = s.mate.st := (alarms_clearAlarm _ _ _ _ _).mate_st
@[simp] theorem clearAlarm_mate_asleep (code target sub : Nat) (data : List Word) (s : State) :
    (clearAlarm code target sub data s).mate.asleep = s.mate.asleep := (alarms_clearAlarm _ _ _ _ _).mate_asleep
@[simp] theorem clearAlarm_mate_granted (code target sub : Nat) (data : List Word) (s : State) :
    (clearAlarm code target sub data s).mate.granted = s.mate.granted := (alarms_clearAlarm _ _ _ _ _).mate_granted
@[simp] theorem clearAlarm_mate_rate (code target sub : Nat) (data : List Word) (s : State) :
    (clearAlarm code target sub data s).mate.rate = s.mate.rate := (alarms_clearAlarm _ _ _ _ _).mate_rate
@[simp] theorem clearAlarm_mate_fails (code target sub : Nat) (data : List Word) (s : State) :
    (clearAlarm code target sub data s).mate.fails = s.mate.fails := (alarms_clearAlarm _ _ _ _ _).mate_fails

/-! ### completeUnit -/

@[simp] theorem completeUnit_now (code t status detail : Nat) (ws : List Word) (s : State) :
    (completeUnit code t status detail ws s).now = s.now := (sends_completeUnit code t status detail ws s).now
@[simp] theorem completeUnit_hk (code t status detail : Nat) (ws : List Word) (s : State) :
    (completeUnit code t status detail ws s).hk = s.hk := (sends_completeUnit code t status detail ws s).hk
@[simp] theorem completeUnit_pr (code t status detail : Nat) (ws : List Word) (s : State) :
    (completeUnit code t status detail ws s).pr = s.pr := (sends_completeUnit code t status detail ws s).pr
@[simp] theorem completeUnit_lp (code t status detail : Nat) (ws : List Word) (s : State) :
    (completeUnit code t status detail ws s).lp = s.lp := (sends_completeUnit code t status detail ws s).lp
@[simp] theorem completeUnit_eng (code t status detail : Nat) (ws : List Word) (s : State) :
    (completeUnit code t status detail ws s).eng = s.eng := (sends_completeUnit code t status detail ws s).eng
@[simp] theorem completeUnit_warmPort (code t status detail : Nat) (ws : List Word) (s : State) :
    (completeUnit code t status detail ws s).warmPort = s.warmPort := (sends_completeUnit code t status detail ws s).warmPort
@[simp] theorem completeUnit_reresolve (code t status detail : Nat) (ws : List Word) (s : State) :
    (completeUnit code t status detail ws s).reresolve = s.reresolve := (sends_completeUnit code t status detail ws s).reresolve
@[simp] theorem completeUnit_lanes (code t status detail : Nat) (ws : List Word) (s : State) :
    (completeUnit code t status detail ws s).lanes = s.lanes := (sends_completeUnit code t status detail ws s).lanes
@[simp] theorem completeUnit_hports (code t status detail : Nat) (ws : List Word) (s : State) :
    (completeUnit code t status detail ws s).hports = s.hports := (sends_completeUnit code t status detail ws s).hports
@[simp] theorem completeUnit_synce (code t status detail : Nat) (ws : List Word) (s : State) :
    (completeUnit code t status detail ws s).synce = s.synce := (sends_completeUnit code t status detail ws s).synce
@[simp] theorem completeUnit_tm (code t status detail : Nat) (ws : List Word) (s : State) :
    (completeUnit code t status detail ws s).tm = s.tm := (sends_completeUnit code t status detail ws s).tm
@[simp] theorem completeUnit_keys (code t status detail : Nat) (ws : List Word) (s : State) :
    (completeUnit code t status detail ws s).keys = s.keys := (sends_completeUnit code t status detail ws s).keys
@[simp] theorem completeUnit_prot (code t status detail : Nat) (ws : List Word) (s : State) :
    (completeUnit code t status detail ws s).prot = s.prot := (sends_completeUnit code t status detail ws s).prot
@[simp] theorem completeUnit_clk (code t status detail : Nat) (ws : List Word) (s : State) :
    (completeUnit code t status detail ws s).clk = s.clk := (sends_completeUnit code t status detail ws s).clk
@[simp] theorem completeUnit_mon (code t status detail : Nat) (ws : List Word) (s : State) :
    (completeUnit code t status detail ws s).mon = s.mon := (sends_completeUnit code t status detail ws s).mon
@[simp] theorem completeUnit_fw (code t status detail : Nat) (ws : List Word) (s : State) :
    (completeUnit code t status detail ws s).fw = s.fw := (sends_completeUnit code t status detail ws s).fw
@[simp] theorem completeUnit_store (code t status detail : Nat) (ws : List Word) (s : State) :
    (completeUnit code t status detail ws s).store = s.store := (sends_completeUnit code t status detail ws s).store
@[simp] theorem completeUnit_sealSt (code t status detail : Nat) (ws : List Word) (s : State) :
    (completeUnit code t status detail ws s).sealSt = s.sealSt := (sends_completeUnit code t status detail ws s).sealSt
@[simp] theorem completeUnit_alarms (code t status detail : Nat) (ws : List Word) (s : State) :
    (completeUnit code t status detail ws s).alarms = s.alarms := (sends_completeUnit code t status detail ws s).alarms
@[simp] theorem completeUnit_freeCtr (code t status detail : Nat) (ws : List Word) (s : State) :
    (completeUnit code t status detail ws s).freeCtr = s.freeCtr := (sends_completeUnit code t status detail ws s).freeCtr
@[simp] theorem completeUnit_pending (code t status detail : Nat) (ws : List Word) (s : State) :
    (completeUnit code t status detail ws s).pending = s.pending := (sends_completeUnit code t status detail ws s).pending
@[simp] theorem completeUnit_host_rxq (code t status detail : Nat) (ws : List Word) (s : State) :
    (completeUnit code t status detail ws s).host.rxq = s.host.rxq := (sends_completeUnit code t status detail ws s).host_rxq
@[simp] theorem completeUnit_host_spiAbort (code t status detail : Nat) (ws : List Word) (s : State) :
    (completeUnit code t status detail ws s).host.spiAbort = s.host.spiAbort := (sends_completeUnit code t status detail ws s).host_spiAbort
@[simp] theorem completeUnit_host_inbandDiscard (code t status detail : Nat) (ws : List Word) (s : State) :
    (completeUnit code t status detail ws s).host.inbandDiscard = s.host.inbandDiscard := (sends_completeUnit code t status detail ws s).host_inbandDiscard
@[simp] theorem completeUnit_host_syncReject (code t status detail : Nat) (ws : List Word) (s : State) :
    (completeUnit code t status detail ws s).host.syncReject = s.host.syncReject := (sends_completeUnit code t status detail ws s).host_syncReject
@[simp] theorem completeUnit_host_rxqDrop (code t status detail : Nat) (ws : List Word) (s : State) :
    (completeUnit code t status detail ws s).host.rxqDrop = s.host.rxqDrop := (sends_completeUnit code t status detail ws s).host_rxqDrop
@[simp] theorem completeUnit_host_mateEnable (code t status detail : Nat) (ws : List Word) (s : State) :
    (completeUnit code t status detail ws s).host.mateEnable = s.host.mateEnable := (sends_completeUnit code t status detail ws s).host_mateEnable
@[simp] theorem completeUnit_host_alarmMask (code t status detail : Nat) (ws : List Word) (s : State) :
    (completeUnit code t status detail ws s).host.alarmMask = s.host.alarmMask := (sends_completeUnit code t status detail ws s).host_alarmMask
@[simp] theorem completeUnit_host_fswMap (code t status detail : Nat) (ws : List Word) (s : State) :
    (completeUnit code t status detail ws s).host.fswMap = s.host.fswMap := (sends_completeUnit code t status detail ws s).host_fswMap
@[simp] theorem completeUnit_host_staged (code t status detail : Nat) (ws : List Word) (s : State) :
    (completeUnit code t status detail ws s).host.staged = s.host.staged := (sends_completeUnit code t status detail ws s).host_staged
@[simp] theorem completeUnit_host_cryptoLock (code t status detail : Nat) (ws : List Word) (s : State) :
    (completeUnit code t status detail ws s).host.cryptoLock = s.host.cryptoLock := (sends_completeUnit code t status detail ws s).host_cryptoLock
@[simp] theorem completeUnit_host_updateLock (code t status detail : Nat) (ws : List Word) (s : State) :
    (completeUnit code t status detail ws s).host.updateLock = s.host.updateLock := (sends_completeUnit code t status detail ws s).host_updateLock
@[simp] theorem completeUnit_host_syncLatched (code t status detail : Nat) (ws : List Word) (s : State) :
    (completeUnit code t status detail ws s).host.syncLatched = s.host.syncLatched := (sends_completeUnit code t status detail ws s).host_syncLatched
@[simp] theorem completeUnit_host_syncTaken (code t status detail : Nat) (ws : List Word) (s : State) :
    (completeUnit code t status detail ws s).host.syncTaken = s.host.syncTaken := (sends_completeUnit code t status detail ws s).host_syncTaken
@[simp] theorem completeUnit_pcie_linkUp (code t status detail : Nat) (ws : List Word) (s : State) :
    (completeUnit code t status detail ws s).host.pcie.linkUp = s.host.pcie.linkUp := (sends_completeUnit code t status detail ws s).pcie_linkUp
@[simp] theorem completeUnit_pcie_ringSize (code t status detail : Nat) (ws : List Word) (s : State) :
    (completeUnit code t status detail ws s).host.pcie.ringSize = s.host.pcie.ringSize := (sends_completeUnit code t status detail ws s).pcie_ringSize
@[simp] theorem completeUnit_pcie_enable (code t status detail : Nat) (ws : List Word) (s : State) :
    (completeUnit code t status detail ws s).host.pcie.enable = s.host.pcie.enable := (sends_completeUnit code t status detail ws s).pcie_enable
@[simp] theorem completeUnit_pcie_cmdProd (code t status detail : Nat) (ws : List Word) (s : State) :
    (completeUnit code t status detail ws s).host.pcie.cmdProd = s.host.pcie.cmdProd := (sends_completeUnit code t status detail ws s).pcie_cmdProd
@[simp] theorem completeUnit_pcie_cmdCons (code t status detail : Nat) (ws : List Word) (s : State) :
    (completeUnit code t status detail ws s).host.pcie.cmdCons = s.host.pcie.cmdCons := (sends_completeUnit code t status detail ws s).pcie_cmdCons
@[simp] theorem completeUnit_pcie_rplCons (code t status detail : Nat) (ws : List Word) (s : State) :
    (completeUnit code t status detail ws s).host.pcie.rplCons = s.host.pcie.rplCons := (sends_completeUnit code t status detail ws s).pcie_rplCons
@[simp] theorem completeUnit_pcie_evtCons (code t status detail : Nat) (ws : List Word) (s : State) :
    (completeUnit code t status detail ws s).host.pcie.evtCons = s.host.pcie.evtCons := (sends_completeUnit code t status detail ws s).pcie_evtCons
@[simp] theorem completeUnit_pcie_dmaDone (code t status detail : Nat) (ws : List Word) (s : State) :
    (completeUnit code t status detail ws s).host.pcie.dmaDone = s.host.pcie.dmaDone := (sends_completeUnit code t status detail ws s).pcie_dmaDone
@[simp] theorem completeUnit_spi_latch (code t status detail : Nat) (ws : List Word) (s : State) :
    (completeUnit code t status detail ws s).host.spi.latch = s.host.spi.latch := (sends_completeUnit code t status detail ws s).spi_latch
@[simp] theorem completeUnit_spi_miso (code t status detail : Nat) (ws : List Word) (s : State) :
    (completeUnit code t status detail ws s).host.spi.miso = s.host.spi.miso := (sends_completeUnit code t status detail ws s).spi_miso
@[simp] theorem completeUnit_ib0_enable (code t status detail : Nat) (ws : List Word) (s : State) :
    (completeUnit code t status detail ws s).host.ib.lp0.enable = s.host.ib.lp0.enable := (sends_completeUnit code t status detail ws s).ib0_enable
@[simp] theorem completeUnit_ib1_enable (code t status detail : Nat) (ws : List Word) (s : State) :
    (completeUnit code t status detail ws s).host.ib.lp1.enable = s.host.ib.lp1.enable := (sends_completeUnit code t status detail ws s).ib1_enable
@[simp] theorem completeUnit_mate_st (code t status detail : Nat) (ws : List Word) (s : State) :
    (completeUnit code t status detail ws s).mate.st = s.mate.st := (sends_completeUnit code t status detail ws s).mate_st
@[simp] theorem completeUnit_mate_asleep (code t status detail : Nat) (ws : List Word) (s : State) :
    (completeUnit code t status detail ws s).mate.asleep = s.mate.asleep := (sends_completeUnit code t status detail ws s).mate_asleep
@[simp] theorem completeUnit_mate_granted (code t status detail : Nat) (ws : List Word) (s : State) :
    (completeUnit code t status detail ws s).mate.granted = s.mate.granted := (sends_completeUnit code t status detail ws s).mate_granted
@[simp] theorem completeUnit_mate_rate (code t status detail : Nat) (ws : List Word) (s : State) :
    (completeUnit code t status detail ws s).mate.rate = s.mate.rate := (sends_completeUnit code t status detail ws s).mate_rate
@[simp] theorem completeUnit_mate_fails (code t status detail : Nat) (ws : List Word) (s : State) :
    (completeUnit code t status detail ws s).mate.fails = s.mate.fails := (sends_completeUnit code t status detail ws s).mate_fails

/-! ### advance and lockActivity -/

@[simp] theorem advance_pr (dt : Nat) (s : State) : (advance dt s).pr = s.pr := by
  have k := congrArg State.pr (advance_eq dt s); exact k
@[simp] theorem advance_lp (dt : Nat) (s : State) : (advance dt s).lp = s.lp := by
  have k := congrArg State.lp (advance_eq dt s); exact k
@[simp] theorem advance_eng (dt : Nat) (s : State) : (advance dt s).eng = s.eng := by
  have k := congrArg State.eng (advance_eq dt s); exact k
@[simp] theorem advance_warmPort (dt : Nat) (s : State) : (advance dt s).warmPort = s.warmPort := by
  have k := congrArg State.warmPort (advance_eq dt s); exact k
@[simp] theorem advance_reresolve (dt : Nat) (s : State) : (advance dt s).reresolve = s.reresolve := by
  have k := congrArg State.reresolve (advance_eq dt s); exact k
@[simp] theorem advance_lanes (dt : Nat) (s : State) : (advance dt s).lanes = s.lanes := by
  have k := congrArg State.lanes (advance_eq dt s); exact k
@[simp] theorem advance_hports (dt : Nat) (s : State) : (advance dt s).hports = s.hports := by
  have k := congrArg State.hports (advance_eq dt s); exact k
@[simp] theorem advance_synce (dt : Nat) (s : State) : (advance dt s).synce = s.synce := by
  have k := congrArg State.synce (advance_eq dt s); exact k
@[simp] theorem advance_tm (dt : Nat) (s : State) : (advance dt s).tm = s.tm := by
  have k := congrArg State.tm (advance_eq dt s); exact k
@[simp] theorem advance_keys (dt : Nat) (s : State) : (advance dt s).keys = s.keys := by
  have k := congrArg State.keys (advance_eq dt s); exact k
@[simp] theorem advance_prot (dt : Nat) (s : State) : (advance dt s).prot = s.prot := by
  have k := congrArg State.prot (advance_eq dt s); exact k
@[simp] theorem advance_clk (dt : Nat) (s : State) : (advance dt s).clk = s.clk := by
  have k := congrArg State.clk (advance_eq dt s); exact k
@[simp] theorem advance_mon (dt : Nat) (s : State) : (advance dt s).mon = s.mon := by
  have k := congrArg State.mon (advance_eq dt s); exact k
@[simp] theorem advance_fw (dt : Nat) (s : State) : (advance dt s).fw = s.fw := by
  have k := congrArg State.fw (advance_eq dt s); exact k
@[simp] theorem advance_store (dt : Nat) (s : State) : (advance dt s).store = s.store := by
  have k := congrArg State.store (advance_eq dt s); exact k
@[simp] theorem advance_sealSt (dt : Nat) (s : State) : (advance dt s).sealSt = s.sealSt := by
  have k := congrArg State.sealSt (advance_eq dt s); exact k
@[simp] theorem advance_alarms (dt : Nat) (s : State) : (advance dt s).alarms = s.alarms := by
  have k := congrArg State.alarms (advance_eq dt s); exact k
@[simp] theorem advance_freeCtr (dt : Nat) (s : State) : (advance dt s).freeCtr = s.freeCtr := by
  have k := congrArg State.freeCtr (advance_eq dt s); exact k
@[simp] theorem advance_pending (dt : Nat) (s : State) : (advance dt s).pending = s.pending := by
  have k := congrArg State.pending (advance_eq dt s); exact k
@[simp] theorem advance_host (dt : Nat) (s : State) : (advance dt s).host = s.host := by
  have k := congrArg State.host (advance_eq dt s); exact k
@[simp] theorem advance_mate (dt : Nat) (s : State) : (advance dt s).mate = s.mate := by
  have k := congrArg State.mate (advance_eq dt s); exact k
@[simp] theorem advance_counters (dt : Nat) (s : State) : (advance dt s).counters = s.counters := by
  have k := congrArg State.counters (advance_eq dt s); exact k
@[simp] theorem lockActivity_now (p : Port) (s : State) : (lockActivity p s).now = s.now := by
  have k := congrArg (fun s : State => s.now) (lockActivity_eq p s); exact k
@[simp] theorem lockActivity_hk (p : Port) (s : State) : (lockActivity p s).hk = s.hk := by
  have k := congrArg (fun s : State => s.hk) (lockActivity_eq p s); exact k
@[simp] theorem lockActivity_pr (p : Port) (s : State) : (lockActivity p s).pr = s.pr := by
  have k := congrArg (fun s : State => s.pr) (lockActivity_eq p s); exact k
@[simp] theorem lockActivity_lp (p : Port) (s : State) : (lockActivity p s).lp = s.lp := by
  have k := congrArg (fun s : State => s.lp) (lockActivity_eq p s); exact k
@[simp] theorem lockActivity_eng (p : Port) (s : State) : (lockActivity p s).eng = s.eng := by
  have k := congrArg (fun s : State => s.eng) (lockActivity_eq p s); exact k
@[simp] theorem lockActivity_warmPort (p : Port) (s : State) : (lockActivity p s).warmPort = s.warmPort := by
  have k := congrArg (fun s : State => s.warmPort) (lockActivity_eq p s); exact k
@[simp] theorem lockActivity_reresolve (p : Port) (s : State) : (lockActivity p s).reresolve = s.reresolve := by
  have k := congrArg (fun s : State => s.reresolve) (lockActivity_eq p s); exact k
@[simp] theorem lockActivity_lanes (p : Port) (s : State) : (lockActivity p s).lanes = s.lanes := by
  have k := congrArg (fun s : State => s.lanes) (lockActivity_eq p s); exact k
@[simp] theorem lockActivity_hports (p : Port) (s : State) : (lockActivity p s).hports = s.hports := by
  have k := congrArg (fun s : State => s.hports) (lockActivity_eq p s); exact k
@[simp] theorem lockActivity_synce (p : Port) (s : State) : (lockActivity p s).synce = s.synce := by
  have k := congrArg (fun s : State => s.synce) (lockActivity_eq p s); exact k
@[simp] theorem lockActivity_tm (p : Port) (s : State) : (lockActivity p s).tm = s.tm := by
  have k := congrArg (fun s : State => s.tm) (lockActivity_eq p s); exact k
@[simp] theorem lockActivity_keys (p : Port) (s : State) : (lockActivity p s).keys = s.keys := by
  have k := congrArg (fun s : State => s.keys) (lockActivity_eq p s); exact k
@[simp] theorem lockActivity_prot (p : Port) (s : State) : (lockActivity p s).prot = s.prot := by
  have k := congrArg (fun s : State => s.prot) (lockActivity_eq p s); exact k
@[simp] theorem lockActivity_clk (p : Port) (s : State) : (lockActivity p s).clk = s.clk := by
  have k := congrArg (fun s : State => s.clk) (lockActivity_eq p s); exact k
@[simp] theorem lockActivity_mon (p : Port) (s : State) : (lockActivity p s).mon = s.mon := by
  have k := congrArg (fun s : State => s.mon) (lockActivity_eq p s); exact k
@[simp] theorem lockActivity_fw (p : Port) (s : State) : (lockActivity p s).fw = s.fw := by
  have k := congrArg (fun s : State => s.fw) (lockActivity_eq p s); exact k
@[simp] theorem lockActivity_store (p : Port) (s : State) : (lockActivity p s).store = s.store := by
  have k := congrArg (fun s : State => s.store) (lockActivity_eq p s); exact k
@[simp] theorem lockActivity_sealSt (p : Port) (s : State) : (lockActivity p s).sealSt = s.sealSt := by
  have k := congrArg (fun s : State => s.sealSt) (lockActivity_eq p s); exact k
@[simp] theorem lockActivity_alarms (p : Port) (s : State) : (lockActivity p s).alarms = s.alarms := by
  have k := congrArg (fun s : State => s.alarms) (lockActivity_eq p s); exact k
@[simp] theorem lockActivity_freeCtr (p : Port) (s : State) : (lockActivity p s).freeCtr = s.freeCtr := by
  have k := congrArg (fun s : State => s.freeCtr) (lockActivity_eq p s); exact k
@[simp] theorem lockActivity_pending (p : Port) (s : State) : (lockActivity p s).pending = s.pending := by
  have k := congrArg (fun s : State => s.pending) (lockActivity_eq p s); exact k
@[simp] theorem lockActivity_mate (p : Port) (s : State) : (lockActivity p s).mate = s.mate := by
  have k := congrArg (fun s : State => s.mate) (lockActivity_eq p s); exact k
@[simp] theorem lockActivity_counters (p : Port) (s : State) : (lockActivity p s).counters = s.counters := by
  have k := congrArg (fun s : State => s.counters) (lockActivity_eq p s); exact k
@[simp] theorem lockActivity_host_rxq (p : Port) (s : State) : (lockActivity p s).host.rxq = s.host.rxq := by
  have k := congrArg (fun s : State => s.host.rxq) (lockActivity_eq p s); exact k
@[simp] theorem lockActivity_host_deferred (p : Port) (s : State) : (lockActivity p s).host.deferred = s.host.deferred := by
  have k := congrArg (fun s : State => s.host.deferred) (lockActivity_eq p s); exact k
@[simp] theorem lockActivity_host_spiAbort (p : Port) (s : State) : (lockActivity p s).host.spiAbort = s.host.spiAbort := by
  have k := congrArg (fun s : State => s.host.spiAbort) (lockActivity_eq p s); exact k
@[simp] theorem lockActivity_host_inbandDiscard (p : Port) (s : State) : (lockActivity p s).host.inbandDiscard = s.host.inbandDiscard := by
  have k := congrArg (fun s : State => s.host.inbandDiscard) (lockActivity_eq p s); exact k
@[simp] theorem lockActivity_host_syncReject (p : Port) (s : State) : (lockActivity p s).host.syncReject = s.host.syncReject := by
  have k := congrArg (fun s : State => s.host.syncReject) (lockActivity_eq p s); exact k
@[simp] theorem lockActivity_host_rxqDrop (p : Port) (s : State) : (lockActivity p s).host.rxqDrop = s.host.rxqDrop := by
  have k := congrArg (fun s : State => s.host.rxqDrop) (lockActivity_eq p s); exact k
@[simp] theorem lockActivity_host_mateEnable (p : Port) (s : State) : (lockActivity p s).host.mateEnable = s.host.mateEnable := by
  have k := congrArg (fun s : State => s.host.mateEnable) (lockActivity_eq p s); exact k
@[simp] theorem lockActivity_host_alarmMask (p : Port) (s : State) : (lockActivity p s).host.alarmMask = s.host.alarmMask := by
  have k := congrArg (fun s : State => s.host.alarmMask) (lockActivity_eq p s); exact k
@[simp] theorem lockActivity_host_fswMap (p : Port) (s : State) : (lockActivity p s).host.fswMap = s.host.fswMap := by
  have k := congrArg (fun s : State => s.host.fswMap) (lockActivity_eq p s); exact k
@[simp] theorem lockActivity_host_staged (p : Port) (s : State) : (lockActivity p s).host.staged = s.host.staged := by
  have k := congrArg (fun s : State => s.host.staged) (lockActivity_eq p s); exact k
@[simp] theorem lockActivity_host_syncLatched (p : Port) (s : State) : (lockActivity p s).host.syncLatched = s.host.syncLatched := by
  have k := congrArg (fun s : State => s.host.syncLatched) (lockActivity_eq p s); exact k
@[simp] theorem lockActivity_host_syncTaken (p : Port) (s : State) : (lockActivity p s).host.syncTaken = s.host.syncTaken := by
  have k := congrArg (fun s : State => s.host.syncTaken) (lockActivity_eq p s); exact k
@[simp] theorem lockActivity_host_holds (p : Port) (s : State) : (lockActivity p s).host.holds = s.host.holds := by
  have k := congrArg (fun s : State => s.host.holds) (lockActivity_eq p s); exact k
@[simp] theorem lockActivity_host_wakes (p : Port) (s : State) : (lockActivity p s).host.wakes = s.host.wakes := by
  have k := congrArg (fun s : State => s.host.wakes) (lockActivity_eq p s); exact k
@[simp] theorem lockActivity_host_pcie (p : Port) (s : State) : (lockActivity p s).host.pcie = s.host.pcie := by
  have k := congrArg (fun s : State => s.host.pcie) (lockActivity_eq p s); exact k
@[simp] theorem lockActivity_host_spi (p : Port) (s : State) : (lockActivity p s).host.spi = s.host.spi := by
  have k := congrArg (fun s : State => s.host.spi) (lockActivity_eq p s); exact k
@[simp] theorem lockActivity_host_ib (p : Port) (s : State) : (lockActivity p s).host.ib = s.host.ib := by
  have k := congrArg (fun s : State => s.host.ib) (lockActivity_eq p s); exact k
@[simp] theorem lockActivity_host_evt (p : Port) (s : State) : (lockActivity p s).host.evt = s.host.evt := by
  have k := congrArg (fun s : State => s.host.evt) (lockActivity_eq p s); exact k
@[simp] theorem lockActivity_host_replyDrop (p : Port) (s : State) : (lockActivity p s).host.replyDrop = s.host.replyDrop := by
  have k := congrArg (fun s : State => s.host.replyDrop) (lockActivity_eq p s); exact k
@[simp] theorem lockActivity_host_heldEvents (p : Port) (s : State) : (lockActivity p s).host.heldEvents = s.host.heldEvents := by
  have k := congrArg (fun s : State => s.host.heldEvents) (lockActivity_eq p s); exact k
@[simp] theorem lockActivity_host_alarmSeen (p : Port) (s : State) : (lockActivity p s).host.alarmSeen = s.host.alarmSeen := by
  have k := congrArg (fun s : State => s.host.alarmSeen) (lockActivity_eq p s); exact k

/-! ### noteRead -/

@[simp] theorem noteRead_pr (p : Port) (s : State) : (noteRead p s).pr = s.pr := rfl
@[simp] theorem noteRead_lp (p : Port) (s : State) : (noteRead p s).lp = s.lp := rfl
@[simp] theorem noteRead_eng (p : Port) (s : State) : (noteRead p s).eng = s.eng := rfl
@[simp] theorem noteRead_warmPort (p : Port) (s : State) : (noteRead p s).warmPort = s.warmPort := rfl
@[simp] theorem noteRead_reresolve (p : Port) (s : State) : (noteRead p s).reresolve = s.reresolve := rfl
@[simp] theorem noteRead_lanes (p : Port) (s : State) : (noteRead p s).lanes = s.lanes := rfl
@[simp] theorem noteRead_hports (p : Port) (s : State) : (noteRead p s).hports = s.hports := rfl
@[simp] theorem noteRead_synce (p : Port) (s : State) : (noteRead p s).synce = s.synce := rfl
@[simp] theorem noteRead_tm (p : Port) (s : State) : (noteRead p s).tm = s.tm := rfl
@[simp] theorem noteRead_keys (p : Port) (s : State) : (noteRead p s).keys = s.keys := rfl
@[simp] theorem noteRead_prot (p : Port) (s : State) : (noteRead p s).prot = s.prot := rfl
@[simp] theorem noteRead_clk (p : Port) (s : State) : (noteRead p s).clk = s.clk := rfl
@[simp] theorem noteRead_mon (p : Port) (s : State) : (noteRead p s).mon = s.mon := rfl
@[simp] theorem noteRead_fw (p : Port) (s : State) : (noteRead p s).fw = s.fw := rfl
@[simp] theorem noteRead_store (p : Port) (s : State) : (noteRead p s).store = s.store := rfl
@[simp] theorem noteRead_sealSt (p : Port) (s : State) : (noteRead p s).sealSt = s.sealSt := rfl
@[simp] theorem noteRead_alarms (p : Port) (s : State) : (noteRead p s).alarms = s.alarms := rfl
@[simp] theorem noteRead_freeCtr (p : Port) (s : State) : (noteRead p s).freeCtr = s.freeCtr := rfl
@[simp] theorem noteRead_pending (p : Port) (s : State) : (noteRead p s).pending = s.pending := rfl
@[simp] theorem noteRead_mate (p : Port) (s : State) : (noteRead p s).mate = s.mate := rfl
@[simp] theorem noteRead_counters (p : Port) (s : State) : (noteRead p s).counters = s.counters := rfl
@[simp] theorem noteRead_host_rxq (p : Port) (s : State) : (noteRead p s).host.rxq = s.host.rxq := rfl
@[simp] theorem noteRead_host_deferred (p : Port) (s : State) : (noteRead p s).host.deferred = s.host.deferred := rfl
@[simp] theorem noteRead_host_spiAbort (p : Port) (s : State) : (noteRead p s).host.spiAbort = s.host.spiAbort := rfl
@[simp] theorem noteRead_host_inbandDiscard (p : Port) (s : State) : (noteRead p s).host.inbandDiscard = s.host.inbandDiscard := rfl
@[simp] theorem noteRead_host_syncReject (p : Port) (s : State) : (noteRead p s).host.syncReject = s.host.syncReject := rfl
@[simp] theorem noteRead_host_rxqDrop (p : Port) (s : State) : (noteRead p s).host.rxqDrop = s.host.rxqDrop := rfl
@[simp] theorem noteRead_host_mateEnable (p : Port) (s : State) : (noteRead p s).host.mateEnable = s.host.mateEnable := rfl
@[simp] theorem noteRead_host_alarmMask (p : Port) (s : State) : (noteRead p s).host.alarmMask = s.host.alarmMask := rfl
@[simp] theorem noteRead_host_fswMap (p : Port) (s : State) : (noteRead p s).host.fswMap = s.host.fswMap := rfl
@[simp] theorem noteRead_host_staged (p : Port) (s : State) : (noteRead p s).host.staged = s.host.staged := rfl
@[simp] theorem noteRead_host_syncLatched (p : Port) (s : State) : (noteRead p s).host.syncLatched = s.host.syncLatched := rfl
@[simp] theorem noteRead_host_syncTaken (p : Port) (s : State) : (noteRead p s).host.syncTaken = s.host.syncTaken := rfl
@[simp] theorem noteRead_host_holds (p : Port) (s : State) : (noteRead p s).host.holds = s.host.holds := rfl
@[simp] theorem noteRead_host_wakes (p : Port) (s : State) : (noteRead p s).host.wakes = s.host.wakes := rfl
@[simp] theorem noteRead_host_pcie (p : Port) (s : State) : (noteRead p s).host.pcie = s.host.pcie := rfl
@[simp] theorem noteRead_host_spi (p : Port) (s : State) : (noteRead p s).host.spi = s.host.spi := rfl
@[simp] theorem noteRead_host_ib (p : Port) (s : State) : (noteRead p s).host.ib = s.host.ib := rfl
@[simp] theorem noteRead_host_evt (p : Port) (s : State) : (noteRead p s).host.evt = s.host.evt := rfl
@[simp] theorem noteRead_host_replyDrop (p : Port) (s : State) : (noteRead p s).host.replyDrop = s.host.replyDrop := rfl
@[simp] theorem noteRead_host_heldEvents (p : Port) (s : State) : (noteRead p s).host.heldEvents = s.host.heldEvents := rfl
@[simp] theorem noteRead_host_alarmSeen (p : Port) (s : State) : (noteRead p s).host.alarmSeen = s.host.alarmSeen := rfl
@[simp] theorem noteRead_now (p : Port) (s : State) : (noteRead p s).now = s.now := rfl
@[simp] theorem noteRead_hk (p : Port) (s : State) : (noteRead p s).hk = s.hk := rfl

/-! ### ready -/

@[simp] theorem ready_pr (c : Cmd) (s : State) : (ready c s).pr = s.pr := by simp [ready]
@[simp] theorem ready_lp (c : Cmd) (s : State) : (ready c s).lp = s.lp := by simp [ready]
@[simp] theorem ready_eng (c : Cmd) (s : State) : (ready c s).eng = s.eng := by simp [ready]
@[simp] theorem ready_warmPort (c : Cmd) (s : State) : (ready c s).warmPort = s.warmPort := by simp [ready]
@[simp] theorem ready_reresolve (c : Cmd) (s : State) : (ready c s).reresolve = s.reresolve := by simp [ready]
@[simp] theorem ready_lanes (c : Cmd) (s : State) : (ready c s).lanes = s.lanes := by simp [ready]
@[simp] theorem ready_hports (c : Cmd) (s : State) : (ready c s).hports = s.hports := by simp [ready]
@[simp] theorem ready_synce (c : Cmd) (s : State) : (ready c s).synce = s.synce := by simp [ready]
@[simp] theorem ready_tm (c : Cmd) (s : State) : (ready c s).tm = s.tm := by simp [ready]
@[simp] theorem ready_keys (c : Cmd) (s : State) : (ready c s).keys = s.keys := by simp [ready]
@[simp] theorem ready_prot (c : Cmd) (s : State) : (ready c s).prot = s.prot := by simp [ready]
@[simp] theorem ready_clk (c : Cmd) (s : State) : (ready c s).clk = s.clk := by simp [ready]
@[simp] theorem ready_mon (c : Cmd) (s : State) : (ready c s).mon = s.mon := by simp [ready]
@[simp] theorem ready_fw (c : Cmd) (s : State) : (ready c s).fw = s.fw := by simp [ready]
@[simp] theorem ready_store (c : Cmd) (s : State) : (ready c s).store = s.store := by simp [ready]
@[simp] theorem ready_sealSt (c : Cmd) (s : State) : (ready c s).sealSt = s.sealSt := by simp [ready]
@[simp] theorem ready_alarms (c : Cmd) (s : State) : (ready c s).alarms = s.alarms := by simp [ready]
@[simp] theorem ready_freeCtr (c : Cmd) (s : State) : (ready c s).freeCtr = s.freeCtr := by simp [ready]
@[simp] theorem ready_pending (c : Cmd) (s : State) : (ready c s).pending = s.pending := by simp [ready]
@[simp] theorem ready_mate (c : Cmd) (s : State) : (ready c s).mate = s.mate := by simp [ready]
@[simp] theorem ready_counters (c : Cmd) (s : State) : (ready c s).counters = s.counters := by simp [ready]
@[simp] theorem ready_host_rxq (c : Cmd) (s : State) : (ready c s).host.rxq = s.host.rxq := by simp [ready]
@[simp] theorem ready_host_deferred (c : Cmd) (s : State) : (ready c s).host.deferred = s.host.deferred := by simp [ready]
@[simp] theorem ready_host_spiAbort (c : Cmd) (s : State) : (ready c s).host.spiAbort = s.host.spiAbort := by simp [ready]
@[simp] theorem ready_host_inbandDiscard (c : Cmd) (s : State) : (ready c s).host.inbandDiscard = s.host.inbandDiscard := by simp [ready]
@[simp] theorem ready_host_syncReject (c : Cmd) (s : State) : (ready c s).host.syncReject = s.host.syncReject := by simp [ready]
@[simp] theorem ready_host_rxqDrop (c : Cmd) (s : State) : (ready c s).host.rxqDrop = s.host.rxqDrop := by simp [ready]
@[simp] theorem ready_host_mateEnable (c : Cmd) (s : State) : (ready c s).host.mateEnable = s.host.mateEnable := by simp [ready]
@[simp] theorem ready_host_alarmMask (c : Cmd) (s : State) : (ready c s).host.alarmMask = s.host.alarmMask := by simp [ready]
@[simp] theorem ready_host_fswMap (c : Cmd) (s : State) : (ready c s).host.fswMap = s.host.fswMap := by simp [ready]
@[simp] theorem ready_host_staged (c : Cmd) (s : State) : (ready c s).host.staged = s.host.staged := by simp [ready]
@[simp] theorem ready_host_syncLatched (c : Cmd) (s : State) : (ready c s).host.syncLatched = s.host.syncLatched := by simp [ready]
@[simp] theorem ready_host_syncTaken (c : Cmd) (s : State) : (ready c s).host.syncTaken = s.host.syncTaken := by simp [ready]
@[simp] theorem ready_host_holds (c : Cmd) (s : State) : (ready c s).host.holds = s.host.holds := by simp [ready]
@[simp] theorem ready_host_wakes (c : Cmd) (s : State) : (ready c s).host.wakes = s.host.wakes := by simp [ready]
@[simp] theorem ready_host_pcie (c : Cmd) (s : State) : (ready c s).host.pcie = s.host.pcie := by simp [ready]
@[simp] theorem ready_host_spi (c : Cmd) (s : State) : (ready c s).host.spi = s.host.spi := by simp [ready]
@[simp] theorem ready_host_ib (c : Cmd) (s : State) : (ready c s).host.ib = s.host.ib := by simp [ready]
@[simp] theorem ready_host_evt (c : Cmd) (s : State) : (ready c s).host.evt = s.host.evt := by simp [ready]
@[simp] theorem ready_host_replyDrop (c : Cmd) (s : State) : (ready c s).host.replyDrop = s.host.replyDrop := by simp [ready]
@[simp] theorem ready_host_heldEvents (c : Cmd) (s : State) : (ready c s).host.heldEvents = s.host.heldEvents := by simp [ready]
@[simp] theorem ready_host_alarmSeen (c : Cmd) (s : State) : (ready c s).host.alarmSeen = s.host.alarmSeen := by simp [ready]
@[simp] theorem ready_now (c : Cmd) (s : State) : (ready c s).now = (advance c.dt s).now := by simp [ready]
@[simp] theorem ready_hk (c : Cmd) (s : State) : (ready c s).hk = (advance c.dt s).hk := by simp [ready]

/-! ### Line ports and engines through the sending of packets -/

@[simp] theorem pump_port (s : State) (q : Lp) :
    (pump s).port q = s.port q := State.port_congr (by simp) q
@[simp] theorem pump_engine (s : State) (d : Eng) :
    (pump s).engine d = s.engine d := State.engine_congr (by simp) d
@[simp] theorem emit_port (code target : Nat) (data : List Word) (s : State) (q : Lp) :
    (emit code target data s).port q = s.port q := State.port_congr (by simp) q
@[simp] theorem emit_engine (code target : Nat) (data : List Word) (s : State) (d : Eng) :
    (emit code target data s).engine d = s.engine d := State.engine_congr (by simp) d
@[simp] theorem reply_port (code : Nat) (c : Cmd) (status detail : Nat) (data : List Word) (s : State) (q : Lp) :
    (reply code c status detail data s).port q = s.port q := State.port_congr (by simp) q
@[simp] theorem reply_engine (code : Nat) (c : Cmd) (status detail : Nat) (data : List Word) (s : State) (d : Eng) :
    (reply code c status detail data s).engine d = s.engine d := State.engine_congr (by simp) d
@[simp] theorem raiseAlarm_port (code target sub : Nat) (data : List Word) (s : State) (q : Lp) :
    (raiseAlarm code target sub data s).port q = s.port q := State.port_congr (by simp) q
@[simp] theorem raiseAlarm_engine (code target sub : Nat) (data : List Word) (s : State) (d : Eng) :
    (raiseAlarm code target sub data s).engine d = s.engine d := State.engine_congr (by simp) d
@[simp] theorem clearAlarm_port (code target sub : Nat) (data : List Word) (s : State) (q : Lp) :
    (clearAlarm code target sub data s).port q = s.port q := State.port_congr (by simp) q
@[simp] theorem clearAlarm_engine (code target sub : Nat) (data : List Word) (s : State) (d : Eng) :
    (clearAlarm code target sub data s).engine d = s.engine d := State.engine_congr (by simp) d
@[simp] theorem completeUnit_port (code t status detail : Nat) (ws : List Word) (s : State) (q : Lp) :
    (completeUnit code t status detail ws s).port q = s.port q := State.port_congr (by simp) q
@[simp] theorem completeUnit_engine (code t status detail : Nat) (ws : List Word) (s : State) (d : Eng) :
    (completeUnit code t status detail ws s).engine d = s.engine d := State.engine_congr (by simp) d
@[simp] theorem advance_port (dt : Nat) (s : State) (q : Lp) :
    (advance dt s).port q = s.port q := State.port_congr (by simp) q
@[simp] theorem advance_engine (dt : Nat) (s : State) (d : Eng) :
    (advance dt s).engine d = s.engine d := State.engine_congr (by simp) d
@[simp] theorem lockActivity_port (p : Port) (s : State) (q : Lp) :
    (lockActivity p s).port q = s.port q := State.port_congr (by simp) q
@[simp] theorem lockActivity_engine (p : Port) (s : State) (d : Eng) :
    (lockActivity p s).engine d = s.engine d := State.engine_congr (by simp) d
@[simp] theorem ready_port (c : Cmd) (s : State) (q : Lp) :
    (ready c s).port q = s.port q := State.port_congr (by simp) q
@[simp] theorem ready_engine (c : Cmd) (s : State) (d : Eng) :
    (ready c s).engine d = s.engine d := State.engine_congr (by simp) d

end Sys2Proof.Machine
end

