-- ==== Sys2Proof/Laws/Serve.lean ====
section
/-!
SUPPORT. Sys2Proof/Laws/Serve.lean: what the command service does with a command that Umcia takes at once.
-/
namespace Sys2Proof.Machine
open Sys2Proof

theorem serve_answer {op : OpSpec} {c : Cmd} {s : State} (h : Served c s) :
    serve op c s = pump (answer op c false (noteRead c.port (advance c.dt s))) := by
  obtain ⟨h1, h2, h3, h4, h5, h6⟩ := h
  have e : decide (32 ≤ outstanding (advance c.dt s) c.port) = false := by simp; omega
  have e' : (c.port == .pcie && decide (32 ≤ outstanding (advance c.dt s) .pcie)) = false := by
    cases hp : c.port <;> simp [hp] at e ⊢ <;> assumption
  simp [serve, umciaAnswers, heldBack, h1, h2, h3, h4, h6, e, e', rxFind]

/-- A served command that passes its checks is performed. -/
theorem serve_perform {op : OpSpec} {c : Cmd} {s : State} (h : Served c s) (p : Passes op c s) :
    serve op c s = pump (perform op c (ready c s)) := by
  rw [serve_answer h]
  simp only [answer]
  have p' : checks op c false (lockActivity c.port (noteRead c.port (advance c.dt s))) = none := p
  rw [p', ready]

/-- A served command that fails a check is refused and changes nothing but its reply. -/
theorem serve_refused {op : OpSpec} {c : Cmd} {s : State} {st det : Nat} (h : Served c s)
    (p : checks op c false (ready c s) = some (st, det)) :
    serve op c s = pump (reply op.code c st det [] (ready c s)) := by
  rw [serve_answer h]
  simp only [answer]
  have p' : checks op c false (lockActivity c.port (noteRead c.port (advance c.dt s))) = some (st, det) := p
  rw [p', ready]

theorem perform_one {op : OpSpec} {c : Cmd} {s : State} (d : Direct c) :
    perform op c s =
      (let u := op.run s c.target c
       if 0x100 ≤ u.status then reply op.code c u.status u.detail u.words (if u.keep then u.st else s)
       else if u.settled then op.after (reply op.code c u.status u.detail u.words u.st) c
       else op.after (reply op.code c stAccepted 0 [] (u.st.modHost fun h => { h with deferred := h.deferred ++
         [{ port := c.port, code := op.code, tag := c.tag, multi := false,
            entries := [{ target := c.target, settled := false, status := u.status, detail := u.detail,
                          words := u.words }] }] })) c) := by
  obtain ⟨h1, h2, h3, h4, h5⟩ := d
  generalize hu : op.run s c.target c = u
  obtain ⟨ust, status, detail, words, settled, keep⟩ := u
  have hm : (c.target == 254 || c.target == 255) = false := by simp [h1, h2]
  have hx : ∀ n, ¬ 256 ≤ n → n < 256 := fun n => by omega
  by_cases hst : 256 ≤ status
  · have : ¬ status < 256 := by omega
    cases keep <;> simp [perform, runAll, runUnits, runUnit, h5, expand, overall, h1, h2, h3, h4, hu, hst, this, hm]
  · have := hx _ hst
    cases settled <;> simp [perform, runAll, runUnits, runUnit, h5, expand, overall, h1, h2, h3, h4, hu, hst, this, hm]

/-- A command that runs on one unit and succeeds at once: the reply OK with its result words, then what follows it. -/
theorem serve_ok {op : OpSpec} {c : Cmd} {s t : State} {ws : List Word} (h : Runs op c s)
    (r : op.run (ready c s) c.target c = okRes t ws) :
    serve op c s = pump (op.after (reply op.code c stOk 0 ws t) c) := by
  rw [serve_perform h.1 h.2.2, perform_one h.2.1, r]
  simp [okRes, stOk]

/-- A command that runs on one unit and settles later: the reply ACCEPTED, then what follows it. -/
theorem serve_accepted {op : OpSpec} {c : Cmd} {s t : State} {ws : List Word} (h : Runs op c s)
    (r : op.run (ready c s) c.target c = { st := t, words := ws, settled := false }) :
    serve op c s = pump (op.after (reply op.code c stAccepted 0 [] (t.modHost fun h => { h with deferred := h.deferred ++
      [{ port := c.port, code := op.code, tag := c.tag, multi := false,
         entries := [{ target := c.target, settled := false, status := stOk, detail := 0, words := ws }] }] })) c) := by
  rw [serve_perform h.1 h.2.2, perform_one h.2.1, r]
  simp [stOk]

/-- A command that a unit refuses: the reply, and nothing else. -/
theorem serve_unit_refused {op : OpSpec} {c : Cmd} {s : State} {st det : Nat} (h : Runs op c s)
    (r : op.run (ready c s) c.target c = refuse (ready c s) st det) (k : 0x100 ≤ st) :
    serve op c s = pump (reply op.code c st det [] (ready c s)) := by
  rw [serve_perform h.1 h.2.2, perform_one h.2.1, r]
  simp [refuse, k]

end Sys2Proof.Machine
end

