-- ==== Sys2Proof/WellFormed.lean ====
section
/-!
DEFINITION. Sys2Proof/WellFormed.lean: the operands a command of the table can carry: field widths of a packet (Table 2.4), unit
numbers and the ranges the manual gives what the outside world brings. The meanings are total: they do not assume it.
-/
namespace Sys2Proof

/-- The fields of a command packet fit their widths, and the packet holds at most 1,020 parameter words (R51). -/
def Cmd.wf (c : Cmd) : Bool := decide (c.target < 256) && decide (c.flags < 256) && decide (c.params.length ≤ 1020)

/-- A received VLF frame: header copy of 32 bytes, area of 65,504 bytes (R213, R215). -/
def wfRxFrame (f : RxFrame) : Bool := decide (f.header.length = 32) && decide (f.area.length = 65504)

/-- A client frame of at least 64 bytes. -/
def wfFrame (f : TmFrame) : Bool := decide (64 ≤ f.bytes.length)

/-- A memory of Table 12.6 in a unit with a TARGET. -/
def wfMem (m : MemErr) : Bool := decide (1 ≤ m.id) && decide (m.id ≤ 13) && decide (m.target < 256)

/-- The operands of a command are in range. -/
def Instr.wf : Instr → Bool
  | .devIdentify c | .devEcho c | .devReset c | .devStatus c | .devSleep c | .devWake c | .devPortConfig c
  | .devEventConfig c | .devFswMap c | .devStageClear c | .devStageList c | .modeSet c | .modeGet c
  | .modeCommit c | .convConfig c | .convStatus c | .convSliceGet c | .convSliceRestore c | .convSliceRetire c
  | .chuckGet c | .convLoop c | .tapConfig c | .tapArm c | .tapStop c | .tapStatus c | .tapRead c | .tapDma c
  | .convCounters c | .dspTxConfig c | .dspTxPreemph c | .dspRxConfig c | .dspStatus c | .dspEstimates c
  | .dspSnrSpectrum c | .dspAcquire c | .dspProfileStore c | .dspProfileWrite c | .dspProfileRead c
  | .dspProfileSelect c | .dspProfileClear c | .dspEqRead c | .dspCounters c | .spnMap c | .spnPerfConfig c
  | .spnPerfRead c | .spnPerfFreeze c | .spnReader c | .spnKernelReserve c | .spnKernelLoad c
  | .spnKernelStart c | .spnKernelStop c | .spnKernelRead c | .spnKernelStatus c | .spnCustKeyFuse c
  | .spnCounters c | .fecConfig c | .fecStatus c | .fecHistogram c | .fecHdrRead c | .fecCounters c
  | .lfConfig c | .lfTraceSet c | .lfTraceGet c | .lfStatus c | .pmHistoryRead c | .pmBinRead c | .pmConfig c
  | .pmClear c | .lfCounters c | .keyLock c | .keyUnlock c | .keyLoad c | .keyActivate c | .keyZeroise c
  | .keyErase c | .keyStatus c | .cipherConfig c | .cipherCounters c | .hlConfig c | .hlStatus c | .hpConfig c
  | .hpStatus c | .hpRetrain c | .hpLoopback c | .hlSynceSelect c | .hpCounters c | .tmConfig c
  | .tmSourceConfig c | .tmPolicerProfile c | .flowWrite c | .flowRead c | .flowDelete c | .tmQueueConfig c
  | .tmQueueStatus c | .tmGateConfig c | .tmStatus c | .tmCounters c | .protConfig c | .protStatus c
  | .protEngineSwitch c | .protEngineRestore c | .protSpindleRestore c | .apsConfig c | .apsCommand c
  | .protInject c | .protChecker c | .protCounters c | .mateConfig c | .mateStatus c | .mateRetrain c
  | .mateWakePeer c | .mateMirrorRead c | .mateCounters c | .clkConfig c | .clkCandConfig c | .clkStatus c
  | .clkSelect c | .clkOutConfig c | .ppsConfig c | .clkCounters c | .monChanConfig c | .monSeqConfig c
  | .monInjConfig c | .monDecimConfig c | .monControl c | .monDecimReset c | .monCalibrate c | .monInjRead c
  | .monBufConfig c | .monBufRead c | .monBufDma c | .monStatus c | .biasConfig c | .biasStatus c
  | .monCounters c | .fwUpdateBegin c | .fwUpdateChunk c | .fwUpdateEnd c | .fwActivate c | .fwConfirm c
  | .fwLock c | .fwUnlock c | .fwStatus c | .fwUpdateAbort c | .cfgSave c | .cfgClear c | .cfgPolicy c
  | .cfgStatus c | .sealDevice c | .sealStatus c | .dbgMemRead c | .dbgMemWrite c => c.wf
  | .pcieRingFetch words _ => decide (words.length ≤ 1024)
  | .registerWrite offset _ _ => decide (offset < 65536)
  | .fswLoRead _ offset _ => decide (offset < 4096)
  | .spiFswRead _ offset _ _ => decide (offset < 65536)
  | .avsVoltageUpdate target _ _ => decide (650 ≤ target) && decide (target ≤ 850)
  | .syncDecimReset width _ => decide (200 ≤ width) && decide (width < 1010)
  | .syncTrigger width _ => decide (2000 ≤ width) && decide (width < 5010)
  | .syncCommit width _ => decide (10000 ≤ width) && decide (width < 50010)
  | .unitWakeDone target _ => decide (target < 256)
  | .backgroundCalUpdate _ ch slices strobes _ =>
    decide (ch < 4) && (slices.all fun x => decide (x.slice < 100)) && strobes.all fun x => decide (x.phase < 100)
  | .sliceSelfCheckFault _ ch slice _ => decide (ch < 4) && decide (slice < 100)
  | .dacSelfCheck _ ch _ _ => decide (ch < 4)
  | .convFailClearTimer _ ch _ => decide (ch < 4)
  | .dspSnrSpectrumDone _ bins _ => decide (bins.length = 128) && bins.all fun b => decide (b < 256)
  | .losConditionRaise _ x _ => decide (x.powers.length = 4)
  | .losConditionClear _ x _ => decide (x.powers.length = 4)
  | .rxSkewEstimate _ skew _ => decide (skew.length = 4)
  | .spnKernelStartDone _ slot _ => decide (slot < 8)
  | .spindleFault _ spindle _ _ _ => decide (spindle < 96)
  | .roleWatchdogExpiry _ spindle _ _ => decide (spindle < 96)
  | .kernelWatchdogExpiry _ slot _ => decide (slot < 8)
  | .kernelFault _ slot cause _ => decide (slot < 8) && decide (cause < 8)
  | .kernelNote _ slot _ _ => decide (slot < 8)
  | .robustHeaderDecoded _ header _ _ _ => decide (header.length = 32)
  | .vlfFrameSend _ blocks _ => decide (blocks.length ≤ 2039)
  | .vlfFrameReceived _ f _ => wfRxFrame f
  | .hlCdrLockLoss lane _ => decide (lane < 32)
  | .hlSignalReturn lane _ _ => decide (lane < 32)
  | .laneHoldExpiry lane _ => decide (lane < 32)
  | .pcsAlignmentLoss port _ => decide (port < 32)
  | .trainAttemptStart port _ => decide (port < 32)
  | .trainAttemptTimeout port _ => decide (port < 32)
  | .aligningTimeout port _ => decide (port < 32)
  | .hpAligningReached port lanes _ => decide (port < 32) && decide (lanes.length ≤ 8)
  | .hpUpReached port _ _ => decide (port < 32)
  | .remoteFaultReceived port _ => decide (port < 32)
  | .remoteFaultClearTimer port _ => decide (port < 32)
  | .tmFrameArrival source f _ _ => decide (source < 66) && wfFrame f
  | .tmFrameSelect output _ => decide (output < 66)
  | .gateChange output _ => decide (output < 66)
  | .tmBankSleep bank _ => decide (bank < 4)
  | .tmBankWakeDone bank _ => decide (bank < 4)
  | .engineFaultDetected _ cause _ => decide (cause < 9)
  | .memoryErrorDetected m _ => wfMem m
  | .scrubPass id target _ _ => decide (1 ≤ id) && decide (id ≤ 13) && decide (target < 256)
  | .mateCandidate rate _ _ => decide (rate < 3)
  | .mateBurstReceived b _ => decide (b.rate < 3) && decide (b.sfd.length = 16)
  | .mirrorMismatchTimer group _ => decide (1 ≤ group) && decide (group ≤ 255)
  | .refCandidateInvalid x _ => decide (x.candidate < 8)
  | .refCandidateValid x _ => decide (x.candidate < 8)
  | .qualificationWindowEnd offsets _ _ _ => decide (offsets.length = 8)
  | .clkWtrExpiry candidate _ => decide (candidate < 8)
  | .monCalibrationDone converter _ _ _ => decide (converter < 4)
  | .monInjTrigger converter _ => decide (converter < 4)
  | .monConversionDone converter code _ => decide (converter < 4) && decide (code < 65536)
  | .biasRampEnd _ out _ => decide (out < 8)
  | .biasAcquireTimeout _ out _ => decide (out < 8)
  | .biasNoLightTimer _ out _ => decide (out < 8)
  | .jtagInstructionLoad code _ => decide (code < 256)
  | .pcieFswRead offset _ => decide (offset < 4096)
  | .devWakeHoldExpiry target _ => decide (target < 256)
  | .spnCounterOverflow _ spindle counter _ => decide (spindle < 96) && decide (counter < 11)
  | .parityPersistClearTimer target _ => decide (target < 256)
  | .pcieCmdProdWrite _ _ | .ringEnable _ _ | .ringReset _ | .rplConsWrite _ _ | .evtConsWrite _ _
  | .spiCmdWrite _ _ _ | .spiOutRead _ _ _ | .inbandPacketReceived _ _ | .perstNAssert _ | .pcieLinkDown _
  | .lockInactivityTimeout _ _ | .modeApplication _ _ | .reResolution _ | .darkReached _ | .syncEdgeWake _
  | .spiCsWake _ | .pcieWake _ | .mateWakeSequenceDetected _ | .aonWakeTimerExpiry _ | .commandReady _
  | .poresetAssert _ | .poresetRelease _ _ _ | .sysresetAssert _ | .sysresetRelease _ _
  | .devResetInternalRelease _ _ | .thermalTrip _ | .externalTrip _ | .railFault _ | .aonClockLoss _ | .xoLost _
  | .supervisorWatchdogExpiry _ | .syncPulseRejected _ _ | .syncHighTimeout _ | .statusFrame _ _
  | .engineColdToCoolDone _ _ _ _ | .engineWakeDone _ _ | .engineShadowLock _ _ | .enginePowerGated _ _
  | .engineRetentionReached _ _ | .convSliceRestoreDone _ _ _ | .tapDmaDone _ _ _ | .tapTrigger _ _ _
  | .tapCaptureDone _ _ | .synthLock _ _ | .synthLockLoss _ _ | .synthLockTimeout _ _ | .synthLockHoldExpiry _ _
  | .txCdRampEnd _ _ | .cdTrackUpdate _ _ _
  | .bulkPmdUpdate _ _ _ _ | .nlcAdaptUpdate _ _ _ | .acqStateComplete _ _ _ _ | .acqProfileBoundExpiry _ _ _
  | .acqColdSumExpiry _ _ _ | .pilotLockLost _ _ _ | .pilotLockRegained _ _ _ | .lockHoldExpiry _ _ _
  | .lastProfileUpdate _ _ | .estimateUpdate _ _ _ _ | .dspAlarmTimerExpiry _ _ _ | .roleMoveDone _ _
  | .spindleSelfTestRotation _ _ _ _ | .roleCheckpoint _ _ _ _ _ | .microcodeRefresh _ _ _ | .centralSweep _ _
  | .readerRecoveryExpiry _ _ | .codewordRelease _ _ _ _ _ _ | .fecExcessClearTimer _ _ | .lofTimerExpiry _ _
  | .inhibitTimeExpiry _ _ | .oneSecondTick _ _ | .pmRecordEvaluate _ _ | .sessionDerived _ _ _
  | .cryptoCycleReceived _ _ | .handshakeSwitch _ _ | .handshakeTimeout _ _ | .counterRederive _ _
  | .keyExhaust _ _ | .rngHealthFail _ | .rngFailClearTimer _ | .tamperDetected _ _ | .queueDepthSample _
  | .engineRestoreSelfTestDone _ _ _ | .engineHeartbeatMissing _ _ | .sfDisagreeTimer _ _ | .switchoverCut _ _
  | .warmGapEnd _ _ | .dualActiveWindowEnd _ _ | .coolTakeoverLesReleased _ _ | .coolTakeoverTransmit _ _ _
  | .burnishPeriodTimer _ | .burnishPhaseEnd _ | .parityErrorDetected _ _ _ | .replayReceived _ _ _ _
  | .apsHoldOffExpiry _ _ | .apsWtrExpiry _ _ | .apsMismatchTimer _ _ | .mateWakePeerTimeout _
  | .mateSfdTimeout _ | .mateHeartbeatTimer _ | .mateSilenceTimeout _
  | .mateTrainPhaseEnd _ _ | .mateTrainAttemptTimeout _ | .mateTrainBackoffExpiry _ | .mateResumeTimeout _
  | .mateRetransmitTimer _ | .mateAckOnlyTimer _ | .mateSegmentTimeout _ | .mateMirrorTimer _ _
  | .mateRxWakeTimer _ | .mateWakeLeadDetected _ | .mateRateDown _ | .clkSwitchComplete _ _
  | .clkLockedReached _ | .holdoverTimerExpiry _ | .ppsInEdge _ _ _ | .ppsInAbsentTimeout _ | .ppsOutPulse _
  | .monBufDmaDone _ | .monRegularTrigger _ _ | .biasLoopUpdate _ _ _ | .fwUpdateEndDone _ _
  | .fwActivateImageLoaded _ | .fwPauseEnd _ _ _ | .fwPauseDeadline _ | .trialTimerExpiry _ | .fwConfirmDone _
  | .cfgSaveDone _ | .cfgClearDone _ | .sealDeviceDone _ _ _ _ | .sealGateCheck _ _ | .pcieLinkUp _
  | .spnNoIdleClearTimer _ _ | .tamperDetectorClear _ _ | .tmPoolHighClearTimer _
  | .protSpindleRestoreDone _ _ _ | .injectedApsSfExpiry _ _ | .mateRxListenTimeout _ | .powerApplied _
  | .powerRemoved _ | .trstNAssert _ => true

end Sys2Proof
end

