-- ==== Sys2Proof/Tests/Slice0.lean ====
section
/-!
SUPPORT. Sys2Proof/Tests/Slice0.lean: values the manual states, operands the well-formedness check refuses, and for every
obligation with hypotheses a theorem that shows states and operands meeting them, clause by clause.
-/
set_option maxRecDepth 20000
namespace Sys2Proof.Tests
open Sys2Proof Sys2Proof.Machine

/-! ## Small states -/

/-- A device that runs and takes commands, with the PCIe link up and nothing in service. -/
def live : State := { State.reset with
  pr := { State.reset.pr with
    poreset := false, phase := .run, power := .ready, cmdReady := true, boot := .done, uptimeFrom := some 0 },
  host := { State.reset.host with pcie := { State.reset.host.pcie with linkUp := true, ringSize := 0x888, enable := true } } }

/-- A command on the PCIe port to a unit. -/
def cmd (t : Nat) (ws : List Word) : Cmd := { port := .pcie, tag := 7, target := t, flags := 0, params := ws, dt := 0 }

/-- The same over SPI. -/
def cmdSpi (t : Nat) (ws : List Word) : Cmd := { cmd t ws with port := .spi }

/-- Both line ports in service. -/
def served : State :=
  let on (s : State) (p : Lp) : State := s.modMode p fun m => { m with
    requested := { m.requested with service := true }, granted := { m.granted with service := true },
    running := { m.running with service := true } }
  let s := on (on live .lp0) .lp1
  { s with pr := { s.pr with power := .service } }

/-- A command with flags. -/
def flagged (f : Nat) (c : Cmd) : Cmd := { c with flags := f }

/-- DEV_ECHO without parameters, as a packet. -/
def echoPkt : List Word := let b := [0xC5010000#32, 0x00020007, 0]; b ++ [crc32cWords b]

/-- An in-band channel that has received a packet. -/
def ibState (on : Bool) : State := live.modInband .lp0 fun i => { i with enable := on, rx := wordsToBytes echoPkt }

/-- A firmware pause. -/
def paused : State := live.modFw fun f => { f with pause := some { cause := 2, since := 0 } }

/-- `n` packets in the SPI receive queue during a pause. -/
def spiQueue (n : Nat) : State :=
  paused.modHost fun h => { h with rxq := { h.rxq with spi := List.replicate n ⟨echoPkt, false⟩ } }

/-- `n` replies in the SPI output queue. -/
def spiOut (n : Nat) : State := live.modSpi fun c => { c with out := List.replicate n (replyPkt 2 7 0 0 []) }

/-- A command with `n` parameters that are 0. -/
def z (t n : Nat) : Cmd := cmd t (List.replicate n 0)

/-- A 128-word image and the device it runs on. -/
def img : Image := ⟨List.replicate 128 1, [1, 2]⟩
def imaged : State := live.modFw fun f => { f with running := some img }

/-- LP0 in service with POWER ECONOMY in force, its engine active. -/
def econ : State := (served.modMode .lp0 fun m => { m with running := { m.running with economy := true } }).modEngine .le0
  fun e => { e with st := .active }

/-- A host port of one lane. -/
def hpOne (lane : Nat) : HpCfg :=
  { enable := true, type := 0, laneRate := 0, firstLane := lane, line := .lp0, firstSlot := 0, ilt := false, retries := 3,
    laneHold := 10, lfOnSf := false, relayFrom := .lp0, mtu := 9600 }

/-- Both line ports in service with CLIENT PACKET in force, host port 0 enabled: the traffic manager runs. -/
def packets : State :=
  let pk (s : State) (p : Lp) : State := s.modMode p fun m => { m with
    requested := { m.requested with packet := true }, granted := { m.granted with packet := true },
    running := { m.running with packet := true } }
  { pk (pk served .lp0) .lp1 with hports := [(0, { cfg := some (hpOne 0) })], lanes := [(0, { cfg := some {} })] }

/-- The mate link up. -/
def mated (s : State) : State := s.modMate fun m => { m with st := .up, phase := .confirm, enable := 1 }

/-- The mate receiver sleeps. -/
def mateAsleep : State := (mated live).modMate fun m => { m with asleep := true }

/-- DEV_WAKE wakes a unit; the traffic manager runs and the mate link is up. -/
def waking (t : Nat) : State := (mated packets).modHost fun h => { h with wakes := [(t, some 5)] }

/-- A hold that ends at a time. -/
def holding (e : Nat) : State := live.modHost fun h => { h with holds := [(0x20, e)] }

/-- `n` staged MODE_GETs. -/
def staged (n : Nat) : State := live.modHost fun h => { h with staged := List.replicate n ⟨0x0101, cmd 0x10 [0, 0]⟩ }

/-- A SYNC COMMIT took the staged set in this cycle. -/
def syncJust : State := live.modHost fun h => { h with syncTaken := some 0 }

/-- A mode application waits on LP0. -/
def appTo (g : Guard) : ModeApp := { point := { guard := g }, adjust := 0, source := 0, begun := false }
def applying (g : Guard) : State := live.modMode .lp0 fun m => { m with
  running := { m.running with guard := .none }, apps := [appTo g] }

def begunApp : State := live.modMode .lp0 fun m => { m with apps := [{ appTo Guard.warm with begun := true }] }

/-- In reset, with the grain pins that a release samples. -/
def held_ (sys : Bool) (int : Option Nat) : State := { State.reset with
  pr := { State.reset.pr with poreset := !sys && int.isNone, sysreset := sys, internalReset := int } }

/-- FAULT of a class. -/
def faulted : State := { live with pr := { live.pr with phase := .fault, faultClass := 3, cmdReady := false, power := .none } }

/-- DARK with every wake source enabled; a wake in progress; the entry to DARK. -/
def dark : State := { live with pr := { live.pr with
  power := .dark, cmdReady := false, wakeMask := 31, wakeTimer := some 0, wakeTimerS := 5 } }
def wakingUp : State := { dark with pr := { dark.pr with waking := true, wakeCause := 1 } }
def sleeping : State := { dark with pr := { dark.pr with power := .ready, sleepEntry := true } }

/-- Line port LP0 with its synthesiser in a state, or locked. -/
def synthIn (x : Synth) : State := (live.modConv .lp0 fun c => { c with synth := x }).modConv .lp1 fun c => { c with synth := x }
def locked : State := served.modConv .lp0 fun c => { c with synth := .locked }

/-- `n` slices of channel 0 of LP0 are retired. -/
def retired (n : Nat) : State :=
  live.modConv .lp0 fun c => { c with slices := (List.range n).map fun i => (i, { st := 2 }) }

/-- CONV_FAIL's second without the condition is over. -/
def clearing : State := live.modConv .lp0 fun c => { c with failClear := [none, none, none, some 0] }

/-- The tap of LP0 in a state. -/
def tapIn (x : TapSt) : State := live.modTap .lp0 fun t => { t with st := x, bufLog2 := 24 }

/-- An ARMED tap that events of EVT_MASK[3] trigger. -/
def tapEvt : State := live.modTap .lp0 fun t => { t with st := .armed, trigger := 2, evtMask := 8, bufLog2 := 24 }

/-- INTEROP ZR800 in force on LP0. -/
def zrMode : State := served.modMode .lp0 fun m => { m with running := { m.running with zr800 := true } }

/-- The first word of LP0's tap region has an uncorrectable error. -/
def badTap : State := live.modTap .lp0 fun t => { t with bad := [(0, true)] }

/-- Words of CONV_CONFIG and TAP_CONFIG at the ends of their ranges. -/
def convWs : List Word := [127, 127, 300, 900, 900, 900, BitVec.ofInt 32 (-80), 12, 1, 1000]
def tapWs : List Word := [1, 1, 8, 1, 24, 1, 2, 15, 15]

/-- LP0 with its acquisition, or its spare's, in a state. -/
def acqIn (x : AcqSt) (onProfile : Bool) : State :=
  (locked.modDsp .lp0 fun d => { d with
    acq := { d.acq with st := x, onProfile }, spareAcq := { d.spareAcq with st := x, onProfile } }).modEngine .le0
    fun e => { e with st := .active }

/-- LP0 in TRACK with CONV_LOOP off. -/
def track : State := acqIn .track false

/-- LES shadows LP0 as a WARM spare in TRACK. -/
def warmed : State := track.modEngine .les fun e => { e with st := .warm, shadows := some .lp0 }

/-- A pilot slot received as sent; the values an acquisition state found. -/
def goodPilot : PilotSlot := { z := [256, 256, 256, 256], expect := [1, 1, 1, 1] }
def found : EstMeas := { cd := 0, dgd := 0, ps := [], sop := [], sopRate := 0, freqKHz := 3500000, timing := 20000 }

/-- Profile 0 of LP0 is valid. -/
def profiled : State := track.modDsp .lp0 fun d => { d with profiles := [(0, { valid := true })] }

/-- The line engines active, with an image running. -/
def engined : State := { (warmed.modEngine .le1 fun e => { e with st := .active }) with fw := { imaged.fw with pause := none } }

/-- The boot ROM waits for a download on SPI and on PCIe. -/
def downloading : State := { live with pr := { live.pr with
  phase := .boot, power := .none, cmdReady := false, boot := .download true true } }

/-- A signed-off kernel header: 256 bytes, unsigned, no code. -/
def kernelWords : List Word := [0x4B524E4C#32, 1, 256, 0, 0] ++ sha384 [] ++ List.replicate 47 0

/-- LE0 with 8 kernel spindles and a kernel in slot 7. -/
def kernelIn (st : KernelSt) (checking : Bool) : State := engined.modEngine .le0 fun e => { e with
  k := 8, kernels := [(7, { st, checking, staging := kernelWords, watchdogMs := 1 })] }

/-- An engine in a transition. -/
def moving (e : Eng) (m : EngMove) (st : EngSt) (sh : Option Lp) : State :=
  track.modEngine e fun x => { x with move := m, st, shadows := sh }

/-- Spindle 95 of LE0 holds a role, with an outdated build and an overflow of PC5 due, and is to be refreshed. -/
def roleAt (r : Nat) : State := engined.modEngine .le0 fun e => { e with
  spindles := [(95, { role := r, build := 9, perf := { due := 32 } })], refresh := [95] }

/-- LP0 in TRACK with a codeword grid, transmitting, alignment as given, the last good FRAME_NUM 255. -/
def lined (x : Align) : State :=
  let s := track.modCod .lp0 fun c => { c with grid := some { lag := 0, bitOffset := 0, anchor := 0 }, tx := { running := true } }
  s.modFrame .lp0 fun f => { f with align := x, lastGood := some 255 }

def spoiled : State := (lined .hunt).modCod .lp0 fun c => { c with spoil := true }

/-- LP0 with a robust header, a record and a bin. -/
def monitored : State :=
  let s := served.modCod .lp0 fun c => { c with hdr := some (List.replicate 32 0, 0, true, true, 0) }
  s.modFrame .lp0 fun f => { f with
    records := [{ seq := 5, uptime := 0, acc := {}, pps := false, q := 0, berLog := 0, osnr := 0, valid := 0, lengthUs := 0,
                  expected := 0, readOut := false, evaluated := false }],
    bins15 := [{ first := 0 }], lofTimer := some 0, inhibit := some 0 }

/-- A header of FRAME_NUM 0 with its HCRC, and a locator word that fits LP0. -/
def frameHdr : List Byte :=
  let h := beBytes 4 marker ++ List.replicate 26 0
  h ++ beBytes 2 (hcrc h)

/-- PCIe holds CRYPTO_LOCK; slot 3 of LP0 is loaded; CIPHER is in force on both line ports. -/
def sess : Session := { session := 1, slot := 3, key := [], salt := [], check := 0 }
def shake : Handshake :=
  { slot := 3, session := 1, nonce := [], derived := none, cause := 0, unknownRun := 0, deadline := 0, armed := false }
def keyed : State :=
  let ci (s : State) (p : Lp) : State := s.modMode p fun m => { m with running := { m.running with cipher := true } }
  let s := (ci (ci served .lp0) .lp1).modCrypto .lp0 fun k =>
    { k with slots := [none, none, none, some { key := [], keyId := 9, check := 0 }] }
  s.modHost fun h => { h with cryptoLock := some (.pcie, 0) }
def tamperedOn : State := { keyed with keys := { voltage := true } }

/-- LP0 with a handshake, with a session in force at a COUNTER, or with a far offer. -/
def shaking (h : Handshake) : State := keyed.modCrypto .lp0 fun k => { k with hs := some h }
def counting (n : U64) : State := keyed.modCrypto .lp0 fun k => { k with tx := some sess, txCounter := n }

/-- Host port 0 of `packets` in a state, with its lane 0 locked or lost; the traffic manager's clock runs. -/
def hpIn (st : HpSt) (lane : HostLane) : State :=
  { packets with hports := [(0, { cfg := some (hpOne 0), st, attempt := some 0, aligning := some 0, backoff := some 0 })],
                 lanes := [(0, lane)], tm := { packets.tm with since := some 0 } }

def loopedUp : State := (hpIn .up {}).modHport 0 fun h => { h with loopback := 2 }

/-- A flow entry of index 5 whose key is MAC 1 on source 0. -/
def flow1 : Flow := { key := keyOf 0 1, cls := 0, dest := 0, prof := 1, static_ := true, bk := {}, lastHit := 0, passed := 0, bytes := 0, red := 0 }
def flowed : State := live.modTm fun m => { m with flows := [(5, some flow1)] }

/-- A running gate on output 65, which LE1 serves. -/
def gated (restart : Option Nat) : State :=
  let s := (packets.modTm fun m => { m with
    since := some 0,
    gates := [(65, { sched := { express := 7, entries := [(1, 0)] }, restartAt := restart })] })
  s.modEngine .le1 fun e => { e with st := .active }

/-- Cells are packed; bank 3 is empty or waking. -/
def banked (st : BankSt) : State :=
  let ec (s : State) (p : Lp) : State := s.modMode p fun m => { m with running := { m.running with economy := true } }
  { ec (ec packets .lp0) .lp1 with tm := { since := some 0, banks := [{}, {}, {}, { st, emptyFrom := some 0 }] } }

/-- LP0 served by LE0 with guard on; LES stands by in a state; a takeover of LP0 is at a step. -/
def guarded (st : EngSt) (sh : Option Lp) : State :=
  let s := track.modMode .lp0 fun m => { m with granted := { m.granted with guard := .warm } }
  s.modEngine .les fun e => { e with st, shadows := sh }
def taking (step : TkStep) (kind : Nat) : State :=
  (guarded .cool none).modProtPort .lp0 fun x => { x with
    tk := some { kind, out := .le0, inn := .les, cause := 7, injected := false, step, windowEnd := 1 } }

/-- LE1 is held COLD; a restored engine is at its self-test; a phase of burnishing ends; burnishing is due. -/
def heldCold : State := track.modEngine .le1 fun e => { e with held := true, st := .cold }
def testing : State := track.modProt fun x => { x with restore := some { e := .le1, stage := .test } }
def burning (ph : BurnPhase) : State := (guarded .warm (some .lp0)).modProt fun x => { x with burn := { x.burn with phase := ph } }
def burnDue : State := (guarded .cool none).modProt fun x => { x with burn := { x.burn with next := some 0 } }

/-- Spindle 95 of LE0 is OUT. -/
def outSpindle : State := engined.modEngine .le0 fun e => { e with spindles := [(95, { role := 6 })] }

/-- LES is degraded; a chuck link replayed at time 0. -/
def lesDegraded : State := raiseAlarm 0x8A11 0x1A 0 [] (guarded .cool none)
def replayed : State := track.modProt fun x => { x with lastReplay := [(linkKey (.chuck .lp0), 1)] }

/-- LP0 is in protection group 1. -/
def grouped : State := served.modAps .lp0 fun a => { a with cfg := { a.cfg with group := 1 } }

/-- LP0 shows signal fail that its WARM spare does not. -/
def disagreeing : State :=
  raiseAlarm 0x8310 0x10 0 [] ((guarded .warm (some .lp0)).modProtPort .lp0 fun x => { x with disagree := some 0 })

/-- The mate link in a state; silent. -/
def mateIn (x : MateSt) (f : Mate → Mate) : State := grouped.modMate fun m => f { m with st := x, phase := .confirm }
def silent (x : MateSt) : State := raiseAlarm 0x8B10 0x90 0 [] (mateIn x id)

/-- A burst of TYPE 6 without payload, as heard after the SFD, and with a wrong CRC. -/
def burst1 : RxBurst :=
  let h : List Byte := [6, 0, 0, 0, 0, 0, 0, 0]
  { rate := 2, sfd := burstSfd, syms := burstData (h ++ beBytes 4 (crc32c h).toNat), margin := 40 }
def burst0 : RxBurst := { burst1 with syms := burstData (List.replicate 12 0) }

/-- Candidates at a strength: the end of the preamble. -/
def preamble (k : Int) : List Int := (burstPreamble.drop 128).map (k * ·)

/-- Host port 0 is ALIGNING with every lane locked. -/
def allLocked : State := { hpIn .aligning {} with lanes := (List.range 8).map fun i => (i, { locked := true }) }

/-- Candidate 7 as given; 18 windows of the cleaned clock; the tick from PPS_IN with PPS_OUT due. -/
def refd (x : Cand) : State := live.modClk fun k => { k with cands := List.replicate 7 {} ++ [x] }
def steady : State := live.modClk fun k => { k with history := List.replicate 18 0, st := .locked, selected := some 7 }
def ppsOn : State := live.modClk fun k => { k with
  pps := { k.pps with outEn := 1 }, present := true, lastEdge := some 0, riseAt := some 0, fallAt := some 0, nextTick := some 0 }

/-- MC3 is loop-owned; MC3 as given; bias output `o` of LP0 as given. -/
def ownedMon : State := live.modMon fun m => { m with owned := true }
def mc (x : MonConv) : State := live.modMon fun m => { m with convs := [{}, {}, {}, x] }
def biasIn (o : Nat) (x : Bias) : State := modBias .lp0 o (fun _ => x) served

/-- PCIe holds UPDATE_LOCK; a trial of bank 1 that ends at time 1; an update session; a command waits for its end. -/
def updating : State := live.modHost fun h => { h with updateLock := some (.pcie, 0) }
def onTrial : State := updating.modFw fun f => { f with trial := some { bank := 1, expiry := 1 } }
def session (ws : List Word) (n : Nat) : State := updating.modFw fun f => { f with session := some ⟨n, ws⟩ }
def ending (code : Nat) (g : Firmware → Firmware) : State := (live.modFw g).modHost fun h => { h with
  deferred := [{ port := .pcie, code, tag := 7, multi := false, entries := [⟨0, false, stOk, 0, []⟩] }] }

/-- A pause in which bank 1 is being activated, or a fallback runs. -/
def swapping (cause : Nat) (reason : Option Nat) : State := live.modFw fun f => { f with
  pause := some { cause, since := 0, reason }, activation := some ⟨1, 600, true⟩, staged := some (1, img), fallback := some (0, img) }

/-- A private JTAG instruction is loaded; the device is sealed; policer profile 1 is colour-aware. -/
def privateIr : State := live.modSeal fun x => { x with jtagIr := 0x43 }
def sealedDev : State := live.modSeal fun x => { x with fuseA := true, fuseB := true }
def awarePol : State := live.modTm fun m => { m with
  profiles := [(1, { cir := 0, cbs := 2000, pir := 0, pbs := 2000, aware := true })] }

/-- A command of the in-band channel of LP0, which is enabled; a download whose session holds words. -/
def ib (c : Cmd) : Cmd := { c with port := .ib0 }
def ibOn : State := (lined .inFrame).modInband .lp0 fun i => { i with enable := true }
def downSession (n : Nat) (ws : List Word) : State := downloading.modFw fun f => { f with session := some ⟨n, ws⟩ }

/-! ## Values the manual states -/

/-- "123456789" in ASCII. -/
def digits : List Byte := [49, 50, 51, 52, 53, 54, 55, 56, 57]

/-- R52 and R212 state these check values. -/
theorem test_crcs : crc32c digits = 0xE3069283 ∧ hcrc digits = 0x29B1 := by decide

/-- The DEV_ECHO example of chapter 02: the packet's words, its bytes on SPI, and the reply's words. -/
theorem test_dev_echo_packet :
    let c : Cmd := { port := .spi, tag := 0x42, target := 0, flags := 0, params := [0x12345678], dt := 0 }
    let w := cmdWords 2 c
    let r := (replyPkt 2 0x42 0 0 [0x12345678]).words
    w.take 4 = [0xC5010001#32, 0x00020042, 0, 0x12345678] ∧ w.drop 4 = [crc32cWords (w.take 4)] ∧
    (wordsToBytes w).take 4 = [0x01#8, 0x00, 0x01, 0xC5] ∧
    r.take 4 = [0x5C010001#32, 0x00020042, 0, 0x12345678] ∧ r.drop 4 = [crc32cWords (r.take 4)] := by
  decide

/-- DEV_ECHO returns its parameters (Table 2.11). -/
theorem test_dev_echo :
    ((serve devEchoOp { cmdSpi 0 [0x12345678] with tag := 0x42 } live).host.spi.out.map fun k => k.words.take 4) =
      [[0x5C010001#32, 0x00020042, 0, 0x12345678]] := by
  decide

/-- The example of chapter 03: RATE 1,200 and LONGHAUL on LP1, whose port is not WARM_PORT. -/
theorem test_resolve_lp1 :
    let r : ModePoint := { service := true, rate := 12, reach := .longhaul, nlc := true, nlcSteps := 4, low := true, guard := .warm,
                           cipher := true, packet := true, economy := true }
    let x := resolveWith 92 true false r
    modeWord r = 0x000F6631 ∧ modeWord x.1 = 0x000ED631 ∧ x.2.1 = 0x58 ∧ x.2.2 / 100 = 888 ∧ srMBd x.1 = 232500 ∧
    hMilli x.1 = 6000 ∧ dgdTol (srMBd x.1) = 666 ∧ usedSpn x.1 = 72 ∧ capacityMb x.1 = 1220029 := by
  decide

/-- The example of chapter 03 with K = 8, and after the reservation is released. -/
theorem test_resolve_kernels :
    let r : ModePoint := { rate := 32, reach := .longhaul, nlc := true, nlcSteps := 4, economy := true }
    let x := (resolveWith 84 true true r).1
    let y := (resolveWith 92 true true r).1
    x.nlcSteps = 2 ∧ x.economy = false ∧ y.nlcSteps = 3 ∧ y.economy = false := by
  decide

/-- The example of chapter 07: RATE 2,200 and index 5 place one outer amplitude at p = 91. -/
theorem test_matcher :
    dmEncode 22 [false, false, false, true, false, true] = List.replicate 91 false ++ [true] ++ List.replicate 4 false := by
  decide

/-- The examples of chapter 05: OSNR of 32.59 dB; Q and BER_LOG at a BER of 2.4E-2, BER_LOG at 1.0E-3. -/
theorem test_osnr : osnrOf 1700 2200 310000 = 3259 := by decide
theorem test_q : berLogOf 24 1000 = 162 ∧ berLogOf 1 1000 = 300 ∧ qOf 24 1000 = 592 := by decide +kernel

/-- The example of chapter 14: the holdover budget of XO_GRADE 1 and 2 with FREEZE_ERR 2.2 ppb and HOLDOVER_LIMIT 300 ppb. -/
theorem test_holdover_budget :
    budgetOf { limit := 300, grade := 1 } 22 = some 10078912512 ∧
    budgetOf { limit := 300, grade := 2 } 22 = some (24001920 * 32768) := by
  decide

/-- The example of chapter 11: a colour-blind policer at 0, 1, 2, 3 and 10 us of 1,500 cycles each. -/
theorem test_policer :
    let s (us : Nat) : State := live.modTm fun m => { m with
      profiles := [(1, { cir := 8000, cbs := 16000, pir := 10000, pbs := 24000 })], cycles := 1500 * us }
    let b (c p us : Nat) : Buckets := { c := c * 1024, p := p * 1024, at_ := 1500 * us }
    police (s 0) 1 (b 16000 24000 0) 8000 .green = (.green, b 8000 16000 0) ∧
    police (s 1) 1 (b 8000 16000 0) 8000 .green = (.green, b 1000 9250 1) ∧
    police (s 2) 1 (b 1000 9250 1) 8000 .green = (.yellow, b 2000 2500 2) ∧
    police (s 3) 1 (b 2000 2500 2) 8000 .green = (.red, b 3000 3750 3) ∧
    police (s 10) 1 (b 3000 3750 3) 8000 .green = (.green, b 2000 4500 10) := by
  decide

/-- The example of chapter 17: the status frame with SEQ 5. -/
theorem test_status_frame :
    let s := warmed.modEngine .les fun e => { e with st := .cool, shadows := none }
    statusWord ({ s with pr := { s.pr with statusSeq := 5 } }.modClk fun k => { k with st := .locked }) = 0xA5014101 := by
  decide

/-! ## Operands that are not well-formed are refused by the check, one for each of its clauses -/

/-- The fields of a packet: TARGET, FLAGS, length (R51). -/
theorem test_wf_cmd : ({ z 256 0 with dt := 0 } : Cmd).wf = false ∧ ({ z 0 0 with flags := 256 } : Cmd).wf = false ∧
    (z 0 1021).wf = false ∧ (z 255 1020).wf = true ∧ (Instr.devEcho (z 256 0)).wf = false := by
  decide

/-- An event's clauses on packets, registers, pulses and units. -/
theorem test_wf_device : (([.pcieRingFetch (List.replicate 1025 0) 0, .registerWrite 65536 0 0, .fswLoRead .pcie 4096 0,
    .spiFswRead 0 65536 1 0, .avsVoltageUpdate 649 [] 0, .avsVoltageUpdate 851 [] 0, .syncDecimReset 199 0, .syncDecimReset 1010 0,
    .syncTrigger 1999 0, .syncTrigger 5010 0, .syncCommit 9999 0, .syncCommit 50010 0, .unitWakeDone 256 0,
    .devWakeHoldExpiry 256 0, .pcieFswRead 4096 0, .jtagInstructionLoad 256 0] : List Instr).all fun i => !i.wf) = true := by
  decide

/-- An event's clauses on channels, slices, spectra, kernels, spindles and headers. -/
theorem test_wf_line : (([.backgroundCalUpdate .lp0 4 [] [] 0, .sliceSelfCheckFault .lp0 4 0 0, .sliceSelfCheckFault .lp0 0 100 0,
    .dacSelfCheck .lp0 4 ⟨true, []⟩ 0, .convFailClearTimer .lp0 4 0, .dspSnrSpectrumDone .lp0 (List.replicate 127 0) 0,
    .dspSnrSpectrumDone .lp0 (List.replicate 128 256) 0, .rxSkewEstimate ⟨.lp0, false⟩ [0, 0, 0] 0, .spnKernelStartDone .le0 8 0,
    .spindleFault .le0 96 0 true 0, .roleWatchdogExpiry .le0 96 true 0, .kernelWatchdogExpiry .le0 8 0, .kernelFault .le0 8 0 0,
    .kernelFault .le0 0 8 0, .kernelNote .le0 8 0 0, .spnCounterOverflow .le0 96 0 0, .spnCounterOverflow .le0 0 11 0,
    .robustHeaderDecoded .lp0 [] 0 0 0, .vlfFrameSend .lp0 (List.replicate 2040 .absent) 0,
    .vlfFrameReceived .lp0 ⟨[], false, false, [], none⟩ 0] : List Instr).all fun i => !i.wf) = true := by
  decide

/-- The area of a received VLF frame is whole. -/
theorem test_wf_area : wfRxFrame ⟨List.replicate 32 0, false, false, [], none⟩ = false ∧
    wfFrame ⟨List.replicate 63 0, false, false⟩ = false := by
  decide

/-- An event's clauses on host lanes, host ports and the traffic manager. -/
theorem test_wf_host : (([.hlCdrLockLoss 32 0, .hlSignalReturn 32 ⟨0, 0, 0, 0, 0, []⟩ 0, .laneHoldExpiry 32 0, .pcsAlignmentLoss 32 0,
    .trainAttemptStart 32 0, .trainAttemptTimeout 32 0, .aligningTimeout 32 0, .hpAligningReached 32 [] 0,
    .hpAligningReached 0 (List.replicate 9 ⟨0, 0, 0, 0, 0, []⟩) 0, .hpUpReached 32 0 0, .remoteFaultReceived 32 0,
    .remoteFaultClearTimer 32 0, .tmFrameArrival 66 ⟨List.replicate 64 0, false, false⟩ false 0,
    .tmFrameArrival 0 ⟨List.replicate 63 0, false, false⟩ false 0, .tmFrameSelect 66 0, .gateChange 66 0, .tmBankSleep 4 0,
    .tmBankWakeDone 4 0] : List Instr).all fun i => !i.wf) = true := by
  decide

/-- An event's clauses on engines, memories, the mate link, references, monitor converters and bias outputs. -/
theorem test_wf_units : (([.engineFaultDetected .le0 9 0, .memoryErrorDetected ⟨0, 0, false, false, false, 0, 0, false⟩ 0,
    .memoryErrorDetected ⟨14, 0, false, false, false, 0, 0, false⟩ 0, .memoryErrorDetected ⟨1, 256, false, false, false, 0, 0, false⟩ 0,
    .scrubPass 0 0 [] 0, .scrubPass 14 0 [] 0, .scrubPass 1 256 [] 0, .parityPersistClearTimer 256 0, .mateCandidate 3 [] 0, .mateBurstReceived ⟨3, List.replicate 16 0, [], 0⟩ 0,
    .mateBurstReceived ⟨0, [], [], 0⟩ 0,
    .mirrorMismatchTimer 0 0, .mirrorMismatchTimer 256 0, .refCandidateInvalid ⟨8, none⟩ 0, .refCandidateValid ⟨8, none⟩ 0,
    .qualificationWindowEnd [] 0 0 0, .clkWtrExpiry 8 0, .monCalibrationDone 4 0 0 0, .monInjTrigger 4 0, .monConversionDone 4 0 0,
    .monConversionDone 0 65536 0, .biasRampEnd .lp0 8 0, .biasAcquireTimeout .lp0 8 0, .biasNoLightTimer .lp0 8 0] :
    List Instr).all fun i => !i.wf) = true := by
  decide

/-- The same events with every operand at the end of its range pass the check. -/
theorem test_wf_good : (([.syncCommit 50009 0, .avsVoltageUpdate 850 [] 0, .sliceSelfCheckFault .lp0 3 99 0,
    .spnCounterOverflow .le0 95 10 0, .memoryErrorDetected ⟨13, 255, false, false, false, 0, 0, false⟩ 0, .mirrorMismatchTimer 255 0,
    .monConversionDone 3 65535 0, .tmFrameArrival 65 ⟨List.replicate 64 0, false, false⟩ false 0, .gateChange 65 0,
    .hlCdrLockLoss 31 0] : List Instr).all Instr.wf) = true := by
  decide

/-- The example of chapter 04: four channels with DECIM 4 and 16 bits write 192 GB/s, and TAP_CONFIG from reset takes it. -/
theorem test_tap_config :
    let c := cmdSpi 0x10 [0, 15, 4, 0, 30, 0, 1, 0, 4]
    tapRate (tapOfCmd c {}) = 192 ∧ ((serve tapConfigOp c live).port .lp0).conv.tap.decim = 4 := by
  decide

/-- The example of chapter 05: samples the chromatic dispersion spreads over, and the overlap of the filter. -/
theorem test_cd_sizing :
    nCd 20000 1 310000 5 193500 = 32318 ∧ nCd 200000 1 155000 5 193500 = 80793 ∧ 256 * nov256 32318 = 32512 ∧
      2 ^ log2Nfft (nov256 32318) = 65536 ∧ 2 ^ log2Nfft (nov256 80793) = 262144 := by
  decide

/-! ## The hypotheses of every obligation are met -/

/-- The premises of `StepRunsFront`, clause by clause, are met. -/
theorem witness_StepRunsFront :
    (({ live with pending := [.rngHealthFail 0, .ringReset 0] } : State).pending = .rngHealthFail 0 :: [.ringReset 0]) ∧
    (live.pending = []) :=
  ⟨by decide, by decide⟩

/-- The premises of `EveryCommandCompletes`, clause by clause, are met. -/
theorem witness_EveryCommandCompletes :
    (Served (z 0x11 0) live ∧ (z 0x11 0).unfinished = [] ∧
      checks devEchoOp (z 0x11 0) false (ready (z 0x11 0) live) = some (stBadTarget, 0)) ∧
    (Runs devEchoOp (z 0 0) live ∧ (devEchoOp.run (ready (z 0 0) live) 0 (z 0 0)).settled = true ∧
      (devEchoOp.run (ready (z 0 0) live) 0 (z 0 0)).status < 0x100) ∧
    (Runs devWakeOp (cmd 0x90 [1]) mateAsleep ∧
      (devWakeOp.run (ready (cmd 0x90 [1]) mateAsleep) 0x90 (cmd 0x90 [1])).settled = false ∧
      (devWakeOp.run (ready (cmd 0x90 [1]) mateAsleep) 0x90 (cmd 0x90 [1])).status < 0x100) ∧
    (Runs devSleepOp (cmd 0 [1, 0]) served ∧ 0x100 ≤ (devSleepOp.run (ready (cmd 0 [1, 0]) served) 0 (cmd 0 [1, 0])).status) ∧
    (Served (flagged 2 (cmd 0x10 [1, 1])) live ∧
      checks (modeSetOp 0) (flagged 2 (cmd 0x10 [1, 1])) false (ready (flagged 2 (cmd 0x10 [1, 1])) live) = none ∧
      (flagged 2 (cmd 0x10 [1, 1])).flag 1 = true) ∧
    (Served (flagged 4 (cmd 0x10 [1, 1])) live ∧
      checks (modeSetOp 0) (flagged 4 (cmd 0x10 [1, 1])) false (ready (flagged 4 (cmd 0x10 [1, 1])) live) = none ∧
      (flagged 4 (cmd 0x10 [1, 1])).flag 1 = false ∧ (flagged 4 (cmd 0x10 [1, 1])).flag 2 = true ∧
      ((modeSetOp 0).run (ready (flagged 4 (cmd 0x10 [1, 1])) live) 0x10 (flagged 4 (cmd 0x10 [1, 1]))).status < 0x100) ∧
    (Served (z 0xFE 0) live ∧ checks biasStatusOp (z 0xFE 0) false (ready (z 0xFE 0) live) = none ∧
      ((runUnits biasStatusOp (z 0xFE 0) (expand biasStatusOp (ready (z 0xFE 0) live) 0xFE) (ready (z 0xFE 0) live)).2.all fun e => e.settled) = true) :=
  ⟨by decide, by decide, by decide, by decide, by decide, by decide, by decide⟩

/-- The premises of `RingRegisterWrites`, clause by clause, are met. -/
theorem witness_RingRegisterWrites :
    (pcieOpen (advance 0 live) = true ∧ live.pr.waking = false ∧
      0x834 ∉ [0x800, 0x804, 0x808, 0x80C, 0x810, 0x814, 0x818, 0x81C, 0x820, 0x82C, 0x830]) ∧
    (pcieOpen (advance 0 wakingUp) = true ∧ wakingUp.pr.waking = true ∧ 0x1000 ≤ 0x107C ∧ 0x107C < 0x1080) :=
  ⟨by decide, by decide⟩

/-- The premises of `PacketsArrive`, clause by clause, are met. -/
theorem witness_PacketsArrive :
    (mayFetch (advance 0 (live.modPcie fun c => { c with cmdProd := 1 })) = true) ∧
    (spiTakes (advance 0 live) = true ∧ spiOurs (advance 0 live) 1 = true ∧ (1 : Byte).toNat % 64 = 1) ∧
    (bits (0xC5010000#32).toNat 24 8 = 0xC5 ∧ [0xC5010000#32, 0, 0].length < min 1020 (bits (0xC5010000#32).toNat 0 16) + 4) ∧
    (min 1020 (bits (0xC5010000#32).toNat 0 16) + 4 ≤ [0xC5010000#32, 0, 0, 0].length ∧ packetsKept (advance 0 live) = true) ∧
    (running (advance 0 (ibState true)) = true ∧
      huntBytes (((ibState true).inband .lp0).rx.length + 1) 0 ((ibState true).inband .lp0).rx = (0, .packet echoPkt []) ∧
      ((ibState true).inband .lp0).enable = true ∧
      packetsKept (inbandDrop 0 ((advance 0 (ibState true)).modInband .lp0 fun i => { i with rx := [] })) = true) ∧
    (huntBytes (((ibState false).inband .lp0).rx.length + 1) 0 ((ibState false).inband .lp0).rx = (0, .packet echoPkt []) ∧
      ((ibState false).inband .lp0).enable = false) ∧
    (bits (0xC4010000#32).toNat 24 8 ≠ 0xC5 ∧ bootRomReads (advance 0 downloading) .spi = true ∧
      spiTakes (advance 0 downloading) = true ∧ packetsKept (advance 0 downloading) = false) :=
  ⟨by decide, by decide, by decide, by decide, by decide, by decide, by decide⟩

/-- The premises of `ReceiveQueueFull`, clause by clause, are met. -/
theorem witness_ReceiveQueueFull :
    (spiTakes (advance 0 paused) = true ∧ spiOurs (advance 0 paused) 1 = true ∧ bits (0xC5010000#32).toNat 24 8 = 0xC5 ∧
      min 1020 (bits (0xC5010000#32).toNat 0 16) + 4 ≤ [0xC5010000#32, 0, 0, 0].length ∧
      packetsKept (advance 0 paused) = true ∧ umciaReads (advance 0 paused) = false) ∧
    ((spiQueue 31).host.rxq.spi.length < 32 ∧ spiTakes (advance 0 (spiQueue 31)) = true ∧
      umciaReads (advance 0 (spiQueue 31)) = false ∧ packetsKept (advance 0 (spiQueue 31)) = true) ∧
    (32 ≤ (spiQueue 32).host.rxq.spi.length ∧ spiTakes (advance 0 (spiQueue 32)) = true ∧
      umciaReads (advance 0 (spiQueue 32)) = false ∧ packetsKept (advance 0 (spiQueue 32)) = true) ∧
    (bits (([0, 0, 0] : List Word).getD 0 0).toNat 16 16 ≠ 0x0705) :=
  ⟨by decide, by decide, by decide, by decide⟩

/-- The premises of `LoReadLatchesHi`, clause by clause, are met. -/
theorem witness_LoReadLatchesHi :
    (0x020 % 4 = 0 ∧ 0x020 < 4096 ∧ pcieOpen (advance 0 live) = true ∧ live.pr.waking = false ∧
      pairAt (advance 0 live) 0x020 = some 0 ∧ live.pr.phase ≠ .fault) ∧
    (spiReads (advance 0 live) = true ∧ spiOurs (advance 0 live) 3 = true ∧ (3 : Byte).toNat % 64 = 3 ∧
      pairAt (advance 0 live) 0x7F8 = some 0) :=
  ⟨by decide, by decide⟩

/-- The premises of `OutReadRemovesWholePackets`, clause by clause, are met. -/
theorem witness_OutReadRemovesWholePackets :
    (spiTakes (advance 0 (spiOut 1)) = true ∧ spiOurs (advance 0 (spiOut 1)) 2 = true ∧ (2 : Byte).toNat % 64 = 2) ∧
    ((spiOut 1).host.spi.out = replyPkt 2 7 0 0 [] :: [] ∧ (replyPkt 2 7 0 0 []).words.length + 1 ≤ 5 ∧
      4 < (replyPkt 2 7 0 0 []).words.length + 1) ∧
    ((spiOut 0).host.spi.out = [] ∧ spiTakes (advance 0 (spiOut 0)) = true) :=
  ⟨by decide, by decide, by decide⟩

/-- The premises of `PcieDownAndUp`, clause by clause, are met. -/
theorem witness_PcieDownAndUp :
    (live.pr.powered = true ∧ inReset live = false ∧ live.pr.phase ≠ .fault ∧ live.host.pcie.linkUp = true ∧
      running (advance 0 live) = true) := by
  decide

/-- The premises of `LockInactivity`, clause by clause, are met. -/
theorem witness_LockInactivity :
    (lockHolder (setLock live .crypto (some (.pcie, 0))) .crypto = some (.pcie, 0) ∧
      running (advance (secT 2) (setLock live .crypto (some (.pcie, 0)))) = true ∧ live.fw.pause.isNone = true ∧
      0 + secT 2 ≤ (advance (secT 2) (setLock live .crypto (some (.pcie, 0)))).hk ∧
      (advance (secT 2 - 1) (setLock live .crypto (some (.pcie, 0)))).hk < 0 + secT 2) := by
  decide

/-- The premises of `DeviceCommandsRun`, clause by clause, are met. -/
theorem witness_DeviceCommandsRun :
    (Runs devIdentifyOp (z 0 0) imaged ∧ imaged.fw.running = some img) ∧
    (Runs devEchoOp (z 0 1020) live) ∧
    (Runs devStatusOp (z 0 0) live ∧ Runs devStatusOp (z 1 0) live ∧ Runs devStatusOp (z 0x11 0) live ∧ isLpT 0x11 = true ∧
      Runs devStatusOp (z 0x1A 0) live ∧ isEngT 0x1A = true) ∧
    (Runs devStatusOp (z 0x80 0) live ∧ Runs devStatusOp (z 0x90 0) live ∧ Runs devStatusOp (z 0xA0 0) live ∧
      Runs devStatusOp (z 0xB0 0) live) ∧
    (Runs devStatusOp (z 0x40 0) packets ∧ isHpT 0x40 = true) ∧
    (bootRomReads (advance 0 downloading) .pcie = true ∧ downloading.host.rxq.get .pcie = [] ∧ Direct (z 0 0) ∧
      downloading.fw.running = none ∧ checks devIdentifyOp (z 0 0) false (lockActivity .pcie (advance 0 downloading)) = none ∧
      checks devEchoOp (z 0 0) false (lockActivity .pcie (advance 0 downloading)) = none) ∧
    (Runs devPortConfigOp (z 0 1) live ∧ Runs devEventConfigOp (cmd 0 [1, 0, 0]) live ∧
      Runs devFswMapOp (cmd 0 [0, 1, 0xA0000C05, 0]) live) ∧
    (Runs devStageClearOp (z 0 0) live ∧ Runs devStageListOp (z 0 0) live) :=
  ⟨by decide, by decide, by decide, by decide, by decide, by decide, by decide, by decide⟩

/-- The premises of `ResetSleepWake`, clause by clause, are met. -/
theorem witness_ResetSleepWake :
    (Runs devResetOp (cmd 0 [0]) live ∧ live.fw.pause.isSome = false) ∧
    (Runs devResetOp (cmd 1 [1]) live) ∧
    (Runs devSleepOp (cmd 0 [1, 0]) live ∧ live.pr.power ≠ .service ∧ live.host.updateLock = none ∧ live.host.deferred = []) ∧
    (Runs devWakeOp (cmd 0x20 [0]) live) ∧
    (Runs devWakeOp (cmd 0x90 [1]) (mated live) ∧ wakeAllowed (ready (cmd 0x90 [1]) (mated live)) 0x90 = true ∧
      unitAwake (ready (cmd 0x90 [1]) (mated live)) 0x90 = true) ∧
    (Runs devWakeOp (cmd 0x90 [1]) mateAsleep ∧ (cmd 0x90 [1]).w 3 ≠ 0 ∧
      wakeAllowed (ready (cmd 0x90 [1]) mateAsleep) 0x90 = true ∧ unitAwake (ready (cmd 0x90 [1]) mateAsleep) 0x90 = false) ∧
    (Runs devSleepOp (cmd 0 [1, 0]) served ∧ served.pr.power = .service) ∧
    (Runs devSleepOp (cmd 0 [1, 0]) (setLock live .update (some (.pcie, 0))) ∧
      (setLock live .update (some (.pcie, 0))).host.updateLock.isSome = true ∧
      (setLock live .update (some (.pcie, 0))).pr.power ≠ .service) ∧
    (Runs devSleepOp (cmd 0 [1, 0]) (ending 0x0E03 id) ∧ (ending 0x0E03 id).host.deferred ≠ [] ∧
      (ending 0x0E03 id).host.updateLock = none ∧ (ending 0x0E03 id).pr.power ≠ .service) ∧
    (Runs devWakeOp (cmd 0x10 [1]) live ∧ wakeAllowed (ready (cmd 0x10 [1]) live) 0x10 = false) :=
  ⟨by decide, by decide, by decide, by decide, by decide, by decide, by decide, by decide, by decide, by decide⟩

/-- The premises of `UnitHolds`, clause by clause, are met. -/
theorem witness_UnitHolds :
    (SMap.get none (waking 0x20).host.wakes 0x20 = some 5 ∧ running (advance 0 (waking 0x20)) = true ∧
      wakeAllowed (advance 0 (waking 0x20)) 0x20 = true) ∧
    (SMap.get none (waking 0x80).host.wakes 0x80 = some 5 ∧ wakeAllowed (advance 0 (waking 0x80)) 0x80 = true ∧
      unitAwake (advance 0 (waking 0x80)) 0x80 = true ∧ running (advance 0 (waking 0x80)) = true) ∧
    (SMap.get none (waking 0x90).host.wakes 0x90 = some 5 ∧ wakeAllowed (advance 0 (waking 0x90)) 0x90 = true ∧
      running (advance 0 (waking 0x90)) = true) ∧
    (SMap.get none ({ live with host := { live.host with wakes := [(0x10, some 5)] } } : State).host.wakes 0x10 = some 5 ∧
      wakeAllowed (advance 0 live) 0x10 = false ∧ running (advance 0 live) = true) ∧
    (running (advance 0 (holding 1)) = true ∧ SMap.get 0 (holding 1).host.holds 0x20 ≠ 0 ∧
      SMap.get 0 (holding 1).host.holds 0x20 ≤ (advance 1 (holding 1)).hk) :=
  ⟨by decide, by decide, by decide, by decide, by decide⟩

/-- The premises of `ModeCommandsRun`, clause by clause, are met. -/
theorem witness_ModeCommandsRun :
    (Runs (modeSetOp 0) (cmd 0x10 [1, 1]) live ∧ isLpT 0x10 = true) ∧
    (Runs (modeSetOp 0) (cmd 0 [0]) live ∧ (bit ((cmd 0 [0]).w 3) 0 = true ↔ live.warmPort = .lp1)) ∧
    (Runs modeGetOp (z 0x11 0) live ∧ Runs modeGetOp (z 0 0) live) ∧
    (Runs modeCommitOp (z 0 0) (staged 1) ∧ (staged 1).host.staged ≠ []) ∧
    (Runs modeCommitOp (z 0 0) (staged 0) ∧ (staged 0).host.syncTaken ≠ some (hkCycle (advance 0 (staged 0)))) ∧
    (Runs modeCommitOp (z 0 0) syncJust ∧ syncJust.host.staged = [] ∧
      syncJust.host.syncTaken = some (hkCycle (advance 0 syncJust))) :=
  ⟨by decide, by decide, by decide, by decide, by decide, by decide⟩

/-- The premises of `ChangeMaskSelects`, clause by clause, are met. -/
theorem witness_ChangeMaskSelects :
    (Runs (modeSetOp 0) (cmd 0x10 [0x000FFFFF, 0]) live ∧ isLpT 0x10 = true) ∧
    (Runs (modeSetOp 0) (cmd 0x11 [0x8181, 0x3FF]) served ∧ isLpT 0x11 = true ∧
      (served.port .lp1).mode.requested.nlc = decide ((served.port .lp1).mode.requested.nlcSteps ≠ 0)) :=
  ⟨by decide, by decide⟩

/-- The premises of `ModeChangesApply`, clause by clause, are met. -/
theorem witness_ModeChangesApply :
    (umciaReads (advance 0 (applying Guard.cool)) = true ∧ ((applying Guard.cool).protPort .lp0).tk = none ∧
      ((applying Guard.cool).port .lp0).mode.apps = appTo Guard.cool :: [] ∧ (appTo Guard.cool).begun = false ∧
      ((applying Guard.cool).port .lp0).mode.running.guard ≠ (appTo Guard.cool).point.guard) ∧
    (umciaReads (advance 0 (applying Guard.none)) = true ∧ ((applying Guard.none).protPort .lp0).tk = none ∧
      ((applying Guard.none).port .lp0).mode.apps = appTo Guard.none :: [] ∧
      ((applying Guard.none).port .lp0).mode.running.guard = (appTo Guard.none).point.guard) ∧
    (umciaReads (advance 0 begunApp) = true ∧ (begunApp.protPort .lp0).tk = none ∧
      (begunApp.port .lp0).mode.apps = { appTo Guard.warm with begun := true } :: []) ∧
    (umciaReads (advance 0 { live with reresolve := some 2 }) = true ∧ (live.port .lp0).mode.apps = [] ∧
      (live.port .lp1).mode.apps = []) :=
  ⟨by decide, by decide, by decide, by decide⟩

/-- The premises of `ResetsLeave`, clause by clause, are met. -/
theorem witness_ResetsLeave :
    (live.pr.powered = true ∧ live.pr.poreset = false ∧ live.pr.phase ≠ .fault ∧ live.pr.sysreset = false) ∧
    (({ live with pr := { live.pr with powered := false } } : State).pr.powered = false) ∧
    (faulted.pr.phase = .fault ∧ pendingOn live 0x0F01 0 = false) :=
  ⟨by decide, by decide, by decide⟩

/-- The premises of `BootAfterRelease`, clause by clause, are met. -/
theorem witness_BootAfterRelease :
    (State.reset.pr.powered = true ∧ State.reset.pr.poreset = true ∧ State.reset.pr.sysreset = false ∧
      State.reset.pr.internalReset = none ∧ State.reset.pr.phase = .strap) ∧
    (({ State.reset with pr := { State.reset.pr with sysreset := true } } : State).pr.sysreset = true ∧
      State.reset.pr.poreset = true) ∧
    ((held_ true none).pr.sysreset = true ∧ (held_ true none).pr.poreset = false ∧ (held_ true none).pr.internalReset = none ∧
      (held_ true none).pr.phase = .strap) ∧
    ((held_ false (some 0)).pr.sysreset = false ∧ (held_ false (some 0)).pr.poreset = false ∧
      due (held_ false (some 0)).pr.internalReset (advance 0 (held_ false (some 0))).now = true) ∧
    ((0 : BitVec 6).toNat % 4 = 0 ∧ (1 : BitVec 6).toNat % 4 = 1 ∧ (2 : BitVec 6).toNat % 4 = 2 ∧ (63 : BitVec 6).toNat % 4 = 3) :=
  ⟨by decide, by decide, by decide, by decide, by decide⟩

/-- The premises of `FaultCauses`, clause by clause, are met. -/
theorem witness_FaultCauses :
    (live.pr.powered = true ∧ live.pr.poreset = false ∧ live.pr.phase ≠ .fault ∧ live.pr.thermTrip = false ∧
      running (advance 0 live) = true) ∧
    (({ live with pr := { live.pr with straps := 32 } } : State).pr.straps.getLsbD 5 = true) ∧
    (3 ≤ ((0 :: [0, 0]).filter fun t => decide (0 < t + secT 60)).length ∧
      ((0 :: [0]).filter fun t => decide (0 < t + secT 60)).length < 3 ∧ live.fw.pause = none) ∧
    (faulted.pr.powered = true ∧ faulted.pr.phase = .fault ∧ faulted.pr.poreset = false ∧ faulted.pr.sysreset = false ∧
      faulted.pr.internalReset = none ∧
      ({ faulted with pr := { faulted.pr with faultClass := 2 } } : State).pr.faultClass = 2 ∧
      (advance 0 faulted).now / aonT 1 = faulted.pr.faultAt / aonT 1) ∧
    (faulted.pr.faultClass ≠ 2) :=
  ⟨by decide, by decide, by decide, by decide, by decide⟩

/-- The premises of `WakeSources`, clause by clause, are met. -/
theorem witness_WakeSources :
    (dark.pr.powered = true ∧ inReset dark = false ∧ dark.pr.phase ≠ .fault ∧ dark.pr.wakeMask.testBit 0 = true ∧
      dark.pr.wakeMask.testBit 3 = true ∧ dark.pr.sleepEntry = false ∧ dark.pr.power = .dark) ∧
    (due dark.pr.wakeTimer (advance 0 dark).now = true ∧ dark.pr.wakeMask.testBit 4 = true) ∧
    (wakingUp.pr.waking = true ∧ wakingUp.pr.power = .dark ∧ wakingUp.pr.wakeMask.testBit 2 = true) ∧
    (sleeping.pr.sleepEntry = true ∧ sleeping.pr.wakeMask.testBit 1 = true ∧ inReset sleeping = false ∧
      sleeping.pr.phase ≠ .fault) ∧
    (live.pr.wakeMask.testBit 2 = false) ∧
    (running (advance 0 live) = true ∧ live.pr.sleepEntry = false ∧ live.pr.waking = false ∧ live.pr.power ≠ .dark) ∧
    (sleeping.pr.sleepEntry = true ∧ due sleeping.pr.wakeTimer (advance 0 sleeping).now = true) ∧
    (({ dark with pr := { dark.pr with wakeMask := 1 } } : State).pr.wakeMask.testBit 3 = false ∧
      ({ dark with pr := { dark.pr with wakeMask := 1 } } : State).pr.wakeMask.testBit 4 = false ∧ dark.pr.power = .dark) ∧
    (due ({ live with pr := { live.pr with wakeTimer := some 0 } } : State).pr.wakeTimer (advance 0 live).now = true ∧
      live.pr.power ≠ .dark ∧ live.pr.waking = false) :=
  ⟨by decide, by decide, by decide, by decide, by decide, by decide, by decide, by decide, by decide⟩

/-- The premises of `SyncInDark`, clause by clause, are met. -/
theorem witness_SyncInDark :
    (dark.pr.powered = true ∧ inReset dark = false ∧ dark.pr.phase ≠ .fault ∧ dark.pr.sleepEntry = false ∧
      dark.pr.cmdReady = false ∧ dark.pr.power = .dark ∧ dark.pr.waking = false ∧ dark.pr.wakeMask.testBit 0 = true) ∧
    (wakingUp.pr.cmdReady = false ∧ wakingUp.pr.sleepEntry = false ∧ wakingUp.pr.power = .dark) ∧
    (live.pr.powered = true ∧ inReset live = false ∧ live.pr.sleepEntry = false ∧ live.pr.cmdReady = true ∧
      ({ live with pr := { live.pr with readyAt := some 5 } } : State).pr.readyAt = some 5 ∧
      (advance (5 + 209 * 192 - 1) live).now < 5 + 209 * 192) :=
  ⟨by decide, by decide, by decide⟩

/-- The premises of `SyncDecodes`, clause by clause, are met. -/
theorem witness_SyncDecodes :
    (running (advance 0 live) = true ∧ live.pr.cmdReady = true ∧ live.pr.syncHigh = false ∧ live.fw.pause = none) ∧
    (200 ≤ 209 / 10 * 10 ∧ 1009 / 10 * 10 ≤ 1000 ∧ 2000 ≤ 2000 / 10 * 10 ∧ 5009 / 10 * 10 ≤ 5000 ∧ 10000 ≤ 10000 / 10 * 10 ∧
      50009 / 10 * 10 ≤ 50000) ∧
    (running (advance 0 paused) = true ∧ paused.pr.cmdReady = true ∧ paused.fw.pause.isSome = true ∧
      paused.host.syncLatched = none) ∧
    (100 ≤ 100 / 10 * 10 ∧ 199 / 10 * 10 ≤ 190 ∧ 1010 ≤ 1010 / 10 * 10 ∧ 1999 / 10 * 10 ≤ 1990 ∧ 5010 ≤ 5010 / 10 * 10 ∧
      9999 / 10 * 10 ≤ 9990 ∧ 50000 < 50010 / 10 * 10 ∧ 99 / 10 * 10 < 100) ∧
    (({ live with pr := { live.pr with syncHigh := true } } : State).pr.syncHigh = true) ∧
    (live.pr.readyAt = none ∧ 5 + 209 * 192 ≤ (advance (5 + 209 * 192) live).now) :=
  ⟨by decide, by decide, by decide, by decide, by decide, by decide⟩

/-- The premises of `DarkAndReady`, clause by clause, are met. -/
theorem witness_DarkAndReady :
    (running (advance 0 sleeping) = true ∧ sleeping.pr.sleepEntry = true) ∧
    (running (advance 0 wakingUp) = true ∧ wakingUp.pr.waking = true) ∧
    (running (advance 0 { live with pr := { live.pr with boot := .running, phase := .boot, cmdReady := false } }) = true ∧
      live.pr.waking = false) :=
  ⟨by decide, by decide, by decide⟩

/-- The premises of `FrameVoltageJtag`, clause by clause, are met. -/
theorem witness_FrameVoltageJtag :
    (running (advance 0 live) = true ∧ live.pr.phase = .run ∧ live.pr.waking = false ∧ live.pr.powered = true ∧
      live.sealSt.gateClosed = false ∧ live.sealSt.fuseA = false) ∧
    (({ live with sealSt := { live.sealSt with gateClosed := true } } : State).sealSt.gateClosed = true ∧
      0x05 ∉ [0x00, 0x01, 0x02, 0x03, 0x04, 0x08, 0x09, 0x40, 0x41, 0x42, 0x43]) :=
  ⟨by decide, by decide⟩

/-- The premises of `ConvCommandsRun`, clause by clause, are met. -/
theorem witness_ConvCommandsRun :
    (Runs convConfigOp (cmd 0x10 convWs) live ∧ Runs convStatusOp (z 0x10 0) live ∧ Runs convSliceGetOp (cmd 0x11 [3, 1]) live) ∧
    (Runs convSliceRestoreOp (cmd 0x10 [0, 1, 0, 0, 0]) locked ∧
      synthLocked (ready (cmd 0x10 [0, 1, 0, 0, 0]) locked) .lp0 = true) ∧
    (Runs convSliceRetireOp (cmd 0x10 [0, 99]) live ∧ (sliceOf live .lp0 0 99).st = 0 ∧ 92 < poolN live .lp0 0) ∧
    (Runs convSliceRetireOp (cmd 0x10 [0, 0]) (retired 1) ∧ (sliceOf (retired 1) .lp0 0 0).st ≠ 0) ∧
    (Runs convSliceRetireOp (cmd 0x10 [0, 99]) (retired 8) ∧ (sliceOf (retired 8) .lp0 0 99).st = 0 ∧
      poolN (retired 8) .lp0 0 ≤ 92) ∧
    (Runs chuckGetOp (z 0x11 0) live ∧ (live.port .lp1).conv.loop = false ∧ live.prot.burn.phase ≠ .loop) ∧
    (Runs convLoopOp (cmd 0x10 [1]) live ∧ Runs convCountersOp (z 0x10 1) live) ∧
    (Runs tapArmOp (z 0x10 0) served ∧ tapWriting (served.port .lp0).conv.tap = false ∧
      inService (ready (z 0x10 0) served) .lp0 = true) ∧
    (Runs tapStopOp (z 0x10 0) live ∧ Runs tapStatusOp (z 0x10 0) live) ∧
    (Runs tapReadOp (cmd 0x10 [0, 0, 1]) live ∧ tapWriting (live.port .lp0).conv.tap = false) ∧
    (Runs tapDmaOp (cmd 0x10 [0, 0, 64, 0, 0, 0]) live ∧ (cmd 0x10 [0, 0, 64, 0, 0, 0]).port = .pcie) ∧
    (Runs tapDmaOp (cmdSpi 0x10 [0, 0, 64, 0, 0, 0]) live ∧ (cmdSpi 0x10 [0, 0, 64, 0, 0, 0]).port ≠ .pcie) ∧
    (Runs tapDmaOp (cmd 0x10 [0, 0, 64, 0, 0, 0]) (tapIn .armed) ∧ Runs tapReadOp (cmd 0x10 [0, 0, 1]) (tapIn .armed) ∧
      Runs tapArmOp (z 0x10 0) (tapIn .armed) ∧ tapWriting ((tapIn .armed).port .lp0).conv.tap = true) ∧
    (Runs tapReadOp (cmd 0x10 [0, 0, 1]) badTap ∧
      SMap.get false (badTap.port .lp0).conv.tap.bad (w64 (cmd 0x10 [0, 0, 1]) 3 / 4 + 0) = true) ∧
    (Runs tapArmOp (z 0x10 0) live ∧ inService (ready (z 0x10 0) live) .lp0 = false) ∧
    (Runs convSliceRestoreOp (cmd 0x10 [0, 1, 0, 0, 0]) live ∧ synthLocked (ready (cmd 0x10 [0, 1, 0, 0, 0]) live) .lp0 = false) :=
  ⟨by decide, by decide, by decide, by decide, by decide, by decide, by decide, by decide, by decide, by decide, by decide, by decide, by decide, by decide, by decide, by decide⟩

/-- The premises of `TapConfigState`, clause by clause, are met. -/
theorem witness_TapConfigState :
    (Runs tapConfigOp (cmd 0x10 tapWs) (tapIn .armed) ∧ ((tapIn .armed).port .lp0).conv.tap.st = .armed) ∧
    (Runs tapConfigOp (cmd 0x10 tapWs) live ∧ (live.port .lp0).conv.tap.st = .idle) ∧
    (Runs tapConfigOp (cmd 0x10 tapWs) (tapIn .aborted) ∧ ((tapIn .aborted).port .lp0).conv.tap.st = .aborted) ∧
    (Runs tapConfigOp (cmd 0x10 [1, 15, 0, 0, 24, 1, 2, 15, 15]) live ∧
      1600 * 2 ^ 8 < tapChans { chMask := 15 } * 384 * tapB {} * 2 ^ (8 - 0)) ∧
    (Runs tapConfigOp (cmd 0x10 tapWs) (tapIn .done) ∧
      tapChans { chMask := 1 } * 384 * tapB { format := 1 } * 2 ^ (8 - 8) ≤ 1600 * 2 ^ 8 ∧ tapSize { bufLog2 := 24 } ≤ 2 ^ 31) ∧
    ((live.port .lp1).conv.tap.configured = false ∧ (live.port .lp1).conv.tap.st = .idle) :=
  ⟨by decide, by decide, by decide, by decide, by decide, by decide⟩

/-- The premises of `ConvEventsRun`, clause by clause, are met. -/
theorem witness_ConvEventsRun :
    (running (advance 0 locked) = true ∧ synthLocked (advance 0 locked) .lp0 = true) ∧
    (due ((clearing.port .lp0).conv.failClear.getD 3 none) (advance 0 clearing).hk = true ∧
      convGood (advance 0 clearing) .lp0 3 = true ∧ running (advance 0 clearing) = true) ∧
    (((clearing.modConv .lp0 fun c => { c with restores := [(3, [1, 2], 0)] }).port .lp0).conv.restores = (3, [1, 2], 0) :: []) ∧
    (((tapIn .armed).port .lp0).conv.tap.st = .armed ∧ ((tapIn .armed).port .lp0).conv.tap.trigger = 0) ∧
    (((tapIn .triggered).port .lp0).conv.tap.st = .triggered ∧ ((tapIn .triggered).port .lp0).conv.tap.mode = 0 ∧
      ((tapIn .triggered).port .lp0).conv.tap.trigAt + (16 - ((tapIn .triggered).port .lp0).conv.tap.pre) * tapSize ((tapIn .triggered).port .lp0).conv.tap / 16 ≤ tapBytes ((tapIn .triggered).port .lp0).conv.tap (advance (secT 60) (tapIn .triggered)).hk) ∧
    (((live.modTap .lp0 fun x => { x with dma := [⟨64, 0, 128⟩] }).port .lp0).conv.tap.dma = ⟨64, 0, 128⟩ :: []) ∧
    ((0 : Nat) < 2 ∧ (tapEvt.port .lp0).conv.tap.st = .armed ∧ (tapEvt.port .lp0).conv.tap.trigger = 2 ∧
      (tapEvt.port .lp0).conv.tap.evtMask.testBit (5 - 2) = true) :=
  ⟨by decide, by decide, by decide, by decide, by decide, by decide, by decide⟩

/-- The premises of `SynthAndLos`, clause by clause, are met. -/
theorem witness_SynthAndLos :
    (((synthIn (.starting 0)).port .lp0).conv.synth = .starting 0 ∧ (0 : Nat) ≤ (advance 0 (synthIn (.starting 0))).hk ∧
      running (advance 0 (synthIn (.starting 0))) = true) ∧
    (((synthIn .unlocked).port .lp1).conv.synth = .unlocked) ∧
    (((locked.modConv .lp0 fun c => { c with synthHold := some 0 }).port .lp0).conv.synth = .locked ∧
      due (some 0) (advance 0 locked).hk = true) ∧
    ((locked.port .lp0).conv.los = false ∧ (locked.port .lp0).conv.synth = .locked ∧
      powerLin [-5000000, -5000000, -5000000, -5000000] < levelLin ((locked.port .lp0).conv.cfg.losThr * 50) ∧
      (locked.port .lp0).conv.cfg.losSet ≤ 1000 ∧ (locked.port .lp0).conv.detSince + usT 1000 ≤ (advance (usT 1000) locked).hk) ∧
    (((locked.modConv .lp0 fun c => { c with los := true }).port .lp0).conv.los = true ∧
      levelLin (((locked.port .lp0).conv.cfg.losThr + (locked.port .lp0).conv.cfg.losHyst) * 50) ≤ powerLin [0, 0, 0, 0] ∧
      10 * (locked.port .lp0).conv.cfg.losClr ≤ 100000 ∧
      (locked.port .lp0).conv.detSince + usT 100000 ≤ (advance (usT 100000) locked).hk) :=
  ⟨by decide, by decide, by decide, by decide, by decide⟩

/-- The premises of `DspCommandsRun`, clause by clause, are met. -/
theorem witness_DspCommandsRun :
    (Runs dspTxConfigOp (cmd 0x10 [0x3FF, 1, 200, 0, 0, 0, 300, 300, 0, 0, 1000]) live ∧
      (sgn 32 ((cmd 0x10 [0x3FF, 1, 200, 0, 0, 0, 300, 300, 0, 0, 1000]).w 13)).natAbs ≤ preMax (portSr (ready (cmd 0x10 [0]) live) .lp0)) ∧
    (Runs dspTxPreemphOp (cmd 0x10 [15, 0, 0, 0, 0, 0, 0, 0, 0]) live ∧ Runs dspRxConfigOp (cmd 0x11 [0]) live ∧
      Runs dspStatusOp (z 0x10 0) live) ∧
    (Runs dspEstimatesOp (cmd 0x10 [0]) live ∧ Runs dspEstimatesOp (cmd 0x10 [1]) warmed ∧
      warmShadow (ready (cmd 0x10 [1]) warmed) .lp0 = true) ∧
    (Runs dspSnrSpectrumOp (cmd 0x10 [1000]) track ∧ inTrack (ready (cmd 0x10 [1000]) track) .lp0 = true) ∧
    (Runs dspProfileStoreOp (cmd 0x10 [15, 0]) track ∧ inTrack (ready (cmd 0x10 [15, 0]) track) .lp0 = true) ∧
    (Runs dspProfileWriteOp (z 0x10 13) live ∧ Runs dspProfileReadOp (cmd 0x10 [16]) live) ∧
    (Runs dspProfileSelectOp (cmd 0x10 [31]) live ∧ Runs dspProfileSelectOp (cmd 0x10 [0]) profiled ∧
      (profileOf (ready (cmd 0x10 [0]) profiled) .lp0 0).valid = true) ∧
    (Runs dspProfileClearOp (cmd 0x10 [0x1FFFF]) live) ∧
    (Runs dspEqReadOp (cmd 0x10 [0, 3]) live ∧ Runs dspEqReadOp (cmd 0x10 [1, 0]) warmed ∧
      warmShadow (ready (cmd 0x10 [1, 0]) warmed) .lp0 = true) ∧
    (Runs dspCountersOp (cmd 0x10 [1]) live) ∧
    (Runs dspAcquireOp (cmd 0x10 [0, 0]) track ∧ inService (ready (cmd 0x10 [0, 0]) track) .lp0 = true ∧
      (track.port .lp0).dsp.acq.st ≠ .idle ∧ (track.port .lp0).dsp.acq.st ≠ .waitSignal) ∧
    (Runs dspAcquireOp (cmd 0x10 [1, 0]) profiled ∧ (profileOf (ready (cmd 0x10 [1, 0]) profiled) .lp0 0).valid = true ∧
      (profiled.port .lp0).dsp.acq.st ≠ .idle) ∧
    (Runs dspEstimatesOp (cmd 0x10 [1]) live ∧ warmShadow (ready (cmd 0x10 [1]) live) .lp0 = false ∧
      Runs dspSnrSpectrumOp (cmd 0x10 [1000]) live ∧ Runs dspProfileStoreOp (cmd 0x10 [15, 0]) live ∧
      inTrack (ready (cmd 0x10 [15, 0]) live) .lp0 = false) ∧
    (Runs dspProfileSelectOp (cmd 0x10 [15]) live ∧ (profileOf (ready (cmd 0x10 [15]) live) .lp0 15).valid = false ∧
      Runs dspEqReadOp (cmd 0x10 [1, 3]) live) ∧
    (Runs dspAcquireOp (cmd 0x10 [0, 0]) live ∧ inService (ready (cmd 0x10 [0, 0]) live) .lp0 = false) ∧
    (Runs dspAcquireOp (cmd 0x10 [1, 5]) track ∧ (profileOf (ready (cmd 0x10 [1, 5]) track) .lp0 5).valid = false) ∧
    (Runs dspAcquireOp (cmd 0x10 [0, 0]) (acqIn .waitSignal false) ∧
      ((acqIn .waitSignal false).port .lp0).dsp.acq.st = .waitSignal ∧
      inService (ready (cmd 0x10 [0, 0]) (acqIn .waitSignal false)) .lp0 = true) :=
  ⟨by decide, by decide, by decide, by decide, by decide, by decide, by decide, by decide, by decide, by decide, by decide, by decide, by decide, by decide, by decide, by decide, by decide⟩

/-- The premises of `AcquisitionRuns`, clause by clause, are met. -/
theorem witness_AcquisitionRuns :
    (running (advance 0 track) = true ∧ (acqOf (advance 0 (acqIn .cma true)) .lp0 false).onProfile = true ∧
      profileBound (acqOf (advance 0 (acqIn .cma true)) .lp0 false).st = some (usT 150) ∧
      (advance (usT 150) (acqIn .cma true)).hk ≤ 0 + usT 150 ∧ 0 + usT 150 ≤ (advance (usT 150) (acqIn .cma true)).hk ∧
      workDone (advance 0 (acqIn .cma true)) .lp0 false found = true) ∧
    ((acqOf (advance 0 (acqIn .freqAcq false)) .lp0 true).onProfile = false ∧
      coldState (acqOf (advance 0 (acqIn .freqAcq false)) .lp0 true).st = true ∧
      (advance (usT 19900) (acqIn .freqAcq false)).hk ≤ 0 + usT 19900 ∧
      0 + usT 19900 ≤ (advance (usT 19900) (acqIn .freqAcq false)).hk ∧
      workDone (advance 0 (acqIn .freqAcq false)) .lp0 true found = true) ∧
    (workDone (advance 0 (acqIn .pilotSync false)) .lp0 false found = true) ∧
    ((acqOf (advance 0 track) .lp0 false).st = .track ∧ (track.port .lp0).dsp.rx.lockHold ≠ 0 ∧
      2 * goodPilots (advance 0 track) .lp0 [goodPilot] < 1024) ∧
    ((acqOf (advance 0 (track.modDsp .lp0 fun d => { d with rx := { d.rx with lockHold := 0 } })) .lp0 false).st = .track ∧
      ((track.modDsp .lp0 fun d => { d with rx := { d.rx with lockHold := 0 } }).port .lp0).dsp.rx.lockHold = 0) ∧
    ((acqOf (advance 0 (acqIn .lockHold false)) .lp0 false).st = .lockHold ∧
      (advance 0 (acqIn .lockHold false)).hk < 0 + usT ((acqIn .lockHold false).port .lp0).dsp.rx.lockHold ∧
      0 + usT ((acqIn .lockHold false).port .lp0).dsp.rx.lockHold ≤ (advance (usT 100) (acqIn .lockHold false)).hk) :=
  ⟨by decide, by decide, by decide, by decide, by decide, by decide⟩

/-- The premises of `DspLoopsRun`, clause by clause, are met. -/
theorem witness_DspLoopsRun :
    (running (advance 0 track) = true ∧ (track.port .lp0).dsp.acq.st = .track ∧ (track.port .lp0).conv.loop = false) ∧
    (((track.modDsp .lp0 fun d => { d with ramping := true, rampTo := -5 }).port .lp0).dsp.ramping = true ∧
      0 + ((-5 : Int) - 0).natAbs * 9600000 ≤ (advance 48000000 track).hk) ∧
    (((track.modDsp .lp0 fun d => { d with rx := { d.rx with skewAuto := 1 } }).port .lp0).dsp.rx.skewAuto = 1 ∧
      (track.port .lp0).dsp.acq.st ≠ .idle ∧ (track.port .lp0).dsp.acq.st ≠ .waitSignal) ∧
    (((track.modMode .lp0 fun m => { m with running := { m.running with nlc := true } }).port .lp0).mode.running.nlc = true ∧
      ((track.modDsp .lp0 fun d => { d with rx := { d.rx with nlcAdapt := 1 } }).port .lp0).dsp.rx.nlcAdapt = 1) ∧
    ((track.port .lp0).dsp.spareAcq.st = .track) ∧
    (((track.modDsp .lp0 fun d => { d with spectrum := [0] }).port .lp0).dsp.spectrum = 0 :: []) ∧
    (due ((track.modDsp .lp0 fun d => { d with cdOut := some 0 }).port .lp0).dsp.cdOut (advance 0 track).hk = true) ∧
    (SMap.wf false track.alarms = true ∧ due (track.port .lp0).dsp.cdOut (advance 0 track).hk = false ∧
      due ((track.modDsp .lp0 fun d => { d with cdIn := some 0 }).port .lp0).dsp.cdIn (advance 0 track).hk = true) ∧
    (due ((track.modDsp .lp0 fun d => { d with dgdWindow := some 0, dgdSum := 9, dgdCount := 0 }).port .lp0).dsp.dgdWindow (advance 0 track).hk = true ∧
      dgdTol (portSr (advance 0 track) .lp0) * 10 * 0 < 9) ∧
    (due ((track.modDsp .lp0 fun d => { d with sopSlow := some 0 }).port .lp0).dsp.sopSlow (advance 0 track).hk = true) ∧
    ((acqOf track .lp0 true).st = .track ∧ (acqOf track .lp0 false).st = .track ∧ 20000 < 20001) :=
  ⟨by decide, by decide, by decide, by decide, by decide, by decide, by decide, by decide, by decide, by decide, by decide⟩

/-- The premises of `SpindleCommandsRun`, clause by clause, are met. -/
theorem witness_SpindleCommandsRun :
    (Runs spnMapOp (z 0x18 0) live ∧ Runs spnPerfConfigOp (cmd 0x18 [0, 0, 0x80000000, 5, 0, 0, 0, 0]) live) ∧
    (Runs spnPerfReadOp (cmd 0x1A [95, 0]) live ∧ centralCause (ready (cmd 0x1A [95, 0]) live) .les = 0 ∧
      bit ((cmd 0x1A [95, 0]).w 4) 0 = false) ∧
    (Runs spnPerfFreezeOp (cmd 0x18 [0, 0, 1, 1]) live ∧ Runs spnReaderOp (cmd 0x19 [1, 10000]) live) ∧
    (Runs spnKernelReserveOp (cmd 0x18 [8]) (kernelIn .loaded false) ∧
      (∀ i, i < 8 → 8 ≤ i → (kernelOf (kernelIn .loaded false) .le0 i).st ≠ .running)) ∧
    (Runs spnKernelLoadOp (cmd 0x18 [6, 0, 1]) (kernelIn .empty false) ∧
      kernelBusy (kernelOf (kernelIn .empty false) .le0 6) = false ∧
      (cmd 0x18 [6, 0, 1]).w 4 = 4 * (kernelOf (kernelIn .empty false) .le0 6).staging.length) ∧
    (Runs spnKernelStartOp (cmd 0x18 [7, 1000]) (kernelIn .loaded false) ∧ ((kernelIn .loaded false).engine .le0).st ≠ .cold ∧
      7 < ((kernelIn .loaded false).engine .le0).k ∧ kernelBusy (kernelOf (kernelIn .loaded false) .le0 7) = false) ∧
    (Runs spnKernelStopOp (cmd 0x18 [7]) (kernelIn .running false) ∧ (kernelOf (kernelIn .running false) .le0 7).st = .running) ∧
    (Runs spnKernelReadOp (cmd 0x18 [7, 8, 1016]) live ∧ Runs spnKernelStatusOp (cmd 0x18 [7]) live) ∧
    (Runs spnCustKeyFuseOp (z 0 12) live ∧ live.sealSt.custKey = none) ∧
    (Runs spnCountersOp (cmd 0x18 [0]) live ∧ bit ((cmd 0x18 [0]).w 3) 0 = false) ∧
    (Runs spnKernelReserveOp (cmd 0x18 [7]) (kernelIn .running false) ∧
      (kernelOf (kernelIn .running false) .le0 7).st = .running ∧ 7 < 8) ∧
    (Runs spnKernelReserveOp (cmd 0x18 [7]) (kernelIn .loaded false) ∧ ((kernelIn .loaded false).engine .le0).k ≠ 7) ∧
    (Runs spnKernelLoadOp (cmd 0x18 [7, 0, 1]) (kernelIn .running false) ∧
      kernelBusy (kernelOf (kernelIn .running false) .le0 7) = true ∧ Runs spnKernelStartOp (cmd 0x18 [7, 1000]) engined ∧
      (engined.engine .le0).k ≤ 7) ∧
    (Runs spnKernelStopOp (cmd 0x18 [7]) (kernelIn .loaded false) ∧ (kernelOf (kernelIn .loaded false) .le0 7).st = .loaded) ∧
    (Runs spnPerfReadOp (cmd 0x18 [95, 1]) engined ∧ bit ((cmd 0x18 [95, 1]).w 4) 0 = true) :=
  ⟨by decide, by decide, by decide, by decide, by decide, by decide, by decide, by decide, by decide, by decide, by decide, by decide, by decide, by decide, by decide⟩

/-- The premises of `SpindleEventsRun`, clause by clause, are met. -/
theorem witness_SpindleEventsRun :
    (running (advance 0 engined) = true ∧ engRuns engined .le0 = true ∧ (spnOf engined .le0 95).role ≠ 6) ∧
    ((spnOf (roleAt 4) .le0 95).role = 4 ∧ 1 ≤ (spnOf (roleAt 4) .le0 95).role ∧ engRuns (roleAt 4) .le0 = true) ∧
    (rotationNext (engined.modEngine .le0 fun e => { e with testAt := some 0 }) .le0 = some 0 ∧
      due ((engined.modEngine .le0 fun e => { e with testAt := some 0 }).engine .le0).testAt (advance 0 engined).hk = true) ∧
    (((engined.modEngine .le0 fun e => { e with moves := [5] }).engine .le0).moves = 5 :: []) ∧
    (((roleAt 1).engine .le0).refresh = 95 :: [] ∧ ((roleAt 1).engine .le0).moves = [] ∧ (roleAt 1).fw.pause = none ∧
      (spnOf (roleAt 1) .le0 95).role = 1 ∧ (spnOf (roleAt 1) .le0 95).build ≠ ucodeBuild (roleAt 1)) ∧
    (bit (spnOf (roleAt 1) .le0 95).perf.due 5 = true) ∧
    (centralCause (advance 0 (engined.modEngine .le0 fun e => { e with central := true })) .le0 ≠ 0 ∧
      sweepDue (advance (secT 1) (engined.modEngine .le0 fun e => { e with central := true })) .le0 = true) ∧
    (due ((engined.modEngine .le0 fun e => { e with recovery := some 0 }).engine .le0).recovery (advance 0 engined).hk = true ∧
      (engined.engine .le0).startup = none) ∧
    (due ((engined.modEngine .le0 fun e => { e with noIdleClear := some 0 }).engine .le0).noIdleClear (advance 0 engined).hk = true ∧
      hasIdle (engined.engine .le0) = true) ∧
    ((kernelOf (kernelIn .running false) .le0 7).st = .running ∧
      (kernelOf (kernelIn .running false) .le0 7).since + msT 1 ≤ (advance (msT 1) (kernelIn .running false)).hk ∧
      (kernelOf (kernelIn .running false) .le0 7).noteUntil ≤ (advance 0 (kernelIn .running false)).hk) ∧
    ((kernelOf ((kernelIn .running false).modEngine .le0 fun e => { e with kernels := [(7, { st := .running, noteUntil := 1 })] }) .le0 7).st = .running ∧
      (advance 0 (kernelIn .running false)).hk < 1) ∧
    ((kernelOf (kernelIn .loaded true) .le0 7).checking = true) :=
  ⟨by decide, by decide, by decide, by decide, by decide, by decide, by decide, by decide, by decide, by decide, by decide, by decide⟩

/-- The premises of `EngineTransitionsEnd`, clause by clause, are met. -/
theorem witness_EngineTransitionsEnd :
    (running (advance 0 track) = true ∧ ((moving .les .toCool .cold none).engine .les).move = .toCool ∧
      restorePower (moving .les .toCool .cold none) .les = false) ∧
    (((moving .le0 .waking .cool none).engine .le0).move = .waking ∧
      ((moving .le0 .waking .cool none).engine .le0).serves = some .lp0 ∧
      inService (moving .le0 .waking .cool none) .lp0 = true) ∧
    (((moving .les .shadowing .cool (some .lp0)).engine .les).shadows = some .lp0 ∧
      ((moving .les .shadowing .cool (some .lp0)).port .lp0).dsp.spareAcq.st = .track ∧
      (moving .les .shadowing .cool (some .lp0)).prot.restore = none ∧
      (moving .les .shadowing .cool (some .lp0)).prot.burn.phase ≠ .acquire) ∧
    (((moving .les .gating .cool none).engine .les).move = .gating ∧ restorePower (moving .les .gating .cool none) .les = false) ∧
    (((moving .les .retaining .warm none).engine .les).move = .retaining ∧
      ((moving .les .retaining .warm none).engine .les).shadows = none) ∧
    (((moving .le0 .waking .cool none).engine .le0).st = .cool ∧
      ((moving .le0 .shadowing .cool none).engine .le0).move = .shadowing) :=
  ⟨by decide, by decide, by decide, by decide, by decide, by decide⟩

/-- The premises of `LineCommandsRun`, clause by clause, are met. -/
theorem witness_LineCommandsRun :
    (Runs fecConfigOp (cmd 0x10 [15, 4, 400, 10, 4096]) live ∧ Runs fecStatusOp (z 0x10 0) live ∧
      (runningPoint live .lp0).zr800 = false ∧ Runs fecHistogramOp (cmd 0x11 [1]) live ∧ Runs fecCountersOp (cmd 0x10 [1]) live) ∧
    (Runs fecHdrReadOp (z 0x10 0) monitored ∧ (monitored.port .lp0).cod.hdr = some (List.replicate 32 0, 0, true, true, 0)) ∧
    (Runs lfConfigOp (cmd 0x10 [31, 0x100, 1, 64, 1, 3]) live ∧ Runs lfTraceSetOp (z 0x10 17) live ∧
      Runs lfTraceGetOp (z 0x10 0) live ∧ Runs lfStatusOp (z 0x11 0) live) ∧
    (Runs pmHistoryReadOp (cmd 0x10 [5, 62]) monitored ∧
      ((monitored.port .lp0).frame.records.head?.map fun r => r.seq) = some 5 ∧
      ((monitored.port .lp0).frame.records.getLast?.map fun r => r.seq) = some 5) ∧
    (Runs pmBinReadOp (cmd 0x10 [0, 0]) monitored ∧ (monitored.port .lp0).frame.bins15.head? = some { first := 0 }) ∧
    (Runs pmConfigOp (cmd 0x10 [2, 0, 50]) live ∧ Runs pmClearOp (cmd 0x10 [7]) live ∧ Runs lfCountersOp (cmd 0x10 [1]) live) ∧
    (Runs fecHistogramOp (cmd 0x10 [0]) zrMode ∧ Runs fecHdrReadOp (z 0x10 0) zrMode ∧ Runs fecStatusOp (z 0x10 0) zrMode ∧
      (runningPoint zrMode .lp0).zr800 = true) ∧
    (Runs fecHdrReadOp (z 0x10 0) live ∧ (live.port .lp0).cod.hdr = none ∧ Runs pmHistoryReadOp (cmd 0x10 [0, 1]) live ∧
      (live.port .lp0).frame.records = []) ∧
    (Runs pmBinReadOp (cmd 0x10 [1, 0]) monitored ∧ ((monitored.port .lp0).frame.bins15.drop 1)[0]? = none) :=
  ⟨by decide, by decide, by decide, by decide, by decide, by decide, by decide, by decide, by decide⟩

/-- The premises of `LineEventsRun`, clause by clause, are met. -/
theorem witness_LineEventsRun :
    (running (advance 0 (lined .hunt)) = true ∧ releases (advance 0 (lined .hunt)) .lp0 = true ∧
      ((lined .hunt).port .lp0).cod.drain = none ∧ ((lined .hunt).port .lp0).cod.spoil = false ∧
      (runningPoint (lined .hunt) .lp0).zr800 = false) ∧
    (releases (advance 0 spoiled) .lp0 = true ∧ (spoiled.port .lp0).cod.spoil = true ∧ (spoiled.port .lp0).cod.drain = none) ∧
    (due ((track.modCod .lp0 fun c => { c with excessClear := some 0 }).port .lp0).cod.excessClear (advance 0 track).hk = true) ∧
    (receives (advance 0 (lined .hunt)) .lp0 = true ∧ (runningPoint (lined .hunt) .lp0).zr800 = false ∧
      ((lined .hunt).port .lp0).frame.align = .hunt) ∧
    ((judgeHeader .lp0 frameHdr (locator 0 0 32 false) 0 (advance 0 (lined .hunt))).1 = true ∧
      (judgeHeader .lp0 [] 0 0 (advance 0 (lined .hunt))).1 = false) ∧
    (((lined .confirm).port .lp0).frame.align = .confirm ∧
      nextNum ((lined .confirm).port .lp0).frame = some (frameNum frameHdr) ∧
      (judgeHeader .lp0 frameHdr (locator 0 0 32 false) 0 (advance 0 (lined .confirm))).1 = true ∧
      receives (advance 0 (lined .confirm)) .lp0 = true) ∧
    (((lined .inFrame).port .lp0).frame.align = .inFrame ∧ receives (advance 0 (lined .inFrame)) .lp0 = true) ∧
    (inService (advance 0 (lined .inFrame)) .lp0 = true ∧ ((lined .inFrame).port .lp0).cod.tx.running = true ∧
      servingEng (lined .inFrame) .lp0 = some .le0 ∧ ((lined .inFrame).engine .le0).st = .active ∧
      ((lined .inFrame).protPort .lp0).tk = none) ∧
    ((runningPoint ((markWindow .lp0 (mapBoundary .lp0 (advance 0 (lined .inFrame)))).modProt fun x => { x with streamBad := false }) .lp0).zr800 = false) ∧
    (due (monitored.port .lp0).frame.lofTimer (advance 0 monitored).hk = true ∧
      due (monitored.port .lp0).frame.inhibit (advance 0 monitored).hk = true ∧ running (advance 0 monitored) = true) ∧
    (monitored.fw.pause = none ∧ ((nextRecord (monitored.port .lp0).frame.records).map fun x => x.1.seq) = some 5) :=
  ⟨by decide, by decide, by decide, by decide, by decide, by decide, by decide, by decide, by decide, by decide, by decide⟩

/-- The premises of `CryptoCommandsRun`, clause by clause, are met. -/
theorem witness_CryptoCommandsRun :
    (Runs keyLockOp (z 0 0) live ∧ Runs keyUnlockOp (z 0 0) live ∧ Runs keyLockOp { z 0 0 with port := .ib0 } (ibState true) ∧
      Runs keyUnlockOp { z 0 0 with port := .ib0 } (ibState true)) ∧
    (live.host.cryptoLock = none ∧ Runs keyLoadOp (cmd 0x10 [3, 1, 0, 0, 0, 0, 0, 0, 0, 0]) live ∧
      Runs keyActivateOp (cmd 0x10 [3]) live ∧ Runs keyEraseOp (cmd 0x10 [15]) live) ∧
    (Runs keyLoadOp (cmd 0x10 [3, 9, 0, 0, 0, 0, 0, 0, 0, 0]) keyed ∧ keyed.host.cryptoLock = some (.pcie, 0) ∧
      tampered keyed = false ∧ slotState (keyed.port .lp0).crypto 3 = 1) ∧
    (∀ i, i < 4 → i ≠ 3 → slotState (keyed.port .lp0).crypto i = 0 ∨ slotId (keyed.port .lp0).crypto i ≠ 9) ∧
    (Runs keyActivateOp (cmd 0x10 [3]) keyed ∧ (keyed.port .lp0).crypto.hs = none ∧ cipherOn keyed .lp0 = true) ∧
    (Runs keyZeroiseOp (z 0 0) live ∧ Runs keyZeroiseOp { z 0 0 with port := .ib0 } (ibState true)) ∧
    (Runs keyEraseOp (cmd 0x10 [15]) keyed ∧ ∀ i, i < 4 → bit 15 i = true → slotState (keyed.port .lp0).crypto i ≠ 2) ∧
    (Runs keyStatusOp (z 0x11 0) live ∧ Runs cipherConfigOp (cmd 0x10 [3, 10000, 1024]) live ∧
      Runs cipherCountersOp (cmd 0x10 [1]) live) ∧
    (keyZeroiseWaits paused (z 0 0) = false ∧
      (paused.host.rxq.get .pcie).length < ((serve keyZeroiseOp (z 0 0) paused).host.rxq.get .pcie).length ∧
      bits ((cmdWords 0x0705 (z 0 0)).getD 1 0).toNat 16 16 = 0x0705 ∧
      bits ((cmdWords 0x0705 (z 0 0)).getD 2 0).toNat 24 8 = 0 ∧
      crc32cWords (cmdWords 0x0705 (z 0 0)).dropLast = (cmdWords 0x0705 (z 0 0)).getLastD 0) :=
  ⟨by decide, by decide, by decide, by decide, by decide, by decide, by decide, by decide, by decide⟩

/-- The premises of `KeyLoadWhileTampered`, clause by clause, are met. -/
theorem witness_KeyLoadWhileTampered :
    (Runs keyLoadOp (cmd 0x10 [3, 9, 0, 0, 0, 0, 0, 0, 0, 0]) tamperedOn ∧ SMap.wf false tamperedOn.alarms = true ∧
      tampered tamperedOn = true ∧ tamperedOn.host.cryptoLock = some (.pcie, 0)) ∧
    (Runs keyLoadOp (cmd 0x10 [3, 9, 0, 0, 0, 0, 0, 0, 0, 0]) keyed ∧ SMap.wf false keyed.alarms = true ∧
      tampered keyed = false ∧ slotState (keyed.port .lp0).crypto 3 ≠ 2) :=
  ⟨by decide, by decide⟩

/-- The premises of `CryptoEventsRun`, clause by clause, are met. -/
theorem witness_CryptoEventsRun :
    (running (advance 0 (shaking shake)) = true ∧ ((shaking shake).port .lp0).crypto.hs = some shake ∧ shake.derived = none ∧
      shake.deadline ≤ (advance 0 (shaking shake)).hk) ∧
    (((keyed.modCrypto .lp0 fun k => { k with deriving_ := some ⟨1, 3, []⟩ }).port .lp0).crypto.deriving_ = some ⟨1, 3, []⟩) ∧
    (((shaking { shake with derived := some sess, armed := true }).port .lp0).crypto.hs = some { shake with derived := some sess, armed := true } ∧
      ((shaking shake).port .lp0).frame.txNum % 16 = 0) ∧
    (((counting (BitVec.ofNat 64 (2 ^ 64 - 2 ^ 32))).port .lp0).crypto.tx = some sess ∧
      ((counting 0).port .lp0).crypto.hs = none ∧
      2 ^ 64 - 2 ^ 32 ≤ ((counting (BitVec.ofNat 64 (2 ^ 64 - 2 ^ 32))).port .lp0).crypto.txCounter.toNat) ∧
    (((counting 0).port .lp0).crypto.exhausted = false ∧
      2 ^ 64 - 16 ≤ ((counting (BitVec.ofNat 64 (2 ^ 64 - 16))).port .lp0).crypto.txCounter.toNat) ∧
    (((keyed.modCrypto .lp0 fun k => { k with cycle := some ([], 0) }).port .lp0).crypto.cycle = some ([], 0)) ∧
    (due ({ keyed with keys := { rngGood := some 0 } } : State).keys.rngGood (advance 0 keyed).hk = true ∧
      keyed.pr.powered = true) :=
  ⟨by decide, by decide, by decide, by decide, by decide, by decide, by decide⟩

/-- The premises of `HostCommandsRun`, clause by clause, are met. -/
theorem witness_HostCommandsRun :
    (Runs hlConfigOp (cmd 0x3F [31, 3, 1, 0, 2, 40]) live ∧ Runs hlStatusOp (z 0x3F 0) live ∧ Runs hpStatusOp (z 0x7F 0) live) ∧
    (Runs hpConfigOp (cmd 0x40 [4095, 1, 4, 2, 24, 1, 24, 1, 255, 1000, 1, 1, 9600]) live ∧
      (isLanePort 0 = true → laneGroupBad (hpOf 0 (cmd 0x40 [4095, 1, 4, 2, 24, 1, 24, 1, 255, 1000, 1, 1, 9600]) (hpCfg live 0)) = none)) ∧
    (lanesHeld live 0 (hpOne 0) = false ∧ slotsOverlap live 0 (hpOne 0) = false) ∧
    (Runs hpRetrainOp (cmd 0x40 [1]) packets ∧ (hpCfg packets 0).enable = true ∧ Runs hpRetrainOp (z 0x5F 1) live ∧
      (hpCfg live 31).enable = false) ∧
    (Runs hpLoopbackOp (cmd 0x40 [3]) packets ∧ Runs hpLoopbackOp (cmd 0x5F [3]) live) ∧
    (Runs hlSynceSelectOp (cmd 0x20 [5, 1]) packets ∧ (laneOwner packets 0).isSome = true ∧
      Runs hlSynceSelectOp (cmd 0x3F [4, 0]) live) ∧
    (Runs hpCountersOp (cmd 0x7F [1]) live) ∧
    (Runs hpConfigOp (cmd 0x41 [4095, 1, 0, 0, 0, 0, 0, 0, 3, 10, 0, 0, 9600]) packets ∧
      (isLanePort 1 && (hpOf 1 (cmd 0x41 [4095, 1, 0, 0, 0, 0, 0, 0, 3, 10, 0, 0, 9600]) (hpCfg packets 1)).enable && lanesHeld packets 1 (hpOf 1 (cmd 0x41 [4095, 1, 0, 0, 0, 0, 0, 0, 3, 10, 0, 0, 9600]) (hpCfg packets 1))) = true) ∧
    (Runs hlSynceSelectOp (cmd 0x3F [4, 1]) live ∧ (laneOwner live 31).isNone = true ∧ bit ((cmd 0x3F [4, 1]).w 4) 0 = true) ∧
    ((loopedUp.hport 0).loopback = 2 ∧ (loopedUp.hport 0).st = .up ∧ Runs hpLoopbackOp (cmd 0x40 [0]) loopedUp ∧
      ((portLanes loopedUp 0).filter fun j => !(loopedUp.lane j).locked) ≠ []) :=
  ⟨by decide, by decide, by decide, by decide, by decide, by decide, by decide, by decide, by decide, by decide⟩

/-- The premises of `HostEventsRun`, clause by clause, are met. -/
theorem witness_HostEventsRun :
    (cdrTracks ⟨0, 0, 0, 0, 0, []⟩ = true ∧ running (advance 0 packets) = true ∧
      ((hpIn .up { locked := true }).lane 0).locked = true ∧ ((hpIn .up {}).lane 0).locked = false) ∧
    (laneOwner (hpIn .up {}) 0 = some 0 ∧ ((hpIn .up { holdEnd := some 1 }).lane 0).holdEnd = some 1 ∧
      (advance 0 packets).hk < 1) ∧
    (((hpIn .localFault { alone := true }).lane 0).holdEnd = none ∧ ((hpIn .localFault { alone := true }).lane 0).alone = true ∧
      ((hpIn .localFault {}).hport 0).st = .localFault ∧ laneOwner (hpIn .localFault {}) 0 = some 0) ∧
    (due ((hpIn .up { holdEnd := some 0 }).lane 0).holdEnd (advance 0 packets).hk = true ∧ ((hpIn .up {}).hport 0).st = .up) ∧
    (((hpIn .training {}).hport 0).st = .training ∧ due ((hpIn .training {}).hport 0).backoff (advance 0 packets).hk = true) ∧
    (((hpIn .training {}).hport 0).attempt = some 0 ∧ 0 + msT 50 ≤ (advance (msT 50) (hpIn .training {})).hk ∧
      running (advance (msT 50) (hpIn .training {})) = true) ∧
    (((hpIn .aligning {}).hport 0).aligning = some 0 ∧ 0 + msT 10 ≤ (advance (msT 10) (hpIn .aligning {})).hk ∧
      running (advance (msT 10) (hpIn .aligning {})) = true) ∧
    (((hpIn .training {}).hport 0).attempt.isSome = true) ∧
    (((hpIn .aligning {}).hport 0).st = .aligning ∧ ((portLanes allLocked 0).all fun j => (allLocked.lane j).locked) = true ∧
      (allLocked.hport 0).st = .aligning ∧ running (advance 0 allLocked) = true) ∧
    (isPacket (hpIn .up {}) 0 = true ∧ ((hpIn .up {}).hport 0).st = .up ∧
      ((hpIn .up {}).hport 0).rfAt + msT 1 ≤ (advance (msT 1) (hpIn .up {})).hk) ∧
    (((hpIn .localFault { holdEnd := some 0 }).lane 0).holdEnd = some 0 ∧ ((hpIn .localFault {}).hport 0).st = .localFault) ∧
    ((loopedUp.hport 0).loopback = 2 ∧ ((loopedUp.modHport 0 fun h => { h with st := .training }).hport 0).st ≠ .up ∧
      ((loopedUp.modHport 0 fun h => { h with st := .training }).hport 0).st ≠ .disabled) :=
  ⟨by decide, by decide, by decide, by decide, by decide, by decide, by decide, by decide, by decide, by decide, by decide, by decide⟩

/-- The premises of `TrafficCommandsRun`, clause by clause, are met. -/
theorem witness_TrafficCommandsRun :
    (Runs tmConfigOp (cmd 0x80 [15, 3600, 1000, 100, 63]) live ∧
      Runs tmSourceConfigOp (cmd 0x80 [127, 65, 1, 4095, 8, 63, 4095, 8, 63]) live) ∧
    (Runs tmPolicerProfileOp (cmd 0x80 [4095, 3300000, 16777215, 3300000, 16777215, 1, 1]) live) ∧
    (Runs flowWriteOp (cmd 0x80 [0, 1, 0]) flowed ∧ findFlow (ready (cmd 0x80 [0, 1, 0]) flowed) (keyOf 0 1) = some 5) ∧
    (Runs flowWriteOp (cmd 0x80 [0, 1, 0]) live ∧ findFlow (ready (cmd 0x80 [0, 1, 0]) live) (keyOf 0 1) = none) ∧
    (Runs flowReadOp (cmd 0x80 [1, 0, 1]) live ∧ namedFlow (ready (cmd 0x80 [1, 0, 1]) live) (cmd 0x80 [1, 0, 1]) = none) ∧
    (Runs flowReadOp (cmd 0x80 [0, 5]) flowed ∧ namedFlow (ready (cmd 0x80 [0, 5]) flowed) (cmd 0x80 [0, 5]) = some 5 ∧
      flowAt (ready (cmd 0x80 [0, 5]) flowed) 5 = some flow1) ∧
    (Runs flowDeleteOp (cmd 0x80 [0, 5]) flowed ∧ (cmd 0x80 [0, 5]).w 3 ≤ 1 ∧ Runs flowDeleteOp (cmd 0x80 [1, 0, 1]) live ∧
      Runs flowDeleteOp (cmd 0x80 [3]) live ∧ 2 ≤ (cmd 0x80 [3]).w 3) ∧
    (namedFlow (ready (cmd 0x80 [0, 5]) flowed) (cmd 0x80 [0, 5]) = some 5 ∧
      namedFlow (ready (cmd 0x80 [1, 0, 1]) live) (cmd 0x80 [1, 0, 1]) = none) ∧
    (Runs tmQueueConfigOp (cmd 0x7F [511, 0x3FF, 30408704, 30408704, 3300000, 16777215, 3300000, 16777215, 1, 1, 100000]) live) ∧
    (∀ x ∈ (pickedQueues 0x7F (cmd 0x7F [511, 0x3FF, 30408704, 30408704, 3300000, 16777215, 3300000, 16777215, 1, 1, 100000])).map fun q => queueCfgOf (cmd 0x7F [511, 0x3FF, 30408704, 30408704, 3300000, 16777215, 3300000, 16777215, 1, 1, 100000]) (queueOf live q).cfg, x.yellow ≤ x.maxDepth ∧
      (x.pir = 0 ∨ x.cir ≤ x.pir)) ∧
    (Runs tmQueueStatusOp (cmd 0x7F [1, 7]) live ∧ Runs tmGateConfigOp (cmd 0x80 [65, 8, 999999999, 1, 1]) live ∧
      Runs tmStatusOp (z 0x80 0) live) ∧
    (Runs tmCountersOp (cmd 0x80 [1]) live ∧ Runs tmCountersOp (cmd 0x7F [1]) live ∧ (cmd 0x7F [1]).target ≠ 0x80) ∧
    (Runs flowReadOp (cmd 0x80 [0, 5]) live ∧ namedFlow (ready (cmd 0x80 [0, 5]) live) (cmd 0x80 [0, 5]) = none) :=
  ⟨by decide, by decide, by decide, by decide, by decide, by decide, by decide, by decide, by decide, by decide, by decide, by decide, by decide⟩

/-- The premises of `TrafficEventsRun`, clause by clause, are met. -/
theorem witness_TrafficEventsRun :
    (running (advance 0 (hpIn .up {})) = true ∧ (hpIn .up {}).tm.since.isSome = true ∧ isPacket (hpIn .up {}) 0 = true ∧
      ((hpIn .up {}).hport 0).st = .up) ∧
    (packetOn packets .lp1 = true ∧ inService packets .lp1 = true) ∧
    (outputFree (advance 0 (gated none)) 65 = true ∧ (gated none).tm.sampleAt ≤ (advance 0 (gated none)).hk) ∧
    ((gateOf (gated none) 65).sched.express < 8 ∧ (gateOf (gated none) 65).sched.entries ≠ [] ∧
      (gateOf (gated none) 65).restartAt = none ∧ (gateOf (gated none) 65).changeAt ≤ (advance 0 (gated none)).hk) ∧
    ((gateOf (gated (some 0)) 65).restartAt = some 0 ∧ 0 ≤ (advance 0 (gated (some 0))).hk) ∧
    (packing (banked .awake) = true ∧ (bankOf (banked .awake) 3).st = .awake ∧ (bankOf (banked .awake) 3).emptyFrom = some 0 ∧
      0 + msT 1 ≤ (advance (msT 1) (banked .awake)).hk ∧ keptAwake (advance (msT 1) (banked .awake)) 0x80 = false ∧
      running (advance (msT 1) (banked .awake)) = true) ∧
    ((bankOf (banked .waking) 3).st = .waking) ∧
    (due (live.modTm fun m => { m with poolLow := some 0 }).tm.poolLow (advance 0 live).hk = true) ∧
    ((banked .awake).tm.since.isSome = true ∧ (gated none).tm.since.isSome = true ∧ (gated (some 0)).tm.since.isSome = true ∧
      ((banked .awake).modTm fun m => { m with poolLow := some 0 }).tm.since.isSome = true) :=
  ⟨by decide, by decide, by decide, by decide, by decide, by decide, by decide, by decide, by decide⟩

/-- The premises of `ProtectionCommandsRun`, clause by clause, are met. -/
theorem witness_ProtectionCommandsRun :
    (Runs protConfigOp (cmd 0 [3, 1, 3600]) live ∧ Runs protStatusOp (z 0x11 0) live ∧ Runs protStatusOp (z 0x1A 0) burnDue ∧
      burnDue.prot.burn.next = some 0) ∧
    (Runs protStatusOp (z 0x90 0) (mated live) ∧ ((mated live).modMate fun m => { m with apsAt := some 0 }).mate.apsAt = some 0) ∧
    (Runs protEngineSwitchOp (z 0x10 0) (guarded .cool none) ∧ inService (guarded .cool none) .lp0 = true ∧
      tkRuns (ready (z 0x10 0) (guarded .cool none)) = false ∧ servingEng (guarded .cool none) .lp0 = some .le0 ∧
      spareKind (guarded .cool none) .lp0 = some 2) ∧
    (spareKind (guarded .warm (some .lp0)) .lp0 = some 1) ∧
    (Runs protEngineRestoreOp (z 0x19 0) heldCold ∧ tkRuns (ready (z 0x19 0) heldCold) = false ∧ heldCold.prot.restore = none ∧
      (heldCold.engine .le1).held = true ∧ (heldCold.engine .le1).st = .cold ∧ (heldCold.engine .le1).move = .none) ∧
    (Runs protSpindleRestoreOp (cmd 0x18 [0, 0, 0x80000000]) outSpindle ∧
      ∀ i ∈ spindleMask (cmd 0x18 [0, 0, 0x80000000]), (spnOf outSpindle .le0 i).role = 6) ∧
    (Runs protSpindleRestoreOp (cmd 0x18 [1, 0, 0x80000000]) outSpindle ∧
      ¬ (∀ i ∈ spindleMask (cmd 0x18 [1, 0, 0x80000000]), (spnOf outSpindle .le0 i).role = 6)) ∧
    (Runs apsConfigOp (cmd 0x10 [127, 255, 1, 1, 1, 3600, 100, 1]) live ∧ 255 ≠ (live.aps .lp1).cfg.group) ∧
    (Runs apsCommandOp (cmd 0x10 [4]) live ∧ (live.aps .lp0).cfg.group = 0 ∧ Runs apsCommandOp (cmd 0x10 [4]) grouped ∧
      (grouped.aps .lp0).cfg.group ≠ 0) ∧
    (Runs protInjectOp (cmd 0 [0, 4, 1]) live ∧ injectValid 0 4 0 = false ∧ Runs protInjectOp (cmd 0x1A [5, 0, 65535]) live ∧
      injectValid 5 0 0x1A = true) ∧
    (Runs protInjectOp (cmd 0 [3, 13, 65535]) live ∧ injectValid 3 13 0 = true ∧
      Runs protInjectOp (cmd 0x10 [6, 0, 65535]) live ∧ injectValid 6 0 0x10 = true) ∧
    (Runs protInjectOp (cmd 0x10 [4, 0, 1]) track ∧ injectValid 4 0 0x10 = true ∧ servingEng track .lp0 = some .le0) ∧
    (Runs protCheckerOp (cmd 0 [1, 0x5F18, 0, 0, 1, 2, 255]) live ∧ checkerPlace (ready (z 0 0) live) 1 0x18 0x5F 0 = true ∧
      Runs protCheckerOp (cmd 0 [13, 0, 0, 0, 1, 2, 255]) live ∧ checkerPlace (ready (z 0 0) live) 13 0 0 0 = false) ∧
    (Runs protCountersOp (cmd 0x18 [1]) live ∧ Runs protCountersOp (cmd 0 [0]) live) ∧
    (Runs protEngineSwitchOp (z 0x10 0) live ∧ inService live .lp0 = false ∧
      Runs protEngineSwitchOp (z 0x10 0) (taking .decided 1) ∧ inService (taking .decided 1) .lp0 = true ∧
      tkRuns (ready (z 0x10 0) (taking .decided 1)) = true) ∧
    (Runs protEngineSwitchOp (z 0x10 0) track ∧ inService track .lp0 = true ∧ tkRuns (ready (z 0x10 0) track) = false ∧
      spareKind track .lp0 = none) ∧
    (Runs protEngineRestoreOp (z 0x19 0) live ∧ (live.engine .le1).held = false ∧
      Runs protEngineRestoreOp (z 0x1A 0) lesDegraded ∧ (lesDegraded.engine .les).held = false ∧
      spareDegraded (ready (z 0x1A 0) lesDegraded) = true ∧ (lesDegraded.engine .les).st ≠ .cold) ∧
    (Runs apsConfigOp (cmd 0x11 [1, 1, 0, 0, 0, 0, 0, 0]) grouped ∧ 1 = (grouped.aps .lp0).cfg.group) :=
  ⟨by decide, by decide, by decide, by decide, by decide, by decide, by decide, by decide, by decide, by decide, by decide, by decide, by decide, by decide, by decide, by decide, by decide, by decide⟩

/-- The premises of `SwitchoversRun`, clause by clause, are met. -/
theorem witness_SwitchoversRun :
    (running (advance 0 track) = true ∧ due (disagreeing.protPort .lp0).disagree (advance 0 disagreeing).hk = true ∧
      disagrees disagreeing .lp0 = true ∧ servingEng disagreeing .lp0 = some .le0) ∧
    (((taking .decided 1).protPort .lp0).tk = some { kind := 1, out := .le0, inn := .les, cause := 7, injected := false, step := .decided, windowEnd := 1 } ∧
      0 + dpT 8 ≤ (advance (dpT 8) (taking .decided 1)).hk) ∧
    (((taking .gap 1).protPort .lp0).tk = some { kind := 1, out := .le0, inn := .les, cause := 7, injected := false, step := .gap, windowEnd := 1 } ∧
      0 + dpT 80 ≤ (advance (dpT 80) (taking .gap 1)).hk ∧ running (advance (dpT 80) (taking .gap 1)) = true) ∧
    (((taking .window 1).protPort .lp0).tk.isSome = true ∧ 1 ≤ (advance 1 (taking .window 1)).hk ∧
      ((taking .hold 2).protPort .lp0).tk.isSome = true ∧ ((taking .hold 2).port .lp0).dsp.acq.st ≠ .profileLoad ∧
      ((taking .released 2).protPort .lp0).tk.isSome = true) ∧
    (testing.prot.restore = some { e := .le1, stage := .test }) ∧
    (due burnDue.prot.burn.next (advance 0 burnDue).now = true ∧ burnDue.prot.burn.enable = 1 ∧ burnDue.pr.power = .service ∧
      burnDue.eng.les.st = .cool ∧ burnDue.eng.les.move = .none ∧ burnDue.eng.les.held = false ∧
      spareAvailable burnDue = true ∧ burnDue.prot.burn.phase = .none ∧ tkRuns (advance 0 burnDue) = false ∧
      burnDue.prot.restore = none) ∧
    ((burning .acquire).prot.burn.phaseEnd ≤ (advance 0 (burning .acquire)).hk ∧ (burning .shadow).prot.burn.phase = .shadow ∧
      (burning .loop).prot.burn.phase = .loop ∧ (burning .leave).prot.burn.phase = .leave) ∧
    (((track.modEngine .le0 fun e => { e with k := 90 }).engine .le0).serves = some .lp0 ∧
      availOf ((track.modEngine .le0 fun e => { e with k := 90 }).engine .le0) < reachCost (track.port .lp0).mode.granted.reach + 4) ∧
    (((taking .window 1).protPort .lp0).tk = some { kind := 1, out := .le0, inn := .les, cause := 7, injected := false, step := .window, windowEnd := 1 } ∧
      (1 : Nat) ≠ 0) :=
  ⟨by decide, by decide, by decide, by decide, by decide, by decide, by decide, by decide, by decide⟩

/-- The premises of `IntegrityEventsRun`, clause by clause, are met. -/
theorem witness_IntegrityEventsRun :
    (running (advance 0 track) = true ∧ linkRuns (advance 0 track) (.chuck .lp0) = true ∧
      SMap.get 0 track.prot.lastReplay (linkKey (.chuck .lp0)) = 0 ∧ linkRuns (advance 0 engined) (.engine .le0 4) = true) ∧
    ((track.modProt fun x => { x with replays := [(linkKey (.chuck .lp0), 0, 0)] }).prot.replays = (linkKey (.chuck .lp0), 0, 0) :: [] ∧
      0 ≤ (advance 0 track).hk) ∧
    (due (SMap.get none (track.modProt fun x => { x with persist := [(0x11, some 0)] }).prot.persist 0x11) (advance 0 track).hk = true) ∧
    (memUnitOk 1 0x1A = true ∧ memRuns engined 1 0x18 = true ∧ memUnitOk 13 0 = true ∧ memRuns live 13 0 = true ∧
      memUnitOk 5 0x11 = true) ∧
    (scrubPeriod 13 = some (msT 10) ∧ SMap.get 0 live.prot.scrubs (13 * 256 + 0) = 0) ∧
    (due ((grouped.modAps .lp0 fun x => { x with wtr := some 0 }).aps .lp0).wtr (advance 0 grouped).now = true) ∧
    (due ((grouped.modAps .lp0 fun x => { x with mismatch := some 0 }).aps .lp0).mismatch (advance 0 grouped).hk = true ∧
      due ((grouped.modAps .lp0 fun x => { x with injSf := some 0 }).aps .lp0).injSf (advance 0 grouped).hk = true) ∧
    ((outSpindle.modProt fun x => { x with spindles := [(.le0, [95])] }).prot.spindles = (.le0, [95]) :: [] ∧
      (spnOf outSpindle .le0 95).role = 6) ∧
    (SMap.get 0 (useParity (.chuck .lp0) 0 replayed).prot.lastReplay (linkKey (.chuck .lp0)) ≠ 0 ∧
      (useParity (.chuck .lp0) 0 replayed).hk < SMap.get 0 (useParity (.chuck .lp0) 0 replayed).prot.lastReplay (linkKey (.chuck .lp0)) - 1 + dpT 64 ∧
      linkRuns (advance 0 replayed) (.chuck .lp0) = true) ∧
    (takeFirst (fun x => x.1 == linkKey (.chuck .lp0) && decide (x.2.1 ≤ 0)) [(linkKey (.chuck .lp0), 0, 0)] = some ((linkKey (.chuck .lp0), 0, 0), [])) ∧
    (takeFirst (fun x => x.1 == Eng.le0) [(Eng.le0, [95])] = some ((Eng.le0, [95]), [])) ∧
    (SMap.get 0 ({ live with prot := { live.prot with scrubs := [(13 * 256, 1)] } } : State).prot.scrubs (13 * 256 + 0) - 1 + msT 10 ≤ (advance (msT 10) live).hk) :=
  ⟨by decide, by decide, by decide, by decide, by decide, by decide, by decide, by decide, by decide, by decide, by decide, by decide⟩

/-- The premises of `MateCommandsRun`, clause by clause, are met. -/
theorem witness_MateCommandsRun :
    (Runs mateConfigOp (cmd 0x90 [15, 1, 2, 1, 255]) live ∧ Runs mateStatusOp (z 0x90 0) live) ∧
    (Runs mateRetrainOp (z 0x90 0) live ∧ live.mate.st = .disabled ∧ Runs mateRetrainOp (z 0x90 0) (mated live) ∧
      (mated live).mate.st ≠ .disabled) ∧
    (Runs mateRetrainOp { z 0x90 0 with port := .mate } (mated live) ∧ (mated live).mate.st ≠ .disabled ∧
      Runs mateRetrainOp (z 0x90 0) (mated live)) ∧
    (Runs mateWakePeerOp (z 0x90 0) live ∧ mateSilent live = false ∧ Runs mateWakePeerOp (z 0x90 0) (silent .training) ∧
      mateSilent (silent .training) = true ∧ (silent .training).mate.st ≠ .disabled ∧
      Runs mateWakePeerOp (z 0x90 0) (silent .disabled) ∧ mateSilent (silent .disabled) = true ∧
      (silent .disabled).mate.st = .disabled) ∧
    (Runs mateMirrorReadOp (cmd 0x90 [255]) live ∧ Runs mateCountersOp (cmd 0x90 [1]) live) :=
  ⟨by decide, by decide, by decide, by decide, by decide⟩

/-- The premises of `MateEventsRun`, clause by clause, are met. -/
theorem witness_MateEventsRun :
    (running (advance 0 (mateIn .up id)) = true ∧ mateHears (advance 0 (mateIn .up id)) = true ∧
      (mateIn .up id).mate.cand = none) ∧
    ((mateIn .up fun m => { m with cand := some (0, 1152, 0) }).mate.cand = some (0, 1152, 0) ∧
      7 * 0 / 192 = 7 * (advance 27 (mateIn .up id)).hk / 192 ∧ 7 * 0 / 192 ≠ 7 * (advance 28 (mateIn .up id)).hk / 192 ∧
      above6dB 2304 1152 = true ∧ above6dB 2298 1152 = false) ∧
    (160 * 192 ≤ ((advance 4389 (mateIn .up id)).hk - 0) * (7 * 2 ^ 0) ∧ running (advance 4389 (mateIn .up id)) = true ∧
      (mateIn .up fun m => { m with cand := some (0, 1152, 0) }).mate.cand.isSome = true) ∧
    ((mateIn .up fun m => { m with cand := some (2, 0, 0) }).mate.cand = some (burst1.rate, 0, 0) ∧ sfdFound burst1.sfd = true ∧
      sfdFound ([-3, -3] ++ burstSfd.drop 2) = true ∧ sfdFound ([-3, -3, 3] ++ burstSfd.drop 3) = false) ∧
    (((mateIn .training fun m => { m with attempt := some 0, backoff := some 0 }).mate.attempt = some 0 ∧
      0 + msT 50 ≤ (advance (msT 50) (mateIn .training id)).hk) ∧
      due (mateIn .training fun m => { m with backoff := some 0 }).mate.backoff (advance 0 (mateIn .training id)).hk = true ∧
      running (advance (msT 50) (mateIn .training id)) = true) ∧
    ((mateIn .resume fun m => { m with resumeFrom := some 0 }).mate.resumeFrom = some 0 ∧ (mateIn .resume id).mate.st = .resume) ∧
    ((mateIn .training fun m => { m with lastGood := some 0 }).mate.lastGood = some 0 ∧
      0 + usT 300 ≤ (advance (usT 300) (mateIn .up fun m => { m with lastGood := some 0 })).hk ∧
      running (advance (usT 300) (mateIn .up fun m => { m with lastGood := some 0 })) = true ∧
      (mateIn .up id).mate.lastGood = none) ∧
    (due (mateIn .training fun m => { m with heartbeat := some 0 }).mate.heartbeat (advance 0 (mateIn .training id)).hk = true ∧
      (mateIn .training id).mate.phase = .confirm ∧ linkTalks (mateIn .up id) = true ∧
      due (mateIn .up fun m => { m with ackDue := some 0 }).mate.ackDue (advance 0 (mateIn .up id)).hk = true) ∧
    ((mateIn .up fun m => { m with unacked := [⟨0, ⟨4, [], 0⟩, 1, 0⟩, ⟨1, ⟨4, [], 0⟩, 0, 0⟩] }).mate.unacked.find? (fun u => decide (u.at_ + usT 20 ≤ (advance (usT 20) (mateIn .up id)).hk)) = some ⟨1, ⟨4, [], 0⟩, 0, 0⟩ ∧
      (mateIn .up id).mate.st = .up ∧ running (advance (usT 20) (mateIn .up id)) = true) ∧
    (due (mateIn .up fun m => { m with wakePeer := some 0 }).mate.wakePeer (advance 0 (mateIn .up id)).hk = true) ∧
    (((mateIn .up id).aps .lp0).cfg.group ≠ 0 ∧ (mateIn .up id).mate.sentMirror.lp0 = none ∧
      ((mateIn .training id).aps .lp0).cfg.group ≠ 0 ∧ (mateIn .training id).mate.st ≠ .up) ∧
    (due (SMap.get none (mateIn .up fun m => { m with mirror := [(255, some 0)] }).mate.mirror 255) (advance 0 (mateIn .up id)).hk = true) ∧
    ((mateIn .up fun m => { m with expect := some (usT 2), asleep := true }).mate.asleep = true ∧
      usT 2 ≤ (advance 0 (mateIn .up id)).hk + usT 2) ∧
    (due (mateIn .up fun m => { m with listenEnd := some 0 }).mate.listenEnd (advance 0 (mateIn .up id)).hk = true ∧
      (mateIn .up id).mate.rxSleep = 1) ∧
    ((mateIn .up fun m => { m with rate := 1, poor := true }).mate.st = .up ∧ isPrimary (mateIn .up id) = true ∧
      0 < (mateIn .up fun m => { m with rate := 1 }).mate.rate ∧
      (mateIn .up fun m => { m with poor := true }).mate.nextRate = none ∧
      (mateIn .up fun m => { m with poor := true }).mate.poor = true) :=
  ⟨by decide, by decide, by decide, by decide, by decide, by decide, by decide, by decide, by decide, by decide, by decide, by decide, by decide, by decide, by decide⟩

/-- The premises of `ClockCommandsRun`, clause by clause, are met. -/
theorem witness_ClockCommandsRun :
    (Runs clkConfigOp (cmd 0xA0 [2047, 1, 3600, 1000, 20000, 500, 495, 200, 10000, 3, 100000, 10000]) live ∧ 495 + 5 ≤ 500) ∧
    (Runs clkCandConfigOp (cmd 0xA0 [3, 3, 15, 800000]) live ∧ Runs clkCandConfigOp (cmd 0xA0 [1, 7, 0]) live ∧
      Runs clkStatusOp (z 0xA0 0) live) ∧
    (Runs clkSelectOp (cmd 0xA0 [0]) live ∧ Runs clkSelectOp (cmd 0xA0 [1, 7]) live ∧ selectable (cand live 7) = false ∧
      Runs clkSelectOp (cmd 0xA0 [2]) live ∧ (steadyWindows live.clk).length < 10 ∧ live.clk.st ≠ .holdover ∧
      Runs clkSelectOp (cmd 0xA0 [1, 7]) (refd { valid := true, qual := true, prio := 1 }) ∧
      selectable (cand (refd { valid := true, qual := true, prio := 1 }) 7) = true) ∧
    (Runs clkSelectOp (cmd 0xA0 [2]) steady ∧ 10 ≤ (steadyWindows steady.clk).length) ∧
    (Runs clkOutConfigOp (cmd 0xA0 [15, 1, 1, 1, 800000, 7]) live ∧ Runs clkCountersOp (cmd 0xA0 [1]) live) ∧
    (Runs ppsConfigOp (cmd 0xA0 [31, 1, 0, 1, 999999, 500000]) live ∧ live.clk.pps.edge = 0 ∧
      Runs ppsConfigOp (cmd 0xA0 [1, 0]) live) :=
  ⟨by decide, by decide, by decide, by decide, by decide, by decide⟩

/-- The premises of `ClockEventsRun`, clause by clause, are met. -/
theorem witness_ClockEventsRun :
    (running (advance 0 live) = true ∧ (cand live 3).valid = false ∧
      delivering (advance 0 live) 0 (some ((cand live 0).freq * 1001 / 1000)) = true ∧
      delivering (advance 0 live) 0 (some ((cand live 0).freq * 1001 / 1000 + 1)) = false ∧ (cand live 0).valid = false) ∧
    ((cand (refd { valid := true }) 7).valid = true ∧ delivering (advance 0 (refd { valid := true })) 7 none = false ∧
      delivering (advance 0 track) 7 none = false ∧ delivering (advance 0 track) 6 none = true ∧ (cand track 6).valid = false) ∧
    (due (live.modClk fun k => { k with windowAt := some 0 }).clk.windowAt (advance 0 live).now = true) ∧
    (due (cand (refd { wtr := some 0 }) 7).wtr (advance 0 live).hk = true) ∧
    ((live.modClk fun k => { k with switching := some 2 }).clk.switching = some 2 ∧ live.clk.modeNext = none) ∧
    ((live.modClk fun k => { k with st := .acquiring }).clk.st = .acquiring ∧ live.clk.switching = none ∧
      (-100 : Int).natAbs ≤ 100) ∧
    (budgetSpent (advance (aonT 1) (live.modClk fun k => { k with st := .holdover, entered := some 0, budget := some 1 })) = true) ∧
    (live.clk.pps.inEn = 1 ∧ 100 ≤ 100 ∧ live.clk.lastEdge = none) ∧
    (within ((advance (secT 1 + usT 100) live).now - 0) (secT 1 - usT 100) (secT 1 + usT 100) = true ∧
      within ((advance (secT 1 - usT 100 - 1) live).now - 0) (secT 1 - usT 100) (secT 1 + usT 100) = false ∧
      running (advance (secT 1 + usT 100) live) = true ∧ live.clk.present = false ∧
      secT 1 + usT 100 < (advance (secT 1 + usT 100 + 1) live).now - 0) ∧
    (ppsOn.clk.present = true ∧ ppsOn.clk.lastEdge = some 0 ∧ 0 + (secT 1 + usT 100) ≤ (advance (secT 1 + usT 100) ppsOn).now) ∧
    (ppsOn.clk.pps.outEn = 1 ∧ ppsOn.clk.ppsOut = false ∧ due ppsOn.clk.riseAt (advance 0 ppsOn).now = true ∧
      due (ppsOn.modClk fun k => { k with ppsOut := true }).clk.fallAt (advance 0 ppsOn).now = true) ∧
    (ppsOn.clk.nextTick = some 0 ∧ 0 ≤ (advance 0 ppsOn).now ∧ ppsOn.clk.st ≠ .holdover) :=
  ⟨by decide, by decide, by decide, by decide, by decide, by decide, by decide, by decide, by decide, by decide, by decide, by decide⟩

/-- The premises of `MonitorCommandsRun`, clause by clause, are met. -/
theorem witness_MonitorCommandsRun :
    (Runs monChanConfigOp (cmd 0xB0 [7, 22, 1, 65535, 65535]) live ∧
      Runs monSeqConfigOp (cmd 0xB0 [63, 3, 1, 1, 3, 200000000, 16, 0x7D0001F]) live ∧ isOwned live 3 = false ∧
      (conv live 3).running = false ∧ isOwned ownedMon 3 = true) ∧
    (Runs monSeqConfigOp (cmd 0xB0 [63, 3, 1, 1, 3, 200000000, 16, 0x7D0001F]) ownedMon ∧
      Runs monInjConfigOp (cmd 0xB0 [15, 3, 2, 200000000, 4, 0x7D0001F]) live ∧
      Runs monInjConfigOp (cmd 0xB0 [15, 3, 2, 200000000, 4, 0x7D0001F]) ownedMon) ∧
    (Runs monDecimConfigOp (cmd 0xB0 [31, 3, 8, 0x44444444, 0xFFFFFFFF, 7, 4]) live ∧
      Runs monDecimConfigOp (cmd 0xB0 [31, 3, 8, 0x44444444, 0xFFFFFFFF, 7, 4]) ownedMon ∧
      Runs monDecimConfigOp (cmd 0xB0 [0, 0]) live) ∧
    (Runs monControlOp (cmd 0xB0 [15, 2]) ownedMon ∧ ownedMon.mon.owned = true ∧ bit ((cmd 0xB0 [15, 2]).w 3) 3 = true) ∧
    (Runs monControlOp (cmd 0xB0 [15, 1]) live ∧ (live.mon.owned && bit ((cmd 0xB0 [15, 1]).w 3) 3) = false ∧
      Runs monDecimResetOp (z 0xB0 0) live) ∧
    (Runs monCalibrateOp (cmd 0xB0 [15]) ownedMon ∧ Runs monCalibrateOp (cmd 0xB0 [15]) live ∧
      Runs monInjReadOp (cmd 0xB0 [3]) live) ∧
    (Runs monBufConfigOp (cmd 0xB0 [127, 0, 1024, 0, 0, 0, 0xFFFFFFFF, 1, 200000000]) live ∧
      runningMask (ready (cmd 0xB0 []) live) = 0 ∧ 1024 + 0 + 0 + 0 ≤ 1024) ∧
    (Runs monBufReadOp (cmd 0xB0 [3, 1016, 1]) live ∧ Runs monBufDmaOp (cmd 0xB0 [3, 64, 1, 16]) live ∧
      Runs monStatusOp (z 0xB0 0) live ∧ Runs monCountersOp (cmd 0x11 [1]) live) ∧
    (Runs monSeqConfigOp (cmd 0xB0 [0, 3]) (mc { running := true }) ∧ isOwned (mc { running := true }) 3 = false ∧
      (conv (mc { running := true }) 3).running = true ∧ Runs monBufConfigOp (cmd 0xB0 [0, 0]) (mc { running := true }) ∧
      runningMask (mc { running := true }) ≠ 0 ∧ runningMask live = 0) ∧
    (Runs monCalibrateOp (cmd 0xB0 [0]) live ∧ Runs monBufDmaOp (cmdSpi 0xB0 [3, 64, 1, 16]) live ∧
      Runs monBufDmaOp (cmd 0xB0 [0, 0, 0, 0]) live) :=
  ⟨by decide, by decide, by decide, by decide, by decide, by decide, by decide, by decide, by decide, by decide⟩

/-- The premises of `MonitorEventsRun`, clause by clause, are met. -/
theorem witness_MonitorEventsRun :
    (running (advance 0 live) = true ∧ (conv (mc { running := true, trigger := 1 }) 3).running = true ∧
      (conv (mc { running := true, trigger := 1 }) 3).trigger = 1 ∧ isOwned (mc {}) 3 = false ∧
      (conv (mc {}) 3).timerAt ≤ (advance 0 live).hk) ∧
    (monAsleep (advance 0 (mc { running := true, trigger := 1 })) 3 = false ∧
      monAsleep (advance 0 (mc { running := true, trigger := 1, pdMode := 1 })) 3 = true) ∧
    (3 ∈ convs4 ∧ (conv (mc { running := true, trigger := 3 }) 3).running = true ∧
      (conv (mc { running := true, trigger := 3 }) 3).trigger = 3 ∧ live.mon.groupAt ≤ (advance 0 live).hk) ∧
    ((conv (mc { injTrigger := 1, injPending := true }) 3).injTrigger = 1 ∧
      (conv (mc { injTrigger := 1, injPending := true }) 3).injAt ≤ (advance 0 live).hk ∧
      (conv (mc { injPending := true }) 3).injPending = true ∧ (mc {}).mon.convs.length = 4 ∧
      (conv (mc {}) 3).injPending = false) ∧
    ((conv (mc { act := .regular 15 }) 3).actEnd ≤ (advance 0 live).hk ∧
      (conv (mc { act := .regular 15 }) 3).act = .regular 15 ∧ (conv (mc { act := .injected 3 }) 3).act = .injected 3) ∧
    ((conv (injectedDone 3 0 65535 (advance 0 (mc { act := .injected 0, injCount := 4, injPending := true }))) 3).act ≠ .idle ∧
      (conv (injectedDone 3 3 65535 (advance 0 (mc { act := .injected 3, injCount := 4, injPending := true }))) 3).act = .idle) ∧
    ((conv (mc { act := .calibrating }) 3).act = .calibrating ∧ withinI (-256) (-256) 256 = true ∧
      withinI 2000 (-2000) 2000 = true ∧ (withinI 257 (-256) 256 && withinI 0 (-2000) 2000) = false) ∧
    ((live.modMon fun m => { m with dma := [(3, 64, 16)] }).mon.dma = (3, 64, 16) :: []) ∧
    (monAsleep (injFirst 0 (advance 0 (mc { running := true, trigger := 1 })) 3) 3 = false ∧
      monAsleep (injFirst 0 (advance 0 (mc { running := true, trigger := 1, pdMode := 1 })) 3) 3 = true) :=
  ⟨by decide, by decide, by decide, by decide, by decide, by decide, by decide, by decide, by decide⟩

/-- The premises of `BiasRuns`, clause by clause, are met. -/
theorem witness_BiasRuns :
    (Runs biasConfigOp (cmd 0x10 [1024, 8, 0, 0, 0, 0, 0, 0, 0, 0, 0, 0, 2500]) live ∧
      Runs biasConfigOp (cmd 0x10 [1023, 7, 1, 2500, 2500, 2499, 2500, 100, 2000, 1, 23, 65535]) live) ∧
    (Served (cmd 0x10 [8, 7, 0, 0, 0, 2500]) live ∧ isLpT (cmd 0x10 [8, 7, 0, 0, 0, 2500]).target = true ∧
      2 ≤ (cmd 0x10 [8, 7, 0, 0, 0, 2500]).params.length ∧
      biasConfigOp.badParam (ready (cmd 0x10 [8, 7, 0, 0, 0, 2500]) live) (cmd 0x10 [8, 7, 0, 0, 0, 2500]) = none ∧
      (cmd 0x10 [8, 7, 0, 0, 0, 2500]).w 4 ≠ 8 ∧
      pick5 (cmd 0x10 [8, 7, 0, 0, 0, 2500]) 4 (biasOut live .lp0 7).maxMv ≤ pick5 (cmd 0x10 [8, 7, 0, 0, 0, 2500]) 3 (biasOut live .lp0 7).minMv ∧
      bit ((cmd 0x10 [8, 7, 0, 0, 0, 2500]).w 3) 3 = true) ∧
    (Served (cmd 0x10 [16, 7, 0, 0, 0, 0, 0]) live ∧ isLpT (cmd 0x10 [16, 7, 0, 0, 0, 0, 0]).target = true ∧
      2 ≤ (cmd 0x10 [16, 7, 0, 0, 0, 0, 0]).params.length ∧
      biasConfigOp.badParam (ready (cmd 0x10 [16, 7, 0, 0, 0, 0, 0]) live) (cmd 0x10 [16, 7, 0, 0, 0, 0, 0]) = none ∧
      (cmd 0x10 [16, 7, 0, 0, 0, 0, 0]).w 4 ≠ 8 ∧
      pick5 (cmd 0x10 [16, 7, 0, 0, 0, 0, 0]) 4 (biasOut live .lp0 7).maxMv ≤ pick5 (cmd 0x10 [16, 7, 0, 0, 0, 0, 0]) 3 (biasOut live .lp0 7).minMv ∧
      bit ((cmd 0x10 [16, 7, 0, 0, 0, 0, 0]).w 3) 3 = false) ∧
    (Runs biasStatusOp (z 0x11 0) live ∧ running (advance 0 served) = true ∧ inService (advance 0 served) .lp0 = true ∧
      served.fw.pause = none ∧ (biasPort served .lp0).updateAt ≤ (advance 0 served).hk) ∧
    (paused.fw.pause ≠ none ∧ inService (advance 0 live) .lp0 = false) ∧
    ((biasOut (biasIn 2 { st := .ramp, rampEnd := some 0 }) .lp0 2).st = .ramp ∧
      due (biasOut (biasIn 2 { st := .ramp, rampEnd := some 0 }) .lp0 2).rampEnd (advance 0 served).hk = true ∧
      isQuad 2 = true ∧ childrenLocked (biasIn 2 {}) .lp0 2 = false) ∧
    (isQuad 7 = false ∧ (biasOut (biasIn 7 { st := .ramp, rampEnd := some 0 }) .lp0 7).st = .ramp) ∧
    ((biasOut (biasIn 7 { st := .hold, acquireFrom := some 0 }) .lp0 7).st = .hold ∧
      (biasOut (biasIn 7 { st := .hold, acquireFrom := some 0 }) .lp0 7).acquireFrom = some 0 ∧
      0 + msT 500 ≤ (advance (msT 500) (biasIn 7 {})).hk ∧ running (advance (msT 500) (biasIn 7 {})) = true) ∧
    ((biasOut (biasIn 7 { holdFrom := some 0 }) .lp0 7).holdFrom = some 0 ∧ 0 + msT 10 ≤ (advance (msT 10) (biasIn 7 {})).hk) ∧
    ((biasOut (biasIn 7 { lightFrom := some 0 }) .lp0 7).holdFrom = none ∧
      (biasOut (biasIn 7 { lightFrom := some 0 }) .lp0 7).lightFrom = some 0) :=
  ⟨by decide, by decide, by decide, by decide, by decide, by decide, by decide, by decide, by decide, by decide⟩

/-- The premises of `FirmwareCommandsRun`, clause by clause, are met. -/
theorem witness_FirmwareCommandsRun :
    (Runs fwLockOp (z 0 0) live ∧ Runs fwUnlockOp (z 0 0) live ∧ Runs fwStatusOp (cmd 0 [1]) live ∧
      Runs cfgStatusOp (z 0 0) live) ∧
    (Runs fwUpdateBeginOp (cmd 0 [33554432]) live ∧ holdsUpdate (ready (z 0 0) live) (cmd 0 [33554432]) = false) ∧
    (Runs fwUpdateBeginOp (cmd 0 [512]) updating ∧ holdsUpdate (ready (z 0 0) updating) (cmd 0 [512]) = true ∧
      updating.fw.trial = none ∧ updating.fw.ending = none ∧ updating.fw.activation = none ∧
      bootRomReads (ready (z 0 0) updating) .pcie = false) ∧
    (Runs fwUpdateBeginOp (cmd 0 [512]) onTrial ∧ holdsUpdate (ready (z 0 0) onTrial) (cmd 0 [512]) = true ∧
      onTrial.fw.trial.isSome = true) ∧
    (Runs fwUpdateChunkOp (cmd 0 [8, 1]) (session [1] 8) ∧ (session [1] 8).fw.session = some ⟨8, [1]⟩ ∧
      (cmd 0 [8, 1]).w 3 ≠ 4 * 1) ∧
    (Runs fwUpdateChunkOp (cmd 0 [4, 1]) (session [1] 8) ∧ (cmd 0 [4, 1]).w 3 = 4 * 1 ∧ 4 * (1 + 1) ≤ 8) ∧
    (Runs fwUpdateChunkOp (cmd 0 (0 :: List.replicate 128 0)) (session [] 512) ∧ 4 * 128 ≤ 512 ∧
      packageFault false (ready (z 0 0) (session [] 512)) 512 (List.replicate 128 0) = some 0x0110) ∧
    (Runs fwUpdateEndOp (z 0 0) (session [1] 8) ∧ 4 * 1 ≠ 8 ∧ Runs fwUpdateEndOp (z 0 0) (session [1, 1] 8) ∧ 4 * 2 = 8 ∧
      Runs fwUpdateAbortOp (z 0 0) (session [1] 8)) ∧
    (Runs fwActivateOp (cmd 0 [1, 86400]) updating ∧ updating.fw.runBank ≠ 1 ∧ updating.fw.staged = none ∧
      updating.fw.pause = none) ∧
    (Runs fwConfirmOp (z 0 0) onTrial ∧ onTrial.fw.trial = some { bank := 1, expiry := 1 } ∧ (ready (z 0 0) onTrial).now < 1 ∧
      1 ≤ (ready { z 0 0 with dt := 1 } onTrial).now ∧ Runs fwConfirmOp { z 0 0 with dt := 1 } onTrial) ∧
    (Runs cfgSaveOp (z 0 0) updating ∧ Runs cfgSaveOp (z 0 0) onTrial) ∧
    (Runs cfgClearOp (z 0 0) updating ∧ Runs cfgClearOp (z 0 0) onTrial ∧ Runs cfgPolicyOp (cmd 0 [1, 1]) updating) ∧
    (Runs fwLockOp (ib (z 0 0)) ibOn ∧ Runs fwUnlockOp (ib (z 0 0)) ibOn ∧ (ib (z 0 0)).port = .ib0) ∧
    (holdsUpdate (ready (z 0 0) live) (z 0 0) = false ∧ Runs fwUpdateChunkOp (cmd 0 [4, 1]) live ∧
      Runs fwUpdateEndOp (z 0 0) live ∧ Runs fwUpdateAbortOp (z 0 0) live ∧ Runs fwActivateOp (cmd 0 [1, 0]) live) ∧
    (Runs fwConfirmOp (z 0 0) live ∧ Runs cfgSaveOp (z 0 0) live ∧ Runs cfgClearOp (z 0 0) live ∧
      Runs cfgPolicyOp (cmd 0 [1, 1]) live) ∧
    (Runs fwUpdateBeginOp (cmd 0 [512]) (updating.modFw fun f => { f with ending := some ⟨8, []⟩ }) ∧
      (updating.modFw fun f => { f with ending := some ⟨8, []⟩ }).fw.ending.isSome = true) ∧
    (updating.fw.session = none ∧ Runs fwUpdateChunkOp (cmd 0 [4, 1]) updating ∧ Runs fwUpdateEndOp (z 0 0) updating ∧
      Runs fwUpdateAbortOp (z 0 0) updating ∧ holdsUpdate (ready (z 0 0) updating) (z 0 0) = true) ∧
    (Runs fwActivateOp (cmd 0 [1, 0]) onTrial ∧ onTrial.fw.trial.isSome = true ∧
      Runs fwActivateOp (cmd 0 [1, 0]) (updating.modFw fun f => { f with activation := some ⟨1, 600, false⟩ }) ∧
      bankValid updating.fw 1 = false ∧ Runs fwConfirmOp (z 0 0) updating) ∧
    (Runs fwActivateOp (cmd 0 [1, 86400]) updating ∧ updating.fw.staged = none) ∧
    (bootRomReads (advance 0 downloading) .spi = true ∧ downloading.host.rxq.get .spi = [] ∧ Direct (cmdSpi 0 [512]) ∧
      checks fwUpdateBeginOp (cmdSpi 0 [512]) false (lockActivity .spi (advance 0 downloading)) = none ∧
      downloading.fw.trial = none ∧ downloading.fw.ending = none ∧ downloading.fw.activation = none) ∧
    (bootRomReads (advance 0 (downSession 8 [1])) .spi = true ∧
      checks fwUpdateChunkOp (cmdSpi 0 [4, 1]) false (lockActivity .spi (advance 0 (downSession 8 [1]))) = none ∧
      (downSession 8 [1]).fw.session = some ⟨8, [1]⟩ ∧ (cmdSpi 0 [4, 1]).w 3 = 4 * 1 ∧
      checks fwUpdateEndOp (cmdSpi 0 []) false (lockActivity .spi (advance 0 (downSession 4 [1]))) = none) :=
  ⟨by decide, by decide, by decide, by decide, by decide, by decide, by decide, by decide, by decide, by decide, by decide, by decide, by decide, by decide, by decide, by decide, by decide, by decide, by decide, by decide, by decide⟩

/-- The premises of `FirmwareEventsRun`, clause by clause, are met. -/
theorem witness_FirmwareEventsRun :
    (running (advance 0 live) = true ∧ (recInForce live.fw).seq < 2 ^ 32 ∧ slotInForce live.store = none) ∧
    ((ending 0x0E03 fun f => { f with ending := some ⟨512, []⟩ }).fw.ending = some ⟨512, []⟩ ∧
      pendingOn (ending 0x0E03 id) 0x0E03 0 = true ∧ live.pr.boot ≠ .download true true ∧ live.fw.pause = none) ∧
    ((ending 0x0E04 fun f => { f with activation := some ⟨1, 600, false⟩ }).fw.activation = some ⟨1, 600, false⟩ ∧
      pendingOn (ending 0x0E04 id) 0x0E04 0 = true ∧ bankImage (ending 0x0E04 id).fw 1 = none) ∧
    ((swapping 0 none).fw.pause = some { cause := 0, since := 0, reason := none } ∧
      (swapping 0 none).fw.activation = some ⟨1, 600, true⟩ ∧ (advance (msT 40) (swapping 0 none)).hk ≤ 0 + msT 40 ∧
      0 + msT 40 ≤ (advance (msT 40) (swapping 0 none)).hk ∧ running (advance (msT 40) (swapping 0 none)) = true ∧
      (swapping 0 none).fw.staged = some (1, img)) ∧
    ((swapping 1 (some 4)).fw.pause = some { cause := 1, since := 0, reason := some 4 } ∧
      (swapping 1 (some 4)).fw.fallback = some (0, img)) ∧
    (trialOver (advance 1 onTrial) = true ∧ umciaReads (wakeBy 5 (advance 1 onTrial)) = true ∧ onTrial.fw.pause = none) ∧
    ((ending 0x0E05 fun f => { f with trial := some { bank := 1, expiry := 1 }, running := some img }).fw.trial = some { bank := 1, expiry := 1 } ∧
      pendingOn (ending 0x0E05 id) 0x0E05 0 = true) ∧
    (({ ending 0x0E0A id with store := { writing := [{}] } } : State).store.writing = {} :: [] ∧
      pendingOn (ending 0x0E0A id) 0x0E0A 0 = true ∧ slotAFirst ({} : Store) = false ∧
      slotAFirst { a := some ⟨1, 0, 0, {}⟩ } = true) ∧
    (pendingOn (ending 0x0E0B id) 0x0E0B 0 = true ∧ (ending 0x0E0B id).fw.pause = none) ∧
    (({ ending 0x0E03 fun f => { f with ending := some ⟨512, []⟩ } with pr := downloading.pr } : State).pr.boot = .download true true ∧
      running (advance 0 { ending 0x0E03 fun f => { f with ending := some ⟨512, []⟩ } with pr := downloading.pr }) = true) :=
  ⟨by decide, by decide, by decide, by decide, by decide, by decide, by decide, by decide, by decide, by decide⟩

/-- The premises of `SealCommandsRun`, clause by clause, are met. -/
theorem witness_SealCommandsRun :
    (Runs sealDeviceOp (cmd 0 [0x5345414C, Config.deviceId]) live ∧ jtagPrivate live.sealSt.jtagIr = false ∧
      unsignedKernel (ready (z 0 0) live) = false) ∧
    (Runs sealDeviceOp (cmd 0 [0x5345414C, Config.deviceId]) privateIr ∧ jtagPrivate privateIr.sealSt.jtagIr = true ∧
      unsignedKernel (ready (z 0 0) (kernelIn .running false)) = true ∧
      jtagPrivate (kernelIn .running false).sealSt.jtagIr = false ∧
      Runs sealDeviceOp (cmd 0 [0x5345414C, Config.deviceId]) (kernelIn .running false)) ∧
    (running (advance 0 (ending 0x0F01 id)) = true ∧ pendingOn (ending 0x0F01 id) 0x0F01 0 = true ∧
      Runs sealStatusOp (z 0 0) live) ∧
    (Runs dbgMemReadOp (cmd 0 [5, 0x10, 0, 0, 1]) live ∧ Runs dbgMemReadOp (cmd 0 [1, 0x18, 0, 0, 1]) live ∧
      Runs dbgMemWriteOp (cmd 0 [5, 0x10, 0, 0, 1, 1, 1]) live ∧ Runs dbgMemWriteOp (cmd 0 [1, 0x18, 0, 0, 1, 1, 1]) live) ∧
    (isSealed sealedDev = true ∧ running (advance 0 sealedDev) = true ∧ isSealed live = false) ∧
    (Runs sealDeviceOp (ib (cmd 0 [0x5345414C, Config.deviceId])) ibOn ∧ (ib (z 0 0)).port ≠ .pcie ∧ (ib (z 0 0)).port ≠ .spi) ∧
    ((cmd 0 [5, 0x10, 0, 0, 1]).w 3 = 5 ∧ (cmd 0 [1, 0x18, 0, 0, 1]).w 3 ≠ 5 ∧ live.prot.checker = [] ∧
      SMap.wf {} (live.engine (engOfT 0x18)).spindles = true ∧ SMap.wf 0 (spnOf live (engOfT 0x18) 0).mem = true) :=
  ⟨by decide, by decide, by decide, by decide, by decide, by decide, by decide⟩

/-- The premises of `FirstFailedCheck`, clause by clause, are met. -/
theorem witness_FirstFailedCheck :
    (Served (z 0x11 0) live ∧ (z 0x11 0).target ≠ 0xFE ∧ (z 0x11 0).target ≠ 0xFF ∧ devEchoOp.targets 0x11 = false ∧
      devEchoOp.targets 0 = true) ∧
    (Served (z 0 1) live ∧ (16 % 16) &&& (15 ^^^ devEchoOp.flags) = 0 ∧
      ({ z 0 0 with flags := 1 }.flags % 16) &&& (15 ^^^ devEchoOp.flags) ≠ 0) ∧
    (Served (z 0x10 0) keyed ∧ (z 0x10 0).params.length < keyLoadOp.nparams ∧
      keyLoadOp.badParam (ready (z 0x10 10) keyed) (z 0x10 10) = some 4) ∧
    (Served (cmd 0x10 [3]) keyed ∧ keyEraseOp.badParam (ready (cmd 0x10 [3]) keyed) (cmd 0x10 [3]) = none ∧
      keyEraseOp.lock = some .crypto ∧ lockHolder (ready { cmd 0x10 [3] with port := .spi } keyed) .crypto = some (.pcie, 0) ∧
      Port.pcie ≠ (cmdSpi 0x10 [3]).port) ∧
    (sealDeviceOp.sealable = true ∧ isSealed sealedDev = true ∧ isSealed live = false ∧ Served (z 0x18 0) live) ∧
    (256 ≤ (ready { z 0x10 0 with flags := 4 } (staged 256)).host.staged.length ∧
      ({ z 0x10 0 with flags := 4 } : Cmd).flag 2 = true ∧ ({ z 0x10 0 with flags := 4 } : Cmd).flag 1 = false) ∧
    (Served (cmd 0x10 [8, 7, 0, 0, 0, 2500]) live ∧ biasConfigOp.targets 0x10 = true ∧
      biasConfigOp.resLen (ready (cmd 0x10 [8, 7, 0, 0, 0, 2500]) live) 0x10 (cmd 0x10 [8, 7, 0, 0, 0, 2500]) ≤ 1020 ∧
      biasConfigOp.badParam (ready (cmd 0x10 [8, 7, 0, 0, 0, 2500]) live) (cmd 0x10 [8, 7, 0, 0, 0, 2500]) = none ∧
      biasConfigOp.unitBad (ready (cmd 0x10 [8, 7, 0, 0, 0, 2500]) live) 0x10 (cmd 0x10 [8, 7, 0, 0, 0, 2500]) = some 8) :=
  ⟨by decide, by decide, by decide, by decide, by decide, by decide, by decide⟩

/-- The premises of `AlarmsAndCounters`, clause by clause, are met. -/
theorem witness_AlarmsAndCounters :
    (State.reset.canonical = true ∧ raised State.reset 0x8712 0 0 = false ∧
      raised (raiseAlarm 0x8712 0 0 [] State.reset) 0x8712 0 0 = true ∧ (1 : Nat) ≠ alarmKey 0x8712 0 0) := by
  decide

/-- The premises of `PolicerColours`, clause by clause, are met. -/
theorem witness_PolicerColours :
    ((profileOfTm awarePol 1).aware = true ∧
      (police awarePol 1 { c := 1518 * 1024, p := 1518 * 1024, at_ := 0 } 1518 .green).1 = .green ∧
      (police awarePol 1 { c := 1518 * 1024 - 1, p := 1518 * 1024, at_ := 0 } 1518 .green).1 = .yellow ∧
      (police awarePol 1 { c := 0, p := 0, at_ := 0 } 1518 .green).1 = .red ∧ (profileOfTm awarePol 1).pbs < 2001) := by
  decide


/-- The premises of `FaultLatchHolds` and of the last clause of `FaultCauses` are met. -/
theorem witness_FaultLatchHolds : Latched faulted ∧ ∃ t, exec (.thermalTrip 0) faulted = .next t :=
  ⟨⟨by decide, by decide, by decide, by decide, by decide⟩, _, rfl⟩

/-- SHA-384 of an empty kernel body is what its header carries, so the check of R168 passes. -/
theorem witness_SpindleEventsRun_kernel :
    kernelCheck (kernelIn .loaded true) (kernelOf (kernelIn .loaded true) .le0 7) = some 0 := by
  have h : (sha384 []).length = 12 := by simp [sha384]
  have e : kernelOf (kernelIn .loaded true) .le0 7 = { st := .loaded, checking := true, staging := kernelWords, watchdogMs := 1 } := rfl
  rw [e]
  have b : kernelBody { st := .loaded, checking := true, staging := kernelWords, watchdogMs := 1 } = [] := by
    simp [kernelBody, kernelLen, kernelWords, h]
  have k : kernelHash { st := .loaded, checking := true, staging := kernelWords, watchdogMs := 1 } = sha384 [] := by
    simp [kernelHash, kernelWords, h]
  have o : kernelHeaderOk { st := .loaded, checking := true, staging := kernelWords, watchdogMs := 1 } = true := by
    simp [kernelHeaderOk, kernelLen, kernelWords, h, within, bits]
  have g : kernelSigType { st := .loaded, checking := true, staging := kernelWords, watchdogMs := 1 } = 0 := by
    simp [kernelSigType, kernelWords, bits]
  have z : isSealed (kernelIn .loaded true) = false := by decide
  simp [kernelCheck, b, k, o, g, z]

/-- The header of an empty image with TAG words `tag`: it is signed or not as the opaque verification says. -/
def imgHdr (tag : List Word) : List Word :=
  [0x55464D55#32, 1, Config.deviceId, 0, 0, 0, 0, 0, 0] ++ sha384 [] ++ List.replicate 16 0 ++ tag ++ List.replicate 87 0

/-- Where its signature verifies, the header passes Table 16.4 and step 4 of Table 16.2. -/
theorem witness_FirmwareCommandsRun_header (tag : List Word)
    (h : Config.imageSignatureOk (hdrWords (imgHdr tag) 2 20) (hdrWords (imgHdr tag) 41 52) (hdrWords (imgHdr tag) 53 64) = true) :
    packageFault false (session [] 512) 512 (imgHdr tag) = none ∧
    bankValid { bank1 := { whole := true, hdr := imgHdr tag, body := [] } } 1 = true := by
  have n : (sha384 []).length = 12 := by simp [sha384]
  have a21 : hdrW (imgHdr tag) 21 = 0 := by
    simp [hdrW, imgHdr, n]
  have a : hdrW (imgHdr tag) 0 = 0x55464D55 ∧ hdrW (imgHdr tag) 1 = 1 ∧ hdrW (imgHdr tag) 2 = 0x3240 ∧ hdrW (imgHdr tag) 3 = 0 ∧
      hdrW (imgHdr tag) 5 = 0 ∧ hdrW (imgHdr tag) 7 = 0 := ⟨rfl, rfl, rfl, rfl, rfl, rfl⟩
  obtain ⟨a0, a1, a2, a3, a5, a7⟩ := a
  constructor
  · simp only [packageFault, a0, a1, a2, a3, a5, a7, a21, h]
    simp [bits, Config.deviceId, Config.siliconRev, session, updating]
    decide
  · simp only [bankValid, headerOk, flashBank, if_neg (show (1 : Nat) ≠ 0 by decide), a0, a2, a3, a5, h]
    decide

/-- The image's length and hash are what its header says. -/
theorem imgHdr_target (tag : List Word) : targetOkImage (imgHdr tag) [] = true := by
  have n : (sha384 []).length = 12 := by simp [sha384]
  have e : hdrWords (imgHdr tag) 9 20 = sha384 [] := by
    apply List.ext_getElem
    · simp [hdrWords, n]
    · intro i hi hj
      have k : (imgHdr tag).getD (9 + i) 0 = (sha384 [] ++ List.replicate 16 0 ++ tag ++ List.replicate 87 0).getD i 0 := by
        rw [Nat.add_comm, imgHdr]
        simp
      simp only [hdrWords, List.getElem_map, List.getElem_range, k, List.append_assoc]
      rw [List.getD_eq_getElem?_getD, List.getElem?_append_left hj, List.getElem?_eq_getElem hj]
      rfl
  have w7 : hdrW (imgHdr tag) 7 = 0 := rfl
  simp [targetOkImage, e, w7]

/-- Where also its TAG fits under the device's keys, the image loads from the bank, and its package is good. -/
theorem witness_FirmwareEventsRun_image (tag : List Word) (l : tag.length = 4)
    (h : Config.imageSignatureOk (hdrWords (imgHdr tag) 2 20) (hdrWords (imgHdr tag) 41 52) (hdrWords (imgHdr tag) 53 64) = true)
    (d : openBody Config.deviceKey (imgHdr tag) [] = some []) (u : openBody Config.updateKey (imgHdr tag) [] = some []) :
    bankImage { bank1 := { whole := true, hdr := imgHdr tag, body := [] } } 1 = some ⟨imgHdr tag, []⟩ ∧
    packageImage live ⟨512, imgHdr tag⟩ = (0, []) := by
  have n : (sha384 []).length = 12 := by simp [sha384]
  have m : (imgHdr tag).length = 128 := by simp [imgHdr, n, l]
  have k : bits (hdrW (imgHdr tag) 1) 8 8 = 0 := by
    rw [show hdrW (imgHdr tag) 1 = 1 from rfl]
    decide
  constructor
  · simp only [bankImage, (witness_FirmwareCommandsRun_header tag h).2, if_true, flashBank,
      if_neg (show (1 : Nat) ≠ 0 by decide), d, imgHdr_target]
  · have t : (imgHdr tag).take 128 = imgHdr tag := List.take_of_length_le (by omega)
    have v : (imgHdr tag).drop 128 = [] := List.drop_of_length_le (by omega)
    simp [packageImage, t, v, u, k, imgHdr_target]

/-- Pilot lock is regained with 768 of the last 1,024 pilots as sent. -/
theorem witness_AcquisitionRuns_pilots : 3 * 1024 ≤ 4 * goodPilots track .lp0 (List.replicate 768 goodPilot) := by
  decide +kernel

/-- The all-zero codeword converges in one pass, one with a single 1 does not. -/
theorem witness_LineEventsRun_codeword :
    (nativeResult 32 10 ((lined .hunt).port .lp0).cod {}).conv = true ∧
    (nativeResult 32 10 ((lined .hunt).port .lp0).cod { out := 1 }).conv = false := by
  decide +kernel

/-- The premises of `MateEventsRun` on candidates and bursts are met. -/
theorem witness_MateEventsRun_candidate :
    isCandidate (preamble 2) = true ∧ preambleCorr (preamble 2) = 2304 ∧ preambleCorr (preamble 1) = 1152 := by decide +kernel

theorem witness_MateEventsRun_burst :
    burstGood (burstBack burst1.syms) = true ∧ burstGood (burstBack burst0.syms) = false := by decide +kernel

/-- A unit refuses a command at check 12. -/
theorem witness_FirstFailedCheck_refusal :
    Served (z 0x90 0) live ∧ mateWakePeerOp.run (ready (z 0x90 0) live) 0x90 (z 0x90 0) =
      refuse (ready (z 0x90 0) live) stBadState 0x0100 := ⟨by decide, rfl⟩

end Sys2Proof.Tests
end

section
/-!
PROOFS. What leaves the receive queues.
-/
namespace Sys2Proof.Machine
open Sys2Proof

/-- A fold of operations each of which is related to its outcome by a reflexive, transitive relation. -/
theorem foldl_related {α : Type} {r : State → State → Prop} (refl : ∀ s, r s s)
    (trans : ∀ {s t u}, r s t → r t u → r s u) {f : State → α → State} (h : ∀ s a, r s (f s a)) (l : List α) (s : State) :
    r s (l.foldl f s) := by
  induction l generalizing s with
  | nil => exact refl s
  | cons a l ih => exact trans (h s a) (ih _)

/-! ### readQueues: the receive queues change, and replies are sent -/

/-- `s` with the receive queues of `t`. -/
def rxqAs (s t : State) : State := { s with host := { s.host with rxq := t.host.rxq } }

/-- From `s` to `t` packets left the receive queues, replies were sent or queued, and nothing else happened. -/
def Reads (s t : State) : Prop := Sends (rxqAs s t) t

theorem Sends.reads {s t : State} (h : Sends s t) : Reads s t := by
  have e : rxqAs s t = s := by unfold rxqAs; rw [h.host_rxq]
  unfold Reads
  rwa [e]

theorem Reads.trans {s t u : State} (h : Reads s t) (k : Reads t u) : Reads s u := by
  have e : sentAs (rxqAs (sentAs (rxqAs s t) t) u) u = sentAs (rxqAs s u) u := rfl
  unfold Reads Sends at h k ⊢
  rw [h, e] at k
  exact k

theorem Reads.refl (s : State) : Reads s s := rfl

theorem reads_modHost_rxq (s : State) (q : HostIf → PerPort (List RxPkt)) :
    Reads s (s.modHost fun h => { h with rxq := q h }) := rfl

theorem reads_answerFaulty (p : Port) (s : State) : Reads s (answerFaulty p s) := by
  unfold answerFaulty
  refine (reads_modHost_rxq s _).trans (Sends.foldl _ (fun u k => ?_) _ _).reads
  split
  · exact sends_sendReply _ _ _
  · exact .refl u

/-- Everything `readQueues` can do. -/
theorem reads_readQueues (s : State) : Reads s (readQueues s) :=
  (foldl_related Reads.refl Reads.trans (fun u p => reads_answerFaulty p u) _ _).trans (sends_pump _).reads

theorem Reads.pr {s t : State} (h : Reads s t) : t.pr = s.pr :=
  Sends.pr (s := rxqAs s t) h
theorem Reads.lp {s t : State} (h : Reads s t) : t.lp = s.lp :=
  Sends.lp (s := rxqAs s t) h
theorem Reads.eng {s t : State} (h : Reads s t) : t.eng = s.eng :=
  Sends.eng (s := rxqAs s t) h
theorem Reads.host_syncReject {s t : State} (h : Reads s t) : t.host.syncReject = s.host.syncReject :=
  Sends.host_syncReject (s := rxqAs s t) h
theorem Reads.host_staged {s t : State} (h : Reads s t) : t.host.staged = s.host.staged :=
  Sends.host_staged (s := rxqAs s t) h

@[simp] theorem readQueues_pr (s : State) : (readQueues s).pr = s.pr := (reads_readQueues s).pr
@[simp] theorem readQueues_lp (s : State) : (readQueues s).lp = s.lp := (reads_readQueues s).lp
@[simp] theorem readQueues_eng (s : State) : (readQueues s).eng = s.eng := (reads_readQueues s).eng
@[simp] theorem readQueues_host_syncReject (s : State) : (readQueues s).host.syncReject = s.host.syncReject :=
  (reads_readQueues s).host_syncReject
@[simp] theorem readQueues_host_staged (s : State) : (readQueues s).host.staged = s.host.staged :=
  (reads_readQueues s).host_staged

end Sys2Proof.Machine
end

section
/-!
PROOFS. What a wake source does (R22, R23, R29, R30).
-/
namespace Sys2Proof.Machine
open Sys2Proof

/-- Time passing changes neither the power state nor what a wake depends on. -/
@[simp] theorem inReset_advance (dt : Nat) (s : State) : inReset (advance dt s) = inReset s := by simp [inReset]
@[simp] theorem running_advance (dt : Nat) (s : State) : running (advance dt s) = running s := by simp [running, inDark]

theorem wakeBy_of_masked {b : Nat} {s : State} (hb : b ≠ 5) (m : s.pr.wakeMask.testBit b = false) : wakeBy b s = s := by
  simp [wakeBy, hb, m]

section
variable {b : Nat} {s : State} (hp : s.pr.powered = true) (hr : inReset s = false) (hf : s.pr.phase ≠ .fault)
include hp hr hf

/-- An enabled source in DARK begins the wake, or is added to the causes of the one in progress (R23). -/
theorem wakeBy_of_dark (hb : b ≠ 5) (m : s.pr.wakeMask.testBit b = true) (he : s.pr.sleepEntry = false)
    (hd : s.pr.power = .dark) :
    wakeBy b s = s.modPr fun r => { r with
      waking := true, wakeCause := if r.waking then r.wakeCause ||| 2 ^ b else 2 ^ b, wakeTimer := none } := by
  cases hw : s.pr.waking <;> simp [wakeBy, inDark, State.modPr, hp, hr, hf, hb, m, he, hd, hw]

/-- An enabled source between the DEV_SLEEP reply and DARK abandons the entry (R22). -/
theorem wakeBy_of_entry (hb : b ≠ 5) (m : s.pr.wakeMask.testBit b = true) (he : s.pr.sleepEntry = true) :
    wakeBy b s = readQueues (emit 0x8011 0 [w32 (2 ^ b)] (s.modPr fun r => { r with
      sleepEntry := false, cmdReady := true, wakeCause := 2 ^ b, wakeTimer := none })) := by
  simp [wakeBy, hp, hr, hf, hb, m, he]

end

/-- Outside DARK, its entry and its wake, no source does anything. -/
theorem wakeBy_of_awake {b : Nat} {s : State} (he : s.pr.sleepEntry = false) (hw : s.pr.waking = false)
    (hd : s.pr.power ≠ .dark) : wakeBy b s = s := by
  simp [wakeBy, inDark, he, hw, hd]

/-! ### The wake sources of Table 1.12 as commands -/

/-- The command of wake source `b`: SYNC, SPI, PCIe, mate, AON wake timer (Table 1.12). -/
def wakeSource (dt b : Nat) : Instr :=
  if b = 0 then .syncEdgeWake dt else if b = 1 then .spiCsWake dt else if b = 2 then .pcieWake dt
  else if b = 3 then .mateWakeSequenceDetected dt else .aonWakeTimerExpiry dt

theorem wakeSource_three (dt : Nat) : wakeSource dt 3 = .mateWakeSequenceDetected dt := rfl
theorem wakeSource_four (dt : Nat) : wakeSource dt 4 = .aonWakeTimerExpiry dt := rfl

theorem exec_mateWakeSequenceDetected (dt : Nat) (s : State) :
    exec (.mateWakeSequenceDetected dt) s = .next (
      let u := wakeBy 3 (advance dt s)
      if running u && !u.pr.waking then u.modMate fun m => { m with asleep := false } else u) := rfl

theorem exec_aonWakeTimerExpiry (dt : Nat) (s : State) :
    exec (.aonWakeTimerExpiry dt) s = .next (
      let a := advance dt s
      if a.pr.powered && due a.pr.wakeTimer a.now then
        let u := a.modPr fun r => { r with wakeTimer := none }
        if u.pr.sleepEntry then u else wakeBy 4 u
      else a) := rfl

/-- The SYNC, SPI and PCIe sources do what `wakeBy` does. -/
theorem exec_wakeSource_pin {b : Nat} (hb : b < 3) (dt : Nat) (s : State) :
    exec (wakeSource dt b) s = .next (wakeBy b (advance dt s)) := by
  obtain rfl | rfl | rfl : b = 0 ∨ b = 1 ∨ b = 2 := by omega
  all_goals rfl

/-- So does a wake sequence, which may wake the mate receiver besides. -/
theorem exec_wakeSource_untimed {b : Nat} (hb : b < 4) (dt : Nat) (s : State) :
    ∃ f : Mate → Mate, exec (wakeSource dt b) s = .next ((wakeBy b (advance dt s)).modMate f) := by
  by_cases h3 : b < 3
  · exact ⟨id, exec_wakeSource_pin h3 dt s⟩
  · obtain rfl : b = 3 := by omega
    rw [wakeSource_three, exec_mateWakeSequenceDetected]
    dsimp only
    split
    · exact ⟨_, rfl⟩
    · exact ⟨id, rfl⟩

/-- An expiry of the AON wake timer ends it, and is a wake source outside the entry to DARK (R29). -/
theorem exec_aonWakeTimerExpiry_of_due {dt : Nat} {s : State} (hp : s.pr.powered = true)
    (hd : due s.pr.wakeTimer (advance dt s).now = true) :
    exec (.aonWakeTimerExpiry dt) s = .next (
      let u := (advance dt s).modPr fun r => { r with wakeTimer := none }
      if s.pr.sleepEntry then u else wakeBy 4 u) := by
  simp [exec_aonWakeTimerExpiry, hp, hd]

section
variable {b dt : Nat} {s : State} (hp : s.pr.powered = true) (hr : inReset s = false) (hf : s.pr.phase ≠ .fault)
include hp hr hf

/-- Every enabled source that fires in DARK has the same effect: the wake, with its cause. -/
theorem exec_wakeSource_of_dark (hb : b < 4 ∨ b = 4 ∧ due s.pr.wakeTimer (advance dt s).now = true)
    (m : s.pr.wakeMask.testBit b = true) (he : s.pr.sleepEntry = false) (hd : s.pr.power = .dark) :
    exec (wakeSource dt b) s = .next ((advance dt s).modPr fun r => { r with
      waking := true, wakeCause := if r.waking then r.wakeCause ||| 2 ^ b else 2 ^ b, wakeTimer := none }) := by
  rcases hb with hb | ⟨rfl, ht⟩
  · have dark := wakeBy_of_dark (b := b) (s := advance dt s) (by simpa using hp) (by simpa using hr) (by simpa using hf)
      (by omega) (by simpa using m) (by simpa using he) (by simpa using hd)
    obtain h3 | rfl : b < 3 ∨ b = 3 := by omega
    · rw [exec_wakeSource_pin h3, dark]
    · rw [wakeSource_three, exec_mateWakeSequenceDetected, dark]
      simp
  · have dark := wakeBy_of_dark (b := 4) (s := (advance dt s).modPr fun r => { r with wakeTimer := none })
      (by simpa using hp) (by simpa [inReset] using hr) (by simpa using hf) (by omega) (by simpa using m)
      (by simpa using he) (by simpa using hd)
    rw [wakeSource_four, exec_aonWakeTimerExpiry_of_due hp ht]
    simp only [he, Bool.false_eq_true, if_false, dark]
    rfl

/-- A source other than the AON wake timer abandons the entry to DARK (R22). -/
theorem exec_wakeSource_of_entry (hb : b < 4) (m : s.pr.wakeMask.testBit b = true) (he : s.pr.sleepEntry = true) :
    ∃ t, exec (wakeSource dt b) s = .next t ∧
      t.pr = { s.pr with sleepEntry := false, cmdReady := true, wakeCause := 2 ^ b, wakeTimer := none } ∧
      t.lp = s.lp ∧ t.eng = s.eng ∧ t.host.syncReject = s.host.syncReject := by
  obtain ⟨f, h⟩ := exec_wakeSource_untimed hb dt s
  rw [wakeBy_of_entry (s := advance dt s) (by simpa using hp) (by simpa using hr) (by simpa using hf) (by omega)
    (by simpa using m) (by simpa using he)] at h
  exact ⟨_, h, by simp⟩

end

/-- A masked wake sequence does nothing in DARK, where the mate receiver is off. -/
theorem exec_mateWake_of_masked_dark {dt : Nat} {s : State} (m : s.pr.wakeMask.testBit 3 = false)
    (hd : s.pr.power = .dark) : exec (.mateWakeSequenceDetected dt) s = .next (advance dt s) := by
  have off : (running s && !s.pr.waking) = false := by cases hw : s.pr.waking <;> simp [running, inDark, hd, hw]
  rw [exec_mateWakeSequenceDetected, wakeBy_of_masked (by omega) (by simpa using m)]
  simp [off]

/-- The expiry of the AON wake timer lapses in the entry to DARK, where it is masked, and outside DARK (R29). -/
theorem exec_aonWakeTimerExpiry_lapses {dt : Nat} {s : State} (hp : s.pr.powered = true)
    (ht : due s.pr.wakeTimer (advance dt s).now = true)
    (h : s.pr.sleepEntry = true ∨ s.pr.wakeMask.testBit 4 = false ∨ (s.pr.power ≠ .dark ∧ s.pr.waking = false)) :
    exec (.aonWakeTimerExpiry dt) s = .next ((advance dt s).modPr fun r => { r with wakeTimer := none }) := by
  rw [exec_aonWakeTimerExpiry_of_due hp ht]
  cases he : s.pr.sleepEntry
  case true => rfl
  case false =>
    rcases h with h | m | ⟨hd, hw⟩
    · simp [he] at h
    · simp [wakeBy_of_masked, m]
    · simp [wakeBy_of_awake, he, hd, hw]

/-- Outside DARK, its entry and its wake a wake sequence wakes the mate receiver (Table 1.11). -/
theorem exec_mateWake_of_awake {dt : Nat} {s : State} (h : running (advance dt s) = true) (he : s.pr.sleepEntry = false)
    (hw : s.pr.waking = false) (hd : s.pr.power ≠ .dark) :
    exec (.mateWakeSequenceDetected dt) s = .next ((advance dt s).modMate fun m => { m with asleep := false }) := by
  rw [exec_mateWakeSequenceDetected, wakeBy_of_awake (by simpa using he) (by simpa using hw) (by simpa using hd)]
  simp_all

/-- Settles O21: the wake sources share `wakeBy`, which in DARK adds the source to the causes and outside it does nothing. -/
theorem wakeSources : Obligations.WakeSources := by
  unfold Obligations.WakeSources
  intro dt s hp hr hf
  refine ⟨fun b hb m he hd => ⟨_, exec_wakeSource_of_dark hp hr hf hb m he hd, by simp [hd]⟩, fun b hb m he => ?_,
    fun b hb m => ?_, exec_mateWake_of_masked_dark, exec_aonWakeTimerExpiry_lapses hp, exec_mateWake_of_awake⟩
  · obtain ⟨t, ht, hpr, keeps⟩ := exec_wakeSource_of_entry (dt := dt) hp hr hf hb m he
    exact ⟨t, ht, by simp [hpr, keeps]⟩
  · exact (exec_wakeSource_pin hb dt s).trans (by rw [wakeBy_of_masked (by omega) (by simpa using m)])

/-! ### SYNC in DARK (R30) -/

/-- A pulse that is not decoded only leaves the pin low (R30). -/
theorem exec_sync_of_not_decoded {w dt : Nat} {s : State} (h : syncDecodes w (advance dt s) = false) {i : Instr}
    (hi : i = .syncDecimReset w dt ∨ i = .syncTrigger w dt ∨ i = .syncCommit w dt ∨ i = .syncPulseRejected w dt) :
    exec i s = .next ((advance dt s).modPr fun r => { r with syncHigh := false }) := by
  rcases hi with rfl | rfl | rfl | rfl
  · simp [exec, execSyncDecimReset, h, syncLow]
  · simp [exec, execSyncTrigger, h, syncLow]
  · simp [exec, execSyncCommit, h, syncLow]
  · simp [exec, execSyncPulseRejected, h, syncLow]

theorem syncDecodes_of_not_ready {w : Nat} {s : State} (h : s.pr.cmdReady = false) : syncDecodes w s = false := by
  simp [syncDecodes, h]

/-- A pulse that began before the command-ready that ended the wake is not decoded. -/
theorem syncDecodes_of_begun_before {w t : Nat} {s : State} (h : s.pr.readyAt = some t) (hw : s.now < t + w * 192) :
    syncDecodes w s = false := by
  simp [syncDecodes, h, hw]

/-- Settles O22: before command-ready, and for a pulse that began before it, `syncDecodes` is false. -/
theorem syncInDark : Obligations.SyncInDark := by
  unfold Obligations.SyncInDark
  intro w dt s hp hr hf he
  refine ⟨fun _ t ht hw i hi => exec_sync_of_not_decoded (syncDecodes_of_begun_before (by simpa using ht) hw) hi,
    fun hc hd => ?_⟩
  have silent (n : Nat) : syncDecodes n (advance dt s) = false := syncDecodes_of_not_ready (by simpa using hc)
  refine ⟨fun i hi => exec_sync_of_not_decoded (silent w) hi, ?_, fun hw m => ?_⟩
  · simp [exec, execSyncHighTimeout, silent]
  · refine (exec_wakeSource_of_dark hp hr hf (b := 0) (by omega) m he hd).trans ?_
    simp [State.modPr, hw]

end Sys2Proof.Machine
end

section
/-!
PROOFS. DARK and command-ready are reached (R19, R22, R24, R407): what the units' parts in it leave alone.
-/
namespace Sys2Proof.Machine
open Sys2Proof

/-! ### The clock unit: its state, its alarms, packets and free values change, nothing else -/

/-- `s` with the clock unit, the alarms and the free-value count of `t`. -/
def clkAs (s t : State) : State := { s with clk := t.clk, alarms := t.alarms, freeCtr := t.freeCtr }

/-- From `s` to `t` the clock unit acted. -/
def Clocks (s t : State) : Prop := Sends (clkAs s t) t

theorem Clocks.refl (s : State) : Clocks s s := rfl

theorem Clocks.trans {s t u : State} (h : Clocks s t) (k : Clocks t u) : Clocks s u := by
  have e : sentAs (clkAs (sentAs (clkAs s t) t) u) u = sentAs (clkAs s u) u := rfl
  unfold Clocks Sends at h k ⊢
  rw [h, e] at k
  exact k

theorem Clocks.ite {c : Prop} [Decidable c] {s t u : State} (h : Clocks s t) (k : Clocks s u) :
    Clocks s (if c then t else u) := by split <;> assumption

theorem Alarms.clocks {s t : State} (h : Alarms s t) : Clocks s t := by
  have e : clkAs s t = { s with alarms := t.alarms } := by unfold clkAs; rw [h.clk, h.freeCtr]
  unfold Clocks
  rw [e]
  exact h

theorem Sends.clocks {s t : State} (h : Sends s t) : Clocks s t := h.alarms_of.clocks

theorem clocks_modClk (s : State) (f : Clk → Clk) : Clocks s (s.modClk f) := rfl

theorem clocks_ctrAdd (s : State) (k n : Nat) : Clocks s (ctrAdd s k n) := (sends_ctrAdd s k n).clocks

theorem clocks_alarmIf (b : Bool) (code target sub : Nat) (data : List Word) (s : State) :
    Clocks s (alarmIf b code target sub data s) := (alarms_alarmIf b code target sub data s).clocks

theorem clocks_clkAlarms (s : State) : Clocks s (clkAlarms s) := by
  unfold clkAlarms
  exact ((clocks_alarmIf _ _ _ _ _ s).trans ((Clocks.refl _).ite (alarms_clearAlarm _ _ _ _ _).clocks)).trans
    (clocks_alarmIf _ _ _ _ _ _)

theorem clocks_setClk (st : ClkSt) (c : Option Nat) (cause : Word) (s : State) : Clocks s (setClk st c cause s) := by
  unfold setClk
  refine (Clocks.refl s).ite ?_
  exact ((clocks_modClk s _).trans ((Clocks.refl _).ite (clocks_ctrAdd _ _ _))).trans
    ((sends_emit _ _ _ _).clocks.trans (clocks_clkAlarms _))

theorem clocks_checkBudget (s : State) : Clocks s (checkBudget s) := (clocks_alarmIf _ _ _ _ _ _).ite (.refl s)

theorem clocks_enterHoldover (cause : Word) (s : State) : Clocks s (enterHoldover cause s) := by
  unfold enterHoldover
  refine (clocks_setClk _ _ _ _).ite ?_
  exact (((clocks_modClk s _).trans (clocks_ctrAdd _ _ _)).trans (clocks_setClk _ _ _ _)).trans (clocks_checkBudget _)

theorem clocks_ppsAbsent (s : State) : Clocks s (ppsAbsent s) := by
  unfold ppsAbsent
  refine Clocks.ite ?_ (clocks_modClk _ _)
  exact ((clocks_modClk s _).trans (clocks_ctrAdd _ _ _)).trans ((alarms_raiseAlarm _ _ _ _ _).clocks.ite (.refl _))

/-- Everything the clock unit does on the entry to DARK. -/
theorem clocks_clkDark (s : State) : Clocks s (clkDark s) := by
  unfold clkDark
  exact ((clocks_ppsAbsent s).trans (clocks_modClk _ _)).trans ((clocks_enterHoldover _ _).ite (.refl _))

theorem clocks_candAvg (c : Cand) (s : State) : Clocks s (candAvg c s).2 := by
  unfold candAvg
  split <;> rfl

theorem clocks_setCand (i : Nat) (c : Cand) (s : State) : Clocks s (setCand i c s) := by
  unfold setCand
  refine ((clocks_modClk s _).trans (Clocks.ite ?_ (.refl _))).trans (clocks_alarmIf _ _ _ _ _ _)
  exact (clocks_candAvg _ _).trans (sends_emit _ _ _ _).clocks

/-- Everything the clock unit does on the way to command-ready. -/
theorem clocks_restartCands (s : State) : Clocks s (restartCands s) := by
  unfold restartCands
  exact (((clocks_setClk _ _ _ _).ite (.refl s)).trans (clocks_modClk _ _)).trans
    (foldl_related Clocks.refl Clocks.trans (fun u i => clocks_setCand _ _ u) _ _)

theorem clocks_endManual (s : State) : Clocks s (endManual s) := by
  unfold endManual
  split
  · exact (Clocks.refl s).ite (clocks_modClk _ _)
  · exact .refl s

theorem clocks_reselect (cause : Nat) (s : State) : Clocks s (reselect cause s) := by
  unfold reselect
  exact (clocks_endManual s).trans ((clocks_modClk _ _).ite (.refl _))

theorem clocks_candLost (i : Nat) (s : State) : Clocks s (candLost i s) := by
  unfold candLost
  exact (Clocks.refl s).ite (((clocks_ctrAdd s _ _).trans (clocks_setCand _ _ _)).trans (clocks_reselect _ _))

/-! ### What the entry to DARK leaves alone -/

/-- The part of the state that the units keep on the entry to DARK (R22): the time, power and reset state, line ports,
engines, keys, traffic manager, host lanes and ports, staged commands. -/
def darkKept (s : State) :=
  (s.now, s.pr, s.lp, s.eng, s.keys, s.tm, s.lanes, s.hports, s.host.staged)

/-- From `s` to `t` a unit went dark: it kept that part, and took no CRYPTO_LOCK. -/
structure GoesDark (s t : State) : Prop where
  kept : darkKept t = darkKept s
  free : s.host.cryptoLock = none → t.host.cryptoLock = none

theorem GoesDark.refl (s : State) : GoesDark s s := ⟨rfl, id⟩

theorem GoesDark.trans {s t u : State} (h : GoesDark s t) (k : GoesDark t u) : GoesDark s u :=
  ⟨k.kept.trans h.kept, k.free ∘ h.free⟩

theorem Clocks.host_cryptoLock {s t : State} (h : Clocks s t) : t.host.cryptoLock = s.host.cryptoLock := by
  have k := congrArg (fun s : State => s.host.cryptoLock) h; exact k

theorem Clocks.goesDark {s t : State} (h : Clocks s t) : GoesDark s t :=
  ⟨by have k := congrArg darkKept h; exact k, h.host_cryptoLock.trans⟩

theorem Sends.goesDark {s t : State} (h : Sends s t) : GoesDark s t := h.clocks.goesDark

theorem goesDark_modMate (s : State) (f : Mate → Mate) : GoesDark s (s.modMate f) := ⟨rfl, id⟩

theorem goesDark_releaseLock (l : Lock) (reason : Nat) (s : State) : GoesDark s (releaseLock l reason s) := by
  unfold releaseLock
  split
  · exact .refl s
  · refine GoesDark.trans ?_ (sends_emit _ _ _ _).goesDark
    cases l
    · exact ⟨rfl, fun _ => rfl⟩
    · exact ⟨rfl, id⟩

theorem releaseLock_crypto_free (reason : Nat) (s : State) : (releaseLock .crypto reason s).host.cryptoLock = none := by
  unfold releaseLock
  split
  · assumption
  · rw [emit_host_cryptoLock]; rfl

theorem goesDark_releasePortLocks (p : Port) (s : State) : GoesDark s (releasePortLocks p s) := by
  refine foldl_related GoesDark.refl GoesDark.trans (fun u l => ?_) _ _
  split
  · split
    · exact goesDark_releaseLock _ _ _
    · exact .refl u
  · exact .refl u

theorem goesDark_setMate (st : MateSt) (s : State) : GoesDark s (setMate st s) := by
  simp only [setMate]
  split
  · exact .refl s
  · have event : GoesDark s (mateEvent s.mate.st (s.modMate fun m =>
        { m with st, asleep := false, listenEnd := none, cand := none })) :=
      (goesDark_modMate s _).trans (sends_emit _ _ _ _).goesDark
    split
    · exact event.trans (goesDark_releasePortLocks _ _)
    · exact event

theorem sends_mateCount (id n : Nat) (s : State) : Sends s (mateCount id n s) := (Sends.refl s).ite (sends_ctrAdd _ _ _)

theorem goesDark_dropJoins (s : State) : GoesDark s (dropJoins s) :=
  (goesDark_modMate s _).trans (sends_mateCount _ _ _).goesDark

theorem sends_sendGoodbye (cause : Nat) (s : State) : Sends s (sendGoodbye cause s) :=
  (sends_sendBurst _ _ _ _ _).ite (.refl s)

theorem goesDark_mateDark (s : State) : GoesDark s (mateDark s) :=
  (((sends_sendGoodbye 0 s).goesDark.trans (goesDark_dropJoins _)).trans (goesDark_setMate .disabled _)).trans
    ⟨rfl, id⟩

theorem goesDark_monDark (s : State) : GoesDark s (monDark s) :=
  foldl_related GoesDark.refl GoesDark.trans (f := fun s i => modConv i (fun k => { k with act := .idle }) s)
    (fun _ _ => ⟨rfl, id⟩) _ _

/-- The state in which the units are when DARK is reached, before the power state changes (R22). -/
def unitsDark (s : State) : State :=
  monDark (clkDark (mateDark (pump (releaseLock .crypto 3 (emit 0x8010 0 [1, 3] s)))))

/-- From the release of CRYPTO_LOCK on the units go dark. -/
theorem goesDark_afterRelease (s : State) : GoesDark s (monDark (clkDark (mateDark (pump s)))) :=
  (sends_pump s).goesDark.trans <| (goesDark_mateDark _).trans <| (clocks_clkDark _).goesDark.trans (goesDark_monDark _)

theorem unitsDark_kept (s : State) : darkKept (unitsDark s) = darkKept s :=
  ((sends_emit _ _ _ s).goesDark.trans <| (goesDark_releaseLock _ _ _).trans (goesDark_afterRelease _)).kept

theorem unitsDark_cryptoLock (s : State) : (unitsDark s).host.cryptoLock = none :=
  (goesDark_afterRelease _).free (releaseLock_crypto_free _ _)

theorem exec_darkReached_of_entry {dt : Nat} {s : State} (h : running (advance dt s) = true) (he : s.pr.sleepEntry = true) :
    exec (.darkReached dt) s = .next (let u := unitsDark (advance dt s)
      u.modPr fun r => { r with
        power := .dark, sleepEntry := false, cmdReady := false,
        wakeTimer := if r.wakeTimerS = 0 then r.wakeTimer else some (u.now + secT r.wakeTimerS) }) := by
  simp [exec, execDarkReached, unitsDark, h, he]

/-! ### What the way to command-ready leaves alone -/

/-- The part of the state that the units' work on the way to command-ready leaves alone: power and reset state, staged
commands. -/
def powerView (s : State) : PowerReset × List StagedCmd := (s.pr, s.host.staged)

/-- An operation that is done under a condition. -/
theorem powerView_if {c : Prop} [Decidable c] {s t : State} (h : powerView t = powerView s) :
    powerView (if c then t else s) = powerView s := by split <;> trivial

theorem powerView_foldl {α : Type} {f : State → α → State} (h : ∀ s a, powerView (f s a) = powerView s) (l : List α)
    (s : State) : powerView (l.foldl f s) = powerView s :=
  foldl_related (r := fun s t => powerView t = powerView s) (fun _ => rfl) (fun h k => k.trans h) h l s

theorem GoesDark.powerView {s t : State} (h : GoesDark s t) : powerView t = powerView s := by
  have k := congrArg (fun k => (k.2.1, k.2.2.2.2.2.2.2.2)) h.kept; exact k

theorem Clocks.powerView {s t : State} (h : Clocks s t) : powerView t = powerView s := h.goesDark.powerView

theorem powerView_modFw (s : State) (f : Firmware → Firmware) : powerView (s.modFw f) = powerView s := rfl
theorem powerView_modSeal (s : State) (f : Seal → Seal) : powerView (s.modSeal f) = powerView s := rfl
theorem powerView_modPcie (s : State) (f : PcieState → PcieState) : powerView (s.modPcie f) = powerView s := rfl
theorem powerView_modTm (s : State) (f : Tm → Tm) : powerView (s.modTm f) = powerView s := rfl
theorem powerView_modLane (s : State) (n : Nat) (f : HostLane → HostLane) : powerView (s.modLane n f) = powerView s := rfl
theorem powerView_modHport (s : State) (n : Nat) (f : HostPort → HostPort) : powerView (s.modHport n f) = powerView s := rfl
theorem powerView_modMate (s : State) (f : Mate → Mate) : powerView (s.modMate f) = powerView s := rfl
theorem powerView_modConv (i : Nat) (f : MonConv → MonConv) (s : State) : powerView (modConv i f s) = powerView s := rfl
theorem powerView_freeW (s : State) : powerView (freeW s).2 = powerView s := rfl
theorem powerView_freeWs (n : Nat) (s : State) : powerView (freeWs n s).2 = powerView s := rfl
theorem powerView_ctrAdd (s : State) (k n : Nat) : powerView (ctrAdd s k n) = powerView s := rfl
theorem powerView_emit (code target : Nat) (data : List Word) (s : State) :
    powerView (emit code target data s) = powerView s := (sends_emit _ _ _ _).clocks.powerView
theorem powerView_raiseAlarm (code target sub : Nat) (data : List Word) (s : State) :
    powerView (raiseAlarm code target sub data s) = powerView s := (alarms_raiseAlarm _ _ _ _ _).clocks.powerView
theorem powerView_clearAlarm (code target sub : Nat) (data : List Word) (s : State) :
    powerView (clearAlarm code target sub data s) = powerView s := (alarms_clearAlarm _ _ _ _ _).clocks.powerView

/-! #### Traffic manager and host ports -/

theorem powerView_modBank (b : Nat) (f : TmBank → TmBank) (s : State) : powerView (modBank b f s) = powerView s := rfl
theorem powerView_modQueue (q : Nat) (f : Queue → Queue) (s : State) : powerView (modQueue q f s) = powerView s := rfl

theorem powerView_modBanks (f : State → Nat → TmBank → TmBank) (s : State) :
    powerView ((List.range 4).foldl (fun s b => modBank b (f s b) s) s) = powerView s :=
  powerView_foldl (fun s b => powerView_modBank b (f s b) s) _ _

theorem powerView_steerBanks (s : State) : powerView (steerBanks s) = powerView s := by
  simp only [steerBanks]
  split
  · split
    · exact (powerView_modBank _ _ _).trans (powerView_modBanks _ s)
    · exact powerView_modBanks _ s
  · exact (powerView_modBanks _ _).trans (powerView_modBanks _ s)

theorem powerView_poolAlarm (s : State) : powerView (poolAlarm s) = powerView s :=
  (powerView_modTm _ _).trans (powerView_if (powerView_raiseAlarm _ _ _ _ s))

theorem powerView_flushQueues (qs : List Nat) (s : State) : powerView (flushQueues qs s).2 = powerView s := by
  have emptied : powerView (qs.foldl (fun s q => modQueue q (fun k => { k with frames := [] }) s) s) = powerView s :=
    powerView_foldl (fun s q => powerView_modQueue q _ s) _ _
  simp only [flushQueues]
  split
  · rfl
  · exact (powerView_poolAlarm _).trans <| (powerView_steerBanks _).trans <| (powerView_ctrAdd _ _ _).trans emptied

theorem powerView_flushDown (n : Nat) (s : State) : powerView (flushDown n s) = powerView s :=
  powerView_if ((powerView_emit _ _ _ _).trans (powerView_flushQueues _ s))

theorem clocks_hostClocks (s : State) : Clocks s (hostClocks s) := by
  unfold hostClocks
  exact ((Clocks.refl s).ite (clocks_candLost _ _)).trans ((Clocks.refl _).ite (clocks_candLost _ _))

theorem powerView_setHp (n : Nat) (st : HpSt) (cause : Nat) (s : State) : powerView (setHp n st cause s) = powerView s := by
  simp only [setHp]
  split
  · rfl
  · refine (clocks_hostClocks _).powerView.trans <| (powerView_emit _ _ _ _).trans <|
      (powerView_if (powerView_clearAlarm _ _ _ _ _)).trans ?_
    have left (u : State) : powerView (if (s.hport n).st = .up then
        flushDown n (if isLanePort n then hpCount n 0x080E 1 u else u) else u) = powerView u :=
      powerView_if ((powerView_flushDown _ _).trans (powerView_if (powerView_ctrAdd _ _ _)))
    split
    · exact (powerView_raiseAlarm _ _ _ _ _).trans (left _)
    · exact (powerView_if (powerView_clearAlarm _ _ _ _ _)).trans (left _)

theorem powerView_freshTraining (n : Nat) (lanes : List Nat) (cause : Nat) (s : State) :
    powerView (freshTraining n lanes cause s) = powerView s := by
  have dropped : powerView (lanes.foldl (fun s i => dropLane i s) s) = powerView s :=
    powerView_foldl (fun s i => powerView_modLane s i _) _ _
  exact (powerView_ctrAdd _ _ _).trans <| (powerView_modHport _ _ _).trans <| (powerView_setHp _ _ _ _).trans dropped

theorem powerView_hostWake (s : State) : powerView (hostWake s) = powerView s :=
  powerView_foldl (fun u _ => powerView_if (powerView_freshTraining _ _ _ u)) _ _

/-! #### Clock unit, mate link and monitor unit -/

theorem powerView_restartCands (s : State) : powerView (restartCands s) = powerView s := (clocks_restartCands s).powerView
theorem powerView_checkBudget (s : State) : powerView (checkBudget s) = powerView s := (clocks_checkBudget s).powerView
theorem powerView_setMate (st : MateSt) (s : State) : powerView (setMate st s) = powerView s :=
  (goesDark_setMate st s).powerView
theorem powerView_dropJoins (s : State) : powerView (dropJoins s) = powerView s := (goesDark_dropJoins s).powerView

theorem powerView_mateWake (s : State) : powerView (mateWake s) = powerView s :=
  powerView_if ((powerView_modMate _ _).trans (powerView_setMate _ s))

theorem powerView_mateStart (s : State) : powerView (mateStart s) = powerView s :=
  powerView_if <| (sends_mateCount _ _ _).clocks.powerView.trans <| (powerView_modMate _ _).trans <|
    (powerView_dropJoins _).trans (powerView_setMate _ s)

theorem powerView_freeUp (i t : Nat) (s : State) : powerView (freeUp i t s) = powerView s := by
  have off (c : Bool) (u : State) :
      powerView (if c then modConv i (fun k => { k with gap := true }) u else u) = powerView u :=
    powerView_if (powerView_modConv _ _ _)
  simp only [freeUp]
  split
  · exact (powerView_modConv _ _ _).trans (off _ s)
  · split
    · exact (off _ _).trans (powerView_modConv _ _ s)
    · split
      · split <;> rfl
      · split
        · rfl
        · split <;> rfl

theorem powerView_monWake (s : State) : powerView (monWake s) = powerView s :=
  powerView_foldl (fun u _ => (powerView_freeUp _ _ _).trans (powerView_modConv _ _ u)) _ _

/-! #### Reports, queues, held PCIe accesses -/

/-- The report of a fallback, if one waits. -/
def reportFallback (s : State) : State :=
  match s.fw.fellBack with
  | some r =>
    let b := (recInForce s.fw).trialBank
    emit 0x8E01 0 [w32 b, (flashBank s.fw b).hdr.getD 4 0, 2] (raiseAlarm 0x8E10 0 0 [w32 r] s)
  | none => s

/-- The report of a zeroisation, if one waits. -/
def reportZeroised (s : State) : State :=
  if s.keys.zeroisedDue then raiseAlarm 0x8712 0 0 [] { s with keys := { s.keys with zeroisedDue := false } } else s

/-- The reports at command-ready: bank failed, fallback, sealed, seal violation, zeroised. -/
theorem bootReports_eq (s : State) :
    bootReports s =
      (let s := if s.fw.bankFailed then raiseAlarm 0x8E11 0 0 [] (s.modFw fun f => { f with bankFailed := false }) else s
       let s := (reportFallback s).modFw fun f => { f with fellBack := none }
       let s := if s.sealSt.sealedDue then emit 0x8F01 0 [1] (s.modSeal fun x => { x with sealedDue := false }) else s
       reportZeroised (if s.sealSt.violation then raiseAlarm 0x8F10 0 0 [] s else s)) := rfl

theorem powerView_reportFallback (s : State) : powerView (reportFallback s) = powerView s := by
  unfold reportFallback
  split
  · exact (powerView_emit _ _ _ _).trans (powerView_raiseAlarm _ _ _ _ s)
  · rfl

theorem powerView_reportZeroised (s : State) : powerView (reportZeroised s) = powerView s := by
  unfold reportZeroised
  split
  · exact powerView_raiseAlarm _ _ _ _ { s with keys := _ }
  · rfl

theorem powerView_bootReports (s : State) : powerView (bootReports s) = powerView s := by
  rw [bootReports_eq]
  refine (powerView_reportZeroised _).trans <| (powerView_if (powerView_raiseAlarm _ _ _ _ _)).trans ?_
  refine (powerView_if ((powerView_emit _ _ _ _).trans (powerView_modSeal _ _))).trans ?_
  refine (powerView_modFw _ _).trans <| (powerView_reportFallback _).trans ?_
  exact powerView_if ((powerView_raiseAlarm _ _ _ _ _).trans (powerView_modFw s _))

theorem powerView_pump (s : State) : powerView (pump s) = powerView s := (sends_pump s).clocks.powerView
theorem powerView_readQueues (s : State) : powerView (readQueues s) = powerView s := by simp [powerView]
/-- Bringing a spindle's counters up to the present changes the engines and the free-value count alone. -/
theorem settlePerf_eq (e : Eng) (i : Nat) (s : State) :
    settlePerf e i s = { s with eng := (settlePerf e i s).eng, freeCtr := (settlePerf e i s).freeCtr } := by
  have spn (v : Spindle) (u : State) : setSpn e i v u = { u with eng := (setSpn e i v u).eng } := by cases e <;> rfl
  simp only [settlePerf, modPerf]
  split
  · rfl
  · split
    · split
      · rw [spn]
      · rfl
    · split
      · rw [spn]
      · rw [spn]; rfl

theorem powerView_settlePerf (e : Eng) (i : Nat) (s : State) : powerView (settlePerf e i s) = powerView s := by
  rw [settlePerf_eq]; rfl

theorem powerView_settleHost (n : Nat) (s : State) : powerView (settleHost n s) = powerView s :=
  powerView_foldl (f := fun s id => hpCount n id (freeW s).1.toNat (freeW s).2) (fun _ _ => rfl) _ _

theorem powerView_settleSel (off : Nat) (s : State) : powerView (settleSel off s) = powerView s := by
  refine powerView_if (s := s) ?_
  simp only
  split
  · exact powerView_settlePerf _ _ s
  · exact powerView_if (powerView_settleHost _ s)

theorem powerView_fswWord (s : State) (off : Nat) : powerView (fswWord s off).2 = powerView s := by
  unfold fswWord fwVersion
  split
  · split <;> rfl
  · exact powerView_settleSel off s

theorem powerView_pcieComplete (off : Nat) (s : State) : powerView (pcieComplete off s) = powerView s := by
  simp only [pcieComplete, barRead, powerView_modPcie]
  split
  · exact powerView_fswWord s off
  · split <;> rfl

theorem powerView_pcieWoken (s : State) : powerView (pcieWoken s) = powerView s := by
  simp only [pcieWoken]
  refine (powerView_foldl (fun u off => powerView_pcieComplete off u) _ _).trans ?_
  split <;> rfl

theorem powerView_beginFallback (reason : Nat) (s : State) : powerView (beginFallback reason s) = powerView s :=
  (powerView_modFw _ _).trans <| (powerView_modPcie _ _).trans (powerView_emit _ _ _ s)

/-! ### The two events -/

/-- The device enters a power state: that, and an event. -/
theorem enterPower_view (p : PowerSt) (extra : List Word) (s : State) :
    powerView (enterPower p extra s) = ({ s.pr with power := p }, s.host.staged) := powerView_emit _ _ _ _

/-- The state in which a wake from DARK becomes command-ready, the units' work still to come. -/
def wakeReady (s : State) : State :=
  enterPower .ready [w32 s.pr.wakeCause] (enterRun (s.modPr fun r => { r with readyAt := some s.now }))

theorem wakeReady_view (s : State) : powerView (wakeReady s) =
    ({ s.pr with phase := .run, cmdReady := true, waking := false, power := .ready, statusSeq := 0, readyAt := some s.now },
      s.host.staged) := enterPower_view _ _ _

/-- A trial that ended in DARK falls back once the device is awake (R416). -/
def fallbackIfOver (s : State) : State := if trialOver s then beginFallback 2 s else s

theorem powerView_fallbackIfOver (s : State) : powerView (fallbackIfOver s) = powerView s :=
  powerView_if (powerView_beginFallback 2 s)

/-- The units' work at the end of a wake. -/
def unitsWoken (s : State) : State :=
  pump (fallbackIfOver (pcieWoken (readQueues (bootReports (checkBudget (monWake (restartCands (mateWake (hostWake s)))))))))

theorem powerView_unitsWoken (s : State) : powerView (unitsWoken s) = powerView s :=
  (powerView_pump _).trans <| (powerView_fallbackIfOver _).trans <| (powerView_pcieWoken _).trans <|
    (powerView_readQueues _).trans <| (powerView_bootReports _).trans <| (powerView_checkBudget _).trans <|
    (powerView_monWake _).trans <| (powerView_restartCands _).trans <| (powerView_mateWake _).trans (powerView_hostWake s)

theorem exec_commandReady_of_wake {dt : Nat} {s : State} (h : running (advance dt s) = true) (hw : s.pr.waking = true) :
    exec (.commandReady dt) s = .next (unitsWoken (wakeReady (advance dt s))) := by
  simp [exec, execCommandReady, unitsWoken, fallbackIfOver, wakeReady, h, hw]

/-- The state in which a boot becomes command-ready, the units' work still to come. -/
def bootReady (s : State) : State :=
  enterPower .ready [] ((enterRun (bootRestore (monBoot (bootCalibrate s)))).modPr fun r =>
    { r with boot := .done, bootCode := 9, bootPlan := [], bootReached := true })

theorem bootReady_pr (s : State) : (bootReady s).pr = { (bootRestore (monBoot (bootCalibrate s))).pr with
    phase := .run, cmdReady := true, waking := false, power := .ready, statusSeq := 0
    boot := .done, bootCode := 9, bootPlan := [], bootReached := true } := by
  simp [bootReady, enterPower, enterRun]

/-- The units' work at the end of a boot. -/
def unitsBooted (s : State) : State := pump (readQueues (mateStart (bootReports s)))

theorem powerView_unitsBooted (s : State) : powerView (unitsBooted s) = powerView s :=
  (powerView_pump _).trans <| (powerView_readQueues _).trans <| (powerView_mateStart _).trans
    (powerView_bootReports s)

theorem exec_commandReady_of_boot {dt : Nat} {s : State} (h : running (advance dt s) = true) (hw : s.pr.waking = false)
    (hb : s.pr.boot = .running) :
    exec (.commandReady dt) s = .next (unitsBooted (bootReady (advance dt s))) := by
  simp [exec, execCommandReady, unitsBooted, bootReady, h, hw, hb]

/-- Settles O24: the units keep what `darkKept` and `powerView` hold, so the power state is what the two events set. -/
theorem darkAndReady : Obligations.DarkAndReady := by
  unfold Obligations.DarkAndReady
  intro dt s h
  refine ⟨fun he => ⟨_, exec_darkReached_of_entry h he, ?_⟩, fun hw => ⟨_, exec_commandReady_of_wake h hw, ?_⟩,
    fun hw hb => ⟨_, exec_commandReady_of_boot h hw hb, ?_⟩⟩
  · have kept := unitsDark_kept (advance dt s)
    simp only [darkKept, Prod.mk.injEq] at kept
    obtain ⟨hn, hpr, hlp, heng, hkeys, htm, hlanes, hports, hstaged⟩ := kept
    simp [inDark, unitsDark_cryptoLock, hn, hpr, hlp, heng, hkeys, htm, hlanes, hports, hstaged]
  · obtain ⟨hpr, hstaged⟩ := Prod.mk.inj ((powerView_unitsWoken _).trans (wakeReady_view (advance dt s)))
    simp [hpr, hstaged]
  · obtain ⟨hpr, -⟩ := Prod.mk.inj (powerView_unitsBooted (bootReady (advance dt s)))
    simp [hpr, bootReady_pr]

end Sys2Proof.Machine
end

section
/-!
PROOFS. DEV_RESET, DEV_SLEEP and DEV_WAKE (R22, R29, R64, R72, R432).
-/
namespace Sys2Proof.Machine
open Sys2Proof

/-! ### DEV_RESET -/

/-- Umcia reads no command during a firmware pause (R64). -/
theorem Runs.no_pause {op : OpSpec} {c : Cmd} {s : State} (h : Runs op c s) : s.fw.pause = none := by
  obtain ⟨⟨reads, -⟩, -⟩ := h
  simp only [umciaReads, advance_fw, Bool.and_eq_true, Option.isNone_iff_eq_none] at reads
  exact reads.2

/-- DEV_RESET replies first; kind 0 then begins a firmware pause, kind 1 the internal assertion. -/
theorem exec_devReset_of_runs {c : Cmd} {s : State} (h : Runs devResetOp c s) :
    exec (.devReset c) s = .next (
      let u := reply 0x0003 c stOk 0 [] (ready c s)
      pump (if c.w 3 = 0 then beginPause 2 none u else internalAssert u)) :=
  congrArg Host.Outcome.next (serve_ok h (by simp [devResetOp, h.no_pause]))

/-- What a firmware pause leaves of the units, and what it records. -/
theorem beginPause_fw (cause : Nat) (reason : Option Nat) (s : State) :
    (beginPause cause reason s).fw = { s.fw with pause := some { cause, since := s.hk, reason } } := by
  simp [beginPause, msix3]

theorem beginPause_units (cause : Nat) (reason : Option Nat) (s : State) :
    let t := beginPause cause reason s
    t.pr = s.pr ∧ t.lp = s.lp ∧ t.eng = s.eng ∧ t.tm = s.tm ∧ t.keys = s.keys ∧ t.host.staged = s.host.staged ∧
      t.alarms = s.alarms := by
  simp [beginPause, msix3]

theorem pump_of_nothing_waiting {s : State} (hr : s.host.pcie.rplWait = []) (hw : s.host.spi.wait = [])
    (he : ∀ p, (s.host.evt.get p).queue = [] ∧ (s.host.evt.get p).lost = 0) : pump s = s := by
  have drained (p : Port) : drain s p = s := by simp [drain, pumpEvents, pumpEvent, he p]
  simp [pump, hr, hw, pumpPcieReplies, pumpSpiReplies, ports, drained]

theorem powerView_resetLocks (s : State) : powerView (resetLocks s) = powerView s := by
  refine powerView_foldl (fun u l => powerView_if ?_) _ _
  exact (goesDark_releaseLock _ _ _).powerView.trans (powerView_freeW u)

/-- What SYSRESET_N and DEV_RESET kind 1 leave of the AON domain (R432). -/
theorem sysresetTaken_pr (s : State) : (sysresetTaken s).pr =
    { powered := s.pr.powered, poreset := s.pr.poreset, sysreset := s.pr.sysreset, internalReset := s.pr.internalReset
      straps := s.pr.straps, uptimeFrom := s.pr.uptimeFrom, wakeMask := s.pr.wakeMask, wakeTimerS := s.pr.wakeTimerS
      wakeTimer := s.pr.wakeTimer, thermTrip := s.pr.thermTrip } := by
  obtain ⟨hpr, -⟩ := Prod.mk.inj (powerView_resetLocks s)
  rw [← hpr]
  rfl

/-- After the reset only the PCIe port holds anything of the host side, and no unit holds anything (R432). -/
theorem sysresetTaken_units (s : State) :
    let t := sysresetTaken s
    (∃ c : PcieState, c.rplWait = [] ∧ t.host = { pcie := c }) ∧ t.alarms = [] ∧ t.counters = [] ∧ t.fw.session = none ∧
      t.lp = State.reset.lp ∧ t.eng = State.reset.eng ∧ t.tm = State.reset.tm :=
  ⟨⟨_, rfl, rfl⟩, rfl, rfl, rfl, rfl, rfl, rfl⟩

theorem pump_sysresetTaken (s : State) : pump (sysresetTaken s) = sysresetTaken s := by
  obtain ⟨⟨c, hc, hh⟩, -⟩ := sysresetTaken_units s
  refine pump_of_nothing_waiting (by rw [hh]; exact hc) (by rw [hh]) (fun p => ?_)
  rw [hh]
  cases p <;> exact ⟨rfl, rfl⟩

/-! ### DEV_SLEEP -/

theorem ready_updateLock_isSome (c : Cmd) (s : State) :
    (ready c s).host.updateLock.isSome = s.host.updateLock.isSome := by
  simp [ready, noteRead, lockActivity_updateLock_isSome]

theorem exec_devSleep_refused {c : Cmd} {s : State} {detail : Nat} (h : Runs devSleepOp c s)
    (r : devSleepOp.run (ready c s) c.target c = refuse (ready c s) stBadState detail) :
    exec (.devSleep c) s = .next (pump (reply 0x0005 c stBadState detail [] (ready c s))) :=
  congrArg Host.Outcome.next (serve_unit_refused h r (by decide))

/-- DEV_SLEEP that is not refused: the reply, then the entry to DARK begins (R22, R29). -/
theorem exec_devSleep_of_runs {c : Cmd} {s : State} (h : Runs devSleepOp c s) (hp : s.pr.power ≠ .service)
    (hl : s.host.updateLock = none) (hd : s.host.deferred = []) :
    exec (.devSleep c) s = .next (pump ((reply 0x0005 c stOk 0 [] (ready c s)).modPr fun r => { r with
      cmdReady := false, sleepEntry := true, wakeMask := c.w 3 % 32, wakeTimerS := c.w 4
      wakeTimer := if c.w 4 = 0 then r.wakeTimer else none })) :=
  congrArg Host.Outcome.next (serve_ok h (by simp [devSleepOp, hp, hd, ready_updateLock_isSome, hl]))

/-! ### DEV_WAKE -/

theorem devWakeOp_run_cancel {c : Cmd} (h : c.w 3 = 0) (t : Nat) (s : State) :
    devWakeOp.run s t c = okRes (cancelHold t s) [] := by
  simp [devWakeOp, h]

theorem devWakeOp_run_awake {c : Cmd} {t : Nat} {s : State} (h : c.w 3 ≠ 0) (ha : wakeAllowed s t = true)
    (hu : unitAwake s t = true) :
    devWakeOp.run s t c = okRes (settleWake t stOk 0 (setHold t (c.w 3) s)) [] := by
  simp [devWakeOp, h, ha, hu]

theorem devWakeOp_run_asleep {c : Cmd} {t : Nat} {s : State} (h : c.w 3 ≠ 0) (ha : wakeAllowed s t = true)
    (hu : unitAwake s t = false) :
    devWakeOp.run s t c = { st := beginWake t (c.w 3) s, settled := false } := by
  simp [devWakeOp, h, ha, hu]

theorem devWakeOp_run_refused {c : Cmd} {t : Nat} {s : State} (h : c.w 3 ≠ 0) (ha : wakeAllowed s t = false) :
    devWakeOp.run s t c = refuse s stBadState 0x0100 := by
  simp [devWakeOp, h, ha]

/-- Settles O12: each command is served on its unit, and what follows the reply is the pause, the reset, the entry to DARK
or the wake. -/
theorem resetSleepWake : Obligations.ResetSleepWake := by
  unfold Obligations.ResetSleepWake
  intro c s
  refine ⟨fun h hk => ?_, fun h hk => ?_, fun h => ⟨fun hp => ?_, fun hp hl => ?_, fun hp hl hd => ?_⟩,
    fun h hp hl hd => ⟨_, exec_devSleep_of_runs h hp hl hd, by simp⟩,
    fun h => ⟨fun hw => ?_, fun hw ha hu => ?_, fun hw ha hu => ?_, fun hw ha => ?_⟩⟩
  · refine ⟨_, exec_devReset_of_runs h, ?_⟩
    simp [hk, beginPause_fw, beginPause_units]
  · refine ⟨_, exec_devReset_of_runs h, ?_⟩
    simp only [hk, Nat.one_ne_zero, if_false, internalAssert, pump_sysresetTaken]
    generalize hv : State.modPr _ _ = v
    obtain ⟨⟨p, -, hh⟩, ha, hc, hf, hlp, he, htm⟩ := sysresetTaken_units v
    have hpr : v.pr = { s.pr with internalReset := some (nextAonEdge (ready c s) + aonT 4) } := by
      rw [← hv]
      simp [(sends_sendGoodbye _ _).pr, nextAonEdge]
    simp [hh, ha, hc, hf, hlp, he, htm, inReset, sysresetTaken_pr, hpr]
  · exact exec_devSleep_refused h (by simp [devSleepOp, hp])
  · exact exec_devSleep_refused h (by simp [devSleepOp, hp, ready_updateLock_isSome, hl])
  · exact exec_devSleep_refused h (by simp [devSleepOp, hp, ready_updateLock_isSome, hl, hd])
  · exact congrArg Host.Outcome.next (serve_ok h (devWakeOp_run_cancel hw _ _))
  · exact congrArg Host.Outcome.next (serve_ok h (devWakeOp_run_awake hw ha hu))
  · exact congrArg Host.Outcome.next (serve_accepted h (devWakeOp_run_asleep hw ha hu))
  · exact congrArg Host.Outcome.next (serve_unit_refused h (devWakeOp_run_refused hw ha) (by decide))

end Sys2Proof.Machine
end

section
/-!
PROOFS. The transitions of Table 1.9 end (R25, R27): what an engine's change of state does not touch, and what follows it.
-/
namespace Sys2Proof.Machine
open Sys2Proof

/-! ### What an engine's change of state leaves alone -/

/-- The part of the state beside the engines that the end of a transition looks at: the housekeeping time,
PROT_ENGINE_RESTORE and burnishing. -/
def engineFrame (s : State) := (s.hk, s.prot.restore, s.prot.burn)

theorem engineFrame_of_eq {s t : State} (hk : t.hk = s.hk) (hp : t.prot = s.prot) : engineFrame t = engineFrame s := by
  simp [engineFrame, hk, hp]

theorem engineFrame_ite {c : Prop} [Decidable c] {s t u : State} (hs : engineFrame s = engineFrame u)
    (ht : engineFrame t = engineFrame u) : engineFrame (if c then s else t) = engineFrame u := by split <;> assumption

theorem engineFrame_foldl {α : Type} {f : State → α → State} (h : ∀ s a, engineFrame (f s a) = engineFrame s) (l : List α)
    (s : State) : engineFrame (l.foldl f s) = engineFrame s :=
  foldl_related (r := fun s t => engineFrame t = engineFrame s) (fun _ => rfl) (fun h k => k.trans h) h l s

theorem engineFrame_ctrAdd (s : State) (k n : Nat) : engineFrame (ctrAdd s k n) = engineFrame s := rfl
theorem engineFrame_freeW (s : State) : engineFrame (freeW s).2 = engineFrame s := rfl
theorem engineFrame_modChecker (s : State) (f : Prot → Prot)
    (h : (f s.prot).restore = s.prot.restore ∧ (f s.prot).burn = s.prot.burn) :
    engineFrame (s.modProt f) = engineFrame s := by
  simp [engineFrame, h]
theorem engineFrame_modEngine (s : State) (e : Eng) (f : Engine → Engine) : engineFrame (s.modEngine e f) = engineFrame s :=
  engineFrame_of_eq (State.modEngine_hk s e f) (State.modEngine_prot s e f)
theorem engineFrame_emit (code target : Nat) (data : List Word) (s : State) :
    engineFrame (emit code target data s) = engineFrame s :=
  engineFrame_of_eq (emit_hk _ _ _ s) (emit_prot _ _ _ s)
theorem engineFrame_raiseAlarm (code target sub : Nat) (data : List Word) (s : State) :
    engineFrame (raiseAlarm code target sub data s) = engineFrame s :=
  engineFrame_of_eq (raiseAlarm_hk _ _ _ _ s) (raiseAlarm_prot _ _ _ _ s)

theorem engineFrame_engCount (e : Eng) (id n : Nat) (s : State) : engineFrame (engCount e id n s) = engineFrame s :=
  engineFrame_ite rfl (engineFrame_ctrAdd s _ n)

theorem engineFrame_setSpn (e : Eng) (i : Nat) (v : Spindle) (s : State) : engineFrame (setSpn e i v s) = engineFrame s :=
  engineFrame_modEngine s e _

theorem engineFrame_settlePerf (e : Eng) (i : Nat) (s : State) : engineFrame (settlePerf e i s) = engineFrame s := by
  rw [settlePerf_eq]; rfl

theorem engineFrame_checkIdle (e : Eng) (s : State) : engineFrame (checkIdle e s) = engineFrame s := by
  unfold checkIdle
  exact engineFrame_ite ((engineFrame_raiseAlarm _ _ _ _ _).trans (engineFrame_modEngine s _ _))
    (engineFrame_ite (engineFrame_modEngine s _ _) rfl)

/-! #### Loads, faults and moves of roles -/

theorem engineFrame_loadSpn (e : Eng) (i : Nat) (s : State) : engineFrame (loadSpn e i s).2 = engineFrame s :=
  (engineFrame_setSpn _ _ _ _).trans <| (engineFrame_modChecker _ _ ⟨rfl, rfl⟩).trans <|
    (engineFrame_ite rfl (engineFrame_modEngine _ _ _)).trans (engineFrame_engCount _ _ _ s)

theorem engineFrame_spindleOut (e : Eng) (i : Nat) (s : State) : engineFrame (spindleOut e i s) = engineFrame s :=
  (engineFrame_emit _ _ _ _).trans <| (engineFrame_setSpn _ _ _ _).trans (engineFrame_settlePerf e i s)

theorem engineFrame_moveRole (e : Eng) (i : Nat) (s : State) : engineFrame (moveRole e i s).2.2 = engineFrame s := by
  have counted : engineFrame (engCount e 0x0402 1 (settlePerf e i s)) = engineFrame s :=
    (engineFrame_engCount _ _ _ _).trans (engineFrame_settlePerf e i s)
  simp only [moveRole]
  split
  · exact (engineFrame_modEngine _ _ _).trans <| (engineFrame_loadSpn _ _ _).trans <| (engineFrame_setSpn _ _ _ _).trans <|
      (engineFrame_setSpn _ _ _ _).trans counted
  · exact (engineFrame_modEngine _ _ _).trans <| (engineFrame_loadSpn _ _ _).trans <|
      (engineFrame_setSpn _ _ _ _).trans counted

theorem engineFrame_spindleFaults (n : Nat) (e : Eng) (i : Nat) (cause : Word) (selfTest : Bool) (s : State) :
    engineFrame (spindleFaults n e i cause selfTest s) = engineFrame s := by
  induction n generalizing i cause selfTest s with
  | zero => rfl
  | succ n ih =>
    have moved : engineFrame (if within (spnOf s e i).role 1 4 then moveRole e i (engCount e 0x0401 1 s)
        else (0xFF, true, engCount e 0x0401 1 s)).2.2 = engineFrame s := by
      split
      · exact (engineFrame_moveRole _ _ _).trans (engineFrame_engCount _ _ _ s)
      · exact engineFrame_engCount _ _ _ s
    simp only [spindleFaults]
    generalize (if within (spnOf s e i).role 1 4 then _ else _ : Nat × Bool × State) = m at moved ⊢
    obtain ⟨j, ok, u⟩ := m
    have tested (b : Bool) (v : State) (h : engineFrame v = engineFrame u) :
        engineFrame (checkIdle e (if b then v else spindleOut e i v)) = engineFrame s :=
      (engineFrame_checkIdle _ _).trans <|
        (engineFrame_ite rfl (engineFrame_spindleOut _ _ v)).trans (h.trans moved)
    have told (p : Spindle) (data : List Word) : engineFrame (setSpn e i p (emit 0x8401 (engT e) data u)) = engineFrame u :=
      (engineFrame_setSpn _ _ _ _).trans (engineFrame_emit _ _ _ u)
    split
    · exact tested _ _ (told _ _)
    · exact (ih _ _ _ _).trans (tested _ _ (told _ _))

/-! #### Engine states and roles -/

theorem engineFrame_setKernelSt (e : Eng) (slot : Nat) (st : KernelSt) (cause : Nat) (s : State) :
    engineFrame (setKernelSt e slot st cause s) = engineFrame s :=
  engineFrame_ite rfl ((engineFrame_emit _ _ _ _).trans (engineFrame_modEngine s _ _))

theorem engineFrame_allKernels (e : Eng) (q : KernelSt → Bool) (st : KernelSt) (cause : Nat) (s : State) :
    engineFrame (allKernels e q st cause s) = engineFrame s :=
  engineFrame_foldl (fun u _ => engineFrame_ite (engineFrame_setKernelSt _ _ _ _ u) rfl) _ _

theorem engineFrame_setEngSt (e : Eng) (st : EngSt) (s : State) : engineFrame (setEngSt e st s) = engineFrame s := by
  unfold setEngSt
  refine engineFrame_ite rfl ?_
  extract_lets run s1 s2 s3 s4 y pt s5
  have h2 : engineFrame s2 = engineFrame s :=
    (engineFrame_ite rfl (engineFrame_foldl (fun u i => engineFrame_settlePerf e i u) _ s1)).trans
      (engineFrame_ite (engineFrame_ctrAdd s _ _) rfl)
  have h4 : engineFrame s4 = engineFrame s3 := engineFrame_ite (engineFrame_allKernels _ _ _ _ s3)
    (engineFrame_ite (engineFrame_allKernels _ _ _ _ s3) (engineFrame_allKernels _ _ _ _ s3))
  have h5 : engineFrame s5 = engineFrame s :=
    (engineFrame_emit _ _ _ s4).trans <| h4.trans <| (engineFrame_modEngine s2 e _).trans h2
  exact engineFrame_ite h5 ((engineFrame_checkIdle e s5).trans h5)

theorem engineFrame_replaceRoles (e : Eng) (s : State) : engineFrame (replaceRoles e s) = engineFrame s := by
  unfold replaceRoles
  extract_lets old g new changed s1 s2 now
  have h2 : engineFrame s2 = engineFrame s :=
    (engineFrame_modEngine s1 e _).trans (engineFrame_foldl (fun u i => engineFrame_settlePerf e i u) _ s)
  refine (engineFrame_foldl (fun u i => ?_) _ s2).trans h2
  refine engineFrame_ite (u := u) ?_ rfl
  have loaded (p : Spindle) : engineFrame (loadSpn e i (setSpn e i p u)).2 = engineFrame u :=
    (engineFrame_loadSpn _ _ _).trans (engineFrame_setSpn e i p u)
  exact engineFrame_ite (loaded _) ((engineFrame_spindleFaults _ _ _ _ _ _).trans ((engineFrame_freeW _).trans (loaded _)))

theorem engineFrame_endMove (e : Eng) (s : State) : engineFrame (endMove e s) = engineFrame s := engineFrame_modEngine s e _

theorem engineFrame_addBadLoads (e : Eng) (l : List (Nat × Nat)) (s : State) :
    engineFrame (addBadLoads e l s) = engineFrame s := engineFrame_modEngine s e _

theorem restorePower_congr {s t : State} (h : engineFrame t = engineFrame s) (e : Eng) :
    restorePower t e = restorePower s e := by
  simp only [engineFrame, Prod.mk.injEq] at h
  simp [restorePower, h]

/-! ### The ends of the transitions -/

/-- An engine that reaches a state at the end of its transition. -/
def moveEnds (e : Eng) (st : EngSt) (s : State) : State := setEngSt e st (endMove e s)

theorem engineFrame_moveEnds (e : Eng) (st : EngSt) (s : State) : engineFrame (moveEnds e st s) = engineFrame s :=
  (engineFrame_setEngSt _ _ _).trans (engineFrame_endMove e s)

/-- A powered-up engine: its fill rewrote its memories, and what the checker test mode wrote there is gone (R164). -/
def poweredUp (e : Eng) (bads : List (Nat × Nat)) (s : State) : State :=
  (addBadLoads e bads (moveEnds e .cool s)).modProt fun y =>
    { y with checker := y.checker.filter fun w => w.2.1 != engT e }

theorem engineFrame_poweredUp (e : Eng) (bads : List (Nat × Nat)) (s : State) :
    engineFrame (poweredUp e bads s) = engineFrame s :=
  (engineFrame_modChecker _ _ ⟨rfl, rfl⟩).trans <| (engineFrame_addBadLoads _ _ _).trans (engineFrame_moveEnds _ _ s)

/-- A shadowing engine that reached TRACK: WARM, with its roles placed (R25). -/
def shadowLocked (e : Eng) (s : State) : State :=
  let u := moveEnds e .warm s
  checkIdle e (replaceRoles e (u.modEngine e fun x => { x with startup := some (some (u.hk + secT 1)) }))

theorem engineFrame_shadowLocked (e : Eng) (s : State) : engineFrame (shadowLocked e s) = engineFrame s :=
  (engineFrame_checkIdle _ _).trans <| (engineFrame_replaceRoles _ _).trans <| (engineFrame_modEngine _ _ _).trans
    (engineFrame_moveEnds _ _ s)

section
variable {e : Eng} {dt : Nat} {s : State} (h : running (advance dt s) = true)
include h

theorem exec_engineColdToCoolDone_of_up {bads : List (Nat × Nat)} (hm : (s.engine e).move = .toCool)
    (hr : restorePower s e = false) :
    exec (.engineColdToCoolDone e false bads dt) s = .next (pump (steer (poweredUp e bads (advance dt s)))) := by
  have unrestored : restorePower (poweredUp e bads (advance dt s)) e = false := by
    rw [restorePower_congr (engineFrame_poweredUp e bads _)]
    simpa [restorePower] using hr
  have arm : exec (.engineColdToCoolDone e false bads dt) s = .next (
      let a := advance dt s
      let u := poweredUp e bads a
      if running a && (a.engine e).move == .toCool then
        pump (if restorePower u e then beginTest u else steer u) else a) := rfl
  simp [arm, h, hm, unrestored]

theorem exec_engineColdToCoolDone_of_failed_link {bads : List (Nat × Nat)} (hm : (s.engine e).move = .toCool) :
    exec (.engineColdToCoolDone e true bads dt) s = .next (enterFault 8 (advance dt s)) := by
  simp [exec, execEngineColdToCoolDone, h, hm]

theorem exec_engineWakeDone_of_service {p : Lp} (hm : (s.engine e).move = .waking) (hst : (s.engine e).st = .cool)
    (hs : (s.engine e).serves = some p) (hin : inService s p = true) :
    exec (.engineWakeDone e dt) s = .next (pump (engineServes e p (endMove e (advance dt s)))) := by
  have serves : ((endMove e (advance dt s)).engine e).serves = some p := by simp [endMove, hs]
  have service : inService (endMove e (advance dt s)) p = true := by
    rw [inService, State.port_congr (s := s) (by simp [endMove])]
    exact hin
  simp [exec, execEngineWakeDone, h, hm, hst, serves, service]

theorem exec_engineShadowLock_of_track {p : Lp} (hm : (s.engine e).move = .shadowing) (hs : (s.engine e).shadows = some p)
    (ht : (s.port p).dsp.spareAcq.st = .track) (hr : s.prot.restore = none)
    (hb : e ≠ .les ∨ s.prot.burn.phase ≠ .acquire) :
    exec (.engineShadowLock e dt) s = .next (pump (steer (shadowLocked e (advance dt s)))) := by
  obtain ⟨-, hrestore, hburn⟩ : _ ∧ _ ∧ _ := by
    simpa only [engineFrame, Prod.mk.injEq] using engineFrame_shadowLocked e (advance dt s)
  have idle : ¬ (e = .les ∧ (shadowLocked e (advance dt s)).prot.burn.phase = .acquire) := by
    rw [hburn, advance_prot]
    exact fun k => hb.elim (· k.1) (· k.2)
  have arm : exec (.engineShadowLock e dt) s = .next (
      let a := advance dt s
      let u := shadowLocked e a
      match (a.engine e).shadows with
      | some p =>
        if running a && (a.engine e).move == .shadowing && (acqOf a p true).st == .track then
          let u := if e = .les ∧ u.prot.burn.phase = .acquire then burnLocked u else u
          let back : Bool := match u.prot.restore with | some r => r.e == e && r.stage == .back | none => false
          pump (if back then tryReturn u else steer u)
        else a
      | none => a) := rfl
  simp [arm, h, hm, hs, acqOf, ht, idle, hrestore, hr]

theorem exec_enginePowerGated_of_gating (hm : (s.engine e).move = .gating) (hr : restorePower s e = false) :
    exec (.enginePowerGated e dt) s = .next (pump (steer (moveEnds e .cold (advance dt s)))) := by
  have unrestored : restorePower (moveEnds e .cold (advance dt s)) e = false := by
    rw [restorePower_congr (engineFrame_moveEnds e .cold _)]
    simpa [restorePower] using hr
  have arm : exec (.enginePowerGated e dt) s = .next (
      let a := advance dt s
      let u := moveEnds e .cold a
      if running a && (a.engine e).move == .gating then
        pump (steer (if restorePower u e then u.modEngine e fun x => { x with move := .toCool } else u)) else a) := rfl
  simp [arm, h, hm, unrestored]

end

/-- Settles O35: the end of a transition leaves `engineFrame` alone, so no restore and no burnishing step follows it. -/
theorem engineTransitionsEnd : Obligations.EngineTransitionsEnd := by
  unfold Obligations.EngineTransitionsEnd
  intro e p bads dt s h
  refine ⟨exec_engineColdToCoolDone_of_up h, exec_engineColdToCoolDone_of_failed_link h, exec_engineWakeDone_of_service h,
    fun hm hs ht hr hb => ?_, exec_enginePowerGated_of_gating h, fun hm => ?_⟩
  · have hk : (moveEnds e .warm (advance dt s)).hk = (advance dt s).hk := congrArg Prod.fst (engineFrame_moveEnds e .warm _)
    rw [exec_engineShadowLock_of_track h hm hs ht hr hb, shadowLocked, hk]
    rfl
  · cases hs : (s.engine e).shadows <;> simp [exec, execEngineRetentionReached, h, hm, hs]

end Sys2Proof.Machine
end

section
/-!
PROOFS. The command service (R54 to R62): what it answers to a command of any opcode row that Umcia takes at once.
-/
namespace Sys2Proof.Machine
open Sys2Proof

/-! ### Every meaning ends in a next state -/

/-- Each arm of `exec` is written as a next state (log entry 76). -/
theorem exec_completes (i : Instr) (s : State) : Completes (exec i s) := by
  cases i <;> exact ⟨_, rfl⟩

/-! ### A command to one unit -/

/-- TARGET 0xFE or 0xFF: several units (R36). -/
def multiTarget (c : Cmd) : Prop := c.target = 0xFE ∨ c.target = 0xFF

theorem multiTarget_false {c : Cmd} (h : ¬ multiTarget c) : (c.target == 0xFE || c.target == 0xFF) = false := by
  simpa [multiTarget] using h

theorem expand_one {op : OpSpec} {c : Cmd} (h : ¬ multiTarget c) (s : State) : expand op s c.target = [c.target] := by
  simp only [multiTarget, not_or] at h
  simp [expand, h]

theorem runUnit_of_finished {op : OpSpec} {c : Cmd} (h : c.unfinished = []) (t : Nat) (s : State) :
    runUnit op c t s = op.run s t c := by
  simp [runUnit, h]

/-- A unit that refuses leaves nothing for a device fault to stop. -/
theorem runUnit_of_refused {op : OpSpec} {c : Cmd} {t : Nat} {s : State} (h : 0x100 ≤ (op.run s t c).status) :
    runUnit op c t s = op.run s t c := by
  have refused : ¬ (op.run s t c).status < 0x100 := by omega
  simp only [runUnit, refused, if_false]
  split <;> rfl

/-- What the reply lists of one unit. -/
def unitEntry (t : Nat) (u : UnitRes) : DefEntry :=
  { target := t, settled := u.settled || decide (0x100 ≤ u.status), status := u.status, detail := u.detail, words := u.words }

section
variable {op : OpSpec} {c : Cmd} {s : State} (hm : ¬ multiTarget c) (hu : runUnit op c c.target s = op.run s c.target c)
include hm hu

/-- One unit is run once; ATOMIC has nothing to undo. -/
theorem runAll_one : runAll op c s =
    (let u := op.run s c.target c
     (if u.keep || decide (u.status < 0x100) then u.st else s, [unitEntry c.target u], false)) := by
  simp [runAll, expand_one hm, runUnits, hu, unitEntry]

/-- With DRY_RUN the reply leaves and nothing else changes (R57). -/
theorem perform_dry (h1 : c.flag 1 = true) : perform op c s =
    (let u := op.run s c.target c
     reply op.code c u.status u.detail u.words s) := by
  simp [perform, runAll_one hm hu, multiTarget_false hm, overall, h1, unitEntry]

/-- With STAGE the command joins the staged set (R57). -/
theorem perform_stage (h1 : c.flag 1 = false) (h2 : c.flag 2 = true) (hs : (op.run s c.target c).status < 0x100) :
    perform op c s =
      (let u := op.run s c.target c
       reply op.code c u.status u.detail u.words (s.modHost fun h => { h with staged := h.staged ++ [⟨op.code, c⟩] })) := by
  simp [perform, runAll_one hm hu, multiTarget_false hm, overall, h1, h2, hs, unitEntry]

/-- A unit that refuses is answered with its refusal. -/
theorem perform_refused (h1 : c.flag 1 = false) (h2 : c.flag 2 = false) (hs : 0x100 ≤ (op.run s c.target c).status) :
    perform op c s =
      (let u := op.run s c.target c
       reply op.code c u.status u.detail u.words (if u.keep then u.st else s)) := by
  have : ¬ (op.run s c.target c).status < 0x100 := by omega
  simp [perform, runAll_one hm hu, multiTarget_false hm, overall, h1, h2, hs, this, unitEntry]

end

/-! ### A command to several units -/

/-- STATUS of a command to several units without ATOMIC (R62). -/
def unitsStatus (es : List DefEntry) : Nat :=
  if ∃ e ∈ es, 0x100 ≤ e.status then stPartial else if ∃ e ∈ es, e.status = stAdjusted then stAdjusted else stOk

theorem overall_units (es : List DefEntry) : overall true es = (unitsStatus es, 0, entryWords es) := by
  simp [overall, unitsStatus]

theorem unitsStatus_lt {es : List DefEntry} : unitsStatus es < 0x100 ↔ unitsStatus es ≠ stPartial := by
  unfold unitsStatus
  split
  · decide
  · split <;> decide

/-- Without ATOMIC, DRY_RUN and STAGE the units change one after the other (R62). -/
theorem perform_units {op : OpSpec} {c : Cmd} {s : State} (hm : multiTarget c) (h0 : c.flag 0 = false)
    (h1 : c.flag 1 = false) (h2 : c.flag 2 = false)
    (hs : ∀ e ∈ (runUnits op c (expand op s c.target) s).2, e.settled = true) :
    perform op c s =
      (let x := runUnits op c (expand op s c.target) s
       let t := reply op.code c (unitsStatus x.2) 0 (entryWords x.2) x.1
       if unitsStatus x.2 = stPartial then t else op.after t c) := by
  have multi : (c.target == 0xFE || c.target == 0xFF) = true := by simpa [multiTarget] using hm
  have all : (runUnits op c (expand op s c.target) s).2.all (fun e => e.settled) = true := List.all_eq_true.mpr hs
  simp only [perform, runAll, multi, h0, h1, h2, overall_units, all, Bool.false_and, Bool.false_eq_true, if_false, if_true,
    unitsStatus_lt, ite_not]

/-! ### The rows -/

/-- Every row's meaning is the command service run on the row's `OpSpec`. -/
theorem everyRow_of_serve {P : OpSpec → (Cmd → Instr) → Prop}
    (h : ∀ op f, (∀ c s, exec (f c) s = .next (serve op c s)) → P op f) : EveryRow P := by
  simp only [EveryRow, DeviceRows, ModeRows, ConvRows, DspRows, SpnRows, FecRows, LfRows, KeyRows, HostRows, TmRows, ProtRows,
    MateRows, ClkRows, MonRows, FwRows, SealRows]
  and_intros <;> exact h _ _ fun _ _ => rfl

/-- Settles O2: a row is the command service on its `OpSpec`, which refuses at a failed check and performs otherwise. -/
theorem everyCommandCompletes : Obligations.EveryCommandCompletes := by
  unfold Obligations.EveryCommandCompletes
  refine ⟨exec_completes, everyRow_of_serve fun op f hf c s h hu => ?_⟩
  intro r multi u
  refine ⟨fun st det hc => (hf c s).trans (congrArg _ (serve_refused h hc)), fun hc => ?_⟩
  have performed {t : State} (ht : perform op c r = t) : exec (f c) s = .next (pump t) := by
    rw [hf, serve_perform h hc, ht]
  have run (t : Nat) : runUnit op c t r = op.run r t c := runUnit_of_finished hu t r
  refine ⟨fun hm h1 h2 => ?_, fun hm h1 => performed (perform_dry hm (run _) h1),
    fun hm h1 h2 hs => performed (perform_stage hm (run _) h1 h2 hs),
    fun hm h0 h1 h2 => fun hs => performed (perform_units hm h0 h1 h2 hs)⟩
  have one := perform_one (op := op) (s := r) ⟨fun k => hm (.inl k), fun k => hm (.inr k), h1, h2, hu⟩
  refine ⟨fun hs hd => performed ?_, fun hs hd => performed ?_, fun hs => performed (perform_refused hm (run _) h1 h2 hs)⟩
  all_goals
    rw [one]
    simp only [u] at hs hd
    simp [Nat.not_le.mpr hs, hd, u]

/-! ### The first failed check -/

/-- The smaller word number is the least of those given. -/
theorem firstOf_eq_some_iff {x y : Option Nat} {w : Nat} :
    firstOf x y = some w ↔ (x = some w ∨ y = some w) ∧ ∀ v, x = some v ∨ y = some v → w ≤ v := by
  rcases x with _ | a <;> rcases y with _ | b <;> simp only [firstOf] <;> grind

theorem firstOf_eq_none_iff {x y : Option Nat} : firstOf x y = none ↔ x = none ∧ y = none := by
  rcases x with _ | a <;> rcases y with _ | b <;> simp [firstOf]

/-- The first parameter word that the command leaves out. -/
def missingWord (op : OpSpec) (c : Cmd) : Option Nat :=
  if c.params.length < op.nparams then some (3 + c.params.length) else none

/-- The words that check 8 finds on one unit: a missing one, one out of the opcode's range, one out of the unit's. -/
def badWords (op : OpSpec) (s : State) (c : Cmd) : List (Option Nat) :=
  [missingWord op c, op.badParam s c, op.unitBad s c.target c]

theorem isSealed_ready (c : Cmd) (s : State) : isSealed (ready c s) = isSealed s := by simp [isSealed]

section
variable {op : OpSpec} {c : Cmd} {s : State} (hm : ¬ multiTarget c)
include hm

theorem badWord_one :
    badWord op s c = firstOf (firstOf (missingWord op c) (op.badParam s c)) (op.unitBad s c.target c) := by
  simp [badWord, expand_one hm, missingWord]

theorem badWord_of_least {w : Nat} (hw : some w ∈ badWords op s c) (hv : ∀ v, some v ∈ badWords op s c → w ≤ v) :
    badWord op s c = some w := by
  simp only [badWords, List.mem_cons, List.not_mem_nil, or_false, eq_comm (a := some _)] at hw hv
  simp only [badWord_one hm, firstOf_eq_some_iff]
  grind

theorem badWord_of_none (h : ∀ x ∈ badWords op s c, x = none) : badWord op s c = none := by
  simp only [badWord_one hm, firstOf_eq_none_iff]
  simpa [badWords, and_assoc] using h

theorem targetOk_one : targetOk op c.target = op.targets c.target := by
  simp only [multiTarget, not_or] at hm
  simp [targetOk, hm]

theorem checks_of_target (ht : op.targets c.target = false) : checks op c false s = some (stBadTarget, 0) := by
  simp [checks, targetOk_one hm, ht]

section
variable (ht : op.targets c.target = true)
include ht

theorem checks_of_length (hl : 1020 < op.resLen s c.target c) : checks op c false s = some (stBadLength, 4) := by
  simp [checks, targetOk_one hm, ht, expand_one hm, multiTarget_false hm, hl]

variable (hl : op.resLen s c.target c ≤ 1020)
include hl

theorem checks_of_flags (hf : (c.flags % 16) &&& (15 ^^^ op.flags) ≠ 0) : checks op c false s = some (stBadParam, 2) := by
  simp [checks, targetOk_one hm, ht, expand_one hm, multiTarget_false hm, Nat.not_lt.mpr hl, hf]

variable (hf : (c.flags % 16) &&& (15 ^^^ op.flags) = 0)
include hf

theorem checks_of_badWord {w : Nat} (hw : badWord op s c = some w) : checks op c false s = some (stBadParam, w) := by
  simp [checks, targetOk_one hm, ht, expand_one hm, multiTarget_false hm, Nat.not_lt.mpr hl, hf, hw]

variable (hw : badWord op s c = none)
include hw

theorem checks_of_staging (h2 : c.flag 2 = true) (h1 : c.flag 1 = false) (hs : 256 ≤ s.host.staged.length) :
    checks op c false s = some (stBadState, 0x0011) := by
  simp [checks, targetOk_one hm, ht, expand_one hm, multiTarget_false hm, Nat.not_lt.mpr hl, hf, hw, h1, h2, hs]

variable (hs : ¬ (c.flag 2 = true ∧ c.flag 1 = false ∧ 256 ≤ s.host.staged.length))
include hs

theorem checks_of_lock {l : Lock} {q : Port} {t : Nat} (ho : op.lock = some l) (hq : lockHolder s l = some (q, t))
    (hp : q ≠ c.port) : checks op c false s = some (stLocked, lockNum l * 256 + portCode q) := by
  simp [checks, targetOk_one hm, ht, expand_one hm, multiTarget_false hm, Nat.not_lt.mpr hl, hf, hw, ho, hq, hp]
  grind

variable (ho : ∀ l q t, op.lock = some l → lockHolder s l = some (q, t) → q = c.port)
include ho

/-- Checks 6 to 10 pass: the seal is what is left. -/
theorem checks_of_unlocked :
    checks op c false s = if op.sealable && isSealed s then some (stSealed, 0) else none := by
  simp [checks, targetOk_one hm, ht, expand_one hm, multiTarget_false hm, Nat.not_lt.mpr hl, hf, hw]
  grind

end
end

/-- Settles O58: the checks of Table 2.5 in their order, each with those before it passed, then the refusal of the unit. -/
theorem firstFailedCheck : Obligations.FirstFailedCheck := by
  unfold Obligations.FirstFailedCheck
  intro op c s h hb ha
  have hm : ¬ multiTarget c := fun k => k.elim hb ha
  intro r refused extra
  have refuses {st det : Nat} (k : checks op c false r = some (st, det)) : refused st det := serve_refused h k
  refine ⟨fun ht => refuses (checks_of_target hm ht), fun ht => ⟨fun hl => refuses (checks_of_length hm ht hl), fun hl =>
    ⟨fun hf => refuses (checks_of_flags hm ht hl hf), fun hf =>
    ⟨fun w hw hv => refuses (checks_of_badWord hm ht hl hf (badWord_of_least hm hw hv)), fun hn => ?_⟩⟩⟩⟩
  have hw : badWord op r c = none := badWord_of_none hm hn
  refine ⟨fun ⟨h2, h1, hs⟩ => refuses (checks_of_staging hm ht hl hf hw h2 h1 hs), fun hs =>
    ⟨fun l q t ho hq hp => refuses (checks_of_lock hm ht hl hf hw hs ho hq hp), fun ho => ?_⟩⟩
  have sealing := checks_of_unlocked hm ht hl hf hw hs ho
  refine ⟨fun hx hy => refuses (by simp [sealing, r, hx, isSealed_ready, hy]), fun hx h1 h2 det hr => ?_⟩
  have passes : Passes op c s := sealing.trans (by rcases hx with hx | hx <;> simp [r, hx, isSealed_ready])
  have status : 0x100 ≤ (op.run r c.target c).status := by simp [hr, refuse, stBadState]
  exact (serve_perform h passes).trans <| congrArg pump <|
    (perform_refused hm (runUnit_of_refused status) h1 h2 status).trans (by simp [hr, refuse])

end Sys2Proof.Machine
end

section
/-!
PROOFS. The PCIe port's ring registers (R32, R42, R43, Table 2.2).
-/
namespace Sys2Proof.Machine
open Sys2Proof

/-- The endpoint that takes transactions is not in DARK, so a transaction wakes nothing. -/
theorem inDark_of_open {s : State} (h : pcieOpen s = true) : inDark s = false := by
  simp only [pcieOpen, running, Bool.and_eq_true, Bool.not_eq_true'] at h
  obtain ⟨⟨⟨-, awake⟩, -⟩, -⟩ := h
  exact awake

theorem pcieTouch_of_open {s : State} (h : pcieOpen s = true) : pcieTouch s = s := by
  simp [pcieTouch, inDark_of_open h]

theorem pcieWrite_of_open {dt : Nat} {s : State} (h : pcieOpen (advance dt s) = true) (f : State → State) :
    pcieWrite f dt s = pump (f (advance dt s)) := by
  simp [pcieWrite, pcieTouch_of_open h, h]

theorem doorbell_of_awake {s : State} (h : s.pr.waking = false) (i : Nat) :
    doorbell i s = s.modPcie fun x => { x with cmdProd := i % 2 ^ bits x.ringSize 0 4 } := by
  simp [doorbell, h, writeCmdProd, slots]

theorem doorbell_of_waking {s : State} (h : s.pr.waking = true) (i : Nat) :
    doorbell i s = s.modPcie fun x => { x with heldDoorbell := some i } := by
  simp [doorbell, h]

/-- RING_CTRL: ENABLE, and RESET where bit 1 is set. -/
theorem regWrite_ringCtrl (v : Word) (s : State) :
    regWrite 0x81C v s = s.modPcie fun x =>
      if v.getLsbD 1 then { x with
        enable := v.getLsbD 0, cmdProd := 0, cmdCons := 0, rplProd := 0, rplCons := 0, evtProd := 0, evtCons := 0
        rplRing := [], evtRing := [], heldDoorbell := none }
      else { x with enable := v.getLsbD 0 } := by
  have arm : regWrite 0x81C v s = (if v.getLsbD 1 then ringReset else id) (writeEnable (v.getLsbD 0) s) := rfl
  rw [arm]
  cases v.getLsbD 1 <;> rfl

/-- The MSI-X table: eight vectors of four words. -/
theorem regWrite_msix {off : Nat} (hlo : 0x1000 ≤ off) (hhi : off < 0x1080) (v : Word) (s : State) :
    regWrite off v s = s.modPcie fun x =>
      { x with msixTable := SMap.set 0 x.msixTable ((off - 0x1000) / 4 * 4) v } := by
  have table : within off 0x1000 0x1FFF = true := by simp [within]; omega
  have vector : off - 0x1000 < 0x80 := by omega
  simp [regWrite, table, writeMsix, vector]

/-- The offsets of the doorbell region that the host writes (Table 2.2). -/
def writtenOffsets : List Nat := [0x800, 0x804, 0x808, 0x80C, 0x810, 0x814, 0x818, 0x81C, 0x820, 0x82C, 0x830]

/-- A write elsewhere is ignored (R67). -/
theorem regWrite_elsewhere {off : Nat} (hoff : off ∉ writtenOffsets) (hmsix : off < 0x1000 ∨ 0x1080 ≤ off) (v : Word)
    (s : State) : regWrite off v s = s := by
  unfold regWrite
  split
  · next table =>
    simp only [within, Bool.and_eq_true, decide_eq_true_eq] at table
    have beyond : ¬ off - 0x1000 < 0x80 := by omega
    simp [writeMsix, beyond]
  · split
    case h_12 => rfl
    all_goals exact absurd (by decide) hoff

/-- Settles O4: a write that the endpoint takes is its register's effect, and what waits for room follows. -/
theorem ringRegisterWrites : Obligations.RingRegisterWrites := by
  unfold Obligations.RingRegisterWrites
  intro i off dt on v s h a wr reset
  have written (f : State → State) (g : PcieState → PcieState) (hf : f a = a.modPcie g) :
      Host.Outcome.next (pcieWrite f dt s) = wr g := by
    rw [pcieWrite_of_open h, hf]
  have elsewhere (hoff : off ∉ writtenOffsets) (hmsix : off < 0x1000 ∨ 0x1080 ≤ off) :
      exec (.registerWrite off v dt) s = .next (pump a) := by
    simp only [exec, execRegisterWrite, pcieWrite_of_open h, regWrite_elsewhere hoff hmsix, a]
  have awake (hw : s.pr.waking = false) : a.pr.waking = false := by simpa [a] using hw
  have waking (hw : s.pr.waking = true) : a.pr.waking = true := by simpa [a] using hw
  exact ⟨fun hw => ⟨written _ _ (doorbell_of_awake (awake hw) i), written _ _ (doorbell_of_awake (awake hw) v.toNat)⟩,
    fun hw => ⟨written _ _ (doorbell_of_waking (waking hw) i), written _ _ (doorbell_of_waking (waking hw) v.toNat)⟩,
    written _ _ rfl, written _ _ rfl, written _ _ rfl, written _ _ rfl, written _ _ rfl, written _ _ rfl, written _ _ rfl,
    written _ _ rfl, written _ _ rfl, written _ _ rfl, written _ _ rfl, written _ _ (regWrite_ringCtrl v a), rfl, rfl,
    fun hlo hhi => written _ _ (regWrite_msix hlo hhi v a), elsewhere⟩

end Sys2Proof.Machine
end

section
/-!
PROOFS. Session locks, and the PCIe port going down and coming up (R41, R42, R66).
-/
namespace Sys2Proof.Machine
open Sys2Proof

/-! ### What an event leaves alone -/

/-- What neither a burst nor an event touches: REPLY_DROP, the rings of PCIe, and the replies that wait. -/
theorem queuePacket_host (ws : List Word) (s : State) : (queuePacket ws s).host = s.host := by
  have pumped (n : Nat) : ∀ u : State, (pumpMate n u).host = u.host := by
    induction n with
    | zero => intro u; rfl
    | succ n ih =>
      intro u
      rw [pumpMate]
      split
      · rfl
      · split
        · rw [ih]; rfl
        · rfl
  exact pumped _ _

/-- REPLY_DROP and the state of the PCIe port, which stays as it is while the link is down. -/
def pcieDownView (s : State) : BitVec 32 × PcieState := (s.host.replyDrop, s.host.pcie)

theorem pcieDownView_ite {c : Prop} [Decidable c] {s t u : State} (hs : pcieDownView s = pcieDownView u)
    (ht : pcieDownView t = pcieDownView u) : pcieDownView (if c then s else t) = pcieDownView u := by split <;> assumption

theorem pcieDownView_place {p : Port} (hp : p ≠ .pcie) (k : OutPkt) (s : State) :
    pcieDownView (place s p k) = pcieDownView s := by
  cases p with
  | pcie => exact absurd rfl hp
  | mate => exact congrArg (fun h => (h.replyDrop, h.pcie)) (queuePacket_host _ s)
  | _ => rfl

section
variable {s : State} (h : s.host.pcie.linkUp = false)
include h

theorem pcieDownView_emitTo (p : Port) (code target flags : Nat) (data : List Word) :
    pcieDownView (emitTo p code target flags data s) = pcieDownView s := by
  by_cases hp : p = .pcie
  · subst hp
    simp [emitTo, takeSeq, modEvt, evtRoom, h, pcieDownView]
  · exact pcieDownView_ite ((pcieDownView_place hp _ _).trans rfl) rfl

theorem pcieDownView_emit (code target : Nat) (data : List Word) :
    pcieDownView (emit code target data s) = pcieDownView s := by
  unfold emit emitF
  split
  · rfl
  · refine foldl_related (r := fun s t => s.host.pcie.linkUp = false → pcieDownView t = pcieDownView s) (fun _ _ => rfl)
      (fun hst htu hs => ?_) (fun u p hu => ?_) ports s h
    · have eq := hst hs
      exact (htu ((congrArg (fun x => x.2.linkUp) eq).trans hs)).trans eq
    · split
      · exact pcieDownView_emitTo hu _ _ _ _ _
      · rfl

end

/-! ### A lock is released (R66) -/

@[simp] theorem lockHolder_emit (l : Lock) (code target : Nat) (data : List Word) (s : State) :
    lockHolder (emit code target data s) l = lockHolder s l := by
  cases l <;> simp [lockHolder]

@[simp] theorem lockHolder_pump (l : Lock) (s : State) : lockHolder (pump s) l = lockHolder s l := by
  cases l <;> simp [lockHolder]

@[simp] theorem lockHolder_advance (l : Lock) (dt : Nat) (s : State) : lockHolder (advance dt s) l = lockHolder s l := by
  cases l <;> simp [lockHolder]

theorem lockHolder_setLock (l l' : Lock) (v : Option (Port × Nat)) (s : State) :
    lockHolder (setLock s l v) l' = if l' = l then v else lockHolder s l' := by
  cases l <;> cases l' <;> rfl

/-- The lock's holder gone, and with UPDATE_LOCK the update session (R413); the event is still to come. -/
def unlocked (l : Lock) (s : State) : State :=
  match l with
  | .update => (setLock s .update none).modFw fun f => { f with session := none }
  | .crypto => setLock s .crypto none

theorem releaseLock_of_held {l : Lock} {p : Port} {u : Nat} {s : State} (h : lockHolder s l = some (p, u)) (reason : Nat) :
    releaseLock l reason s = emit 0x8003 0 [w32 (lockNum l), w32 (portCode p), w32 reason] (unlocked l s) := by
  cases l <;> simp [releaseLock, h, unlocked]

theorem lockHolder_unlocked (l l' : Lock) (s : State) :
    lockHolder (unlocked l s) l' = if l' = l then none else lockHolder s l' := by
  cases l <;> cases l' <;> rfl

/-- The part of the state that no release of a lock touches: staged commands and the units. -/
def lockFrame (s : State) := (s.hk, s.pr, s.host.staged, s.lp, s.eng, s.tm, s.keys, s.alarms)

theorem lockFrame_emit (code target : Nat) (data : List Word) (s : State) :
    lockFrame (emit code target data s) = lockFrame s := by
  simp [lockFrame]

theorem lockFrame_pump (s : State) : lockFrame (pump s) = lockFrame s := by
  simp [lockFrame]

theorem lockFrame_unlocked (l : Lock) (s : State) : lockFrame (unlocked l s) = lockFrame s := by
  cases l <;> rfl

theorem pcieDownView_unlocked (l : Lock) (s : State) : pcieDownView (unlocked l s) = pcieDownView s := by
  cases l <;> rfl

/-- LOCK_INACTIVITY_TIMEOUT at its end, outside a pause. -/
theorem exec_lockInactivityTimeout_of_due {l : Lock} {p : Port} {u dt : Nat} {s : State} (h : lockHolder s l = some (p, u))
    (hr : running (advance dt s) = true) (hp : s.fw.pause.isNone = true) (hu : u + secT 2 ≤ (advance dt s).hk) :
    exec (.lockInactivityTimeout l dt) s = .next (pump (releaseLock l 1 (advance dt s))) := by
  simp only [exec, execLockInactivityTimeout, lockHolder_advance, h, hr, advance_fw, hp, hu, decide_true, Bool.and_self, if_true]

theorem exec_lockInactivityTimeout_of_early {l : Lock} {p : Port} {u dt : Nat} {s : State}
    (h : lockHolder s l = some (p, u)) (hu : (advance dt s).hk < u + secT 2) :
    exec (.lockInactivityTimeout l dt) s = .next (advance dt s) := by
  simp only [exec, execLockInactivityTimeout, lockHolder_advance, h, Nat.not_le.mpr hu, decide_false, Bool.and_false,
    Bool.false_eq_true, if_false]

/-- Settles O10: the expiry releases its own lock, which changes the lock and an event alone. -/
theorem lockInactivity : Obligations.LockInactivity := by
  unfold Obligations.LockInactivity
  intro l p u dt s h
  refine ⟨fun hr hp hu => ⟨_, exec_lockInactivityTimeout_of_due h hr hp hu, ?_⟩, exec_lockInactivityTimeout_of_early h⟩
  rw [releaseLock_of_held ((lockHolder_advance l dt s).trans h)]
  have kept := (lockFrame_pump _).trans <| (lockFrame_emit 0x8003 0 [w32 (lockNum l), w32 (portCode p), w32 1] _).trans
    (lockFrame_unlocked l (advance dt s))
  simp only [lockFrame, Prod.mk.injEq, advance_host, advance_lp, advance_eng, advance_keys, advance_alarms] at kept
  obtain ⟨-, -, hstaged, hlp, heng, -, hkeys, halarms⟩ := kept
  refine ⟨by simp [lockHolder_unlocked], fun l' hl => by simp [lockHolder_unlocked, hl], hstaged, hlp, heng, hkeys, halarms⟩

/-! ### The PCIe port goes down (R41, R42) -/

/-- One lock is released if the port holds it. -/
def releaseOf (p : Port) (s : State) (l : Lock) : State :=
  match lockHolder s l with
  | some (q, _) => if q = p then releaseLock l 2 s else s
  | none => s

theorem releasePortLocks_eq (p : Port) (s : State) :
    releasePortLocks p s = releaseOf p (releaseOf p s .crypto) .update := rfl

/-- A lock's holder after the port `p` has gone down. -/
def heldBeside (p : Port) (h : Option (Port × Nat)) : Option (Port × Nat) := h.filter fun x => x.1 ≠ p

theorem releaseOf_cases (p : Port) (s : State) (l : Lock) :
    (releaseOf p s l = s ∧ heldBeside p (lockHolder s l) = lockHolder s l) ∨
    (∃ data, releaseOf p s l = emit 0x8003 0 data (unlocked l s)) ∧ heldBeside p (lockHolder s l) = none := by
  unfold releaseOf heldBeside
  split
  · next q u h =>
    split
    · next hq => exact .inr ⟨⟨_, releaseLock_of_held h 2⟩, by simp [h, hq]⟩
    · next hq => exact .inl ⟨rfl, by simp [h, hq]⟩
  · next h => exact .inl ⟨rfl, by simp [h]⟩

theorem lockHolder_releaseOf (p : Port) (s : State) (l l' : Lock) :
    lockHolder (releaseOf p s l) l' = if l' = l then heldBeside p (lockHolder s l') else lockHolder s l' := by
  by_cases hl : l' = l
  · subst hl
    rcases releaseOf_cases p s l' with ⟨h, hb⟩ | ⟨⟨data, h⟩, hb⟩ <;> simp [h, hb, lockHolder_unlocked]
  · rcases releaseOf_cases p s l with ⟨h, hb⟩ | ⟨⟨data, h⟩, hb⟩ <;> simp [h, hl, lockHolder_unlocked]

theorem lockFrame_releaseOf (p : Port) (s : State) (l : Lock) : lockFrame (releaseOf p s l) = lockFrame s := by
  rcases releaseOf_cases p s l with ⟨h, -⟩ | ⟨⟨data, h⟩, -⟩
  · rw [h]
  · rw [h, lockFrame_emit, lockFrame_unlocked]

theorem pcieDownView_releaseOf (p : Port) {s : State} (hs : s.host.pcie.linkUp = false) (l : Lock) :
    pcieDownView (releaseOf p s l) = pcieDownView s := by
  rcases releaseOf_cases p s l with ⟨h, -⟩ | ⟨⟨data, h⟩, -⟩
  · rw [h]
  · have view := pcieDownView_unlocked l s
    rw [h, pcieDownView_emit ((congrArg (fun x => x.2.linkUp) view).trans hs), view]

theorem lockHolder_releasePortLocks (p : Port) (s : State) (l : Lock) :
    lockHolder (releasePortLocks p s) l = heldBeside p (lockHolder s l) := by
  cases l <;> simp [releasePortLocks_eq, lockHolder_releaseOf]

theorem lockFrame_releasePortLocks (p : Port) (s : State) : lockFrame (releasePortLocks p s) = lockFrame s :=
  (lockFrame_releaseOf p _ .update).trans (lockFrame_releaseOf p s .crypto)

theorem pcieDownView_releasePortLocks (p : Port) {s : State} (hs : s.host.pcie.linkUp = false) :
    pcieDownView (releasePortLocks p s) = pcieDownView s := by
  have first := pcieDownView_releaseOf p hs .crypto
  exact (pcieDownView_releaseOf p ((congrArg (fun x => x.2.linkUp) first).trans hs) .update).trans first

/-- The PCIe port is down: what it discards, and nothing else of the port or the units. -/
theorem pcieDown_view (s : State) :
    pcieDownView (pcieDown s) = (s.host.replyDrop + BitVec.ofNat 32 s.host.pcie.rplWait.length,
      { s.host.pcie with linkUp := false, rplWait := [], heldReads := [] }) :=
  pcieDownView_releasePortLocks .pcie rfl

theorem pcieDown_frame (s : State) : lockFrame (pcieDown s) = lockFrame s := lockFrame_releasePortLocks .pcie _

theorem pcieDown_lockHolder (s : State) (l : Lock) : lockHolder (pcieDown s) l = heldBeside .pcie (lockHolder s l) := by
  have k := lockHolder_releasePortLocks .pcie ((s.modHost fun h => { h with
    replyDrop := h.replyDrop + BitVec.ofNat 32 s.host.pcie.rplWait.length }).modPcie fun c => { c with
    linkUp := false, rplWait := [], heldReads := [] }) l
  cases l <;> exact k

theorem exec_perstNAssert {dt : Nat} {s : State} (hp : s.pr.powered = true) (hr : inReset s = false)
    (hf : s.pr.phase ≠ .fault) :
    exec (.perstNAssert dt) s = .next ((pcieDown (advance dt s)).modPcie fun c =>
      { msix0 := c.msix0, msix1 := c.msix1, msix2 := c.msix2, msix3 := c.msix3, dmaDone := c.dmaDone }) := by
  simp [exec, execPerstNAssert, hp, hr, hf]

theorem exec_pcieLinkDown {dt : Nat} {s : State} (h : s.host.pcie.linkUp = true) :
    exec (.pcieLinkDown dt) s = .next (pcieDown (advance dt s)) := by
  simp [exec, execPcieLinkDown, h]

theorem exec_pcieLinkUp {dt : Nat} {s : State} (h : running (advance dt s) = true) :
    exec (.pcieLinkUp dt) s = .next (pump ((advance dt s).modPcie fun c => { c with linkUp := true })) := by
  simp only [exec, execPcieLinkUp, h, if_true]

/-- Settles O9: both events are `pcieDown`, which touches REPLY_DROP, the PCIe port and its locks. -/
theorem pcieDownAndUp : Obligations.PcieDownAndUp := by
  unfold Obligations.PcieDownAndUp
  intro dt s a drops
  obtain ⟨hdrop, hpcie⟩ := Prod.mk.inj (pcieDown_view a)
  have dropped {t : State} (hd : t.host.replyDrop = (pcieDown a).host.replyDrop) (hk : lockFrame t = lockFrame (pcieDown a))
      (hl : ∀ l, lockHolder t l = lockHolder (pcieDown a) l) : drops t := by
    have kept := hk.trans (pcieDown_frame a)
    simp only [a, lockFrame, Prod.mk.injEq, advance_host, advance_lp, advance_eng, advance_keys, advance_alarms, advance_pr,
      advance_tm] at kept
    obtain ⟨-, hpr, hstaged, hlp, heng, htm, hkeys, halarms⟩ := kept
    refine ⟨by simp [hd, hdrop, a], fun l => ⟨hstaged, ?_⟩, hpr, hlp, heng, htm, hkeys, halarms⟩
    rw [hl, pcieDown_lockHolder, lockHolder_advance]
    rcases lockHolder s l with _ | ⟨q, u⟩
    · rfl
    · by_cases hq : q = .pcie <;> simp [heldBeside, hq]
  refine ⟨fun hp hr hf => ⟨_, exec_perstNAssert hp hr hf, by simp [hpcie, a], dropped rfl rfl fun l => by cases l <;> rfl⟩,
    fun hl => ⟨_, exec_pcieLinkDown hl, ?_⟩, exec_pcieLinkUp⟩
  exact ⟨by simp [hpcie, a], by simp [hpcie, a], by simp [hpcie, a], by simp [hpcie, a], dropped rfl rfl fun _ => rfl⟩

end Sys2Proof.Machine
end

section
/-!
PROOFS. Packets that arrive on PCIe, SPI and the in-band channels, and SPI output (R44, R47, R49).
-/
namespace Sys2Proof.Machine
open Sys2Proof

/-! ### SPI frames: a frame begins by forgetting what SPI_MISO carried -/

@[simp] theorem spiTakes_setMiso (m : Option (List Word)) (s : State) : spiTakes (setMiso m s) = spiTakes s := rfl
@[simp] theorem spiReads_setMiso (m : Option (List Word)) (s : State) : spiReads (setMiso m s) = spiReads s := rfl
@[simp] theorem spiOurs_setMiso (m : Option (List Word)) (s : State) (b : Byte) : spiOurs (setMiso m s) b = spiOurs s b := rfl
@[simp] theorem packetsKept_setMiso (m : Option (List Word)) (s : State) : packetsKept (setMiso m s) = packetsKept s := rfl
@[simp] theorem bootRomReads_setMiso (m : Option (List Word)) (s : State) (p : Port) :
    bootRomReads (setMiso m s) p = bootRomReads s p := rfl
theorem setMiso_setMiso (m m' : Option (List Word)) (s : State) : setMiso m (setMiso m' s) = setMiso m s := rfl

section
variable {b : Byte} {dt : Nat} {s : State} (ht : spiTakes (advance dt s) = true) (ho : spiOurs (advance dt s) b = true)
include ht ho

theorem exec_spiCmdWrite (hb : b.toNat % 64 = 1) (ws : List Word) :
    exec (.spiCmdWrite b ws dt) s = .next (spiPacket ws (setMiso none (advance dt s))) := by
  simp [exec, execSpiCmdWrite, ht, ho, hb]

theorem exec_spiOutRead (hb : b.toNat % 64 = 2) (n : Nat) :
    exec (.spiOutRead b n dt) s = .next (spiOut n (setMiso none (advance dt s))) := by
  simp [exec, execSpiOutRead, ht, ho, hb]

end

/-! ### OUT_READ -/

theorem OutPkt.words_ne_nil (k : OutPkt) : k.words ≠ [] := by simp [OutPkt.words]

section
variable {k : OutPkt} {r : List OutPkt} {n : Nat} {s : State} (h : s.host.spi.out = k :: r)
include h

/-- All words of the head packet were clocked: it leaves the queue. -/
theorem spiOut_of_whole (hn : k.words.length + 1 ≤ n) :
    spiOut n s = pump ((setMiso (some ((outStatus s :: k.words).take n)) s).modSpi fun c => { c with out := r }) := by
  have rest : ∀ u : State, u.host.spi.out = k :: r → (u.modSpi fun c => { c with out := c.out.drop 1 }) =
      u.modSpi fun c => { c with out := r } := fun u hu => by simp [State.modSpi, hu]
  simp only [spiOut, h, List.isEmpty_eq_false_iff.mpr k.words_ne_nil, hn, decide_true, Bool.not_false, Bool.and_self, if_true]
  exact congrArg pump (rest _ h)

theorem spiOut_of_part (hn : n < k.words.length + 1) :
    spiOut n s = setMiso (some ((outStatus s :: k.words).take n)) s := by
  simp only [spiOut, h, Nat.not_le.mpr hn, decide_false, Bool.and_false, Bool.false_eq_true, if_false]

end

theorem spiOut_of_empty {n : Nat} {s : State} (h : s.host.spi.out = []) :
    spiOut n s = setMiso (some ([outStatus s].take n)) s := by
  simp [spiOut, h]

/-- Settles O8: `spiOut` returns what was clocked and drops the head packet where all of it was. -/
theorem outReadRemovesWholePackets : Obligations.OutReadRemovesWholePackets := by
  unfold Obligations.OutReadRemovesWholePackets
  intro b n dt s a ht ho hb
  rw [exec_spiOutRead ht ho hb n]
  have out : (setMiso none a).host.spi.out = s.host.spi.out := by simp [setMiso, a]
  refine ⟨fun k r hk => ⟨fun hn => ?_, fun hn => ?_⟩, fun he => ?_⟩
  · rw [spiOut_of_whole (out.trans hk) hn]; rfl
  · rw [spiOut_of_part (out.trans hk) hn]; rfl
  · rw [spiOut_of_empty (out.trans he)]; rfl

/-! ### CMD_WRITE -/

section
variable {w : Word} {r : List Word} {s : State}

theorem spiPacket_of_no_sync (h : bits w.toNat 24 8 ≠ 0xC5) : spiPacket (w :: r) s = s := by
  simp [spiPacket, h]

variable (h : bits w.toNat 24 8 = 0xC5)
include h

theorem spiPacket_of_short (hn : (w :: r).length < min 1020 (bits w.toNat 0 16) + 4) :
    spiPacket (w :: r) s = s.modHost fun h => { h with spiAbort := h.spiAbort + 1 } := by
  simp only [spiPacket, h, hn, ne_eq, not_true_eq_false, if_false, if_true]

theorem spiPacket_of_whole (hn : min 1020 (bits w.toNat 0 16) + 4 ≤ (w :: r).length)
    (hk : packetsKept s = true ∨ bootRomReads s .spi = true) :
    spiPacket (w :: r) s = arrive .spi ((w :: r).take (min 1020 (bits w.toNat 0 16) + 4)) s := by
  simp only [spiPacket, h, Nat.not_lt.mpr hn, ne_eq, not_true_eq_false, if_false, Bool.or_eq_true, hk, if_true]

end

/-! ### Ring slots and in-band packets -/

theorem exec_pcieRingFetch {dt : Nat} {s : State} (h : mayFetch (advance dt s) = true) (ws : List Word) :
    exec (.pcieRingFetch ws dt) s = .next (arrive .pcie (slotPacket ws)
      ((advance dt s).modPcie fun c => { c with cmdCons := (c.cmdCons + 1) % 2 ^ bits c.ringSize 0 4 })) := by
  simp only [exec, execPcieRingFetch, h, if_true, slots]

/-- A packet found on an in-band channel: what the hunt discarded is counted, the bytes after the packet stay. -/
theorem exec_inbandPacketReceived {p : Lp} {d dt : Nat} {ws : List Word} {bs : List Byte} {s : State}
    (h : running (advance dt s) = true)
    (hf : huntBytes ((s.inband p).rx.length + 1) 0 (s.inband p).rx = (d, .packet ws bs)) :
    exec (.inbandPacketReceived p dt) s = .next (
      let k := inbandDrop d ((advance dt s).modInband p fun i => { i with rx := bs })
      if !(s.inband p).enable then inbandDrop 1 k else if packetsKept k then arrive (ibPort p) ws k else k) := by
  have channel : (advance dt s).inband p = s.inband p := by cases p <;> simp [State.inband]
  have enable : ((inbandDrop d ((advance dt s).modInband p fun i => { i with rx := bs })).inband p).enable =
      (s.inband p).enable := by
    rw [← channel]
    cases p <;> rfl
  simp only [exec, execInbandPacketReceived, h, channel, hf, enable, Bool.not_true, Bool.false_eq_true, if_false]

/-- Settles O5: each port hands the packet it found to `arrive`. -/
theorem packetsArrive : Obligations.PacketsArrive := by
  unfold Obligations.PacketsArrive
  intro ws rest bs b p d dt s a m
  refine ⟨fun h => exec_pcieRingFetch h ws, fun ht ho hb => ?_, fun h hf => ?_⟩
  · rw [exec_spiCmdWrite ht ho hb]
    refine ⟨?_, ?_, ?_⟩
    · rintro rfl
      rfl
    · rintro w r rfl hs
      rw [spiPacket_of_no_sync hs]
    · rintro w r rfl hs
      exact ⟨fun hn => by rw [spiPacket_of_short hs hn], fun hn hk => congrArg _ (spiPacket_of_whole (s := m) hs hn hk)⟩
  · rw [exec_inbandPacketReceived h hf]
    exact ⟨fun he hk => congrArg _ ((if_neg (by simp [he])).trans (if_pos hk)),
      fun he => congrArg _ (if_pos (by simp [he]))⟩

end Sys2Proof.Machine
end

section
/-!
PROOFS. The fast status window: a LO read latches the HI word on its path (R67, R68).
-/
namespace Sys2Proof.Machine
open Sys2Proof

/-! ### A word of the window, and the SPI port -/

theorem modPerf_modSpi (e : Eng) (i : Nat) (g : SpnPerf → SpnPerf) (f : SpiState → SpiState) (s : State) :
    modPerf e i g (s.modSpi f) = (modPerf e i g s).modSpi f := by
  cases e <;> rfl

theorem settlePerf_modSpi (e : Eng) (i : Nat) (f : SpiState → SpiState) (s : State) :
    settlePerf e i (s.modSpi f) = (settlePerf e i s).modSpi f := by
  simp only [settlePerf, apply_ite (State.modSpi · f), ← modPerf_modSpi]
  rfl

theorem settleHost_modSpi (n : Nat) (f : SpiState → SpiState) (s : State) :
    settleHost n (s.modSpi f) = (settleHost n s).modSpi f :=
  List.foldl_hom (State.modSpi · f) fun _ _ => rfl

theorem settleSel_modSpi (off : Nat) (f : SpiState → SpiState) (s : State) :
    settleSel off (s.modSpi f) = (settleSel off s).modSpi f := by
  simp only [settleSel, apply_ite (State.modSpi · f), ← settlePerf_modSpi, ← settleHost_modSpi]
  rfl

/-- Reading a word of the window neither looks at the SPI port nor touches it. -/
theorem fswWord_modSpi (off : Nat) (f : SpiState → SpiState) (s : State) :
    fswWord (s.modSpi f) off = ((fswWord s off).1, (fswWord s off).2.modSpi f) := by
  unfold fswWord
  split
  · simp only [fwVersion, State.modSpi_fw]
    split <;> rfl
  · rw [settleSel_modSpi]
    rfl

theorem settlePerf_host (e : Eng) (i : Nat) (s : State) : (settlePerf e i s).host = s.host := by
  rw [settlePerf_eq]

theorem settleHost_host (n : Nat) (s : State) : (settleHost n s).host = s.host :=
  foldl_related (r := fun s t => t.host = s.host) (fun _ => rfl) (fun h k => k.trans h)
    (f := fun s id => hpCount n id (freeW s).1.toNat (freeW s).2) (fun _ _ => rfl) _ s

theorem settleSel_host (off : Nat) (s : State) : (settleSel off s).host = s.host := by
  simp only [settleSel]
  split
  · split
    · exact settlePerf_host _ _ s
    · split
      · exact settleHost_host _ s
      · rfl
  · rfl

theorem fswWord_host (s : State) (off : Nat) : (fswWord s off).2.host = s.host := by
  simp only [fswWord, fwVersion]
  split
  · split <;> rfl
  · exact settleSel_host off s

theorem fswWord_pr (s : State) (off : Nat) : (fswWord s off).2.pr = s.pr := congrArg Prod.fst (powerView_fswWord s off)

/-! ### One read on a path -/

/-- What a read returns: the latch, if it holds this word, else the live word. -/
def readThrough (latch : Option (Nat × Word)) (off : Nat) (live : Word) : Word :=
  match latch with
  | some (o, v) => if o = off then v else live
  | none => live

/-- The latch that a read leaves: the HI word of the pair, if this was its LO word. -/
def latchAfter (s : State) (off : Nat) : Option (Nat × Word) :=
  if s.pr.phase = .fault then none
  else (pairAt (fswWord s off).2 off).map fun (v : U64) => (off + 4, (v >>> 32).truncate 32)

theorem fswRead_eq (latch : Option (Nat × Word)) (off : Nat) (s : State) :
    fswRead latch off s = (readThrough latch off (fswWord s off).1, latchAfter s off, (fswWord s off).2) := rfl

theorem latchAfter_modSpi (f : SpiState → SpiState) (s : State) (off : Nat) :
    latchAfter (s.modSpi f) off = latchAfter s off := by
  simp only [latchAfter, fswWord_modSpi]
  rfl

/-- The state after a window read on the SPI path of words `ws`, the last at `off` of `s`. -/
def spiAfter (ws : List Word) (s : State) (off : Nat) : State :=
  (fswWord s off).2.modSpi fun c => { c with miso := some ws, latch := latchAfter s off }

section
variable {off : Nat} (h4 : off % 4 = 0) (hlt : off < 4096)
include h4 hlt

/-- A read of a word of the window on the PCIe path. -/
theorem pcieRead_window {s : State} (ho : pcieOpen s = true) (hw : s.pr.waking = false) :
    pcieRead off s = (fswWord s off).2.modPcie fun c => { c with
      readBack := [readThrough s.host.pcie.latch off (fswWord s off).1], latch := latchAfter s off, unsupported := false } := by
  have word : off / 4 * 4 % 65536 = off := by omega
  have window : off < 0x1000 := hlt
  simp [pcieRead, pcieTouch_of_open ho, inDark_of_open ho, ho, hw, word, pcieComplete, barRead, window, fswRead_eq]

theorem spiFsw_one (s : State) :
    spiFsw off 1 s = spiAfter [readThrough s.host.spi.latch off (fswWord s off).1] s off := by
  have word : off / 4 * 4 % 4096 = off := by omega
  simp only [spiFsw, word, spiWords, fswRead_eq]
  rfl

/-- What SPI_MISO carried before the frame makes no difference. -/
theorem spiFsw_one_setMiso (m : Option (List Word)) (s : State) : spiFsw off 1 (setMiso m s) = spiFsw off 1 s := by
  simp only [spiFsw_one h4 hlt, spiAfter, setMiso, fswWord_modSpi, latchAfter_modSpi]
  rfl

/-- Two words of one frame are two reads, the second through the latch that the first left. -/
theorem spiFsw_two (s : State) (hlt' : off + 4 < 4096) :
    let u := (fswWord s off).2.modSpi fun c => { c with latch := latchAfter s off }
    spiFsw off 2 s = spiAfter [readThrough s.host.spi.latch off (fswWord s off).1,
      readThrough (latchAfter s off) (off + 4) (fswWord u (off + 4)).1] u (off + 4) := by
  have word : off / 4 * 4 % 4096 = off := by omega
  have next : (off + 4) % 4096 = off + 4 := by omega
  simp only [spiFsw, word, spiWords, fswRead_eq, next]
  rfl

end

/-! ### The pairs -/

theorem pairAt_range {s : State} {off : Nat} {v : U64} (h : pairAt s off = some v) :
    off = 0x020 ∨ (0x100 ≤ off ∧ off ≤ 0x7FF) ∧ off % 8 = 0 := by
  unfold pairAt at h
  split at h
  · next h20 => exact .inl h20
  · split at h
    · next area => exact .inr (by simpa [within] using area)
    · cases h

theorem pairAt_hi {s : State} {off : Nat} (h : off % 8 = 4) : pairAt s off = none := by
  have h20 : off ≠ 0x020 := by omega
  simp [pairAt, h20, h]

section
variable {s : State} {off : Nat} {v : U64} (h : pairAt s off = some v) (hf : s.pr.phase ≠ .fault)
include h hf

theorem fswLive_lo : fswLive s off = v.truncate 32 := by
  rcases pairAt_range h with rfl | ⟨⟨hlo, hhi⟩, -⟩
  · simp [fswLive, hf, h, within]
  · have named : off ≠ 0 ∧ off ≠ 4 ∧ off ≠ 0xC ∧ off ≠ 0x10 ∧ off ≠ 0x14 ∧ off ≠ 0x18 ∧ off ≠ 0xC0 ∧ off ≠ 0xC4 := by omega
    have lp0 : within off 0x040 0x07F = false := by simp [within]; omega
    have lp1 : within off 0x080 0x0BF = false := by simp [within]; omega
    simp [fswLive, hf, h, named, lp0, lp1]

theorem fswLive_hi : fswLive s (off + 4) = (v >>> 32).truncate 32 := by
  rcases pairAt_range h with rfl | ⟨⟨hlo, hhi⟩, h8⟩
  · simp [fswLive, hf, h, within, pairAt_hi]
  · have named : off + 4 ≠ 8 ∧ off + 4 ≠ 0xC ∧ off + 4 ≠ 0x10 ∧ off + 4 ≠ 0x14 ∧ off + 4 ≠ 0x18 ∧ off + 4 ≠ 0xC0 ∧
        off + 4 ≠ 0xC4 ∧ off ≠ 0 := by omega
    have lp0 : within (off + 4) 0x040 0x07F = false := by simp [within]; omega
    have lp1 : within (off + 4) 0x080 0x0BF = false := by simp [within]; omega
    have hi : (off + 4) % 8 = 4 := by omega
    simp only [fswLive, named, lp0, lp1, pairAt_hi hi]
    simp [hf, h, named]

end

/-- A pair is not FW_VERSION, and the word read is the live word of the state that the read leaves. -/
theorem fswWord_of_pair {s : State} {off : Nat} {v : U64} (h : pairAt (fswWord s off).2 off = some v) :
    (fswWord s off).1 = fswLive (fswWord s off).2 off := by
  have version : off ≠ 8 := by rcases pairAt_range h with rfl | ⟨⟨hlo, -⟩, -⟩ <;> omega
  simp [fswWord, version]

theorem latchAfter_of_pair {s : State} {off : Nat} {v : U64} (h : pairAt (fswWord s off).2 off = some v)
    (hf : s.pr.phase ≠ .fault) : latchAfter s off = some (off + 4, (v >>> 32).truncate 32) := by
  simp [latchAfter, hf, h]

/-- Settles O7: both paths read through `fswRead`, each with its own latch. -/
theorem loReadLatchesHi : Obligations.LoReadLatchesHi := by
  unfold Obligations.LoReadLatchesHi
  intro off dt b s h4 hlt a live pair word latch
  have readWord (l : Option (Nat × Word)) : readThrough l off live.1 = word l := by cases l <;> rfl
  have left : latchAfter a off = latch := by simp [latchAfter, latch, pair, live, a]
  have host : a.host = s.host := advance_host dt s
  have oneWord : spiFsw off 1 a = live.2.modSpi fun c => { c with miso := some [word s.host.spi.latch], latch := latch } := by
    rw [spiFsw_one h4 hlt, spiAfter, left, host, readWord]
  refine ⟨fun ho hw => ⟨?_, rfl⟩, fun hr => ?_, fun hr ho hb => ?_, fun v hv hf => ?_⟩
  · have window := pcieRead_window h4 hlt ho (by simpa [a] using hw)
    rw [left, host, readWord] at window
    exact congrArg _ window
  · exact congrArg _ ((if_pos hr).trans oneWord)
  · have frame (n : Nat) : exec (.spiFswRead b off n dt) s = .next (spiFsw off n (setMiso none a)) := by
      simp [exec, execSpiFswRead, hr, ho, hb, a]
    refine ⟨by rw [frame, spiFsw_one_setMiso h4 hlt, oneWord], fun v hv hf => ⟨_, frame 2, ?_⟩⟩
    have next : off + 4 < 4096 := by rcases pairAt_range hv with rfl | ⟨⟨-, hhi⟩, -⟩ <;> omega
    have latched : latchAfter a off = some (off + 4, (v >>> 32).truncate 32) :=
      latchAfter_of_pair hv (by simpa [a] using hf)
    rw [spiFsw_two h4 hlt _ next, setMiso, latchAfter_modSpi, latched]
    refine ⟨?_, ?_⟩
    · simp [spiAfter, fswWord_modSpi, readThrough, ← readWord, host, live]
    · simp [spiAfter, fswWord_host, host]
  · have phase : live.2.pr.phase ≠ .fault := by simpa [live, fswWord_pr, a] using hf
    exact ⟨(fswWord_of_pair hv).trans (fswLive_lo hv phase), fswLive_hi hv phase⟩

end Sys2Proof.Machine
end

section
/-!
PROOFS. Alarms and counters hold what was last done to them (R53, Table 2.8).
-/
namespace Sys2Proof.Machine
open Sys2Proof

/-! ### The canonical form of the counters through the sending of packets -/

/-- The counters are in their canonical form. -/
def countersWf (s : State) : Prop := SMap.wf 0 s.counters = true

theorem countersWf_ite {c : Prop} [Decidable c] {s t : State} (h : countersWf s) (k : countersWf t) :
    countersWf (if c then s else t) := by split <;> assumption

theorem countersWf_pumpMate (n : Nat) {s : State} (h : countersWf s) : countersWf (pumpMate n s) := by
  induction n generalizing s with
  | zero => exact h
  | succ n ih =>
    rw [pumpMate]
    split
    · exact h
    · split
      · exact ih (SMap.wf_set _ _ h)
      · exact h

theorem countersWf_place {s : State} (h : countersWf s) (p : Port) (k : OutPkt) : countersWf (place s p k) := by
  cases p with
  | pcie => simp only [place]; split <;> exact h
  | mate => exact countersWf_pumpMate 8 h
  | _ => exact h

theorem countersWf_emitTo {s : State} (h : countersWf s) (p : Port) (code target flags : Nat) (data : List Word) :
    countersWf (emitTo p code target flags data s) :=
  countersWf_ite (countersWf_place (s := (takeSeq s p).2) h p _) h

theorem countersWf_alarmNotify {s : State} (h : countersWf s) : countersWf (alarmNotify s) := countersWf_ite h h

theorem countersWf_emitF {s : State} (h : countersWf s) (code target flags : Nat) (data : List Word) :
    countersWf (emitF code target flags data s) := by
  unfold emitF
  split
  · exact h
  · refine foldl_related (r := fun s t => countersWf s → countersWf t) (fun _ => id) (fun h k => k ∘ h) (fun u p hu => ?_)
      ports s h
    exact countersWf_ite (countersWf_emitTo hu _ _ _ _ _) hu

theorem canonical_iff {s : State} : s.canonical = true ↔
    SMap.wf false s.alarms = true ∧ countersWf s ∧ SMap.wf 0 s.host.fswMap = true := by
  simp [State.canonical, countersWf, and_assoc]

/-! ### Alarms -/

/-- An alarm placed as `b`: the event it sends, and MSI-X vector 2. -/
def placedAlarm (code target sub : Nat) (b : Bool) (data : List Word) (s : State) : State :=
  alarmNotify (emitF code target (if b then 3 else 1) data
    { s with alarms := SMap.set false s.alarms (alarmKey code target sub) b })

section
variable (code target sub : Nat) (data : List Word) (s : State)

theorem raiseAlarm_eq : raiseAlarm code target sub data s =
    if raised s code target sub then s else placedAlarm code target sub true data s := rfl

theorem clearAlarm_eq : clearAlarm code target sub data s =
    if raised s code target sub then placedAlarm code target sub false data s else s := rfl

theorem placedAlarm_alarms (b : Bool) : (placedAlarm code target sub b data s).alarms =
    SMap.set false s.alarms (alarmKey code target sub) b :=
  ((sends_alarmNotify _).alarms).trans (sends_emitF _ _ _ _ _).alarms

theorem placedAlarm_other {other : Nat} (h : other ≠ alarmKey code target sub) (b : Bool) :
    SMap.get false (placedAlarm code target sub b data s).alarms other = SMap.get false s.alarms other := by
  rw [placedAlarm_alarms, SMap.get_set_other b h]

end

section
variable {code target sub : Nat} {data : List Word} {s : State} (h : s.canonical = true)
include h

theorem placedAlarm_raised (b : Bool) : raised (placedAlarm code target sub b data s) code target sub = b := by
  obtain ⟨halarms, -⟩ := canonical_iff.mp h
  rw [raised, placedAlarm_alarms]
  exact SMap.get_set_self _ b halarms

theorem placedAlarm_canonical (b : Bool) : (placedAlarm code target sub b data s).canonical = true := by
  obtain ⟨halarms, hcounters, hmap⟩ := canonical_iff.mp h
  refine canonical_iff.mpr ⟨?_, ?_, ?_⟩
  · rw [placedAlarm_alarms]
    exact SMap.wf_set _ _ halarms
  · exact countersWf_alarmNotify <|
      countersWf_emitF (s := { s with alarms := SMap.set false s.alarms (alarmKey code target sub) b }) hcounters _ _ _ _
  · rw [placedAlarm, (sends_alarmNotify _).host_fswMap, (sends_emitF _ _ _ _ _).host_fswMap]
    exact hmap

theorem raiseAlarm_canonical : (raiseAlarm code target sub data s).canonical = true := by
  rw [raiseAlarm_eq]
  split
  · exact h
  · exact placedAlarm_canonical h true

theorem clearAlarm_canonical : (clearAlarm code target sub data s).canonical = true := by
  rw [clearAlarm_eq]
  split
  · exact placedAlarm_canonical h false
  · exact h

theorem raised_raiseAlarm : raised (raiseAlarm code target sub data s) code target sub = true := by
  rw [raiseAlarm_eq]
  split
  · assumption
  · exact placedAlarm_raised h true

theorem raised_clearAlarm : raised (clearAlarm code target sub data s) code target sub = false := by
  rw [clearAlarm_eq]
  split
  · exact placedAlarm_raised h false
  · next low => simpa using low

end

/-- Every other alarm is as it was. -/
theorem alarms_other {code target sub other : Nat} (h : other ≠ alarmKey code target sub) (data : List Word) (s : State) :
    SMap.get false (raiseAlarm code target sub data s).alarms other = SMap.get false s.alarms other ∧
      SMap.get false (clearAlarm code target sub data s).alarms other = SMap.get false s.alarms other := by
  rw [raiseAlarm_eq, clearAlarm_eq]
  constructor <;> split
  · rfl
  · exact placedAlarm_other code target sub data s h true
  · exact placedAlarm_other code target sub data s h false
  · rfl

/-! ### Counters -/

section
variable {s : State} (h : s.canonical = true) (k n : Nat)
include h

theorem ctr_ctrAdd : ctr (ctrAdd s k n) k = ctr s k + BitVec.ofNat 64 n := by
  obtain ⟨-, hcounters, -⟩ := canonical_iff.mp h
  exact SMap.get_set_self k _ hcounters

theorem ctr_ctrClear : ctr (ctrClear s k) k = 0 := by
  obtain ⟨-, hcounters, -⟩ := canonical_iff.mp h
  exact SMap.get_set_self k _ hcounters

/-- A write of a counter keeps the canonical form. -/
theorem counter_canonical (v : U64) : State.canonical { s with counters := SMap.set 0 s.counters k v } = true := by
  obtain ⟨halarms, hcounters, hmap⟩ := canonical_iff.mp h
  exact canonical_iff.mpr ⟨halarms, SMap.wf_set k v hcounters, hmap⟩

end

/-- Settles O59: alarms and counters are sparse maps, and the event of an alarm leaves them in form. -/
theorem alarmsAndCounters : Obligations.AlarmsAndCounters := by
  unfold Obligations.AlarmsAndCounters
  intro code target sub k n other data s h up down key
  refine ⟨raised_raiseAlarm h, raised_clearAlarm h, fun hr => ?_, fun hr => ?_, fun ho => alarms_other ho data s,
    raiseAlarm_canonical h, clearAlarm_canonical h, ctr_ctrAdd h k n, ctr_ctrClear h k,
    fun ho => ⟨SMap.get_set_other _ ho, SMap.get_set_other _ ho⟩, counter_canonical h k _, counter_canonical h k _, ?_⟩
  · simp [up, raiseAlarm_eq, hr]
  · simp [down, clearAlarm_eq, hr]
  · rintro t (rfl | rfl | rfl | rfl)
    · simp [up]
    · simp [down]
    · simp [ctrAdd]
    · simp [ctrClear]

end Sys2Proof.Machine
end

section
/-!
PROOFS. KEY_ZEROISE entering a receive queue during a firmware pause (R40, R254).
-/
namespace Sys2Proof.Machine
open Sys2Proof

/-- A handshake of LP0 that waits for its acknowledgement. -/
def openHandshake : Handshake :=
  { slot := 0, session := 1, nonce := [], derived := none, cause := 1, unknownRun := 0, deadline := 0, armed := false }

/-- The device in a firmware pause, with a handshake of LP0 in progress. -/
def pausedInHandshake : State :=
  State.modCrypto { State.reset with
    pr := { State.reset.pr with poreset := false, phase := .run, power := .ready, cmdReady := true, boot := .done }
    fw := { State.reset.fw with pause := some { cause := 2, since := 0 } } } .lp0 fun k => { k with hs := some openHandshake }

/-- KEY_ZEROISE as a packet on SPI (Table 2.4). -/
def zeroisePacket : List Word :=
  cmdWords 0x0705 { port := .spi, tag := 0, target := 0, flags := 0, params := [], dt := 0 }


theorem zeroisePacket_crc : crc32cWords zeroisePacket.dropLast = zeroisePacket.getLastD 0 := by
  simp [zeroisePacket, cmdWords]

/-- The packet that a receive queue has taken erases every key at once, during a pause too (R254). -/
theorem eraseOnReceipt_zeroisePacket {before : Nat} {s : State} (h : before < (s.host.rxq.get .spi).length) :
    eraseOnReceipt .spi before zeroisePacket s = zeroise s := by
  have erases : bits (zeroisePacket.getD 1 0).toNat 16 16 = 0x0705 ∧ bits (zeroisePacket.getD 2 0).toNat 24 8 = 0 := by
    decide
  simp only [eraseOnReceipt, h, zeroisePacket_crc, erases, ne_eq, reduceCtorEq, not_false_eq_true, and_self, if_true]

/-- The erase ends the handshake of LP0, which its counter 0x070A counts. -/
theorem arrive_zeroisePacket_counters :
    (arrive .spi zeroisePacket (setMiso none (advance 0 pausedInHandshake))).counters = [(sel 0x10 0 0x070A, 1)] := by
  simp only [arrive]
  rw [eraseOnReceipt_zeroisePacket (by decide), if_pos zeroisePacket_crc]
  decide

/-- Refutes O6: a KEY_ZEROISE that enters the queue also ends a handshake in progress, which counts, so a counter of the line
port changes. -/
theorem not_receiveQueueFull : ¬ Obligations.ReceiveQueueFull := by
  unfold Obligations.ReceiveQueueFull
  intro h
  have takes : spiTakes (advance 0 pausedInHandshake) = true ∧ spiOurs (advance 0 pausedInHandshake) 1 = true := by decide
  have kept : packetsKept (advance 0 pausedInHandshake) = true := by decide
  obtain ⟨t, ht, -, -, -, -, hcounters, -⟩ :=
    h 1 0xC5010000 zeroisePacket.tail 0 pausedInHandshake takes.1 takes.2 rfl (by decide) (by decide) kept (by decide)
  have arrives : spiPacket (0xC5010000 :: zeroisePacket.tail) (setMiso none (advance 0 pausedInHandshake)) =
      arrive .spi zeroisePacket (setMiso none (advance 0 pausedInHandshake)) :=
    spiPacket_of_whole (by decide) (by decide) (.inl kept)
  rw [exec_spiCmdWrite takes.1 takes.2 rfl, arrives] at ht
  have counted := (congrArg State.counters (Host.Outcome.next.inj ht)).symm.trans arrive_zeroisePacket_counters
  rw [hcounters] at counted
  exact absurd counted (by decide)

end Sys2Proof.Machine
end

section
/-!
PROOFS. The device-range commands that read and configure, and the holds of woken units (R57, R70 to R73, R409, R455).
-/
namespace Sys2Proof.Machine
open Sys2Proof

/-! ### Commands that answer OK at once -/

/-- A row whose effect ends with its reply. -/
theorem exec_of_runs {op : OpSpec} {f : Cmd → Instr} {c : Cmd} {s t : State} {ws : List Word} (h : Runs op c s)
    (r : op.run (ready c s) c.target c = okRes t ws)
    (hf : ∀ c s, exec (f c) s = .next (serve op c s) := by exact fun _ _ => rfl)
    (ha : ∀ s c, op.after s c = s := by exact fun _ _ => rfl) : exec (f c) s = .next (okFrom op.code c ws t) := by
  rw [hf, serve_ok h r, ha, okFrom]

theorem answer_of_passes {op : OpSpec} {c : Cmd} {s : State} (h : checks op c false (lockActivity c.port s) = none) :
    answer op c false s = perform op c (lockActivity c.port s) := by
  simp only [answer, h]

/-- In download wait the boot ROM checks and performs the commands of its own (R409). -/
theorem exec_of_bootRom {op : OpSpec} {f : Cmd → Instr} {c : Cmd} {s t : State} {ws : List Word}
    (hb : bootRomReads (advance c.dt s) c.port = true) (hq : s.host.rxq.get c.port = []) (hd : Direct c)
    (hc : checks op c false (lockActivity c.port (advance c.dt s)) = none)
    (r : op.run (lockActivity c.port (advance c.dt s)) c.target c = okRes t ws)
    (hf : ∀ c s, exec (f c) s = .next (serve op c s) := by exact fun _ _ => rfl)
    (ha : ∀ s c, op.after s c = s := by exact fun _ _ => rfl) (hop : bootRomCodes.contains op.code = true := by rfl) :
    exec (f c) s = .next (okFrom op.code c ws t) := by
  have replied : perform op c (lockActivity c.port (advance c.dt s)) = reply op.code c stOk 0 ws t := by
    rw [perform_one hd, r]
    simp [okRes, ha, stOk]
  simp only [hf, serve, hb, if_true, serveBoot, advance_host, hq, rxFind, hop, answer_of_passes hc, replied, okFrom]

theorem freeAt_succ (base n : Nat) : freeAt base (n + 1) = Config.freeWord base :: freeAt (base + 1) n := by
  simp [freeAt, List.range_succ_eq_map, Nat.add_comm, Nat.add_left_comm]

theorem devIdentifyOp_run_of_image {s : State} {i : Image} (h : s.fw.running = some i) (t : Nat) (c : Cmd) :
    devIdentifyOp.run s t c = okRes s ([w32 (b01 Config.ordering), 0x00003240, 0x000000B0, imageVersion i] ++
      hdrWords i.hdr 9 20 ++ [w32 s.pr.straps.toNat]) := by
  simp [devIdentifyOp, fwVersion, buildHash, h]

/-- Before an image runs, its version and hash are the next 13 free values (log entry 5). -/
theorem devIdentifyOp_run_of_none {s : State} (h : s.fw.running = none) (t : Nat) (c : Cmd) :
    devIdentifyOp.run s t c = okRes { s with freeCtr := s.freeCtr + 13 }
      ([w32 (b01 Config.ordering), 0x00003240, 0x000000B0] ++ freeAt s.freeCtr 13 ++ [w32 s.pr.straps.toNat]) := by
  simp [devIdentifyOp, fwVersion, buildHash, h, freeW, freeWs, freeAt_succ s.freeCtr 12]

/-! ### DEV_STATUS of each kind of unit -/

theorem devStatusOp_run_lp {t : Nat} (h : isLpT t = true) (s : State) (c : Cmd) :
    devStatusOp.run s t c = okRes s (lpBlock s (lpOfT t)) := by
  have other : t ≠ 0 ∧ t ≠ 1 := by simp [isLpT] at h; omega
  simp [devStatusOp, other, h]

theorem devStatusOp_run_eng {t : Nat} (h : isEngT t = true) (s : State) (c : Cmd) :
    devStatusOp.run s t c = okRes s (engineWords s (engOfT t)) := by
  have other : t ≠ 0 ∧ t ≠ 1 ∧ t ≠ 0x10 ∧ t ≠ 0x11 := by simp [isEngT, within] at h; omega
  simp [devStatusOp, isLpT, other, h]

theorem devStatusOp_run_hp {t : Nat} (h : isHpT t = true) (s : State) (c : Cmd) :
    devStatusOp.run s t c = okRes s (hpStatusOp.run s t c).words := by
  have other : t ≠ 0 ∧ t ≠ 1 ∧ t ≠ 0x10 ∧ t ≠ 0x11 ∧ ¬ (0x18 ≤ t ∧ t ≤ 0x1A) := by simp [isHpT, within] at h; omega
  simp [devStatusOp, isLpT, isEngT, within, other, h]
  rfl

/-- Settles O11: each command is served on its unit; its row says what it answers and what it leaves. -/
theorem deviceCommandsRun : Obligations.DeviceCommandsRun := by
  unfold Obligations.DeviceCommandsRun
  intro c s r p b
  have freeCtr : b.freeCtr = s.freeCtr := by simp [b]
  have straps : b.pr = s.pr := by simp [b]
  have bootFw : b.fw = s.fw := by simp [b]
  refine ⟨fun hb hq hd => ⟨fun hc hn => ?_, fun hc => ?_⟩, fun i h hi => ?_, fun h => ?_, fun h => ?_, fun h => ?_,
    fun h => ?_, fun h => ?_, fun h => ?_, fun h => ?_⟩
  · rw [← freeCtr, ← straps]
    exact exec_of_bootRom (op := devIdentifyOp) hb hq hd hc
      (devIdentifyOp_run_of_none (s := b) ((congrArg Firmware.running bootFw).trans hn) _ _)
  · exact exec_of_bootRom (op := devEchoOp) hb hq hd hc rfl
  · rw [← ready_pr c s]
    exact exec_of_runs (op := devIdentifyOp) h
      (devIdentifyOp_run_of_image ((congrArg Firmware.running (ready_fw c s)).trans hi) _ _)
  · exact exec_of_runs (op := devEchoOp) h rfl
  · have status {ws : List Word} {t : State} (hr : devStatusOp.run r c.target c = okRes t ws) :
        exec (.devStatus c) s = .next (okFrom 0x0004 c ws t) :=
      exec_of_runs (op := devStatusOp) h hr
    exact ⟨fun ht => status (by rw [ht]; rfl), fun ht => status (by rw [ht]; rfl),
      fun ht => status (devStatusOp_run_lp ht r c), fun ht => status (devStatusOp_run_eng ht r c),
      fun ht => status (by rw [ht]; rfl), fun ht => status (by rw [ht]; rfl), fun ht => status (devStatusOp_run_hp ht r c),
      fun ht => status (by rw [ht]; rfl), fun ht => status (by rw [ht]; rfl)⟩
  · exact exec_of_runs (op := devPortConfigOp) h rfl
  · exact exec_of_runs (op := devEventConfigOp) h rfl
  · exact exec_of_runs (op := devFswMapOp) h rfl
  · rw [← ready_host_staged c s]
    exact exec_of_runs (op := devStageClearOp) h rfl
  · rw [← ready_host_staged c s]
    exact exec_of_runs (op := devStageListOp) h rfl

/-! ### Holds of woken units -/

section
variable {t ms dt : Nat} {s : State} (hm : SMap.get none s.host.wakes t = some ms) (hr : running (advance dt s) = true)
include hm hr

/-- The end of a wake of a unit whose state lets it run, and of the memory banks only once they all are awake. -/
theorem exec_unitWakeDone_of_allowed (ha : wakeAllowed (advance dt s) t = true)
    (h80 : t = 0x80 → unitAwake (advance dt s) 0x80 = true) :
    exec (.unitWakeDone t dt) s = .next (pump (settleWake t stOk 0 (setHold t ms
      (if t = 0x90 then (advance dt s).modMate fun m => { m with asleep := false, listenEnd := none }
       else advance dt s)))) := by
  have banks : (decide (t = 0x80) && !unitAwake (advance dt s) 0x80) = false := by
    by_cases h : t = 0x80 <;> simp [h, h80]
  simp only [exec, execUnitWakeDone, advance_host, hm, hr, ha, banks, Bool.not_true, Bool.false_eq_true, if_false]

theorem exec_unitWakeDone_of_refused (ha : wakeAllowed (advance dt s) t = false) :
    exec (.unitWakeDone t dt) s = .next (pump (settleWake t stBadState 0x0100 (setHold t 0 (advance dt s)))) := by
  simp only [exec, execUnitWakeDone, advance_host, hm, hr, ha, Bool.not_true, Bool.false_eq_true, if_false, Bool.not_false,
    if_true]

end

/-- The end of a hold: besides the hold, only the mate receiver may fall asleep. -/
theorem exec_devWakeHoldExpiry_of_due {t dt : Nat} {s : State} (hr : running (advance dt s) = true)
    (h0 : SMap.get 0 s.host.holds t ≠ 0) (hd : SMap.get 0 s.host.holds t ≤ (advance dt s).hk) :
    exec (.devWakeHoldExpiry t dt) s = .next (
      let u := setHold t 0 (advance dt s)
      if t = 0x90 ∧ u.mate.st == .up ∧ u.mate.rxSleep == 1 ∧ u.mate.expect.isSome ∧ u.mate.listenEnd.isNone then
        u.modMate fun m => { m with asleep := true }
      else u) := by
  simp [exec, execDevWakeHoldExpiry, hr, h0, hd, and_assoc]

/-- Settles O13: a wake that ends sets the hold and settles what waits, and a hold that ends is set to 0. -/
theorem unitHolds : Obligations.UnitHolds := by
  unfold Obligations.UnitHolds
  intro t ms dt s a
  refine ⟨fun hm hr ha h80 h90 => ?_, fun hm hr ha hu => exec_unitWakeDone_of_allowed hm hr ha fun _ => hu,
    fun hm hr ha => exec_unitWakeDone_of_allowed hm hr ha (by simp), fun hm hr ha => exec_unitWakeDone_of_refused hm hr ha,
    fun hr h0 hd => ⟨_, exec_devWakeHoldExpiry_of_due hr h0 hd, ?_⟩⟩
  · rw [exec_unitWakeDone_of_allowed hm hr ha fun h => absurd h h80, if_neg h90]
  · dsimp only
    split
    · next mate => exact ⟨rfl, by simp [setHold], by simp [setHold], fun h90 => absurd mate.1 h90⟩
    · exact ⟨rfl, by simp [setHold], by simp [setHold], fun _ => rfl⟩

end Sys2Proof.Machine
end

section
/-!
PROOFS. The resolution of a request (R81): its rules one by one, and what ADJUST says of the point and the CD range it grants
(R87).
-/
namespace Sys2Proof.Machine
open Sys2Proof

/-! ### The rules of R81 -/

/-- INTEROP: RATE. -/
def interopRate (g : ModePoint) (adj : Nat) : ModePoint × Nat :=
  if g.zr800 && g.rate != 8 then ({ g with rate := 8 }, adj ||| adjRate) else (g, adj)

/-- INTEROP: CIPHER. -/
def interopCipher (g : ModePoint) (adj : Nat) : ModePoint × Nat :=
  if g.zr800 && g.cipher then ({ g with cipher := false }, adj ||| adjCipher) else (g, adj)

/-- INTEROP: LATENCY. -/
def interopLatency (g : ModePoint) (adj : Nat) : ModePoint × Nat :=
  if g.zr800 && g.low then ({ g with low := false }, adj ||| adjLatency) else (g, adj)

/-- REACH: the granted CD range. -/
def reachRule (g : ModePoint) (adj : Nat) : Nat × Nat :=
  if cdMax (srMBd g) < reachCd g.reach then (cdMax (srMBd g), adj ||| adjReach) else (reachCd g.reach, adj)

/-- LATENCY limits NLC. -/
def latencyLimit (g : ModePoint) (adj : Nat) : ModePoint × Nat :=
  if g.low && decide (2 < g.nlcSteps) then ({ g with nlcSteps := 2 }, adj ||| adjNlc) else (g, adj)

/-- The steps of NLC that the spindles of the engine leave. -/
def stepsWithin (avail sr : Nat) (g : ModePoint) : Nat :=
  fitSteps avail (reachCost g.reach + 4) (nlcCost sr) g.nlcSteps

/-- The spindles limit NLC. -/
def budgetLimit (avail sr : Nat) (g : ModePoint) (adj : Nat) : ModePoint × Nat :=
  ({ g with nlcSteps := stepsWithin avail sr g, nlc := g.nlc && decide (stepsWithin avail sr g ≠ 0) },
    if stepsWithin avail sr g = g.nlcSteps then adj else adj ||| adjNlc)

/-- GUARD. -/
def guardRule (spare warmHere : Bool) (g : ModePoint) (adj : Nat) : ModePoint × Nat :=
  if g.guard != .none && !spare then ({ g with guard := .none }, adj ||| adjGuard)
  else if g.guard == .warm && !warmHere then ({ g with guard := .cool }, adj ||| adjGuard)
  else (g, adj)

/-- POWER. -/
def powerRule (avail : Nat) (g : ModePoint) (adj : Nat) : ModePoint × Nat :=
  if g.economy && decide (avail < usedSpn g + 12) then ({ g with economy := false }, adj ||| adjPower) else (g, adj)

/-- A resolution is the rules in their order of precedence. -/
theorem resolveWith_rules (avail : Nat) (spare warmHere : Bool) (r : ModePoint) :
    resolveWith avail spare warmHere r =
      (let x := interopRate r 0
       let x := interopCipher x.1 x.2
       let x := interopLatency x.1 x.2
       let cd := reachRule x.1 x.2
       let y := latencyLimit x.1 cd.2
       let y := budgetLimit avail (srMBd x.1) y.1 y.2
       let y := guardRule spare warmHere y.1 y.2
       let y := powerRule avail y.1 y.2
       (y.1, y.2, cd.1)) := rfl

/-! ### Each rule changes one axis, and marks it where it does -/

theorem interopRate_eq (g : ModePoint) (adj : Nat) :
    let v := if g.zr800 then 8 else g.rate
    interopRate g adj = ({ g with rate := v }, adj ||| onBit (decide (v ≠ g.rate)) 2) := by
  obtain ⟨_, zr800, rate⟩ := g
  cases zr800
  · simp [interopRate, onBit]
  · by_cases h : rate = 8
    · simp [interopRate, onBit, h]
    · simp [interopRate, adjRate, onBit, h, Ne.symm h]

theorem interopCipher_eq (g : ModePoint) (adj : Nat) :
    let v := g.cipher && !g.zr800
    interopCipher g adj = ({ g with cipher := v }, adj ||| onBit (decide (v ≠ g.cipher)) 7) := by
  obtain ⟨_, zr800, _, _, _, _, _, _, cipher⟩ := g
  cases zr800 <;> cases cipher <;> simp [interopCipher, adjCipher, onBit]

theorem interopLatency_eq (g : ModePoint) (adj : Nat) :
    let v := g.low && !g.zr800
    interopLatency g adj = ({ g with low := v }, adj ||| onBit (decide (v ≠ g.low)) 5) := by
  obtain ⟨_, zr800, _, _, _, _, low⟩ := g
  cases zr800 <;> cases low <;> simp [interopLatency, adjLatency, onBit]

theorem reachRule_eq (g : ModePoint) (adj : Nat) :
    reachRule g adj = (cdOf g, adj ||| onBit (decide (cdOf g ≠ reachCd g.reach)) 3) := by
  simp only [reachRule, cdOf]
  split
  · next h => simp [adjReach, onBit, Nat.le_of_lt h, Nat.ne_of_lt h]
  · next h => simp [onBit, Nat.le_of_not_lt h]

theorem latencyLimit_eq (g : ModePoint) (adj : Nat) :
    let v := if g.low then min 2 g.nlcSteps else g.nlcSteps
    latencyLimit g adj = ({ g with nlcSteps := v }, adj ||| onBit (decide (v ≠ g.nlcSteps)) 4) := by
  obtain ⟨_, _, _, _, _, steps, low⟩ := g
  cases low
  · simp [latencyLimit, onBit]
  · by_cases h : 2 < steps
    · simp [latencyLimit, adjNlc, onBit, h, Nat.le_of_lt h, Nat.ne_of_lt h]
    · simp [latencyLimit, onBit, h, Nat.le_of_not_lt h]

theorem budgetLimit_eq (avail sr : Nat) (g : ModePoint) (adj : Nat) :
    let v := stepsWithin avail sr g
    budgetLimit avail sr g adj =
      ({ g with nlcSteps := v, nlc := g.nlc && decide (v ≠ 0) }, adj ||| onBit (decide (v ≠ g.nlcSteps)) 4) := by
  by_cases h : stepsWithin avail sr g = g.nlcSteps <;> simp [budgetLimit, adjNlc, onBit, h]

theorem guardRule_eq (spare warmHere : Bool) (g : ModePoint) (adj : Nat) :
    let v := if spare then (if g.guard = .warm ∧ warmHere = false then .cool else g.guard) else .none
    guardRule spare warmHere g adj = ({ g with guard := v }, adj ||| onBit (decide (v ≠ g.guard)) 6) := by
  obtain ⟨_, _, _, _, _, _, _, guard⟩ := g
  cases guard <;> cases spare <;> cases warmHere <;> simp [guardRule, adjGuard, onBit]

theorem powerRule_eq (avail : Nat) (g : ModePoint) (adj : Nat) :
    let v := g.economy && !decide (avail < usedSpn g + 12)
    powerRule avail g adj = ({ g with economy := v }, adj ||| onBit (decide (v ≠ g.economy)) 9) := by
  simp only [powerRule]
  generalize decide (avail < usedSpn g + 12) = short
  obtain ⟨_, _, _, _, _, _, _, _, _, _, economy⟩ := g
  cases economy <;> cases short <;> simp [adjPower, onBit]

theorem fitSteps_le (avail used c n : Nat) : fitSteps avail used c n ≤ n := by
  induction n with
  | zero => exact Nat.le_refl 0
  | succ n ih =>
    rw [fitSteps]
    split
    · exact Nat.le_trans ih (Nat.le_succ n)
    · exact Nat.le_refl _

theorem stepsWithin_le (avail sr : Nat) (g : ModePoint) : stepsWithin avail sr g ≤ g.nlcSteps := fitSteps_le _ _ _ _

/-! ### ADJUST -/

/-- ADJUST of a request, a granted point and a granted CD range (R87). -/
def adjustWord (r g : ModePoint) (cd : Nat) : Nat :=
  onBit (decide (g.rate ≠ r.rate)) 2 ||| onBit (decide (g.cipher ≠ r.cipher)) 7 ||| onBit (decide (g.low ≠ r.low)) 5 |||
    onBit (decide (cd ≠ reachCd r.reach)) 3 ||| onBit (decide (g.nlc ≠ r.nlc ∨ g.nlcSteps ≠ r.nlcSteps)) 4 |||
    onBit (decide (g.guard ≠ r.guard)) 6 ||| onBit (decide (g.economy ≠ r.economy)) 9

theorem testBit_onBit (b : Bool) (i j : Nat) : (onBit b i).testBit j = (b && decide (i = j)) := by
  cases b <;> simp [onBit, Nat.testBit_two_pow]

theorem or_onBit_or_onBit (n : Nat) (a b : Bool) (i : Nat) : n ||| onBit a i ||| onBit b i = n ||| onBit (a || b) i := by
  rw [Nat.or_assoc]
  cases a <;> cases b <;> simp [onBit]

theorem adjustWord_lt (r g : ModePoint) (cd : Nat) : adjustWord r g cd < 1024 := by
  refine Nat.lt_pow_two_of_testBit (n := 10) _ fun i hi => ?_
  simp [adjustWord, testBit_onBit]
  omega

/-- Each bit of ADJUST says whether its axis was adjusted; SERVICE, INTEROP and CLIENT have none that is ever 1. -/
theorem adjustWord_bits (r g : ModePoint) (cd : Nat) :
    let adj := adjustWord r g cd
    bit adj 0 = false ∧ bit adj 1 = false ∧ bit adj 8 = false ∧ adj < 1024 ∧ bit adj 2 = decide (g.rate ≠ r.rate) ∧
      bit adj 3 = decide (cd ≠ reachCd r.reach) ∧ bit adj 4 = decide (g.nlc ≠ r.nlc ∨ g.nlcSteps ≠ r.nlcSteps) ∧
      bit adj 5 = decide (g.low ≠ r.low) ∧ bit adj 6 = decide (g.guard ≠ r.guard) ∧
      bit adj 7 = decide (g.cipher ≠ r.cipher) ∧ bit adj 9 = decide (g.economy ≠ r.economy) := by
  refine ⟨?_, ?_, ?_, adjustWord_lt r g cd, ?_, ?_, ?_, ?_, ?_, ?_, ?_⟩ <;>
    simp [-Nat.testBit_zero, bit, adjustWord, testBit_onBit]

/-- NLC differs from the request exactly where one of the two limits lowered the steps. -/
theorem nlc_marks {nlc : Bool} {steps n k : Nat} (h : nlc = decide (steps ≠ 0)) (hn : n ≤ steps) (hk : k ≤ n) :
    (decide (n ≠ steps) || decide (k ≠ n)) = decide ((nlc && decide (k ≠ 0)) ≠ nlc ∨ k ≠ steps) := by
  subst h
  rw [← Bool.decide_or, decide_eq_decide]
  by_cases hs : steps = 0 <;> by_cases h0 : k = 0 <;> simp [hs, h0] <;> omega

/-- ADJUST is the word of R87 about what was granted, and SERVICE, INTEROP and CLIENT are granted as requested. -/
theorem resolveWith_adjust (avail : Nat) (spare warmHere : Bool) {r : ModePoint} (h : r.nlc = decide (r.nlcSteps ≠ 0)) :
    ∃ g cd, resolveWith avail spare warmHere r = (g, adjustWord r g cd, cd) ∧
      g.service = r.service ∧ g.zr800 = r.zr800 ∧ g.packet = r.packet := by
  simp only [resolveWith_rules, interopRate_eq, interopCipher_eq, interopLatency_eq, reachRule_eq, latencyLimit_eq,
    budgetLimit_eq, guardRule_eq, powerRule_eq]
  refine ⟨_, _, Prod.ext rfl (Prod.ext ?_ rfl), rfl, rfl, rfl⟩
  simp only [adjustWord, Nat.zero_or, or_onBit_or_onBit]
  rw [nlc_marks h]
  · split
    · exact Nat.min_le_right _ _
    · exact Nat.le_refl _
  · exact stepsWithin_le _ _ _

end Sys2Proof.Machine
end

section
/-!
PROOFS. MODE_SET, MODE_GET and MODE_COMMIT (R57, R86 to R88).
-/
namespace Sys2Proof.Machine
open Sys2Proof

/-! ### What the mode operations touch and read -/

theorem isLpT_ne_zero {t : Nat} (h : isLpT t = true) : t ≠ 0 := by
  rintro rfl
  exact absurd h (by decide)

theorem Lp.other_ne (p : Lp) : p.other ≠ p := by cases p <;> decide

theorem shortfall_port (p q : Lp) (s : State) : (shortfall p s).port q = s.port q :=
  State.port_congr (alarms_alarmIf _ _ _ _ _ s).lp q

/-- A requested point is kept, granted, and queued for application if it changes what the port is heading for (R75, R89). -/
theorem setRequested_fst (s : State) (p : Lp) (req : ModePoint) (source : Nat) :
    let g := resolve s p req
    (setRequested s p req source).1 = s.modMode p fun m =>
      { m with requested := req, granted := g.1, adjust := g.2.1, cd := g.2.2
               apps := if headPoint m = g.1 then m.apps
                 else m.apps ++ [{ point := g.1, adjust := g.2.1, source, begun := false }] } :=
  rfl

/-- The words of Table 3.7 look at the engines alone. -/
theorem modeResults_congr {s t : State} (h : t.eng = s.eng) (p : Lp) (req g : ModePoint) (adj cd : Nat) :
    modeResults t p req g adj cd = modeResults s p req g adj cd := by
  simp [modeResults, availPort, ofEngines, portEngine, servingEng, warmSpare, h, State.engine_congr h]

theorem modeResults_setRequested (s : State) (p : Lp) (r : ModePoint) (source : Nat) (req g : ModePoint) (adj cd : Nat) :
    modeResults (setRequested s p r source).1 p req g adj cd = modeResults s p req g adj cd :=
  modeResults_congr (by simp [setRequested_fst]) p req g adj cd

theorem hkCycle_reply_ready (code : Nat) (c : Cmd) (status detail : Nat) (ws : List Word) (s : State) :
    hkCycle (reply code c status detail ws (ready c s)) = hkCycle (advance c.dt s) := by
  simp [hkCycle]

/-! ### The commands -/

/-- A command that runs on one unit and succeeds at once, adjusted or not: the reply, then what follows it. -/
theorem serve_settled {op : OpSpec} {c : Cmd} {s : State} {u : UnitRes} (h : Runs op c s)
    (r : op.run (ready c s) c.target c = u) (hs : u.status < 0x100) (hu : u.settled = true) :
    serve op c s = pump (op.after (reply op.code c u.status u.detail u.words u.st) c) := by
  obtain ⟨served, direct, passes⟩ := h
  rw [serve_perform served passes, perform_one direct, r]
  simp [hu, Nat.not_le.mpr hs]

/-- MODE_SET of a line port: its request is resolved and kept, and MODE_SHORTFALL follows. -/
theorem exec_modeSet_of_port {c : Cmd} {s : State} (h : Runs (modeSetOp 0) c s) (ht : isLpT c.target = true) :
    let r := ready c s
    let p := lpOfT c.target
    let req := mergePoint (s.port p).mode.requested (c.w 3) (c.w 4)
    let g := resolve r p req
    exec (.modeSet c) s = .next (pump (reply 0x0101 c (if g.2.1 = 0 then stOk else stAdjusted) 0
      (modeResults r p req g.1 g.2.1 g.2.2) (shortfall p (setRequested r p req 0).1))) := by
  simp only [← ready_port c s]
  refine congrArg Host.Outcome.next (serve_settled h (u := modeSetPort 0 _ c (ready c s)) (if_neg (isLpT_ne_zero ht)) ?_ rfl)
  simp only [modeSetPort]
  split <;> decide

theorem modeCommitOp_after (c : Cmd) (s : State) : modeCommitOp.after s c =
    if s.host.staged = [] ∧ s.host.syncTaken = some (hkCycle s) then s else applyStaged 1 [] s := by
  simp [modeCommitOp]

/-- MODE_COMMIT: the reply, then the commit, but for an empty set that a SYNC COMMIT took in the cycle. -/
theorem exec_modeCommit_of_runs {c : Cmd} {s : State} (h : Runs modeCommitOp c s) :
    exec (.modeCommit c) s = .next (pump (
      let t := reply 0x0103 c stOk 0 [w32 s.host.staged.length] (ready c s)
      if s.host.staged = [] ∧ s.host.syncTaken = some (hkCycle (advance c.dt s)) then t else applyStaged 1 [] t)) := by
  refine congrArg Host.Outcome.next ((serve_ok h rfl).trans ?_)
  simp only [modeCommitOp_after, hkCycle_reply_ready, reply_host_staged, reply_host_syncTaken, ready_host_staged,
    ready_host_syncTaken]
  rfl

/-- Settles O14: each command is served on its unit; MODE_COMMIT then applies what is staged. -/
theorem modeCommandsRun : Obligations.ModeCommandsRun := by
  unfold Obligations.ModeCommandsRun
  intro c s r p m req g
  refine ⟨fun h ht => ?_, fun h ht => ?_, fun h ht => ?_, fun h ht => ?_, fun h he hy => ?_, fun h hn => ?_⟩
  · rw [modeResults_setRequested]
    exact exec_modeSet_of_port h ht
  · intro w v
    have run : (modeSetOp 0).run r c.target c = warmSet c r := if_pos ht
    rw [← ready_warmPort c s]
    split
    · next hw => exact exec_of_runs (op := modeSetOp 0) (f := .modeSet) h (run.trans (by rw [warmSet, if_pos hw]))
    · next hw => exact exec_of_runs (op := modeSetOp 0) (f := .modeSet) h (run.trans (by rw [warmSet, if_neg hw]))
  · have run : modeGetOp.run r c.target c = okRes r (modeResults r p m.requested m.granted m.adjust m.cd) := by
      simp only [m, ← ready_port c s]
      exact if_neg (isLpT_ne_zero ht)
    exact exec_of_runs (op := modeGetOp) (f := .modeGet) h run
  · exact exec_of_runs (op := modeGetOp) h (if_pos ht)
  · rw [exec_modeCommit_of_runs h, if_pos ⟨he, hy⟩, he]
    rfl
  · rw [exec_modeCommit_of_runs h, if_neg fun ⟨he, hy⟩ => hn.elim (· he) (· hy)]

/-! ### CHANGE_MASK -/

/-- What a MODE_SET of a line port leaves of the modes of both ports. -/
theorem exec_modeSet_modes {c : Cmd} {s : State} (h : Runs (modeSetOp 0) c s) (ht : isLpT c.target = true) :
    let p := lpOfT c.target
    let req := mergePoint (s.port p).mode.requested (c.w 3) (c.w 4)
    let g := resolve (ready c s) p req
    ∃ t, exec (.modeSet c) s = .next t ∧ (t.port p.other).mode = (s.port p.other).mode ∧
      (t.port p).mode.requested = req ∧ (t.port p).mode.granted = g.1 ∧ (t.port p).mode.adjust = g.2.1 ∧
      (t.port p).mode.cd = g.2.2 := by
  intro p req g
  refine ⟨_, exec_modeSet_of_port h ht, ?_⟩
  simp [shortfall_port, setRequested_fst, Lp.other_ne, p, req, g]

/-- Settles O15: the request is the merged point field by field, and ADJUST is the word of R87 about what was granted. -/
theorem changeMaskSelects : Obligations.ChangeMaskSelects := by
  unfold Obligations.ChangeMaskSelects
  intro c s h ht p o w k
  obtain ⟨t, ht, other, requested, granted, adjust, cd⟩ := exec_modeSet_modes h ht
  refine ⟨t, ht, other, ?_⟩
  simp only [p, requested, granted, adjust, cd, resolve]
  refine ⟨rfl, rfl, rfl, rfl, rfl, rfl, rfl, rfl, rfl, rfl, rfl, fun hn => ?_⟩
  obtain ⟨g, x, hg, service, zr800, packet⟩ := resolveWith_adjust (availPort (ready c s) p) (spareAvailable (ready c s))
    ((ready c s).warmPort == p) hn
  rw [hg]
  exact ⟨service, zr800, packet, adjustWord_bits _ g x⟩

end Sys2Proof.Machine
end

section
/-!
PROOFS. Applications of mode changes and re-resolutions take effect (R84, R85, R89).
-/
namespace Sys2Proof.Machine
open Sys2Proof

theorem advance_protPort (dt : Nat) (s : State) (p : Lp) : (advance dt s).protPort p = s.protPort p := by
  cases p <;> simp [State.protPort]

section
variable {p : Lp} {x : ModeApp} {l : List ModeApp} {dt : Nat} {s : State} (hu : umciaReads (advance dt s) = true)
  (ht : (s.protPort p).tk = none) (hm : (s.port p).mode.apps = x :: l)
include hu ht hm

/-- An application in progress waits for the spare engine alone. -/
theorem exec_modeApplication_of_begun (hb : x.begun = true) :
    exec (.modeApplication p dt) s = .next (pump (steer (advance dt s))) := by
  simp [exec, execModeApplication, hu, advance_protPort, ht, hm, hb]

/-- An application that begins brings its point into force; a change of GUARD keeps it in progress. -/
theorem exec_modeApplication_of_waiting (hb : x.begun = false) :
    exec (.modeApplication p dt) s = .next (
      pump (settlePower (steer (
        if (s.port p).mode.running.guard = x.point.guard then finishApp p x (bringInto p x.point (advance dt s))
        else (bringInto p x.point (advance dt s)).modMode p fun m =>
          { m with apps := { x with begun := true } :: l })))) := by
  simp [exec, execModeApplication, hu, advance_protPort, ht, hm, hb]

end

theorem exec_reResolution_of_due {cause dt : Nat} {s : State} (hr : s.reresolve = some cause)
    (hu : umciaReads (advance dt s) = true) (h0 : (s.port .lp0).mode.apps = []) (h1 : (s.port .lp1).mode.apps = []) :
    exec (.reResolution dt) s = .next
      (pump (steer (steerBanks (regrant cause .lp1 (regrant cause .lp0 { advance dt s with reresolve := none }))))) := by
  simp [exec, execReResolution, hr, hu, h0, h1]

/-- Settles O16: an application is looked at again or begins, and a due re-resolution runs when none is left. -/
theorem modeChangesApply : Obligations.ModeChangesApply := by
  unfold Obligations.ModeChangesApply
  intro p x l cause dt s a
  refine ⟨fun hu ht hm hb => exec_modeApplication_of_begun hu ht hm hb, fun hu ht hm hb => ⟨fun hg => ?_, fun hg => ?_⟩,
    fun hr hu h0 h1 => exec_reResolution_of_due hr hu h0 h1⟩
  · rw [exec_modeApplication_of_waiting hu ht hm hb, if_pos hg]
  · rw [exec_modeApplication_of_waiting hu ht hm hb, if_neg hg]

end Sys2Proof.Machine
end

section
/-!
PROOFS. The converter and tap commands (R57, R59, R97 to R103, R117 to R122).
-/
namespace Sys2Proof.Machine
open Sys2Proof

/-! ### Commands that are held or refused -/

/-- A row that its unit holds as deferred. -/
theorem exec_of_accepted {op : OpSpec} {f : Cmd → Instr} {c : Cmd} {s t : State} (h : Runs op c s)
    (r : op.run (ready c s) c.target c = { st := t, settled := false })
    (hf : ∀ c s, exec (f c) s = .next (serve op c s) := by exact fun _ _ => rfl)
    (ha : ∀ s c, op.after s c = s := by exact fun _ _ => rfl) : exec (f c) s = .next (acceptedFrom op.code c t) := by
  rw [hf, serve_accepted h r, ha, acceptedFrom]

/-- A row that its unit refuses with BAD_STATE. -/
theorem exec_of_badState {op : OpSpec} {f : Cmd → Instr} {c : Cmd} {s : State} {detail : Nat} (h : Runs op c s)
    (r : op.run (ready c s) c.target c = refuse (ready c s) stBadState detail)
    (hf : ∀ c s, exec (f c) s = .next (serve op c s) := by exact fun _ _ => rfl) :
    exec (f c) s = .next (pump (reply op.code c stBadState detail [] (ready c s))) := by
  rw [hf, serve_unit_refused h r (by decide)]

/-- A word with an uncorrectable memory error reads 0xDEAD_DEAD. -/
theorem tapWords_of_bad {t : Tap} {n len i : Nat} (hi : i < len) (h : SMap.get false t.bad (n + i) = true) :
    (tapWords t n len)[i]? = some 0xDEADDEAD#32 := by
  simp [tapWords, tapWord, hi, h]

/-- Settles O26: each command is served on its line port, and the state of its unit says whether it runs, is held or is refused. -/
theorem convCommandsRun : Obligations.ConvCommandsRun := by
  unfold Obligations.ConvCommandsRun
  intro c s
  simp -zeta only [← ready_port c s, ← ready_freeCtr c s]
  intro r p x
  refine ⟨fun h => exec_of_runs (op := convConfigOp) h rfl, fun h => exec_of_runs (op := convStatusOp) h rfl,
    fun h => exec_of_runs (op := convSliceGetOp) h rfl, fun h hl => ?_, fun h hl => ?_,
    fun h => ⟨fun out => ?_, fun pooled hn => ?_, fun pooled hn => ?_⟩,
    fun h => exec_of_runs (op := chuckGetOp) h rfl, fun h => exec_of_runs (op := convLoopOp) h rfl,
    fun h => ⟨fun still served => ?_, fun writing => ?_, fun still unserved => ?_⟩,
    fun h => exec_of_runs (op := tapStopOp) h rfl, fun h => exec_of_runs (op := tapStatusOp) h rfl,
    fun h => ⟨fun still => ⟨fun i hi bad => tapWords_of_bad hi bad, ?_⟩, fun writing => ?_⟩,
    fun h => ⟨fun still pcie => ?_, fun writing => ?_, fun still other => ?_⟩,
    fun h => exec_of_runs (op := convCountersOp) h rfl⟩
  · exact exec_of_accepted (op := convSliceRestoreOp) h (if_neg (ne_true_of_eq_false (congrArg not hl)))
  · exact exec_of_badState (op := convSliceRestoreOp) h (if_pos (congrArg not hl))
  · exact exec_of_runs (op := convSliceRetireOp) h (if_pos out)
  · exact exec_of_runs (op := convSliceRetireOp) h ((if_neg (not_not_intro pooled)).trans (if_neg (Nat.not_le.mpr hn)))
  · exact exec_of_badState (op := convSliceRetireOp) h ((if_neg (not_not_intro pooled)).trans (if_pos hn))
  · exact exec_of_runs (op := tapArmOp) h
      ((if_neg (ne_true_of_eq_false still)).trans (if_neg (ne_true_of_eq_false (congrArg not served))))
  · exact exec_of_badState (op := tapArmOp) h (if_pos writing)
  · exact exec_of_badState (op := tapArmOp) h ((if_neg (ne_true_of_eq_false still)).trans (if_pos (congrArg not unserved)))
  · exact exec_of_runs (op := tapReadOp) h (if_neg (ne_true_of_eq_false still))
  · exact exec_of_badState (op := tapReadOp) h (if_pos writing)
  · exact exec_of_accepted (op := tapDmaOp) h ((if_neg (ne_true_of_eq_false still)).trans (if_neg (not_not_intro pcie)))
  · exact exec_of_badState (op := tapDmaOp) h (if_pos writing)
  · exact exec_of_badState (op := tapDmaOp) h ((if_neg (ne_true_of_eq_false still)).trans (if_pos other))

/-! ### TAP_CONFIG -/

theorem tapWriting_of {t : Tap} (h : t.st = .armed ∨ t.st = .triggered) : tapWriting t = true := by
  obtain h | h := h <;> simp [tapWriting, h]

theorem not_tapWriting {t : Tap} (h : t.st = .idle ∨ t.st = .done ∨ t.st = .aborted) : ¬ tapWriting t = true := by
  obtain h | h | h := h <;> simp [tapWriting, h]

/-- Settles O27: a tap that writes refuses first, then sums over both taps that do not fit; what fits is set. -/
theorem tapConfigState : Obligations.TapConfigState := by
  unfold Obligations.TapConfigState
  intro c s h
  simp -zeta only [← ready_port c s]
  intro r p old n o rate counts sumRate sumSize
  refine ⟨fun writing => ?_, fun still beyond => ?_, fun still hr hs => ?_⟩
  · exact exec_of_badState (op := tapConfigOp) h (if_pos (tapWriting_of writing))
  · exact exec_of_badState (op := tapConfigOp) h ((if_neg (not_tapWriting still)).trans (if_pos beyond))
  · exact exec_of_runs (op := tapConfigOp) h ((if_neg (not_tapWriting still)).trans
      (if_neg (not_or.mpr ⟨Nat.not_lt.mpr hr, Nat.not_lt.mpr hs⟩)))

end Sys2Proof.Machine
end

section
/-!
PROOFS. Calibration, self-checks, slice restores and the sample tap proceed (R101, R103, R105, R121, R122, R126).
-/
namespace Sys2Proof.Machine
open Sys2Proof

/-! ### Calibration and self-checks -/

section
variable {p : Lp} {ch dt : Nat} {s : State} (hr : running (advance dt s) = true)
include hr

theorem exec_sliceSelfCheckFault_of_slice {i : Nat} (hc : ch < 4) (hi : i < 100) :
    exec (.sliceSelfCheckFault p ch i dt) s = .next (removeSlice p ch i 1 (advance dt s)) := by
  simp only [exec, execSliceSelfCheckFault, hr, hc, hi, decide_true, Bool.and_self, if_true]

theorem exec_convFailClearTimer_of_due (hd : due ((s.port p).conv.failClear.getD ch none) (advance dt s).hk = true)
    (hg : convGood (advance dt s) p ch = true) : exec (.convFailClearTimer p ch dt) s =
      .next (chanAlarms p ch (clearAlarm 0x8212 (lpT p) ch [w32 ch]
        ((advance dt s).modConv p fun c => { c with failClear := c.failClear.set ch none }))) := by
  simp only [exec, execConvFailClearTimer, setAt, advance_port, hr, hd, hg, Bool.and_self, if_true]

section
variable (hc : ch < 4) (hl : synthLocked (advance dt s) p = true)
include hc hl

/-- Where every strobe update names a phase, none is passed over. -/
theorem exec_backgroundCalUpdate_of_locked (us : List SliceCal) {ss : List StrobeCal} (hp : ∀ u ∈ ss, u.phase < 100) :
    exec (.backgroundCalUpdate p ch us ss dt) s = .next (chanAlarms p ch (countClips p ch (us.map (·.clips)).sum
      (ss.foldl (fun s u => updateStrobe p ch u s) ((List.range 100).foldl (fun s i =>
        match us.find? fun u => u.slice == i with | some u => updateSlice p ch u s | none => s) (advance dt s))))) := by
  have phases : ss.filter (fun u => decide (u.phase < 100)) = ss :=
    List.filter_eq_self.mpr fun u hu => decide_eq_true (hp u hu)
  simp only [exec, execBackgroundCalUpdate, backgroundCalUpdate, hr, hl, hc, phases, decide_true, Bool.and_self, if_true] <;> rfl

theorem exec_dacSelfCheck_of_locked (pass : Bool) (wins : List (List (Int × Int))) :
    let d := (s.port p).dsp
    let sat := (wins.filter fun w => txSaturates d.txOld d.tx (fadeCycles d (advance dt s).hk) ch w).length
    exec (.dacSelfCheck p ch ⟨pass, wins⟩ dt) s = .next (chanAlarms p ch
      ((if dacSource (advance dt s) p = 3 then advance dt s else lpCount (advance dt s) p 0x030A sat).modConv p fun c =>
        { c with dacBad := c.dacBad.set ch (!pass) })) := by
  simp only [exec, execDacSelfCheck, setAt, advance_port, hr, hl, hc, decide_true, Bool.and_self, if_true]

end

/-- The restore that is first on the port and whose check is over ends, and so does its command. -/
theorem exec_convSliceRestoreDone_of_due {m : List Nat} {rest : List (Nat × List Nat × Nat)} {e : Nat}
    (h : (s.port p).conv.restores = (ch, m, e) :: rest)
    (he : e ≤ (advance dt s).hk) (ok : List Nat) :
    let u := chanAlarms p ch ((m.filter fun i => ok.contains i).foldl (rejoinSlice p ch)
      ((advance dt s).modConv p fun x => { x with restores := rest }))
    exec (.convSliceRestoreDone p ok dt) s = .next (pump (completeUnit 0x0204 (lpT p) stOk 0
      ([w32 ch] ++ slicesMask (m.filter fun i => (sliceOf u p ch i).st != 0) ++ [w32 (poolN u p ch)]) u)) := by
  simp only [exec, execConvSliceRestoreDone, advance_port, h, hr, he, decide_true, Bool.and_self, if_true]

/-- The DMA that is first on the port ends, with what its own reads found (log entry 157). -/
theorem exec_tapDmaDone_of_first {d : TapDma} {rest : List TapDma} (h : (s.port p).conv.tap.dma = d :: rest) (found : List Nat) :
    let u := found.foldl (dmaFinds p d) (advance dt s)
    let y := (u.port p).conv.tap
    exec (.tapDmaDone p found dt) s = .next (pump (completeUnit 0x020D (lpT p) stOk 0
      [w32 d.len, w32 (tapErrors y (d.off / 4) (d.len / 4))] ((u.modTap p fun x => { x with dma := rest }).modPcie fun k =>
        { k with dmaDone := k.dmaDone ++ [(d.addr, tapWords y (d.off / 4) (d.len / 4))] }))) := by
  simp only [exec, execTapDmaDone, advance_port, h, hr, if_true]

end

/-! ### The sample tap -/

@[simp] theorem State.port_modTap (s : State) (p q : Lp) (f : Tap → Tap) :
    (s.modTap p f).port q = if q = p then { s.port p with conv := { (s.port p).conv with tap := f (s.port p).conv.tap } }
      else s.port q :=
  State.port_modConv s p q _

@[simp] theorem State.modTap_eng (s : State) (p : Lp) (f : Tap → Tap) : (s.modTap p f).eng = s.eng := State.modConv_eng s p _
@[simp] theorem State.modTap_alarms (s : State) (p : Lp) (f : Tap → Tap) : (s.modTap p f).alarms = s.alarms :=
  State.modConv_alarms s p _

/-- `t` is `s` but for the tap of port `p`, which is `x` but for the recorded spans, and for what was sent. -/
def TapIs (p : Lp) (x : Tap) (s t : State) : Prop :=
  (∃ l, (t.port p).conv.tap = { x with spans := l }) ∧ (t.port p.other).conv = (s.port p.other).conv ∧
    (t.port p).dsp = (s.port p).dsp ∧ t.eng = s.eng ∧ t.alarms = s.alarms

theorem tapIs_modTap_emit (p : Lp) (x : Tap) (code target : Nat) (data : List Word) (s : State) :
    TapIs p x s (emit code target data (s.modTap p fun _ => x)) := by
  refine ⟨⟨x.spans, ?_⟩, ?_, ?_, ?_, ?_⟩ <;> simp [Lp.other_ne]

theorem TapIs.noteDac {p : Lp} {x : Tap} {s t : State} (h : TapIs p x s t) : TapIs p x s (noteDac p t) := by
  obtain ⟨⟨l, tap⟩, other, dsp, eng, alarms⟩ := h
  simp only [Machine.noteDac]
  split
  · exact ⟨⟨l ++ [{ at_ := t.hk, rest := dacRest t p }], by simp [tap]⟩, by simpa [Lp.other_ne] using other,
      by simpa using dsp, by simpa using eng, by simpa using alarms⟩
  · exact ⟨⟨l, tap⟩, other, dsp, eng, alarms⟩

theorem tapIs_setTap_triggered {p : Lp} {s : State} (h : (s.port p).conv.tap.st = .armed) (cause : Nat) :
    let x := (s.port p).conv.tap
    TapIs p { x with st := .triggered, trigAt := tapPlace x (tapCycleSample x s.hk) } s (setTap p .triggered cause s) := by
  simp only [setTap, h, reduceCtorEq, if_false]
  exact (tapIs_modTap_emit ..).noteDac

theorem tapIs_setTap_done {p : Lp} {s : State} (h : (s.port p).conv.tap.st = .triggered) (cause : Nat) :
    let x := (s.port p).conv.tap
    TapIs p { x with st := .done, written := tapBytes x s.hk } s (setTap p .done cause s) := by
  simp only [setTap, h, reduceCtorEq, if_false]
  exact (tapIs_modTap_emit ..).noteDac

/-- A trigger reaches the tap from the source that TAP_CONFIG set, or from an event of EVT_MASK where that is EVENT. -/
theorem exec_tapTrigger_of_source {p : Lp} {n dt : Nat} {s : State} (hr : running (advance dt s) = true)
    (armed : (s.port p).conv.tap.st = .armed)
    (h : (n < 2 ∧ (s.port p).conv.tap.trigger = n) ∨
      (2 ≤ n ∧ (s.port p).conv.tap.trigger = 2 ∧ (s.port p).conv.tap.evtMask.testBit (n - 2) = true)) :
    exec (.tapTrigger p n dt) s = .next (setTap p .triggered 0 (advance dt s)) := by
  have fires : tapFire p (advance dt s) = setTap p .triggered 0 (advance dt s) := if_pos (by simpa using armed)
  rw [← fires]
  obtain ⟨hn, ht⟩ | ⟨hn, ht, he⟩ := h
  · simp [exec, execTapTrigger, hr, Nat.not_le.mpr hn, ht]
  · simp [exec, execTapTrigger, hr, hn, tapEvent, ht, bit, he]

/-- A SINGLE capture ends when its share after the trigger is written. -/
theorem exec_tapCaptureDone_of_written {p : Lp} {dt : Nat} {s : State} (hr : running (advance dt s) = true)
    (triggered : (s.port p).conv.tap.st = .triggered) (single : (s.port p).conv.tap.mode = 0)
    (written : (s.port p).conv.tap.trigAt + (16 - (s.port p).conv.tap.pre) * tapSize (s.port p).conv.tap / 16 ≤
      tapBytes (s.port p).conv.tap (advance dt s).hk) :
    exec (.tapCaptureDone p dt) s = .next (setTap p .done 0 (advance dt s)) := by
  simp only [exec, execTapCaptureDone, advance_port, hr, triggered, single, written, beq_self_eq_true, decide_true,
    Bool.and_self, if_true]

/-- Settles O28: each event meets its condition on the running device; a trigger and the end of a capture change the tap
alone. -/
theorem convEventsRun : Obligations.ConvEventsRun := by
  unfold Obligations.ConvEventsRun
  intro p ch i n us ss pass wins ok found dt s hr a x
  refine ⟨fun hc hl hp => exec_backgroundCalUpdate_of_locked hr hc hl us hp, exec_sliceSelfCheckFault_of_slice hr,
    fun hc hl => exec_dacSelfCheck_of_locked hr hc hl pass wins, exec_convFailClearTimer_of_due hr,
    fun m e rest h he => exec_convSliceRestoreDone_of_due hr h he ok,
    fun armed h => ⟨_, exec_tapTrigger_of_source hr armed h, ?_⟩,
    fun triggered single written => ⟨_, exec_tapCaptureDone_of_written hr triggered single written, ?_⟩,
    fun d rest h => exec_tapDmaDone_of_first hr h found⟩
  · obtain ⟨⟨l, tap⟩, other, dsp, eng, alarms⟩ := tapIs_setTap_triggered (s := advance dt s) (by simpa using armed) 0
    rw [advance_port] at tap
    simp [tap, other, dsp, eng, alarms, x, a]
  · obtain ⟨⟨l, tap⟩, other, dsp, eng, alarms⟩ := tapIs_setTap_done (s := advance dt s) (by simpa using triggered) 0
    rw [advance_port] at tap
    simp [tap, other, dsp, eng, alarms, x, a]

end Sys2Proof.Machine
end

section
/-!
PROOFS. Synthesiser lock and loss of signal (R96, R110, R111, R126, R147).
-/
namespace Sys2Proof.Machine
open Sys2Proof

theorem raised_advance (dt code target sub : Nat) (s : State) :
    raised (advance dt s) code target sub = raised s code target sub := by
  simp only [raised, advance_alarms]

/-- Loss of signal sends the acquisition of the serving engine, and that of a spare, to WAIT_SIGNAL from every state but IDLE
(R147). -/
def toWaitSignal (p : Lp) (s : State) : State :=
  let s := if (s.port p).dsp.acq.st = .idle ∨ (s.port p).dsp.acq.st = .waitSignal then s else enterAcq p false .waitSignal s
  if (s.port p).dsp.spareAcq.st = .idle then s else enterAcq p true .waitSignal s

section
variable {p : Lp} {dt : Nat} {s : State} (hr : running (advance dt s) = true)
include hr

/-- A synthesiser that runs without lock locks; SYNTH_UNLOCK, where it is raised, then clears after 1 ms of lock. -/
theorem exec_synthLock {e : Nat} (h : (s.port p).conv.synth = .starting e ∨ (s.port p).conv.synth = .unlocked) :
    exec (.synthLock p dt) s = .next (acqSignal p (refreshPort p ((beginSampling p (advance dt s)).modConv p fun c => { c with
      synth := .locked, los := false, detSince := (advance dt s).hk
      synthHold := if raised s 0x8214 (lpT p) 0 then some ((advance dt s).hk + msT 1) else none }))) := by
  obtain h | h := h <;>
    simp only [exec, execSynthLock, hr, advance_port, h, raised_advance, Bool.not_true, Bool.false_eq_true, if_false]

theorem exec_synthLockTimeout_of_starting {e : Nat} (h : (s.port p).conv.synth = .starting e) (he : e ≤ (advance dt s).hk) :
    exec (.synthLockTimeout p dt) s = .next (synthUnlock p (advance dt s)) := by
  simp only [exec, execSynthLockTimeout, advance_port, h, hr, he, decide_true, Bool.and_self, if_true]

section
variable (h : (s.port p).conv.synth = .locked)
include h

theorem exec_synthLockLoss_of_locked : exec (.synthLockLoss p dt) s = .next (synthUnlock p (advance dt s)) := by
  simp only [exec, execSynthLockLoss, synthLocked, advance_port, h, hr, beq_self_eq_true, Bool.and_self, if_true]

theorem exec_synthLockHoldExpiry_of_due (hd : due (s.port p).conv.synthHold (advance dt s).hk = true) :
    exec (.synthLockHoldExpiry p dt) s = .next (refreshPort p (clearAlarm 0x8214 (lpT p) 0 []
      ((advance dt s).modConv p fun c => { c with synthHold := none }))) := by
  simp only [exec, execSynthLockHoldExpiry, synthLocked, advance_port, h, hr, hd, beq_self_eq_true, Bool.and_self, if_true]

variable {powers : List Int} {lasted : Nat} (hs : (s.port p).conv.detSince + usT lasted ≤ (advance dt s).hk)
include hs

/-- The condition counts once, and CONV_LOOP keeps it from the acquisitions (log entry 21). -/
theorem exec_losConditionRaise_of_low (hl : (s.port p).conv.los = false)
    (hp : powerLin powers < levelLin ((s.port p).conv.cfg.losThr * 50)) (ht : (s.port p).conv.cfg.losSet ≤ lasted) :
    let u := refreshPort p (lpCount ((advance dt s).modConv p fun c => { c with los := true }) p 0x0207 1)
    exec (.losConditionRaise p ⟨powers, lasted⟩ dt) s =
      .next (if (s.port p).conv.loop then u else toWaitSignal p u) := by
  simp only [exec, execLosConditionRaise, synthLocked, advance_port, h, hr, hl, hp, ht, hs, beq_self_eq_true, decide_true,
    Bool.not_false, Bool.and_self, if_true, toWaitSignal]

theorem exec_losConditionClear_of_high (hl : (s.port p).conv.los = true)
    (hp : levelLin (((s.port p).conv.cfg.losThr + (s.port p).conv.cfg.losHyst) * 50) ≤ powerLin powers)
    (ht : 10 * (s.port p).conv.cfg.losClr ≤ lasted) :
    exec (.losConditionClear p ⟨powers, lasted⟩ dt) s =
      .next (acqSignal p (refreshPort p ((advance dt s).modConv p fun c => { c with los := false }))) := by
  simp only [exec, execLosConditionClear, synthLocked, advance_port, h, hr, hl, hp, ht, hs, beq_self_eq_true, decide_true,
    Bool.and_self, if_true]

end
end

/-- Settles O29: each event meets its condition on the running device and does what the condition calls for. -/
theorem synthAndLos : Obligations.SynthAndLos := by
  unfold Obligations.SynthAndLos
  intro p powers lasted e dt s hr a x wait
  exact ⟨exec_synthLock hr, exec_synthLockLoss_of_locked hr, exec_synthLockTimeout_of_starting hr,
    exec_synthLockHoldExpiry_of_due hr, fun h hl hp ht hs => exec_losConditionRaise_of_low hr h hs hl hp ht,
    fun h hl hp ht hs => exec_losConditionClear_of_high hr h hs hl hp ht⟩

end Sys2Proof.Machine
end

section
/-!
PROOFS. The slow loops of the signal processing, its estimates and its alarm times (R131, R133, R135, R136, R142, R150, R152,
R155, R160).
-/
namespace Sys2Proof.Machine
open Sys2Proof

/-! ### What a line port's receive processing applies, and its acquisition -/

@[simp] theorem acqOf_advance (dt : Nat) (s : State) (p : Lp) (sp : Bool) : acqOf (advance dt s) p sp = acqOf s p sp := by
  simp [acqOf]

@[simp] theorem recvOf_advance (dt : Nat) (s : State) (p : Lp) (sp : Bool) :
    recvOf (advance dt s) p sp = recvOf s p sp := by
  simp [recvOf]

@[simp] theorem recvOf_modRecv (p : Lp) (sp : Bool) (f : Recv → Recv) (s : State) :
    recvOf (modRecv p sp f s) p sp = f (recvOf s p sp) := by
  cases sp <;> simp [recvOf, modRecv]

theorem recvOf_congr {s t : State} {p : Lp} (h : (t.port p).dsp.recv = (s.port p).dsp.recv)
    (k : (t.port p).dsp.spareRecv = (s.port p).dsp.spareRecv) (sp : Bool) : recvOf t p sp = recvOf s p sp := by
  simp [recvOf, h, k]

theorem recvOf_modDsp {p : Lp} {s : State} {f : Dsp → Dsp} (h : (f (s.port p).dsp).recv = (s.port p).dsp.recv)
    (k : (f (s.port p).dsp).spareRecv = (s.port p).dsp.spareRecv) (sp : Bool) : recvOf (s.modDsp p f) p sp = recvOf s p sp :=
  recvOf_congr (by simp [h]) (by simp [k]) sp

theorem Alarms.recvOf_eq {s t : State} (h : Alarms s t) (p : Lp) (sp : Bool) : recvOf t p sp = recvOf s p sp := by
  simp only [recvOf, State.port_congr h.lp]

theorem sends_lpCount (s : State) (p : Lp) (id n : Nat) : Sends s (lpCount s p id n) := (Sends.refl s).ite (sends_ctrAdd _ _ _)

/-! ### The frame of the loops -/

/-- From `s` to `t` the other port, MODE, the converters, the transmit and receive parameters and the serving engine's acquisition
of port `p`, the engines, the traffic manager and the power stayed as they were. -/
def LoopFrame (p : Lp) (s t : State) : Prop :=
  t.port p.other = s.port p.other ∧ (t.port p).mode = (s.port p).mode ∧ (t.port p).conv = (s.port p).conv ∧
    (t.port p).dsp.tx = (s.port p).dsp.tx ∧ (t.port p).dsp.rx = (s.port p).dsp.rx ∧
    (t.port p).dsp.acq = (s.port p).dsp.acq ∧ t.eng = s.eng ∧ t.tm = s.tm ∧ t.pr = s.pr

theorem LoopFrame.refl (p : Lp) (s : State) : LoopFrame p s s := ⟨rfl, rfl, rfl, rfl, rfl, rfl, rfl, rfl, rfl⟩

theorem LoopFrame.trans {p : Lp} {s t u : State} (h : LoopFrame p s t) (k : LoopFrame p t u) : LoopFrame p s u := by
  obtain ⟨other, mode, conv, tx, rx, acq, eng, tm, pr⟩ := h
  obtain ⟨other', mode', conv', tx', rx', acq', eng', tm', pr'⟩ := k
  exact ⟨other'.trans other, mode'.trans mode, conv'.trans conv, tx'.trans tx, rx'.trans rx, acq'.trans acq,
    eng'.trans eng, tm'.trans tm, pr'.trans pr⟩

theorem Alarms.loopFrame {s t : State} (h : Alarms s t) (p : Lp) : LoopFrame p s t := by
  have port := State.port_congr h.lp
  simp only [LoopFrame, port, h.eng, h.tm, h.pr, and_self]

theorem LoopFrame.alarms {p : Lp} {s t u : State} (h : LoopFrame p s t) (k : Alarms t u) : LoopFrame p s u :=
  h.trans (k.loopFrame p)

theorem LoopFrame.ite {c : Prop} [Decidable c] {p : Lp} {s t u : State} (h : LoopFrame p s t) (k : LoopFrame p s u) :
    LoopFrame p s (if c then t else u) := by split <;> assumption

theorem loopFrame_advance (p : Lp) (dt : Nat) (s : State) : LoopFrame p s (advance dt s) := by simp [LoopFrame]

theorem loopFrame_modDsp {p : Lp} {s : State} {f : Dsp → Dsp} (tx : (f (s.port p).dsp).tx = (s.port p).dsp.tx)
    (rx : (f (s.port p).dsp).rx = (s.port p).dsp.rx) (acq : (f (s.port p).dsp).acq = (s.port p).dsp.acq) :
    LoopFrame p s (s.modDsp p f) := by
  simp [LoopFrame, Lp.other_ne, tx, rx, acq]

theorem loopFrame_modRecv (p : Lp) (sp : Bool) (f : Recv → Recv) (s : State) : LoopFrame p s (modRecv p sp f s) := by
  cases sp <;> exact loopFrame_modDsp rfl rfl rfl

/-! ### Alarms that a loop raises or clears -/

/-- A value that is no default is read back whatever the map. -/
theorem SMap.get_set_of_ne {α : Type} [DecidableEq α] {d v : α} (h : v ≠ d) (m : SMap α) (k : Nat) :
    SMap.get d (SMap.set d m k v) k = v := by
  induction m with
  | nil => simp [SMap.set, SMap.get, h]
  | cons e r ih =>
    obtain ⟨j, u⟩ := e
    by_cases before : k < j
    · simp [SMap.set, SMap.get, before, h]
    · by_cases here : k = j
      · simp [SMap.set, SMap.get, here, h]
      · simp [SMap.set, SMap.get, before, here, ih]

/-- A raised alarm reads as raised, also from alarms that are not in their canonical form. -/
theorem raised_after_raiseAlarm (code target sub : Nat) (data : List Word) (s : State) :
    raised (raiseAlarm code target sub data s) code target sub = true := by
  rw [raiseAlarm_eq]
  split
  · assumption
  · rw [raised, placedAlarm_alarms]
    exact SMap.get_set_of_ne (by decide) _ _

/-- A cleared alarm reads as not raised from alarms in their canonical form. -/
theorem raised_after_clearAlarm {s : State} (h : SMap.wf false s.alarms = true) (code target sub : Nat) (data : List Word) :
    raised (clearAlarm code target sub data s) code target sub = false := by
  rw [clearAlarm_eq]
  split
  · rw [raised, placedAlarm_alarms]
    exact SMap.get_set_self _ false h
  · next low => simpa using low

@[simp] theorem raised_modDsp (s : State) (p : Lp) (f : Dsp → Dsp) (code target sub : Nat) :
    raised (s.modDsp p f) code target sub = raised s code target sub := by
  simp [raised]

/-! ### The ramp, LAST, the spectrum, the skew and the NLC scale -/

/-- Four bins of a spectrum as a word; a bin without a valid value reads 0xFF (R155). -/
def spectrumWord (bins : List Nat) (i : Nat) : Word :=
  let b (j : Nat) : Nat := min 255 (bins.getD (4 * i + j) 255)
  w32 (b 0 + b 1 * 2 ^ 8 + b 2 * 2 ^ 16 + b 3 * 2 ^ 24)

/-- The result words of DSP_SNR_SPECTRUM: the bin width, and 128 bins. -/
def spectrumWords (width : Nat) (bins : List Nat) : List Word := w32 width :: (List.range 32).map (spectrumWord bins)

theorem spectrumWords_length (width : Nat) (bins : List Nat) : (spectrumWords width bins).length = 33 := by
  simp [spectrumWords]

section
variable {p : Lp} {sp : Bool} {dt : Nat} {s : State} (hr : running (advance dt s) = true)
include hr

theorem exec_txCdRampEnd_of_finished (hd : (s.port p).dsp.ramping = true)
    (he : (s.port p).dsp.rampAt + ((s.port p).dsp.rampTo - (s.port p).dsp.rampFrom).natAbs * 9600000 ≤ (advance dt s).hk) :
    exec (.txCdRampEnd p dt) s =
      .next ((advance dt s).modDsp p fun d => { d with rampFrom := d.rampTo, ramping := false }) := by
  simp only [exec, execTxCdRampEnd, rampTicks, advance_port, hr, hd, he, decide_true, Bool.and_self, if_true]

theorem exec_lastProfileUpdate_of_track (ht : (s.port p).dsp.acq.st = .track) (hl : (s.port p).conv.loop = false) :
    exec (.lastProfileUpdate p dt) s = .next (putProfile p 16 (presentProfile (advance dt s) p 0) (advance dt s)) := by
  simp only [exec, execLastProfileUpdate, writeLast, inTrack, advance_port, hr, ht, hl, beq_self_eq_true, Bool.not_false,
    Bool.and_self, if_true]

/-- The spectrum that is first on the port ends. -/
theorem exec_dspSnrSpectrumDone_of_first {e : Nat} {rest : List Nat} (h : (s.port p).dsp.spectrum = e :: rest)
    (he : e ≤ (advance dt s).hk) (bins : List Nat) :
    exec (.dspSnrSpectrumDone p bins dt) s =
      .next (pump (completeUnit 0x0306 (lpT p) stOk 0
        (spectrumWords (binWidth (portSr s p) (s.port p).dsp.rx.rolloff) bins)
        ((advance dt s).modDsp p fun d => { d with spectrum := rest }))) := by
  simp only [exec, execDspSnrSpectrumDone, portSr, State.port_modDsp, advance_port, h, hr, he, decide_true, Bool.and_self,
    if_true]
  rfl

section
variable (ht : (acqOf s p sp).st = .track)
include ht

theorem exec_rxSkewEstimate_of_track (ha : (s.port p).dsp.rx.skewAuto = 1) (skew : List Int) :
    let k := (List.range 4).map fun i => clampI (skew.getD i 0) 200
    exec (.rxSkewEstimate ⟨p, sp⟩ skew dt) s =
      .next ((modRecv p sp (fun v => { v with skew := k }) (advance dt s)).modDsp p fun d => (
        if sp then { d with spareEst := { d.spareEst with skew := k } } else { d with est := { d.est with skew := k } })) := by
  simp only [exec, execRxSkewEstimate, advance_port, acqOf_advance, hr, ha, ht, beq_self_eq_true, Bool.and_self, if_true]

theorem exec_nlcAdaptUpdate_of_track (hn : (s.port p).mode.running.nlc = true) (ha : (s.port p).dsp.rx.nlcAdapt = 1)
    (scale : Nat) : exec (.nlcAdaptUpdate ⟨p, sp⟩ scale dt) s =
      .next (modRecv p sp (fun v => { v with nlcScale := min 4096 scale }) (advance dt s)) := by
  simp only [exec, execNlcAdaptUpdate, advance_port, acqOf_advance, hr, hn, ha, ht, beq_self_eq_true, Bool.and_self, if_true]

end
end

/-! ### CD_TRACK_UPDATE (R135) -/

/-- What a residual that is measured in TRACK does: it drives the times of CD_OUT_OF_RANGE, and where it lies above its limit
it moves the CD setting. -/
def cdTracked (p : Lp) (sp : Bool) (res : Int) (s : State) : State :=
  let new := clampCd s p ((recvOf s p sp).cdSet + res)
  let t := if sp then s else cdTimers p ((recvOf s p sp).cdSet + res) s
  if 20 * (310000 * 310000) < res.natAbs * (portSr s p * portSr s p) ∧ new ≠ (recvOf s p sp).cdSet then
    let t := modRecv p sp (fun v => { v with cdSet := new }) t
    if sp then t else lpCount t p 0x0309 1
  else t

theorem exec_cdTrackUpdate_of_track {p : Lp} {sp : Bool} {dt : Nat} {s : State} (hr : running (advance dt s) = true)
    (ht : (acqOf s p sp).st = .track) (res : Int) :
    exec (.cdTrackUpdate ⟨p, sp⟩ res dt) s = .next (cdTracked p sp res (advance dt s)) := by
  simp only [exec, execCdTrackUpdate, acqOf_advance, hr, ht, beq_self_eq_true, Bool.and_self, if_true, cdTracked]

theorem loopFrame_cdTimers (p : Lp) (cd : Int) (s : State) : LoopFrame p s (cdTimers p cd s) := loopFrame_modDsp rfl rfl rfl

theorem loopFrame_cdTracked (p : Lp) (sp : Bool) (res : Int) (s : State) : LoopFrame p s (cdTracked p sp res s) := by
  have timed := (LoopFrame.refl p s).ite (c := sp = true) (loopFrame_cdTimers p ((recvOf s p sp).cdSet + res) s)
  have moved := timed.trans (loopFrame_modRecv p sp
    (fun v => { v with cdSet := clampCd s p ((recvOf s p sp).cdSet + res) }) _)
  exact (moved.ite (moved.alarms (sends_lpCount _ p 0x0309 1).alarms_of)).ite timed

theorem cdTracked_alarms (p : Lp) (sp : Bool) (res : Int) (s : State) : (cdTracked p sp res s).alarms = s.alarms := by
  have count (t : State) : (lpCount t p 0x0309 1).alarms = t.alarms := (sends_lpCount t p _ _).alarms
  cases sp <;> simp only [cdTracked] <;> split <;> simp [cdTimers, modRecv, count]

/-- Beyond the limit the setting moves within the range granted; short of it, or where it does not move, it stays. -/
theorem cdTracked_cdSet (p : Lp) (sp : Bool) (res : Int) (s : State) :
    (recvOf (cdTracked p sp res s) p sp).cdSet =
      if 20 * (310000 * 310000) < res.natAbs * (portSr s p * portSr s p) then clampCd s p ((recvOf s p sp).cdSet + res)
      else (recvOf s p sp).cdSet := by
  have count (t : State) : recvOf (lpCount t p 0x0309 1) p sp = recvOf t p sp :=
    (sends_lpCount t p _ _).alarms_of.recvOf_eq p sp
  have timed : recvOf (if sp then s else cdTimers p ((recvOf s p sp).cdSet + res) s) p sp = recvOf s p sp := by
    split
    · rfl
    · exact recvOf_modDsp rfl rfl sp
  by_cases beyond : 20 * (310000 * 310000) < res.natAbs * (portSr s p * portSr s p)
  · by_cases moves : clampCd s p ((recvOf s p sp).cdSet + res) = (recvOf s p sp).cdSet
    · simp only [cdTracked, beyond, moves, ne_eq, not_true, and_false, if_false, if_true, timed]
    · simp only [cdTracked, beyond, moves, ne_eq, not_false_eq_true, and_true, if_true]
      split
      · rw [recvOf_modRecv]
      · rw [count, recvOf_modRecv]
  · simp only [cdTracked, beyond, false_and, if_false, timed]

/-! ### BULK_PMD_UPDATE (R136) -/

/-- What a bulk-PMD estimate of the serving engine does besides the correction: it joins the 10 s average of DGD, and the SOP
rate of the millisecond drives SOP_FAST. -/
def pmdNoted (p : Lp) (b : BulkPmd) (sop : Nat) (s : State) : State :=
  let s := s.modDsp p fun d => { d with
    dgdSum := d.dgdSum + b.dgd, dgdCount := d.dgdCount + 1, dgdWindow := timerIf true d.dgdWindow (s.hk + secT 10) }
  let s := if 20000 < sop then raiseAlarm 0x8316 (lpT p) 0 [] s else s
  s.modDsp p fun d => { d with
    sopSlow := timerIf (raised s 0x8316 (lpT p) 0 && decide (sop < 10000)) d.sopSlow (s.hk + secT 1) }

/-- The bulk PMD correction follows the estimate. -/
def pmdApplied (p : Lp) (sp : Bool) (b : BulkPmd) (s : State) : State :=
  modRecv p sp (fun v => { v with dgd := bulkDgd s p b.dgd, ps := b.ps }) s

/-- What a bulk-PMD estimate does in TRACK. -/
def pmdFollowed (p : Lp) (sp : Bool) (b : BulkPmd) (sop : Nat) (s : State) : State :=
  if sp then pmdApplied p sp b s else pmdNoted p b sop (pmdApplied p sp b s)

theorem exec_bulkPmdUpdate_of_track {p : Lp} {sp : Bool} {dt : Nat} {s : State} (hr : running (advance dt s) = true)
    (ht : (acqOf s p sp).st = .track) (b : BulkPmd) (sop : Nat) :
    exec (.bulkPmdUpdate ⟨p, sp⟩ b sop dt) s = .next (pmdFollowed p sp b sop (advance dt s)) := by
  simp only [exec, execBulkPmdUpdate, acqOf_advance, hr, ht, beq_self_eq_true, Bool.and_self, if_true, pmdFollowed,
    pmdApplied, pmdNoted]

section
variable (p : Lp) (sp : Bool) (b : BulkPmd) (sop : Nat) (s : State)

/-- SOP_FAST is raised at most. -/
theorem alarms_sopFast : Alarms s (if 20000 < sop then raiseAlarm 0x8316 (lpT p) 0 [] s else s) :=
  (alarms_raiseAlarm _ _ _ _ _).ite (Sends.refl s).alarms_of

theorem pmdNoted_dsp : ∃ w e, ((pmdNoted p b sop s).port p).dsp = { (s.port p).dsp with
    dgdSum := (s.port p).dsp.dgdSum + b.dgd, dgdCount := (s.port p).dsp.dgdCount + 1, dgdWindow := w, sopSlow := e } := by
  simp only [pmdNoted, State.port_modDsp, if_true, State.port_congr (alarms_sopFast p sop _).lp]
  exact ⟨_, _, rfl⟩

theorem loopFrame_pmdFollowed : LoopFrame p s (pmdFollowed p sp b sop s) := by
  have applied : LoopFrame p s (pmdApplied p sp b s) := loopFrame_modRecv ..
  have noted (s : State) : LoopFrame p s (pmdNoted p b sop s) :=
    ((loopFrame_modDsp rfl rfl rfl).alarms (alarms_sopFast p sop _)).trans (loopFrame_modDsp rfl rfl rfl)
  exact applied.ite (applied.trans (noted _))

theorem recvOf_pmdFollowed : recvOf (pmdFollowed p sp b sop s) p sp =
    { recvOf s p sp with dgd := bulkDgd s p b.dgd, ps := b.ps } := by
  have applied : recvOf (pmdApplied p sp b s) p sp = { recvOf s p sp with dgd := bulkDgd s p b.dgd, ps := b.ps } :=
    recvOf_modRecv ..
  rw [pmdFollowed, ← applied]
  obtain ⟨w, e, dsp⟩ := pmdNoted_dsp p b sop (pmdApplied p sp b s)
  split
  · rfl
  · exact recvOf_congr (by rw [dsp]) (by rw [dsp]) sp

/-- Of the serving engine the DGD joins the 10 s average. -/
theorem pmdFollowed_dgdSum : ((pmdFollowed p false b sop s).port p).dsp.dgdSum = (s.port p).dsp.dgdSum + b.dgd ∧
    ((pmdFollowed p false b sop s).port p).dsp.dgdCount = (s.port p).dsp.dgdCount + 1 := by
  obtain ⟨w, e, dsp⟩ := pmdNoted_dsp p b sop (pmdApplied p false b s)
  simp only [pmdFollowed, Bool.false_eq_true, if_false, dsp]
  simp [pmdApplied, modRecv]

theorem raised_pmdFollowed (h : 20000 < sop) : raised (pmdFollowed p false b sop s) 0x8316 (lpT p) 0 = true := by
  simp only [pmdFollowed, pmdNoted, raised_modDsp, h, Bool.false_eq_true, if_true, if_false, raised_after_raiseAlarm]

end

/-! ### ESTIMATE_UPDATE (R152) -/

/-- The receive processing takes over the carrier frequency, the timing, the SOP and the I/Q imbalance. -/
def estimatesApplied (p : Lp) (sp : Bool) (m : EstMeas) (s : State) : State :=
  modRecv p sp (fun r => takeIq m { r with freqKHz := m.freqKHz, timing := m.timing, sop := m.sop }) s

/-- What the 10 ms estimates do in TRACK; cycle slips and FREQ_OFFSET_HIGH are of the serving engine. -/
def estimatesTaken (p : Lp) (sp : Bool) (m : EstMeas) (s : State) : State :=
  let u := estimatesApplied p sp m s
  if sp then u.modDsp p fun d => { d with spareEst := takeEst m d.spareEst }
  else freqAlarm p m.freqKHz
    (lpCount (u.modDsp p fun d => { d with est := takeEst m d.est }) p 0x0308 (slipCount u p m.slips))

theorem exec_estimateUpdate_of_track {p : Lp} {sp : Bool} {dt : Nat} {s : State} (hr : running (advance dt s) = true)
    (ht : (acqOf s p sp).st = .track) (m : EstMeas) :
    exec (.estimateUpdate p sp m dt) s = .next (estimatesTaken p sp m (advance dt s)) := by
  simp only [exec, execEstimateUpdate, acqOf_advance, hr, ht, beq_self_eq_true, Bool.and_self, if_true, estimatesTaken,
    estimatesApplied]

theorem alarms_freqAlarm (p : Lp) (f : Int) (s : State) : Alarms s (freqAlarm p f s) :=
  (alarms_raiseAlarm _ _ _ _ _).ite ((alarms_clearAlarm _ _ _ _ _).ite (Sends.refl s).alarms_of)

theorem Alarms.trans {s t u : State} (h : Alarms s t) (k : Alarms t u) : Alarms s u := by
  have e : sentAs { sentAs { s with alarms := t.alarms } t with alarms := u.alarms } u =
      sentAs { s with alarms := u.alarms } u := rfl
  unfold Alarms Sends at h k ⊢
  rw [h, e] at k
  exact k

section
variable (p : Lp) (sp : Bool) (m : EstMeas) (s : State)

theorem alarms_estimatesNoted (n : Nat) : Alarms s (freqAlarm p m.freqKHz (lpCount s p 0x0308 n)) :=
  (sends_lpCount s p _ n).alarms_of.trans (alarms_freqAlarm p _ _)

theorem loopFrame_estimatesTaken : LoopFrame p s (estimatesTaken p sp m s) := by
  have applied : LoopFrame p s (estimatesApplied p sp m s) := loopFrame_modRecv ..
  refine applied.trans ?_
  simp only [estimatesTaken]
  split
  · exact loopFrame_modDsp rfl rfl rfl
  · exact .alarms (loopFrame_modDsp rfl rfl rfl) (alarms_estimatesNoted p m _ _)

theorem recvOf_estimatesTaken : recvOf (estimatesTaken p sp m s) p sp =
    takeIq m { recvOf s p sp with freqKHz := m.freqKHz, timing := m.timing, sop := m.sop } := by
  have applied : recvOf (estimatesApplied p sp m s) p sp =
      takeIq m { recvOf s p sp with freqKHz := m.freqKHz, timing := m.timing, sop := m.sop } := recvOf_modRecv ..
  rw [← applied]
  simp only [estimatesTaken]
  split
  · exact recvOf_modDsp rfl rfl sp
  · exact ((alarms_estimatesNoted p m _ _).recvOf_eq p sp).trans (recvOf_modDsp rfl rfl sp)

theorem estimatesTaken_est : ((estimatesTaken p false m s).port p).dsp.est = takeEst m (s.port p).dsp.est := by
  simp [estimatesTaken, State.port_congr (alarms_estimatesNoted p m _ _).lp, estimatesApplied, modRecv]

theorem estimatesTaken_spareEst :
    ((estimatesTaken p true m s).port p).dsp.spareEst = takeEst m (s.port p).dsp.spareEst := by
  simp [estimatesTaken, estimatesApplied, modRecv]

end

/-! ### DSP_ALARM_TIMER_EXPIRY (R160) -/

theorem exec_dspAlarmTimerExpiry_of_running {dt : Nat} {s : State} (hr : running (advance dt s) = true) (p : Lp)
    (alarm : Nat) : exec (.dspAlarmTimerExpiry p alarm dt) s = .next (dspAlarmTimer p alarm (advance dt s)) := by
  simp only [exec, execDspAlarmTimerExpiry, hr, if_true]

section
variable {p : Lp} {s : State}

theorem dspAlarmTimer_of_cdOut (h : due (s.port p).dsp.cdOut s.hk = true) : dspAlarmTimer p 0x8312 s =
    raiseAlarm 0x8312 (lpT p) 0 [] (s.modDsp p fun d => { d with cdOut := none }) := by
  simp only [dspAlarmTimer, h, if_true]

theorem dspAlarmTimer_of_cdIn (out : due (s.port p).dsp.cdOut s.hk = false) (h : due (s.port p).dsp.cdIn s.hk = true) :
    dspAlarmTimer p 0x8312 s = clearAlarm 0x8312 (lpT p) 0 [] (s.modDsp p fun d => { d with cdIn := none }) := by
  simp only [dspAlarmTimer, out, h, if_true, Bool.false_eq_true, if_false]

theorem dspAlarmTimer_of_dgdWindow (h : due (s.port p).dsp.dgdWindow s.hk = true) :
    dspAlarmTimer p 0x8313 s = dgdWindowEnd p s := by
  simp only [dspAlarmTimer, h, if_true, Nat.reduceEqDiff, if_false]

theorem dspAlarmTimer_of_sopSlow (h : due (s.port p).dsp.sopSlow s.hk = true) : dspAlarmTimer p 0x8316 s =
    clearAlarm 0x8316 (lpT p) 0 [] (s.modDsp p fun d => { d with sopSlow := none }) := by
  simp only [dspAlarmTimer, h, if_true, Nat.reduceEqDiff, if_false]

end

section
variable (p : Lp) (s : State)

/-- The next window of the DGD average begins empty. -/
def dgdRestarted (low : Bool) : State :=
  s.modDsp p fun d => { d with dgdWindow := some (s.hk + secT 10), dgdSum := 0, dgdCount := 0, dgdLow := low }

/-- At the end of a window the next begins, and DGD_HIGH alone may change. -/
theorem dgdWindowEnd_alarms : ∃ low, Alarms (dgdRestarted p s low) (dgdWindowEnd p s) :=
  ⟨_, (alarms_raiseAlarm _ _ _ _ _).ite ((alarms_clearAlarm _ _ _ _ _).ite (Sends.refl _).alarms_of)⟩

theorem loopFrame_dgdWindowEnd : LoopFrame p s (dgdWindowEnd p s) := by
  obtain ⟨low, alarms⟩ := dgdWindowEnd_alarms p s
  exact .alarms (loopFrame_modDsp rfl rfl rfl) alarms

theorem dgdWindowEnd_dgdSum : ((dgdWindowEnd p s).port p).dsp.dgdSum = 0 := by
  obtain ⟨low, alarms⟩ := dgdWindowEnd_alarms p s
  simp [State.port_congr alarms.lp, dgdRestarted]

theorem raised_dgdWindowEnd
    (h : dgdTol (portSr s p) * 10 * (s.port p).dsp.dgdCount < (s.port p).dsp.dgdSum) :
    raised (dgdWindowEnd p s) 0x8313 (lpT p) 0 = true := by
  simp only [dgdWindowEnd, h, if_true, raised_after_raiseAlarm]

end

/-- Settles O32: each loop's update is a def of its own, with its frame and what it sets. -/
theorem dspLoopsRun : Obligations.DspLoopsRun := by
  unfold Obligations.DspLoopsRun
  intro p sp skew ps res dgd sop scale e dt m bins s hr a d frame
  have framed {t : State} (h : LoopFrame p a t) : frame t := (loopFrame_advance p dt s).trans h
  have timed {t : State} {alarm : Nat} (h : dspAlarmTimer p alarm a = t) : exec (.dspAlarmTimerExpiry p alarm dt) s = .next t :=
    h ▸ exec_dspAlarmTimerExpiry_of_running hr p alarm
  have port : a.port p = s.port p := advance_port dt s p
  have dsp : d = (a.port p).dsp := by rw [port]
  have recv : recvOf a p sp = recvOf s p sp := recvOf_advance dt s p sp
  refine ⟨exec_txCdRampEnd_of_finished hr, fun ht => ⟨fun ha => exec_rxSkewEstimate_of_track hr ht ha skew,
    fun hn ha => exec_nlcAdaptUpdate_of_track hr ht hn ha scale,
    ⟨_, exec_cdTrackUpdate_of_track hr ht res, framed (loopFrame_cdTracked ..), ?_, ?_⟩,
    ⟨_, exec_bulkPmdUpdate_of_track hr ht ⟨dgd, ps⟩ sop, framed (loopFrame_pmdFollowed ..), ?_⟩,
    ⟨_, exec_estimateUpdate_of_track hr ht m, framed (loopFrame_estimatesTaken ..), ?_⟩⟩,
    exec_lastProfileUpdate_of_track hr,
    fun rest h he => ⟨_, spectrumWords_length _ _, exec_dspSnrSpectrumDone_of_first hr h he bins⟩,
    fun h => ⟨_, timed (dspAlarmTimer_of_cdOut ?_), ?_⟩, fun wf out h => ⟨_, timed (dspAlarmTimer_of_cdIn ?_ ?_), ?_⟩,
    fun h => ⟨_, timed (dspAlarmTimer_of_dgdWindow ?_), framed (loopFrame_dgdWindowEnd p a), dgdWindowEnd_dgdSum p a, ?_⟩,
    fun wf h => ⟨_, timed (dspAlarmTimer_of_sopSlow ?_), ?_⟩⟩
  · exact (cdTracked_alarms p sp res a).trans (advance_alarms dt s)
  · rw [← recv]
    exact cdTracked_cdSet p sp res a
  · rw [recvOf_pmdFollowed]
    refine ⟨rfl, rfl, ?_⟩
    rintro rfl
    obtain ⟨sum, count⟩ := pmdFollowed_dgdSum p ⟨dgd, ps⟩ sop a
    rw [dsp]
    exact ⟨sum, count, raised_pmdFollowed p ⟨dgd, ps⟩ sop a⟩
  · rw [recvOf_estimatesTaken]
    refine ⟨rfl, rfl, rfl, ?_⟩
    rw [dsp]
    split
    · next spare => exact spare ▸ estimatesTaken_spareEst p m a
    · next serving => exact (eq_false_of_ne_true serving) ▸ estimatesTaken_est p m a
  · simpa only [port] using h
  · exact ⟨framed (.alarms (loopFrame_modDsp rfl rfl rfl) (alarms_raiseAlarm ..)),
      raised_after_raiseAlarm .., by simp⟩
  · simpa only [port] using out
  · simpa only [port] using h
  · exact ⟨framed (.alarms (loopFrame_modDsp rfl rfl rfl) (alarms_clearAlarm ..)),
      raised_after_clearAlarm (by simpa [a] using wf) ..⟩
  · simpa only [port] using h
  · intro high
    exact raised_dgdWindowEnd p a (by simpa only [port] using high)
  · simpa only [port] using h
  · exact ⟨framed (.alarms (loopFrame_modDsp rfl rfl rfl) (alarms_clearAlarm ..)),
      raised_after_clearAlarm (by simpa [a] using wf) ..⟩

end Sys2Proof.Machine
end

section
/-!
PROOFS. The signal-processing commands (R131, R133, R137, R143, R147 to R150, R155, Table 5.11).
-/
namespace Sys2Proof.Machine
open Sys2Proof

/-- A command that passes check 8 has no word out of the range that its unit sets. -/
theorem unitBad_of_runs {op : OpSpec} {c : Cmd} {s : State} (h : Runs op c s) :
    op.unitBad (ready c s) c.target c = none := by
  obtain ⟨-, ⟨hb, ha, -⟩, passes⟩ := h
  have one : ¬ multiTarget c := fun k => k.elim hb ha
  have none : badWord op (ready c s) c = none := by
    simp only [Passes, checks] at passes
    cases hw : badWord op (ready c s) c with
    | none => rfl
    | some w => simp only [hw] at passes; grind
  rw [badWord_one one, firstOf_eq_none_iff] at none
  exact none.2

theorem dspTxConfigOp_run_of_inRange {s : State} {t : Nat} {c : Cmd} (h : preRangeBad s t c = none) :
    let p := lpOfT t
    let x := txOf c (s.port p).dsp.tx
    dspTxConfigOp.run s t c = okRes (if bit (c.w 3) 9 = true then rampGo p (setTx p x s) else setTx p x s)
      ([0] ++ txWords x ++ [wI (clampI x.cdPre (preMax (portSr s p)))]) := by
  simp only [dspTxConfigOp, h]

/-- RX_SKEW_AUTO that is switched on starts the estimate from RX_SKEW (R133). -/
theorem dspRxConfigOp_run (s : State) (t : Nat) (c : Cmd) :
    let p := lpOfT t
    let old := (s.port p).dsp.rx
    let x := rxOf c old
    let start (v : Recv) : Recv := if old.skewAuto = 0 ∧ x.skewAuto = 1 then { v with skew := x.skew } else v
    dspRxConfigOp.run s t c = okRes (s.modDsp p fun d => { d with rx := x, recv := start d.recv, spareRecv := start d.spareRecv })
      ([0] ++ rxWords x ++ (effective x (s.port p).mode.running.reach).map w32) := by
  simp only [dspRxConfigOp, State.port_modDsp, if_true]

/-! ### DSP_ACQUIRE -/

/-- The command is outstanding on its port until its acquisition ends (Table 5.11). -/
def holdAcquire (c : Cmd) (s : State) : State :=
  s.modHost fun h => { h with deferred := h.deferred ++
    [{ port := c.port, code := 0x0307, tag := c.tag, multi := false,
       entries := [{ target := c.target, settled := false, status := stOk, detail := 0, words := [] }] }] }

@[simp] theorem holdAcquire_port (c : Cmd) (s : State) (q : Lp) : (holdAcquire c s).port q = s.port q :=
  State.port_congr (State.modHost_lp s _) q

theorem exec_dspAcquire_of_accepted {c : Cmd} {s t : State} (h : Runs dspAcquireOp c s)
    (r : dspAcquireOp.run (ready c s) c.target c = { st := t, settled := false }) :
    exec (.dspAcquire c) s = .next (pump (dspAcquireOp.after (reply 0x0307 c stAccepted 0 [] (holdAcquire c t)) c)) := by
  have row : exec (.dspAcquire c) s = .next (serve dspAcquireOp c s) := rfl
  rw [row, serve_accepted h r]
  rfl

section
variable {s : State} {t : Nat} {c : Cmd}

theorem dspAcquireOp_run_of_idle (h : inService s (lpOfT t) = false ∨ (s.port (lpOfT t)).dsp.acq.st = .idle) :
    dspAcquireOp.run s t c = refuse s stBadState 0x0103 := by
  have idle : (!inService s (lpOfT t) || (s.port (lpOfT t)).dsp.acq.st == .idle) = true := by
    obtain h | h := h <;> simp [h]
  simp only [dspAcquireOp, idle, if_true]

section
variable (hs : inService s (lpOfT t) = true) (hi : (s.port (lpOfT t)).dsp.acq.st ≠ .idle)
include hs hi

theorem dspAcquireOp_run_of_invalid (h1 : c.w 3 = 1) (hv : (profileOf s (lpOfT t) (c.w 4)).valid = false) :
    dspAcquireOp.run s t c = refuse s stBadState 0x0104 := by
  simp [dspAcquireOp, hs, hi, h1, hv]

/-- In WAIT_SIGNAL the path is held, else it begins after the reply. -/
theorem dspAcquireOp_run_of_valid (h : c.w 3 = 0 ∨ (profileOf s (lpOfT t) (c.w 4)).valid = true) :
    dspAcquireOp.run s t c = { settled := false, st := (
      if (s.port (lpOfT t)).dsp.acq.st = .waitSignal then
        modAcq s (lpOfT t) false fun a => { a with held := some (c.w 3 == 1, c.w 4) }
      else s) } := by
  have path : (decide (c.w 3 = 1) && !(profileOf s (lpOfT t) (c.w 4)).valid) = false := by
    obtain h | h := h <;> simp [h]
  have acquiring : (!inService s (lpOfT t) || (s.port (lpOfT t)).dsp.acq.st == .idle) = false := by simp [hs, hi]
  simp only [dspAcquireOp, acquiring, path, Bool.false_eq_true, if_false, beq_iff_eq]
  split <;> rfl

end
end

theorem dspAcquireOp_after_of_waitSignal {s : State} {c : Cmd} (h : (s.port (lpOfT c.target)).dsp.acq.st = .waitSignal) :
    dspAcquireOp.after s c = s := if_pos h

theorem dspAcquireOp_after_of_other {s : State} {c : Cmd} (h : (s.port (lpOfT c.target)).dsp.acq.st ≠ .waitSignal) :
    dspAcquireOp.after s c = if c.w 3 = 1 then startProfile (lpOfT c.target) false (c.w 4) s
      else startCold (lpOfT c.target) false s := if_neg h

/-- Settles O30: each command is served on its line port, and the state of its unit says whether it runs, is held or is
refused. -/
theorem dspCommandsRun : Obligations.DspCommandsRun := by
  unfold Obligations.DspCommandsRun
  intro c s
  simp -zeta only [← ready_port c s]
  intro r p d pm
  refine ⟨fun h => exec_of_runs (op := dspTxConfigOp) h (dspTxConfigOp_run_of_inRange (unitBad_of_runs h)),
    fun h => exec_of_runs (op := dspTxPreemphOp) h rfl,
    fun h => exec_of_runs (op := dspRxConfigOp) h (dspRxConfigOp_run ..),
    fun h => exec_of_runs (op := dspStatusOp) h rfl,
    fun h => ⟨fun serving => ?_, fun spare warm => ?_, fun spare cold => ?_⟩,
    fun h => ⟨fun track => ?_, fun track => ?_⟩, fun h => ⟨fun track => ?_, fun track => ?_⟩,
    fun h => exec_of_runs (op := dspProfileWriteOp) h rfl, fun h => exec_of_runs (op := dspProfileReadOp) h rfl,
    fun h => ⟨fun valid => ?_, fun named invalid => ?_⟩, fun h => exec_of_runs (op := dspProfileClearOp) h rfl,
    fun h => ⟨fun warm => ?_, fun spare cold => ?_⟩, fun h => exec_of_runs (op := dspCountersOp) h rfl,
    fun h => ⟨fun idle => ?_, fun inServ acquiring path invalid => ?_, fun inServ acquiring valid => ?_⟩⟩
  · exact exec_of_runs (op := dspEstimatesOp) h (if_neg (by omega))
  · exact exec_of_runs (op := dspEstimatesOp) h ((if_pos spare).trans (if_pos warm))
  · exact exec_of_badState (op := dspEstimatesOp) h ((if_pos spare).trans (if_neg (ne_true_of_eq_false cold)))
  · exact exec_of_accepted (op := dspSnrSpectrumOp) h (if_neg (ne_true_of_eq_false (congrArg not track)))
  · exact exec_of_badState (op := dspSnrSpectrumOp) h (if_pos (congrArg not track))
  · exact exec_of_runs (op := dspProfileStoreOp) h (if_neg (ne_true_of_eq_false (congrArg not track)))
  · exact exec_of_badState (op := dspProfileStoreOp) h (if_pos (congrArg not track))
  · have served : ¬ (decide (c.w 3 ≠ 31) && !(profileOf r p (c.w 3)).valid) = true := by
      obtain valid | valid := valid <;> simp [valid]
    exact exec_of_runs (op := dspProfileSelectOp) h (if_neg served)
  · have refused : (decide (c.w 3 ≠ 31) && !(profileOf r p (c.w 3)).valid) = true := by simp [named, invalid]
    exact exec_of_badState (op := dspProfileSelectOp) h (if_pos refused)
  · have served : ¬ (decide (c.w 3 = 1) && !warmShadow r p) = true := by
      obtain serving | warm := warm
      · simp [serving]
      · simp [warm]
    exact exec_of_runs (op := dspEqReadOp) h (if_neg served)
  · have refused : (decide (c.w 3 = 1) && !warmShadow r p) = true := by simp [spare, cold]
    exact exec_of_badState (op := dspEqReadOp) h (if_pos refused)
  · exact exec_of_badState (op := dspAcquireOp) h (dspAcquireOp_run_of_idle idle)
  · exact exec_of_badState (op := dspAcquireOp) h (dspAcquireOp_run_of_invalid inServ acquiring path invalid)
  · have accepted := exec_dspAcquire_of_accepted h (dspAcquireOp_run_of_valid inServ acquiring valid)
    refine ⟨fun waiting => ?_, fun other => ?_⟩
    · rw [accepted, if_pos waiting, dspAcquireOp_after_of_waitSignal (by simpa [modAcq, d, r, p] using waiting)]
      rfl
    · rw [accepted, if_neg other, dspAcquireOp_after_of_other (by simpa [d, r, p] using other)]
      rfl

end Sys2Proof.Machine
end

section
/-!
PROOFS. Acquisition and lock hold proceed (R145 to R148, Table 5.6).
-/
namespace Sys2Proof.Machine
open Sys2Proof

section
variable {p : Lp} {sp : Bool} {dt : Nat} {s : State} (hr : running (advance dt s) = true)
include hr

/-- A state's work that is done within the bound of its path. -/
theorem exec_acqStateComplete_of_profile {m : EstMeas} {b : Nat} (onProfile : (acqOf s p sp).onProfile = true)
    (hb : profileBound (acqOf s p sp).st = some b) (inTime : (advance dt s).hk ≤ (acqOf s p sp).stFrom + b)
    (done : workDone (advance dt s) p sp m = true) :
    exec (.acqStateComplete p sp m dt) s = .next (pump (acqAdvance p sp m (advance dt s))) := by
  simp only [exec, execAcqStateComplete, acqOf_advance, hr, onProfile, hb, inTime, done, decide_true, Bool.and_self, if_true]

theorem exec_acqStateComplete_of_cold {m : EstMeas} (onCold : (acqOf s p sp).onProfile = false)
    (cold : coldState (acqOf s p sp).st = true) (inTime : (advance dt s).hk ≤ (acqOf s p sp).coldFrom + coldSum)
    (done : workDone (advance dt s) p sp m = true) :
    exec (.acqStateComplete p sp m dt) s = .next (pump (acqAdvance p sp m (advance dt s))) := by
  simp only [exec, execAcqStateComplete, acqOf_advance, hr, onCold, cold, inTime, done, decide_true, Bool.and_self, if_true,
    Bool.false_eq_true, if_false]

theorem exec_acqProfileBoundExpiry_of_due {b : Nat} (onProfile : (acqOf s p sp).onProfile = true)
    (hb : profileBound (acqOf s p sp).st = some b) (late : (acqOf s p sp).stFrom + b ≤ (advance dt s).hk) :
    exec (.acqProfileBoundExpiry p sp dt) s = .next (profileFallback p sp (advance dt s)) := by
  simp only [exec, execAcqProfileBoundExpiry, acqOf_advance, hr, onProfile, hb, late, decide_true, Bool.and_self, if_true]

theorem exec_acqColdSumExpiry_of_due (onCold : (acqOf s p sp).onProfile = false)
    (cold : coldState (acqOf s p sp).st = true) (late : (acqOf s p sp).coldFrom + coldSum ≤ (advance dt s).hk) :
    exec (.acqColdSumExpiry p sp dt) s = .next (pump (coldExpire p sp (advance dt s))) := by
  simp only [exec, execAcqColdSumExpiry, acqOf_advance, hr, onCold, cold, late, decide_true, Bool.not_false, Bool.and_self,
    if_true]

/-- Lost pilots in TRACK: LOCK_HOLD says whether the port unlocks at once. -/
theorem exec_pilotLockLost_of_track {slots : List PilotSlot} (track : (acqOf s p sp).st = .track)
    (lost : 2 * goodPilots (advance dt s) p slots < 1024) :
    exec (.pilotLockLost ⟨p, sp⟩ slots dt) s = .next (
      if (s.port p).dsp.rx.lockHold = 0 then unlockPort p sp (advance dt s)
      else enterAcq p sp .lockHold (if sp then advance dt s else lpCount (advance dt s) p 0x0306 1)) := by
  simp only [exec, execPilotLockLost, pilotsLost, acqOf_advance, advance_port, hr, track, lost, decide_true,
    beq_self_eq_true, Bool.and_self, if_true]

section
variable (held : (acqOf s p sp).st = .lockHold)
include held

theorem exec_pilotLockRegained_of_held {slots : List PilotSlot} (good : 3 * 1024 ≤ 4 * goodPilots (advance dt s) p slots)
    (inTime : (advance dt s).hk < (acqOf s p sp).stFrom + usT (s.port p).dsp.rx.lockHold) :
    exec (.pilotLockRegained ⟨p, sp⟩ slots dt) s = .next (
      if sp then enterAcq p true .track (advance dt s)
      else writeLast p (clearAcqAlarms p (enterAcq p false .track (lpCount (advance dt s) p 0x0307 1)))) := by
  simp only [exec, execPilotLockRegained, pilotsGood, holdOver, acqOf_advance, advance_port, hr, held, good,
    Nat.not_le.mpr inTime, decide_true, decide_false, beq_self_eq_true, Bool.not_false, Bool.and_self, if_true]

theorem exec_lockHoldExpiry_of_runOut
    (runOut : (acqOf s p sp).stFrom + usT (s.port p).dsp.rx.lockHold ≤ (advance dt s).hk) :
    exec (.lockHoldExpiry p sp dt) s = .next (unlockPort p sp (advance dt s)) := by
  simp only [exec, execLockHoldExpiry, holdOver, acqOf_advance, advance_port, hr, held, runOut, decide_true, beq_self_eq_true,
    Bool.and_self, if_true]

end
end

/-- Settles O31: each event meets its condition on the running device, and its path and its state say what follows. -/
theorem acquisitionRuns : Obligations.AcquisitionRuns := by
  unfold Obligations.AcquisitionRuns
  intro p sp m slots b dt s hr a q hold good
  have acq : q = acqOf s p sp := acqOf_advance dt s p sp
  rw [acq]
  refine ⟨exec_acqStateComplete_of_profile hr, exec_acqStateComplete_of_cold hr, exec_acqProfileBoundExpiry_of_due hr,
    exec_acqColdSumExpiry_of_due hr, fun track lost none => ?_, fun track lost some => ?_,
    fun held good inTime => exec_pilotLockRegained_of_held hr held good inTime, exec_lockHoldExpiry_of_runOut hr⟩
  · rw [exec_pilotLockLost_of_track hr track lost, if_pos none]
  · rw [exec_pilotLockLost_of_track hr track lost, if_neg some]

end Sys2Proof.Machine
end

section
/-!
PROOFS. The spindle-range commands (R163, R166 to R169, R176 to R179, R182, Table 6.9).
-/
namespace Sys2Proof.Machine
open Sys2Proof

/-! ### Spindles and kernels of an engine -/

theorem spnOf_congr {s t : State} {e : Eng} (h : (t.engine e).spindles = (s.engine e).spindles) (i : Nat) :
    spnOf t e i = spnOf s e i := by
  rw [spnOf, h, spnOf]

theorem kernelOf_congr {s t : State} {e : Eng} (h : (t.engine e).kernels = (s.engine e).kernels) (i : Nat) :
    kernelOf t e i = kernelOf s e i := by
  rw [kernelOf, h, kernelOf]

@[simp] theorem spnOf_ready (c : Cmd) (s : State) (e : Eng) (i : Nat) : spnOf (ready c s) e i = spnOf s e i :=
  spnOf_congr (by rw [ready_engine]) i
@[simp] theorem kernelOf_clearAlarm (code target sub : Nat) (data : List Word) (s : State) (e : Eng) (i : Nat) :
    kernelOf (clearAlarm code target sub data s) e i = kernelOf s e i := kernelOf_congr (by rw [clearAlarm_engine]) i
@[simp] theorem kernelOf_ready (c : Cmd) (s : State) (e : Eng) (i : Nat) : kernelOf (ready c s) e i = kernelOf s e i :=
  kernelOf_congr (by rw [ready_engine]) i

/-! ### SPN_PERF_FREEZE (R178) -/

/-- A spindle that is frozen, or is not, as it is told stays as it is. -/
theorem freezeSpn_eq (f : Nat) (e : Eng) : freezeSpn (f == 1) e = fun u i =>
    let v := settlePerf e i u
    match (spnOf v e i).frozen with
    | none => if f = 1 then setSpn e i { spnOf v e i with frozen := some (engineCycles v e) } v else v
    | some t =>
      if f = 1 then v
      else engCount e 0x0407 (engineCycles v e - t) (setSpn e i { spnOf v e i with frozen := none } v) := by
  funext u i
  by_cases on : f = 1
  · simp only [freezeSpn, on, beq_self_eq_true, if_true]
    cases (spnOf (settlePerf e i u) e i).frozen <;> rfl
  · simp only [freezeSpn, beq_false_of_ne on, if_neg on]
    cases (spnOf (settlePerf e i u) e i).frozen <;> rfl

/-! ### SPN_KERNEL_RESERVE (R166) -/

section
variable {s : State} {t : Nat} {c : Cmd}

/-- A kernel that runs in a slot to be given up keeps its spindle reserved. -/
theorem spnKernelReserveOp_run_of_running (h : ∃ i, i < 8 ∧ c.w 3 ≤ i ∧ (kernelOf s (engOfT t) i).st = .running) :
    spnKernelReserveOp.run s t c = refuse s stBadState 0x0105 := by
  obtain ⟨i, hi, beyond, running⟩ := h
  refine if_pos (List.any_eq_true.mpr ⟨i, List.mem_range.mpr hi, ?_⟩)
  simp [beyond, running]

theorem spnKernelReserveOp_run_of_free (h : ∀ i, i < 8 → c.w 3 ≤ i → (kernelOf s (engOfT t) i).st ≠ .running) :
    let e := engOfT t
    let u := if (s.engine e).k = c.w 3 then s
      else checkIdle e (replaceRoles e (askResolve 1 (s.modEngine e fun x => { x with k := c.w 3 })))
    spnKernelReserveOp.run s t c = okRes u [w32 (c.w 3), w32 (availOf (u.engine e))] := by
  refine if_neg fun any => ?_
  obtain ⟨i, hi, kept⟩ := List.any_eq_true.mp any
  simp only [Bool.and_eq_true, decide_eq_true_eq, beq_iff_eq] at kept
  exact h i (List.mem_range.mp hi) kept.1 kept.2

/-! ### SPN_KERNEL_STOP (R169) -/

/-- A kernel state that is not EMPTY stands in its slot from then on. -/
theorem kernelOf_setKernelSt_st {st : KernelSt} (h : st ≠ .empty) (e : Eng) (i cause : Nat) (s : State) :
    (kernelOf (setKernelSt e i st cause s) e i).st = st := by
  unfold setKernelSt
  extract_lets num k
  split
  · next same => exact same
  · have written : ({ k with st, cause } : Kernel) ≠ {} := fun d => h (congrArg Kernel.st d)
    simp only [kernelOf, emit_engine, State.engine_modEngine, if_true, SMap.get_set_of_ne written]

theorem spnKernelStopOp_run_of_live (h : (kernelOf s (engOfT t) (c.w 3)).st = .running ∨
      (kernelOf s (engOfT t) (c.w 3)).st = .paused ∨ (kernelOf s (engOfT t) (c.w 3)).st = .faulted) :
    spnKernelStopOp.run s t c = okRes (clearAlarm 0x8411 (engT (engOfT t)) (c.w 3) [w32 (c.w 3)]
      (setKernelSt (engOfT t) (c.w 3) .stopped 0 s)) [4] := by
  have live : ((kernelOf s (engOfT t) (c.w 3)).st == .running || (kernelOf s (engOfT t) (c.w 3)).st == .paused ||
      (kernelOf s (engOfT t) (c.w 3)).st == .faulted) = true := by
    obtain h | h | h := h <;> simp [h]
  simp only [spnKernelStopOp, live, if_true, kernelOf_clearAlarm, kernelOf_setKernelSt_st (st := .stopped) (by decide)]
  rfl

theorem spnKernelStopOp_run_of_still (h : (kernelOf s (engOfT t) (c.w 3)).st = .empty ∨
      (kernelOf s (engOfT t) (c.w 3)).st = .loaded ∨ (kernelOf s (engOfT t) (c.w 3)).st = .stopped) :
    spnKernelStopOp.run s t c = okRes s [w32 (kernelStNum (kernelOf s (engOfT t) (c.w 3)).st)] := by
  have still : ((kernelOf s (engOfT t) (c.w 3)).st == .running || (kernelOf s (engOfT t) (c.w 3)).st == .paused ||
      (kernelOf s (engOfT t) (c.w 3)).st == .faulted) = false := by
    obtain h | h | h := h <;> simp [h]
  simp only [spnKernelStopOp, still, Bool.false_eq_true, if_false]

/-! ### SPN_CUST_KEY_FUSE (R167) -/

theorem spnCustKeyFuseOp_run_of_blank (h : s.sealSt.custKey = none) :
    spnCustKeyFuseOp.run s t c =
      okRes (s.modSeal fun x => { x with custKey := some (c.params.take 12) }) (c.params.take 12) := by
  simp only [spnCustKeyFuseOp, h]

theorem spnCustKeyFuseOp_run_of_fused (h : s.sealSt.custKey ≠ none) :
    spnCustKeyFuseOp.run s t c = refuse s stBadState 0x0104 := by
  obtain ⟨key, h⟩ := Option.ne_none_iff_exists'.mp h
  simp only [spnCustKeyFuseOp, h]

end

/-! ### SPN_KERNEL_READ (R170) -/

theorem spnKernelReadOp_run (s : State) (t : Nat) (c : Cmd) :
    spnKernelReadOp.run s t c = okRes s ((List.range (c.w 5)).map fun i =>
      (SMap.get none (kernelOf s (engOfT t) (c.w 3)).mailbox (c.w 4 + i)).getD
        (Config.mailboxWord (engNum (engOfT t)) (c.w 3) (c.w 4 + i))) := by
  refine congrArg (okRes s) (List.map_congr_left fun i _ => ?_)
  split
  · next w written => rw [written, Option.getD_some]
  · next blank => rw [blank, Option.getD_none]

/-- Settles O33: each command is served on its engine, and the state of its unit says whether it runs, is held or is refused. -/
theorem spindleCommandsRun : Obligations.SpindleCommandsRun := by
  unfold Obligations.SpindleCommandsRun
  intro c s
  simp -zeta only [← ready_engine c s, ← spnOf_ready c s, ← kernelOf_ready c s, ← ready_sealSt c s]
  intro r e x k ok bad
  refine ⟨fun h => exec_of_runs (op := spnMapOp) h rfl, fun h => exec_of_runs (op := spnPerfConfigOp) h rfl,
    fun h => exec_of_runs (op := spnPerfReadOp) h rfl, fun h => ?_, fun h => exec_of_runs (op := spnReaderOp) h rfl,
    fun h => ⟨fun running => ?_, fun free => ?_⟩, fun h => ?_, fun h => ?_, fun h => ⟨fun live => ?_, fun still => ?_⟩,
    fun h => exec_of_runs (op := spnKernelReadOp) h (spnKernelReadOp_run ..),
    fun h => exec_of_runs (op := spnKernelStatusOp) h rfl, fun h => ?_, fun h => exec_of_runs (op := spnCountersOp) h rfl⟩
  · intro one
    have frozen : freezeSpn (c.w 6 == 1) e = one := freezeSpn_eq (c.w 6) e
    rw [← frozen]
    exact exec_of_runs (op := spnPerfFreezeOp) h rfl
  · exact exec_of_badState (op := spnKernelReserveOp) h (spnKernelReserveOp_run_of_running running)
  · have reserved := exec_of_runs (op := spnKernelReserveOp) (f := .spnKernelReserve) h (spnKernelReserveOp_run_of_free free)
    split
    · next same => rw [reserved, if_pos same]; rfl
    · next other => rw [reserved, if_neg other]; rfl
  · intro n gap st
    split
    · next beyond => exact exec_of_badState (op := spnKernelLoadOp) h (if_pos beyond)
    · next slot =>
      split
      · next busy => exact exec_of_badState (op := spnKernelLoadOp) h ((if_neg slot).trans (if_pos busy))
      · next idle => exact exec_of_runs (op := spnKernelLoadOp) h ((if_neg slot).trans (if_neg idle))
  · split
    · next beyond => exact exec_of_badState (op := spnKernelStartOp) h (if_pos beyond)
    · next slot =>
      split
      · next cold => exact exec_of_badState (op := spnKernelStartOp) h ((if_neg slot).trans (if_pos (beq_iff_eq.mpr cold)))
      · next warm =>
        have powered : ¬ (x.st == .cold) = true := fun cold => warm (beq_iff_eq.mp cold)
        split
        · next busy =>
          exact exec_of_badState (op := spnKernelStartOp) h ((if_neg slot).trans ((if_neg powered).trans (if_pos busy)))
        · next idle =>
          exact exec_of_accepted (op := spnKernelStartOp) h ((if_neg slot).trans ((if_neg powered).trans (if_neg idle)))
  · exact exec_of_runs (op := spnKernelStopOp) h (spnKernelStopOp_run_of_live live)
  · exact exec_of_runs (op := spnKernelStopOp) h (spnKernelStopOp_run_of_still still)
  · split
    · next blank => exact exec_of_runs (op := spnCustKeyFuseOp) h (spnCustKeyFuseOp_run_of_blank blank)
    · next fused => exact exec_of_badState (op := spnCustKeyFuseOp) h (spnCustKeyFuseOp_run_of_fused fused)

end Sys2Proof.Machine
end

section
/-!
PROOFS. Spindle faults, moves and refreshes, the checkpoint, counters and customer kernels proceed (R163 to R165, R168 to R170,
R174, R179, Tables 6.11 and 6.12).
-/
namespace Sys2Proof.Machine
open Sys2Proof

/-! ### What the time that passes leaves alone -/

@[simp] theorem spnOf_advance (dt : Nat) (s : State) (e : Eng) (i : Nat) : spnOf (advance dt s) e i = spnOf s e i :=
  spnOf_congr (by rw [advance_engine]) i
@[simp] theorem kernelOf_advance (dt : Nat) (s : State) (e : Eng) (i : Nat) : kernelOf (advance dt s) e i = kernelOf s e i :=
  kernelOf_congr (by rw [advance_engine]) i
@[simp] theorem engRuns_advance (dt : Nat) (s : State) (e : Eng) : engRuns (advance dt s) e = engRuns s e := by
  simp only [engRuns, advance_engine]
@[simp] theorem rotationNext_advance (dt : Nat) (s : State) (e : Eng) : rotationNext (advance dt s) e = rotationNext s e := by
  simp only [rotationNext, advance_engine, spnOf_advance]

theorem ucodeBuild_congr {s t : State} (h : t.fw = s.fw) : ucodeBuild t = ucodeBuild s := by
  simp only [ucodeBuild, h]

/-! ### A kernel's slot changes, and nothing else -/

section
variable (e : Eng) (i : Nat) (f : Kernel → Kernel) (s : State)

@[simp] theorem modKernel_hk : (modKernel e i f s).hk = s.hk := State.modEngine_hk s e _
@[simp] theorem modKernel_sealSt : (modKernel e i f s).sealSt = s.sealSt := State.modEngine_sealSt s e _
@[simp] theorem modKernel_engine_st : ((modKernel e i f s).engine e).st = (s.engine e).st := by
  simp [modKernel]
@[simp] theorem engRuns_modKernel : engRuns (modKernel e i f s) e = engRuns s e := by
  simp only [engRuns, modKernel_engine_st]

end

theorem kernelCheck_congr {s t : State} (h : t.sealSt = s.sealSt) (k : Kernel) : kernelCheck t k = kernelCheck s k := by
  have standing : isSealed t = isSealed s := by rw [isSealed, h, isSealed]
  rw [kernelCheck, kernelCheck, standing, h]

@[simp] theorem kernelCheck_advance (dt : Nat) (s : State) (k : Kernel) : kernelCheck (advance dt s) k = kernelCheck s k :=
  kernelCheck_congr (advance_sealSt dt s) k
@[simp] theorem kernelCheck_modKernel (e : Eng) (i : Nat) (f : Kernel → Kernel) (s : State) (k : Kernel) :
    kernelCheck (modKernel e i f s) k = kernelCheck s k := kernelCheck_congr (modKernel_sealSt e i f s) k

/-! ### Events of an engine that runs its spindles -/

section
variable {e : Eng} {i dt : Nat} {s : State} (hr : running (advance dt s) = true)
include hr

section
variable (on : engRuns s e = true)
include on

theorem exec_spindleFault_of_runs {cause : Nat} {selfTest : Bool} (hi : i < 96) (hc : cause ≤ 2)
    (inn : (spnOf s e i).role ≠ 6) :
    exec (.spindleFault e i cause selfTest dt) s = .next (spindleFault e i (w32 cause) selfTest (advance dt s)) := by
  simp only [exec, execSpindleFault, hr, engRuns_advance, on, spnOf_advance, hi, hc, bne_iff_ne.mpr inn, decide_true,
    Bool.and_self, if_true]

theorem exec_roleWatchdogExpiry_of_role {selfTest : Bool} (hi : i < 96) (role : within (spnOf s e i).role 1 4 = true) :
    exec (.roleWatchdogExpiry e i selfTest dt) s = .next (spindleFault e i (w32 3) selfTest (advance dt s)) := by
  simp only [exec, execRoleWatchdogExpiry, hr, engRuns_advance, on, spnOf_advance, hi, role, decide_true, Bool.and_self,
    if_true]

theorem exec_spindleSelfTestRotation_of_due {pass selfTest : Bool} (tested : rotationNext s e = some i)
    (time : due (s.engine e).testAt (advance dt s).hk = true) :
    exec (.spindleSelfTestRotation e pass selfTest dt) s = .next (
      let u := (advance dt s).modEngine e fun x =>
        { x with rotation := (i + 1) % 96, testAt := some ((advance dt s).hk + secT 10) }
      if pass then u else spindleFault e i (w32 4) selfTest u) := by
  simp only [exec, execSpindleSelfTestRotation, rotationNext_advance, tested, hr, engRuns_advance, on, advance_engine, time,
    Bool.and_self, if_true]

theorem exec_roleMoveDone_of_move {j : Nat} {l : List Nat} (moves : (s.engine e).moves = j :: l) :
    exec (.roleMoveDone e dt) s = .next ((advance dt s).modEngine e fun x =>
      { x with moves := l, recovery := some ((advance dt s).hk + secT 1) }) := by
  simp only [exec, execRoleMoveDone, advance_engine, moves, hr, engRuns_advance, on, Bool.and_self, if_true]

/-- The next role with old microcode, outside a pause and while no role moves, moves to the new microcode (R165). -/
theorem exec_microcodeRefresh_of_outdated {n : Nat} {l : List Nat} (list : (s.engine e).refresh = i :: l)
    (still : (s.engine e).moves = []) (unpaused : s.fw.pause = none) (role : within (spnOf s e i).role 1 4 = true)
    (old : (spnOf s e i).build ≠ ucodeBuild s) :
    let b := (advance dt s).modEngine e fun x => { x with refresh := l }
    let v := moveRole e i (addBadLoads e [((highIdle b e).getD i, n)] b)
    exec (.microcodeRefresh e n dt) s = .next (if v.2.1 = true then checkIdle e v.2.2
      else spindleFault e (if v.1 = 0xFF then i else v.1) (freeW v.2.2).1 true (freeW v.2.2).2) := by
  intro b v
  have spindle : spnOf b e i = spnOf s e i := spnOf_congr (by simp [b]) i
  have image : ucodeBuild b = ucodeBuild s := ucodeBuild_congr (by simp [b])
  have outdated : (within (spnOf b e i).role 1 4 && (spnOf b e i).build != ucodeBuild b) = true := by
    simp [spindle, image, role, old]
  simp only [exec, execMicrocodeRefresh, advance_engine, list, hr, engRuns_advance, on, advance_fw, unpaused, still,
    Option.isNone_none, List.isEmpty_nil, Bool.and_self, if_true]
  rw [if_pos outdated]

theorem exec_roleCheckpoint_of_runs {act : List SpnActivity} {mail : List KernelMail} {reads : List Nat} :
    exec (.roleCheckpoint e act mail reads dt) s = .next (
      let u := reads.foldl (codeReads e) (mail.foldl (kernelMail e) (act.foldl (accountSpn e)
        (addBadLoads e (act.map fun x => (x.spindle, x.badLoads)) (advance dt s))))
      u.modEngine e fun x => { x with
        checkpointAt := some u.hk,
        spindles := (List.range 96).foldl (fun m i =>
          if within (SMap.get {} m i).role 1 4 then SMap.set {} m i { SMap.get {} m i with ckpt := (SMap.get {} m i).mem }
          else m) x.spindles }) := by
  simp only [exec, execRoleCheckpoint, hr, engRuns_advance, on, Bool.and_self, if_true]

theorem exec_centralSweep_of_due (central : centralCause (advance dt s) e ≠ 0) (strobe : sweepDue (advance dt s) e = true) :
    exec (.centralSweep e dt) s = .next (
      let u := engCount e 0x0408 1 ((List.range 96).foldl (fun s i => settlePerf e i s) (advance dt s))
      u.modEngine e fun x => { x with
        imageAt := some u.hk, imageCycle := engineCycles u e, imageCtrs := blockCounters u e,
        image := x.spindles.foldl (fun m p => SMap.set {} m p.1 p.2.perf) [] }) := by
  simp only [exec, execCentralSweep, hr, engRuns_advance, on, bne_iff_ne.mpr central, strobe, Bool.and_self, if_true]

end

/-! ### Counters, the reader and SPN_NO_IDLE -/

theorem exec_spnCounterOverflow_of_due {n : Nat} (hn : n < 6) (wrapped : bit (spnOf s e i).perf.due n = true) :
    exec (.spnCounterOverflow e i n dt) s = .next (emit 0x8402 (engT e) [w32 i, w32 n]
      (modPerf e i (fun y => { y with due := y.due ^^^ 2 ^ n }) (advance dt s))) := by
  simp only [exec, execSpnCounterOverflow, hr, hn, spnOf_advance, wrapped, decide_true, Bool.and_self, if_true]

theorem exec_readerRecoveryExpiry_of_running :
    exec (.readerRecoveryExpiry e dt) s = .next ((advance dt s).modEngine e fun y => { y with
      startup := (match (s.engine e).startup with | some t => if due t (advance dt s).hk then none else some t | none => none),
      recovery := if due (s.engine e).recovery (advance dt s).hk then none else (s.engine e).recovery }) := by
  rw [← advance_engine dt s e]
  exact congrArg Host.Outcome.next (if_pos hr)

theorem exec_spnNoIdleClearTimer_of_due (time : due (s.engine e).noIdleClear (advance dt s).hk = true)
    (idle : hasIdle (s.engine e) = true) :
    exec (.spnNoIdleClearTimer e dt) s =
      .next (clearAlarm 0x8410 (engT e) 0 [] ((advance dt s).modEngine e fun x => { x with noIdleClear := none })) := by
  simp only [exec, execSpnNoIdleClearTimer, hr, advance_engine, time, idle, Bool.and_self, if_true]

/-! ### Customer kernels -/

section
variable (hi : i < 8)
include hi

section
variable (runs : (kernelOf s e i).st = .running)
include runs

theorem exec_kernelFault_of_running {cause : Nat} (hc : cause = 1 ∨ cause = 2 ∨ cause = 4) :
    exec (.kernelFault e i cause dt) s = .next (faultKernel e i cause (advance dt s)) := by
  have known : (cause == 1 || cause == 2 || cause == 4) = true := by simpa [or_assoc] using hc
  simp only [exec, execKernelFault, hr, hi, kernelOf_advance, runs, known, decide_true, beq_self_eq_true, Bool.and_self,
    if_true]

theorem exec_kernelWatchdogExpiry_of_late
    (late : (kernelOf s e i).since + msT (kernelOf s e i).watchdogMs ≤ (advance dt s).hk) :
    exec (.kernelWatchdogExpiry e i dt) s = .next (faultKernel e i 3 (advance dt s)) := by
  simp only [exec, execKernelWatchdogExpiry, hr, hi, kernelOf_advance, runs, late, decide_true, beq_self_eq_true,
    Bool.and_self, if_true]

/-- A note within 10 ms of the last one sent is merged into the next (R170). -/
theorem exec_kernelNote_of_running (note : Word) :
    exec (.kernelNote e i note dt) s = .next (
      if (advance dt s).hk < (kernelOf s e i).noteUntil then
        modKernel e i (fun k => { k with noteMerged := k.noteMerged + 1 }) (advance dt s)
      else emit 0x8404 (engT e) [w32 i, note, w32 (kernelOf s e i).noteMerged]
        (modKernel e i (fun k => { k with noteMerged := 0, noteUntil := (advance dt s).hk + msT 10 }) (advance dt s))) := by
  simp only [exec, execKernelNote, hr, hi, kernelOf_advance, runs, decide_true, beq_self_eq_true, Bool.and_self, if_true]

end

/-! #### The end of a kernel's check (R168) -/

/-- The check of a kernel has ended. -/
def kernelChecked (e : Eng) (i : Nat) (s : State) : State := modKernel e i (fun k => { k with checking := false }) s

/-- A kernel that passed its check runs from now on, waits paused, or is stopped on an engine without power. -/
def kernelPassed (e : Eng) (i : Nat) (s : State) : State :=
  clearAlarm 0x8411 (engT e) i [w32 i] (
    if (s.engine e).st = .cold then setKernelSt e i .stopped 5 s
    else setKernelSt e i (if engRuns s e then .running else .paused) 0 s)

section
variable (checks : (kernelOf s e i).checking = true)
include checks

theorem exec_spnKernelStartDone_of_passed (pass : kernelCheck s (kernelOf s e i) = some 0) :
    exec (.spnKernelStartDone e i dt) s = .next (pump (completeUnit 0x0408 (engT e) stOk 0 [0] (kernelPassed e i
      (modKernel e i (fun k => { k with since := (advance dt s).hk }) (kernelChecked e i (advance dt s)))))) := by
  simp only [exec, execSpnKernelStartDone, hr, hi, kernelOf_advance, checks, kernelCheck_modKernel, kernelCheck_advance,
    pass, modKernel_hk, decide_true, Bool.and_self, if_true]
  rfl

theorem exec_spnKernelStartDone_of_failed {m : Nat} (fail : kernelCheck s (kernelOf s e i) = some (m + 1)) :
    exec (.spnKernelStartDone e i dt) s =
      .next (pump (completeUnit 0x0408 (engT e) stOk 0 [w32 (m + 1)] (kernelChecked e i (advance dt s)))) := by
  simp only [exec, execSpnKernelStartDone, hr, hi, kernelOf_advance, checks, kernelCheck_modKernel, kernelCheck_advance,
    fail, decide_true, Bool.and_self, if_true, kernelChecked]

theorem exec_spnKernelStartDone_of_sealed (barred : kernelCheck s (kernelOf s e i) = none) :
    exec (.spnKernelStartDone e i dt) s =
      .next (pump (completeUnit 0x0408 (engT e) stSealed 0 [] (kernelChecked e i (advance dt s)))) := by
  simp only [exec, execSpnKernelStartDone, hr, hi, kernelOf_advance, checks, kernelCheck_modKernel, kernelCheck_advance,
    barred, decide_true, Bool.and_self, if_true, kernelChecked]

end
end
end

/-- Settles O34: each event meets its condition on the running device, and its spindle, reader or kernel does what follows. -/
theorem spindleEventsRun : Obligations.SpindleEventsRun := by
  unfold Obligations.SpindleEventsRun
  intro e i cause n dt note ok pass act mail reads s hr a x p k
  have role (low : 1 ≤ p.role) (high : p.role ≤ 4) : within p.role 1 4 = true := by simp [within, low, high]
  refine ⟨fun on => ⟨exec_spindleFault_of_runs hr on,
      fun hi low high => exec_roleWatchdogExpiry_of_role hr on hi (role low high),
      exec_spindleSelfTestRotation_of_due hr on, fun j l => exec_roleMoveDone_of_move hr on,
      fun l list still unpaused low high => exec_microcodeRefresh_of_outdated hr on list still unpaused (role low high),
      exec_roleCheckpoint_of_runs hr on, exec_centralSweep_of_due hr on⟩,
    exec_spnCounterOverflow_of_due hr, exec_readerRecoveryExpiry_of_running hr, exec_spnNoIdleClearTimer_of_due hr,
    fun hi runs => ⟨exec_kernelFault_of_running hr hi runs, exec_kernelWatchdogExpiry_of_late hr hi runs,
      fun free => ?_, fun merges => ?_⟩,
    fun hi checks => ⟨fun pass => ?_, fun m => exec_spnKernelStartDone_of_failed hr hi checks,
      exec_spnKernelStartDone_of_sealed hr hi checks⟩⟩
  · rw [exec_kernelNote_of_running hr hi runs, if_neg (Nat.not_lt.mpr free)]
  · rw [exec_kernelNote_of_running hr hi runs, if_pos merges]
  · rw [exec_spnKernelStartDone_of_passed hr hi checks pass, kernelPassed]
    simp only [kernelChecked, modKernel_engine_st, advance_engine, engRuns_modKernel, engRuns_advance]
    rfl

end Sys2Proof.Machine
end

section
/-!
PROOFS. The coding, line frame and performance monitoring commands (R208, R209, R222, R229, R232, R235, Tables 7.9 and 8.12).
-/
namespace Sys2Proof.Machine
open Sys2Proof

@[simp] theorem runningPoint_ready (c : Cmd) (s : State) (p : Lp) : runningPoint (ready c s) p = runningPoint s p := by
  simp only [runningPoint, ready_port]

@[simp] theorem ctr_ready (c : Cmd) (s : State) (k : Nat) : ctr (ready c s) k = ctr s k := by
  simp only [ctr, ready_counters]

section
variable {s : State} {t : Nat} {c : Cmd}

/-- The words of FEC_STATUS after W_MAX. -/
def fecStatusTail (s : State) (p : Lp) : List Word :=
  let k := (s.port p).cod
  let g := runningPoint s p
  [iMax g, iterCap g k.cfg, delayNow s.hk g k, inFlight s.hk g k,
    onBit g.economy 0 + onBit (hdrOk k) 1 + onBit (decoderRuns s p) 2].map w32

theorem fecStatusOp_run_of_zr (zr : (runningPoint s (lpOfT t)).zr800 = true) :
    fecStatusOp.run s t c = okRes (freeWs 3 s).2
      ([w32 (2 + (runningPoint s (lpOfT t)).rate * 4)] ++ (freeWs 3 s).1 ++ fecStatusTail s (lpOfT t)) := by
  simp only [fecStatusOp, zr, if_true]
  rfl

theorem fecStatusOp_run_of_native (native : (runningPoint s (lpOfT t)).zr800 = false) :
    let g := runningPoint s (lpOfT t)
    fecStatusOp.run s t c = okRes s ([(if is64 g.rate then 1 else 0) + g.rate * 4, blockB g.rate, blockK g.rate,
      wMax g.rate].map w32 ++ fecStatusTail s (lpOfT t)) := by
  simp only [fecStatusOp, native, Bool.false_eq_true, if_false]
  rfl

theorem fecHdrReadOp_run_of_none (native : (runningPoint s (lpOfT t)).zr800 = false) (h : (s.port (lpOfT t)).cod.hdr = none) :
    fecHdrReadOp.run s t c = refuse s stBadState 0x0101 := by
  simp only [fecHdrReadOp, native, h, Bool.false_eq_true, if_false]

theorem fecHdrReadOp_run_of_some {hdr : List Byte} {w : Word} {a b : Bool} {n : Nat}
    (native : (runningPoint s (lpOfT t)).zr800 = false) (h : (s.port (lpOfT t)).cod.hdr = some (hdr, w, a, b, n)) :
    fecHdrReadOp.run s t c = okRes s (((List.range 8).map fun i => w32 (beNat ((hdr.drop (4 * i)).take 4))) ++
      [w, w32 (onBit a 0 + onBit b 1), w32 n]) := by
  simp only [fecHdrReadOp, native, h, Bool.false_eq_true, if_false]

theorem pmHistoryReadOp_run_of_empty (h : (s.port (lpOfT t)).frame.records = []) :
    pmHistoryReadOp.run s t c = okRes (freeWs 2 s).2 (freeWs 2 s).1 := by
  simp only [pmHistoryReadOp, h, List.head?_nil]

/-- PM_HISTORY_READ marks the records that it read (R229). -/
theorem pmHistoryReadOp_run_of_ends {o n : PmRecord} (first : (s.port (lpOfT t)).frame.records.head? = some o)
    (last : (s.port (lpOfT t)).frame.records.getLast? = some n) :
    let got := ((s.port (lpOfT t)).frame.records.filter fun r => decide (c.w 3 ≤ r.seq)).take (c.w 4)
    pmHistoryReadOp.run s t c = okRes (s.modFrame (lpOfT t) fun f => { f with records := f.records.map fun r =>
      if (got.any fun g => g.seq == r.seq) then { r with readOut := true } else r })
      ([w32 o.seq, w32 n.seq] ++ (got.map recordWords).flatten) := by
  simp only [pmHistoryReadOp, first, last]

/-- The bin that PM_BIN_READ names: the present one, or a completed one. -/
def binRead (f : Frame) (c : Cmd) : Option PmBin :=
  let l := if c.w 3 < 2 then f.bins15 else f.bins24
  if c.w 3 % 2 = 0 then l.head? else (l.drop 1)[c.w 4]?

theorem pmBinReadOp_run_of_none (h : binRead (s.port (lpOfT t)).frame c = none) :
    pmBinReadOp.run s t c = refuse s stBadState 0x0100 := by
  rw [binRead] at h
  simp only [pmBinReadOp, h]

theorem pmBinReadOp_run_of_some {b : PmBin} (h : binRead (s.port (lpOfT t)).frame c = some b) :
    pmBinReadOp.run s t c = okRes s (binWords b) := by
  rw [binRead] at h
  simp only [pmBinReadOp, h]

end

/-- Settles O36: each command is served on its line port, and its unit's state says whether it answers or is refused. -/
theorem lineCommandsRun : Obligations.LineCommandsRun := by
  unfold Obligations.LineCommandsRun
  intro c s
  simp -zeta only [← ready_port c s, ← runningPoint_ready c s, ← ctr_ready c s]
  intro r p k f g ok bad
  refine ⟨fun h => exec_of_runs (op := fecConfigOp) h rfl, fun h => ?_, fun h => ?_,
    fun h => ⟨fun zr => ?_, fun native unheard => ?_, fun hdr w a b n native heard => ?_⟩,
    fun h => exec_of_runs (op := fecCountersOp) h rfl, fun h => exec_of_runs (op := lfConfigOp) h rfl,
    fun h => exec_of_runs (op := lfTraceSetOp) h rfl, fun h => exec_of_runs (op := lfTraceGetOp) h rfl,
    fun h => exec_of_runs (op := lfStatusOp) h rfl, fun h => ⟨fun blank => ?_, fun o n first last => ?_⟩,
    fun h => ⟨fun absent => ?_, fun b held => ?_⟩, fun h => exec_of_runs (op := pmConfigOp) h rfl,
    fun h => exec_of_runs (op := pmClearOp) h rfl, fun h => exec_of_runs (op := lfCountersOp) h rfl⟩
  · intro last f3
    split
    · next zr => exact exec_of_runs (op := fecStatusOp) h (fecStatusOp_run_of_zr zr)
    · next native => exact exec_of_runs (op := fecStatusOp) h (fecStatusOp_run_of_native (eq_false_of_ne_true native))
  · intro ws
    split
    · next zr => exact exec_of_badState (op := fecHistogramOp) h (if_pos zr)
    · next native => exact exec_of_runs (op := fecHistogramOp) h (if_neg native)
  · exact exec_of_badState (op := fecHdrReadOp) h (if_pos zr)
  · exact exec_of_badState (op := fecHdrReadOp) h (fecHdrReadOp_run_of_none native unheard)
  · exact exec_of_runs (op := fecHdrReadOp) h (fecHdrReadOp_run_of_some native heard)
  · exact exec_of_runs (op := pmHistoryReadOp) h (pmHistoryReadOp_run_of_empty blank)
  · exact exec_of_runs (op := pmHistoryReadOp) h (pmHistoryReadOp_run_of_ends first last)
  · exact exec_of_badState (op := pmBinReadOp) h (pmBinReadOp_run_of_none absent)
  · exact exec_of_runs (op := pmBinReadOp) h (pmBinReadOp_run_of_some held)

end Sys2Proof.Machine
end

section
/-!
PROOFS. Codewords, robust headers, frames, defect times and records of a line port (R200 to R204, R207, R218 to R220, R224,
R230 to R233, Tables 7.11 and 8.4).
-/
namespace Sys2Proof.Machine
open Sys2Proof

/-! ### What a change of a port's conditions leaves of its coding (R224 to R226) -/

/-- From `s` to `t` the coding of port `p` stayed as it was. -/
def CodKept (p : Lp) (s t : State) : Prop := (t.port p).cod = (s.port p).cod

theorem CodKept.refl (p : Lp) (s : State) : CodKept p s s := rfl

theorem CodKept.trans {p : Lp} {s t u : State} (h : CodKept p s t) (k : CodKept p t u) : CodKept p s u := Eq.trans k h

theorem CodKept.ite {c : Prop} [Decidable c] {p : Lp} {s t u : State} (h : CodKept p s t) (k : CodKept p s u) :
    CodKept p s (if c then t else u) := by split <;> assumption

theorem codKept_of_lp {s t : State} (h : t.lp = s.lp) (p : Lp) : CodKept p s t := congrArg LinePort.cod (State.port_congr h p)

theorem Sends.codKept {s t : State} (h : Sends s t) (p : Lp) : CodKept p s t := codKept_of_lp h.lp p

theorem Alarms.codKept {s t : State} (h : Alarms s t) (p : Lp) : CodKept p s t := codKept_of_lp h.lp p

theorem codKept_modFrame (p : Lp) (f : Frame → Frame) (s : State) : CodKept p s (s.modFrame p f) := by
  simp [CodKept]

theorem codKept_modTap (p : Lp) (f : Tap → Tap) (s : State) : CodKept p s (s.modTap p f) := by
  simp [CodKept]

theorem codKept_modAps (p : Lp) (f : Aps → Aps) (s : State) : CodKept p s (s.modAps p f) :=
  codKept_of_lp (State.modProtPort_lp s p _) p

theorem codKept_lineClock (p : Lp) (s : State) : CodKept p s (lineClock p s) :=
  (CodKept.refl p s).ite (codKept_of_lp (congrArg State.lp (clocks_candLost (6 + lpNum p) s)) p)

theorem codKept_defectAlarms (p : Lp) (new : Nat) (s : State) : CodKept p s (defectAlarms p new s) :=
  foldl_related (CodKept.refl p) CodKept.trans (fun _ _ => (alarms_alarmIf _ _ _ _ _ _).codKept p) _ s

theorem codKept_noteDac (p : Lp) (s : State) : CodKept p s (noteDac p s) := (codKept_modTap p _ s).ite (.refl p s)

theorem codKept_setTap (p : Lp) (st : TapSt) (cause : Nat) (s : State) : CodKept p s (setTap p st cause s) := by
  unfold setTap
  have numbered : CodKept p s (if st = .armed then { s with freeCtr := s.freeCtr + 1 } else s) :=
    CodKept.ite (codKept_of_lp rfl p) (.refl p s)
  exact (CodKept.refl p s).ite
    (((numbered.trans (codKept_modTap p _ _)).trans ((sends_emit _ _ _ _).codKept p)).trans (codKept_noteDac p _))

theorem codKept_tapEvent (p : Lp) (i : Nat) (s : State) : CodKept p s (tapEvent p i s) :=
  CodKept.ite ((codKept_setTap p _ _ s).ite (.refl p s)) (.refl p s)

theorem codKept_releasePortLocks (q : Port) (p : Lp) (s : State) : CodKept p s (releasePortLocks q s) :=
  codKept_of_lp (congrArg (fun k => k.2.2.1) (goesDark_releasePortLocks q s).kept) p

theorem codKept_disagreeTimer (p : Lp) (s : State) : CodKept p s (disagreeTimer p s) :=
  codKept_of_lp (State.modProtPort_lp s p _) p

theorem sends_sendAps (s : State) : Sends s (sendAps s) := (sends_sendBurst _ _ _ _ s).ite (.refl s)

theorem codKept_restoreState (p : Lp) (s : State) : CodKept p s (restoreState p s) :=
  (codKept_modAps p _ s).ite
    (CodKept.ite ((codKept_modAps p _ s).ite ((CodKept.refl p s).ite (codKept_modAps p _ s))) (.refl p s))

theorem codKept_apsDecide (p : Lp) (s : State) : CodKept p s (apsDecide p s) := by
  unfold apsDecide
  exact (CodKept.refl p s).ite
    (((((codKept_restoreState p s).trans (codKept_modAps p _ _)).trans ((alarms_alarmIf _ _ _ _ _ _).codKept p)).trans
      (CodKept.ite ((sends_lpCount _ p _ _).codKept p) (.refl p _))).trans
      ((((sends_emit _ _ _ _).trans (sends_sendAps _)).codKept p).ite (.refl p _)))

theorem codKept_apsInput (p : Lp) (sf sd : Bool) (s : State) : CodKept p s (apsInput p sf sd s) :=
  (CodKept.refl p s).ite
    (((codKept_modAps p _ s).trans (codKept_apsDecide p _)).ite (codKept_modAps p _ s))

theorem codKept_refreshPort (p : Lp) (s : State) : CodKept p s (refreshPort p s) := by
  unfold refreshPort
  extract_lets u old new u1 u2 u3 u4 u5 sf sd
  have k1 : CodKept p s u1 := (codKept_lineClock p s).trans (codKept_modFrame p _ _)
  have k2 : CodKept p s u2 := k1.trans (codKept_defectAlarms p _ _)
  have k3 : CodKept p s u3 := k2.trans (CodKept.ite
    (((codKept_modFrame p _ _).trans ((sends_lpCount _ p _ _).codKept p)).trans (codKept_tapEvent p _ _)) (.refl p _))
  have k4 : CodKept p s u4 := k3.trans ((codKept_tapEvent p _ _).ite (.refl p _))
  have k5 : CodKept p s u5 := k4.trans ((codKept_releasePortLocks _ p _).ite (.refl p _))
  exact k5.trans ((((codKept_noteDac p _).trans (codKept_modFrame p _ _)).trans (codKept_disagreeTimer p _)).trans
    (codKept_apsInput p _ _ _))

/-! ### A codeword is counted and passed on (R200 to R204) -/

/-- An uncorrectable codeword moves the list and the time of FEC_EXCESS, and nothing else of its port's coding. -/
theorem excessStep_cod (p : Lp) (s : State) :
    ∃ l e, ((excessStep p s).port p).cod = { (s.port p).cod with excess := l, excessClear := some e } := by
  unfold excessStep
  extract_lets c l l' u
  refine ⟨l', s.hk + msT 1, ?_⟩
  have noted : (u.port p).cod = { (s.port p).cod with excess := l', excessClear := some (s.hk + msT 1) } := by simp [u]
  have kept : CodKept p u (if c.cfg.sfUncorr ≤ l'.length then refreshPort p (raiseAlarm 0x8511 (lpT p) 0 [] u) else u) :=
    CodKept.ite (((alarms_raiseAlarm _ _ _ _ u).codKept p).trans (codKept_refreshPort p _)) (.refl p u)
  exact Eq.trans kept noted

/-- What a released codeword counts, converged or not: itself, its passes, and those that ECONOMY skipped (Table 7.10). -/
def countPasses (p : Lp) (cap : Nat) (early : Bool) (passes : Nat) (s : State) : State :=
  lpCount (lpCount (lpCount s p 0x0501 1) p 0x0506 (if early then passes else cap)) p 0x0507 (if early then cap - passes else 0)

theorem sends_countPasses (p : Lp) (cap : Nat) (early : Bool) (passes : Nat) (s : State) :
    Sends s (countPasses p cap early passes s) :=
  ((sends_lpCount s p _ _).trans (sends_lpCount _ p _ _)).trans (sends_lpCount _ p _ _)

section
variable {p : Lp} {g : ModePoint} {r : CwResult} (native : g.zr800 = false) (cap : Nat) (economy : Bool) (s : State)
include native

/-- A converged codeword counts, and adds its bits to the interval. -/
theorem countCodeword_of_converged (h : r.conv = true) : ∃ u, Sends s u ∧
    countCodeword p g cap economy r s = u.modCod p fun c => { c with
      iConv := c.iConv + 1, iPasses := c.iPasses + r.passes, iCorr := c.iCorr + r.ones + r.zeros,
      iCoded := c.iCoded + r.bits } := by
  let u := countPasses p cap (economy && true) r.passes s
  refine ⟨ctrAdd (lpCount (lpCount (lpCount u p 0x0503 r.ones) p 0x0504 r.zeros) p 0x0505 r.bits)
    (histKey p (min 15 ((r.passes - 1) / histW g))) 1, ?_, ?_⟩
  · exact (sends_countPasses p _ _ _ s).trans ((((sends_lpCount _ p _ _).trans (sends_lpCount _ p _ _)).trans
      (sends_lpCount _ p _ _)).trans (sends_ctrAdd _ _ _))
  · simp only [countCodeword, h, native, if_true, Bool.false_eq_true, if_false]
    rfl

/-- An uncorrectable codeword counts as such alone. -/
theorem countCodeword_cod_of_uncorrectable (h : r.conv = false) : ∃ l e,
    ((countCodeword p g cap economy r s).port p).cod =
      { (s.port p).cod with iUncorr := (s.port p).cod.iUncorr + 1, excess := l, excessClear := e } := by
  let u := ctrAdd (lpCount (countPasses p cap (economy && false) r.passes s) p 0x0502 1) (histKey p 16) 1
  have sent : Sends s u := ((sends_countPasses p _ _ _ s).trans (sends_lpCount _ p _ _)).trans (sends_ctrAdd _ _ _)
  have counted : countCodeword p g cap economy r s =
      excessStep p (u.modCod p fun c => { c with iUncorr := c.iUncorr + 1 }) := by
    simp only [countCodeword, h, native, Bool.false_eq_true, if_false]
    rfl
  obtain ⟨l, e, cod⟩ := excessStep_cod p (u.modCod p fun c => { c with iUncorr := c.iUncorr + 1 })
  refine ⟨l, some e, ?_⟩
  rw [counted, cod]
  simp [State.port_congr sent.lp]

end

/-- A codeword passed on is the next of its frame, or the first of the next frame (R202). -/
def passedOn (conv : Bool) (x : BitVec 9216) (c : Coding) : Coding :=
  let full := decide (c.cw = 64)
  let at_ := if full then 0 else c.cw
  let marks := if full then [] else c.flagged
  { c with cw := at_ + 1, bytes := (if full then [] else c.bytes) ++ infoBytes x,
           flagged := if conv then marks else marks ++ [at_], fresh := false, last := if conv then some x else none }

theorem passOn_eq (p : Lp) (conv : Bool) (x : BitVec 9216) (s : State) :
    passOn p conv x s = s.modCod p (passedOn conv x) := by
  refine congrArg (s.modCod p) (funext fun c => ?_)
  by_cases full : c.cw = 64 <;> simp [passedOn, full]

/-- A codeword of the NATIVE stream in force, as it is counted: uncorrectable where the decoder's memory spoiled it. -/
def releasedCodeword (p : Lp) (y : CodewordRx) (s : State) : CwResult :=
  let c := (s.port p).cod
  let r := nativeResult (runningPoint s p).rate (capOf s.hk (runningPoint s p) c).1 c y
  { r with conv := r.conv && !c.spoil }

theorem releasedCodeword_bits (p : Lp) (y : CodewordRx) (s : State) : (releasedCodeword p y s).bits = 9216 := rfl

section
variable {p : Lp} {y : CodewordRx} {s : State} (still : (s.port p).cod.drain = none)
  (native : (runningPoint s p).zr800 = false) (zc : Bool) (z1 z0 : Nat)
include still native

theorem codewordRelease_of_native :
    let cap := capOf s.hk (runningPoint s p) (s.port p).cod
    let r := releasedCodeword p y s
    codewordRelease p y zc z1 z0 s = (countCodeword p (runningPoint s p) cap.1 cap.2 r
      (s.modCod p fun c => { c with spoil := false })).modCod p (passedOn r.conv y.out) := by
  simp only [codewordRelease, still, Option.getD_none, native, Bool.false_eq_true, if_false, Option.isSome_none, ← passOn_eq]
  rfl

/-- A codeword that converged changes the coding of its port and counters, and nothing else. -/
theorem codewordRelease_of_converged (conv : (releasedCodeword p y s).conv = true) :
    let r := releasedCodeword p y s
    let t := codewordRelease p y zc z1 z0 s
    (t.port p).cod = passedOn true y.out { (s.port p).cod with
      spoil := false, iConv := (s.port p).cod.iConv + 1, iPasses := (s.port p).cod.iPasses + r.passes,
      iCorr := (s.port p).cod.iCorr + r.ones + r.zeros, iCoded := (s.port p).cod.iCoded + 9216 } ∧
    t.alarms = s.alarms ∧ t.port p.other = s.port p.other ∧ (t.port p).frame = (s.port p).frame ∧ t.eng = s.eng ∧
    t.tm = s.tm := by
  intro r t
  let cap := capOf s.hk (runningPoint s p) (s.port p).cod
  obtain ⟨u, sent, counted⟩ :=
    countCodeword_of_converged native cap.1 cap.2 (s.modCod p fun c => { c with spoil := false }) conv
  have released : t = _ := codewordRelease_of_native still native zc z1 z0
  rw [counted, conv] at released
  have port := State.port_congr sent.lp
  simp [released, r, releasedCodeword_bits, port, sent.alarms, sent.eng, sent.tm, Lp.other_ne]

/-- An uncorrectable codeword leaves the converged ones' numbers as they are. -/
theorem codewordRelease_cod_of_uncorrectable (bad : (releasedCodeword p y s).conv = false) :
    ∃ l e, ((codewordRelease p y zc z1 z0 s).port p).cod = passedOn false y.out { (s.port p).cod with
      spoil := false, iUncorr := (s.port p).cod.iUncorr + 1, excess := l, excessClear := e } := by
  let cap := capOf s.hk (runningPoint s p) (s.port p).cod
  obtain ⟨l, e, cod⟩ :=
    countCodeword_cod_of_uncorrectable native cap.1 cap.2 (s.modCod p fun c => { c with spoil := false }) bad
  refine ⟨l, e, ?_⟩
  rw [codewordRelease_of_native still native, bad, State.port_modCod, if_pos rfl, cod]
  simp

end

@[simp] theorem runningPoint_advance (dt : Nat) (s : State) (p : Lp) : runningPoint (advance dt s) p = runningPoint s p := by
  simp only [runningPoint, advance_port]

theorem servingEng_advance (dt : Nat) (s : State) (p : Lp) : servingEng (advance dt s) p = servingEng s p := by
  simp only [servingEng, advance_engine]

section
variable {p : Lp} {dt : Nat} {s : State} (hr : running (advance dt s) = true)
include hr

theorem exec_codewordRelease_of_releases (h : releases (advance dt s) p = true) (y : CodewordRx) (zc : Bool) (z1 z0 : Nat) :
    exec (.codewordRelease p y zc z1 z0 dt) s = .next (codewordRelease p y zc z1 z0 (advance dt s)) := by
  simp only [exec, execCodewordRelease, hr, h, Bool.and_self, if_true]

theorem exec_fecExcessClearTimer_of_due (h : due (s.port p).cod.excessClear (advance dt s).hk = true) :
    exec (.fecExcessClearTimer p dt) s = .next (refreshPort p (clearAlarm 0x8511 (lpT p) 0 []
      ((advance dt s).modCod p fun c => { c with excessClear := none, excess := [] }))) := by
  simp only [exec, execFecExcessClearTimer, advance_port, hr, h, Bool.and_self, if_true]

theorem exec_lofTimerExpiry_of_due (h : due (s.port p).frame.lofTimer (advance dt s).hk = true) :
    exec (.lofTimerExpiry p dt) s =
      .next (pump (refreshPort p ((advance dt s).modFrame p fun f => { f with lof := !f.lof, lofTimer := none }))) := by
  simp only [exec, execLofTimerExpiry, advance_port, hr, h, Bool.and_self, if_true]

theorem exec_inhibitTimeExpiry_of_due (h : due (s.port p).frame.inhibit (advance dt s).hk = true) :
    exec (.inhibitTimeExpiry p dt) s =
      .next (pump (refreshPort p ((advance dt s).modFrame p fun f => { f with inhibit := none }))) := by
  simp only [exec, execInhibitTimeExpiry, advance_port, hr, h, Bool.and_self, if_true]

theorem exec_pmRecordEvaluate_of_next {r : PmRecord} {l : List PmRecord} (unpaused : s.fw.pause = none)
    (oldest : nextRecord (s.port p).frame.records = some (r, l)) :
    exec (.pmRecordEvaluate p dt) s = .next (pump (evaluateRecord p r l (advance dt s))) := by
  simp only [exec, execPmRecordEvaluate, advance_fw, advance_port, hr, unpaused, oldest, Option.isNone_none, Bool.and_self,
    if_true]

/-- A frame boundary of a stream that runs on an active engine, outside a takeover. -/
theorem exec_vlfFrameSend_of_active {e : Eng} (inn : inService (advance dt s) p = true)
    (streams : (s.port p).cod.tx.running = true) (serves : servingEng s p = some e) (active : (s.engine e).st = .active)
    (steady : (s.protPort p).tk = none) (blocks : List ClientBlock) :
    let b := (markWindow p (mapBoundary p (advance dt s))).modProt fun x => { x with streamBad := false }
    exec (.vlfFrameSend p blocks dt) s = .next (pump (refreshPort p (if (runningPoint b p).zr800 = true then
      lpCount (b.modFrame p fun f => { f with txNum := (f.txNum + 1) % 256, txReplace := replaces b p,
                                              txRdi := sendsRdi b p, txLabel := txLabelOf b p }) p 0x0609 1
      else vlfSend p blocks b))) := by
  simp only [exec, execVlfFrameSend, advance_protPort, servingEng_advance, advance_engine, advance_port, hr, inn, streams,
    serves, active, steady, beq_self_eq_true, Bool.not_false, Bool.true_or, Bool.and_self, if_true]

end

section
variable {p : Lp} {dt : Nat} {s : State} (h : receives (advance dt s) p = true)
include h

theorem exec_vlfFrameReceived_of_receives (x : RxFrame) :
    exec (.vlfFrameReceived p x dt) s = .next (pump (if (runningPoint s p).zr800 then zrReceived p x (advance dt s)
      else vlfReceived p x (advance dt s))) := by
  simp only [exec, execVlfFrameReceived, runningPoint_advance, h, if_true]

theorem exec_robustHeaderDecoded_of_receives (native : (runningPoint s p).zr800 = false) (hdr : List Byte) (w : Word)
    (anchor : Nat) : exec (.robustHeaderDecoded p hdr w anchor dt) s =
      .next (pump (robustHeader p hdr w anchor (advance dt s))) := by
  simp only [exec, execRobustHeaderDecoded, runningPoint_advance, h, native, Bool.not_false, Bool.and_self, if_true]

end

/-! ### Alignment (R220, Table 8.4) -/

section
variable {p : Lp} {h : List Byte} {w : Word} {anchor : Nat} {s : State}

theorem robustHeader_of_hunt (hunt : (s.port p).frame.align = .hunt) :
    let j := judgeHeader p h w anchor s
    robustHeader p h w anchor s = if j.1 = true then
      refreshPort p ((j.2.modCod p fun c => { c with
          grid := some (nextGrid (portRate j.2 p) { lag := locLag w, bitOffset := locOffset w, anchor := anchor % 2 ^ 32 }),
          fresh := true, restarts := [locRestart w], cw := 0, bytes := [], flagged := [], last := none }).modFrame p fun f =>
        { f with align := .confirm, robust := [some h], lastGood := some ((frameNum h + 255) % 256), badRun := 0 })
    else j.2 := by
  simp only [robustHeader, hunt]

/-- The grid moves on by one frame, and CHAIN_RESTART of the header is kept (R188, R203). -/
def headerKept (p : Lp) (h : List Byte) (w : Word) (s : State) : State :=
  keepRestart p (hcrcGood h && locGood w && locRestart w) (stepGrid p s)

theorem robustHeader_of_confirm (confirm : (s.port p).frame.align = .confirm) :
    let j := judgeHeader p h w anchor s
    robustHeader p h w anchor s = if j.1 = true ∧ nextNum (s.port p).frame = some (frameNum h) then
      reachInFrame p (frameNum h) ((headerKept p h w j.2).modFrame p fun f => { f with robust := f.robust ++ [some h] })
    else loseFrame p j.2 := by
  simp only [robustHeader, confirm, Bool.and_eq_true, beq_iff_eq]
  rfl

theorem robustHeader_of_inFrame (inFrame : (s.port p).frame.align = .inFrame) :
    let j := judgeHeader p h w anchor s
    robustHeader p h w anchor s = (headerKept p h w j.2).modFrame p fun f =>
      { f with robust := f.robust ++ [if j.1 then some h else none] } := by
  simp only [robustHeader, inFrame]
  rfl

end

/-- Settles O37: each event meets its condition on the running device; a codeword's result and the alignment's state say what
follows. -/
theorem lineEventsRun : Obligations.LineEventsRun := by
  unfold Obligations.LineEventsRun
  intro p anchor dt h w y zc z1 z0 x blocks s hr a c f g
  refine ⟨fun rel still native => ?_, fun rel => exec_codewordRelease_of_releases hr rel y zc z1 z0,
    exec_fecExcessClearTimer_of_due hr, fun hears native => ?_, fun hears => exec_vlfFrameReceived_of_receives hears x,
    fun e inn streams serves active steady => exec_vlfFrameSend_of_active hr inn streams serves active steady blocks,
    exec_lofTimerExpiry_of_due hr, exec_inhibitTimeExpiry_of_due hr,
    fun r l unpaused oldest => exec_pmRecordEvaluate_of_next hr unpaused oldest⟩
  · intro r full at_ marks
    have coding : (a.port p).cod = c := congrArg LinePort.cod (advance_port dt s p)
    have point : runningPoint a p = g := runningPoint_advance dt s p
    have result : releasedCodeword p y a = { r with conv := r.conv && !c.spoil } := by
      rw [releasedCodeword, coding, point]
    rw [← coding] at still
    rw [← point] at native
    refine ⟨_, exec_codewordRelease_of_releases hr rel y zc z1 z0, ?_⟩
    cases conv : r.conv && !c.spoil
    · obtain ⟨l, e, cod⟩ :=
        codewordRelease_cod_of_uncorrectable still native zc z1 z0 ((congrArg CwResult.conv result).trans conv)
      rw [coding] at cod
      rw [cod]
      refine ⟨rfl, rfl, fun good whole => ?_, fun _ => ⟨rfl, rfl, rfl, rfl, rfl, rfl⟩⟩
      simp [good, whole] at conv
    · obtain ⟨cod, alarms, other, frame, eng, tm⟩ :=
        codewordRelease_of_converged still native zc z1 z0 ((congrArg CwResult.conv result).trans conv)
      rw [coding, result] at cod
      dsimp only at cod
      rw [cod]
      refine ⟨rfl, rfl, fun _ _ => ⟨rfl, rfl, rfl, rfl, rfl, rfl, alarms.trans (advance_alarms dt s),
        other.trans (advance_port dt s _), frame.trans (congrArg LinePort.frame (advance_port dt s p)),
        eng.trans (advance_eng dt s), tm.trans (advance_tm dt s)⟩, fun bad => ?_⟩
      obtain bad | bad := bad <;> simp [bad] at conv
  · intro j restart kept u
    have align : (a.port p).frame = f := congrArg LinePort.frame (advance_port dt s p)
    have decoded : u = .next (pump (robustHeader p h w anchor a)) :=
      exec_robustHeaderDecoded_of_receives hears native h w anchor
    refine ⟨fun hunt good => ?_, fun hunt bad => ?_, fun confirm good follows => ?_, fun confirm other => ?_,
      fun inFrame => ?_⟩
    · rw [decoded, robustHeader_of_hunt (align ▸ hunt), if_pos good]
    · rw [decoded, robustHeader_of_hunt (align ▸ hunt), if_neg (ne_true_of_eq_false bad)]
    · rw [decoded, robustHeader_of_confirm (align ▸ confirm), if_pos ⟨good, align ▸ follows⟩]
      rfl
    · rw [decoded, robustHeader_of_confirm (align ▸ confirm), if_neg ?_]
      rintro ⟨good, follows⟩
      rw [align] at follows
      exact other.elim (fun bad => absurd good (ne_true_of_eq_false bad)) (· follows)
    · rw [decoded, robustHeader_of_inFrame (align ▸ inFrame)]
      rfl

end Sys2Proof.Machine
end

section
/-!
PROOFS. Sessions, handshakes, zeroisation and the random bit generator (R244, R246, R248, R250, R254, Tables 9.3 and 9.9).
-/
namespace Sys2Proof.Machine
open Sys2Proof

/-! ### The keys and sessions of a port change -/

theorem sends_slotEvents (p : Lp) (old : Crypto) (s : State) : Sends s (slotEvents p old s) :=
  Sends.foldl _ (fun s _ => (Sends.refl s).ite (sends_emit _ _ _ s)) _ s

theorem sends_setCrypto (p : Lp) (f : Crypto → Crypto) (s : State) : Sends (s.modCrypto p f) (setCrypto p f s) :=
  sends_slotEvents p _ _

@[simp] theorem setCrypto_port (p q : Lp) (f : Crypto → Crypto) (s : State) :
    (setCrypto p f s).port q = if q = p then { s.port p with crypto := f (s.port p).crypto } else s.port q := by
  rw [State.port_congr (sends_setCrypto p f s).lp, State.port_modCrypto]

@[simp] theorem setCrypto_alarms (p : Lp) (f : Crypto → Crypto) (s : State) : (setCrypto p f s).alarms = s.alarms := by
  simp [(sends_setCrypto p f s).alarms]

/-- What encryption keeps of the state while keys and sessions change: receive queues, engines, traffic manager, and whether a
tamper detector is asserted. -/
structure CryptoFrame where
  rxq : PerPort (List RxPkt)
  eng : PerEng Engine
  tm : Tm
  tampered : Bool

def cryptoFrame (s : State) : CryptoFrame := { rxq := s.host.rxq, eng := s.eng, tm := s.tm, tampered := tampered s }

section
variable {s t : State} (h : cryptoFrame t = cryptoFrame s)
include h

theorem rxq_of_cryptoFrame : t.host.rxq = s.host.rxq := congrArg CryptoFrame.rxq h
theorem eng_of_cryptoFrame : t.eng = s.eng := congrArg CryptoFrame.eng h
theorem tm_of_cryptoFrame : t.tm = s.tm := congrArg CryptoFrame.tm h
theorem tampered_of_cryptoFrame : tampered t = tampered s := congrArg CryptoFrame.tampered h

end

theorem Alarms.cryptoFrame_eq {s t : State} (h : Alarms s t) : cryptoFrame t = cryptoFrame s := by
  simp only [cryptoFrame, tampered, h.host_rxq, h.eng, h.tm, h.keys]

theorem Sends.cryptoFrame_eq {s t : State} (h : Sends s t) : cryptoFrame t = cryptoFrame s := h.alarms_of.cryptoFrame_eq

@[simp] theorem cryptoFrame_modCrypto (p : Lp) (f : Crypto → Crypto) (s : State) :
    cryptoFrame (s.modCrypto p f) = cryptoFrame s := by
  simp [cryptoFrame, tampered]

@[simp] theorem cryptoFrame_setCrypto (p : Lp) (f : Crypto → Crypto) (s : State) :
    cryptoFrame (setCrypto p f s) = cryptoFrame s :=
  (sends_setCrypto p f s).cryptoFrame_eq.trans (cryptoFrame_modCrypto p f s)

@[simp] theorem cryptoFrame_completeUnit (code t status detail : Nat) (ws : List Word) (s : State) :
    cryptoFrame (completeUnit code t status detail ws s) = cryptoFrame s := by
  simp [cryptoFrame, tampered]

@[simp] theorem cryptoFrame_sessionEvent (p : Lp) (rx : Bool) (x : Session) (cause : Nat) (s : State) :
    cryptoFrame (sessionEvent p rx x cause s) = cryptoFrame s :=
  (sends_emit _ _ _ s).cryptoFrame_eq

@[simp] theorem cryptoFrame_lpCount (p : Lp) (id n : Nat) (s : State) : cryptoFrame (lpCount s p id n) = cryptoFrame s :=
  (sends_lpCount s p id n).cryptoFrame_eq

@[simp] theorem cryptoFrame_raiseAlarm (code target sub : Nat) (data : List Word) (s : State) :
    cryptoFrame (raiseAlarm code target sub data s) = cryptoFrame s :=
  (alarms_raiseAlarm code target sub data s).cryptoFrame_eq

@[simp] theorem cryptoFrame_clearAlarm (code target sub : Nat) (data : List Word) (s : State) :
    cryptoFrame (clearAlarm code target sub data s) = cryptoFrame s :=
  (alarms_clearAlarm code target sub data s).cryptoFrame_eq

@[simp] theorem cryptoFrame_pump (s : State) : cryptoFrame (pump s) = cryptoFrame s := (sends_pump s).cryptoFrame_eq

@[simp] theorem sessionEvent_port (p q : Lp) (rx : Bool) (x : Session) (cause : Nat) (s : State) :
    (sessionEvent p rx x cause s).port q = s.port q := emit_port _ _ _ s q

@[simp] theorem lpCount_port (p q : Lp) (id n : Nat) (s : State) : (lpCount s p id n).port q = s.port q :=
  State.port_congr (sends_lpCount s p id n).lp q

/-! ### Zeroisation (R254) -/

/-- A port's encryption without sessions and handshakes. -/
def sessionless (k : Crypto) : Crypto :=
  { k with hs := none, tx := none, rx := none, rxPend := none, deriving_ := none }

/-- A port's encryption without keys, sessions, handshakes and delivered plaintext. -/
def zeroised (k : Crypto) : Crypto := { sessionless k with slots := [none, none, none, none], delivered := none }

section
variable (p : Lp) (s : State)

/-- The end of a port's handshake, with the completion of its KEY_ACTIVATE: the first step of `endSessions`. -/
def endHandshake (z : Bool) : State :=
  match (s.port p).crypto.hs with
  | some h =>
    let s := setCrypto p (fun k => { k with hs := none }) (lpCount s p 0x070A 1)
    if h.cause = 0 then
      if z then completeUnit 0x0704 (lpT p) stOk 0 [4, w32 h.session] s
      else completeUnit 0x0704 (lpT p) stBadState 0x0107 [] s
    else s
  | none => s

/-- The event of a session that a direction had, when it has ended. -/
def sessionEnded (rx : Bool) (o : Option Session) : State :=
  match o with
  | some x => sessionEvent p rx x 3 s
  | none => s

theorem sends_sessionEnded (rx : Bool) (o : Option Session) : Sends s (sessionEnded p s rx o) := by
  cases o with
  | none => exact .refl s
  | some x => exact sends_emit _ _ _ s

/-- The events of the sessions `k` had, when they have ended: the last step of `endSessions`. -/
def sessionsEnded (k : Crypto) : State := sessionEnded p (sessionEnded p s false k.tx) true k.rx

theorem sends_sessionsEnded (k : Crypto) : Sends s (sessionsEnded p s k) :=
  (sends_sessionEnded p s false k.tx).trans (sends_sessionEnded p _ true k.rx)

theorem endSessions_eq (z : Bool) : endSessions p z s = sessionsEnded p (setCrypto p (fun k =>
    { k with tx := none, rx := none, rxPend := none, deriving_ := none }) (endHandshake p s z)) (s.port p).crypto := rfl

theorem endHandshake_port (q : Lp) (z : Bool) : (endHandshake p s z).port q =
    if q = p then { s.port p with crypto := { (s.port p).crypto with hs := none } } else s.port q := by
  simp only [endHandshake]
  split
  · split
    · split <;> simp
    · simp
  · next idle =>
    split
    · next here => rw [here, ← idle]
    · rfl

theorem cryptoFrame_endHandshake (z : Bool) : cryptoFrame (endHandshake p s z) = cryptoFrame s := by
  simp only [endHandshake]
  split
  · split
    · split <;> simp
    · simp
  · rfl

theorem endSessions_port (q : Lp) (z : Bool) : (endSessions p z s).port q =
    if q = p then { s.port p with crypto := sessionless (s.port p).crypto } else s.port q := by
  rw [endSessions_eq, State.port_congr (sends_sessionsEnded ..).lp, setCrypto_port, endHandshake_port, endHandshake_port]
  split <;> simp [sessionless]

theorem cryptoFrame_endSessions (z : Bool) : cryptoFrame (endSessions p z s) = cryptoFrame s := by
  rw [endSessions_eq, (sends_sessionsEnded ..).cryptoFrame_eq, cryptoFrame_setCrypto, cryptoFrame_endHandshake]

theorem erasePort_port (q : Lp) : (erasePort p s).port q =
    if q = p then { s.port p with crypto := zeroised (s.port p).crypto } else s.port q := by
  simp only [erasePort, setCrypto_port, endSessions_port, State.port_modCrypto]
  split <;> simp [zeroised, sessionless]

theorem cryptoFrame_erasePort : cryptoFrame (erasePort p s) = cryptoFrame s := by
  simp only [erasePort, cryptoFrame_setCrypto, cryptoFrame_endSessions, cryptoFrame_modCrypto]

/-- Every port is erased, and nothing else of a port changes. -/
theorem zeroise_port : (zeroise s).port p = { s.port p with crypto := zeroised (s.port p).crypto } := by
  have erased : (erasePort .lp1 (erasePort .lp0 s)).port p = { s.port p with crypto := zeroised (s.port p).crypto } := by
    cases p <;> simp [erasePort_port]
  rw [← erased]
  simp only [zeroise]
  split
  · exact raiseAlarm_port ..
  · rfl

theorem cryptoFrame_zeroise : cryptoFrame (zeroise s) = cryptoFrame s := by
  have erased : cryptoFrame (erasePort .lp1 (erasePort .lp0 s)) = cryptoFrame s :=
    (cryptoFrame_erasePort .lp1 _).trans (cryptoFrame_erasePort .lp0 s)
  rw [← erased]
  simp only [zeroise]
  split
  · exact cryptoFrame_raiseAlarm ..
  · rfl

end

/-- A detector that is asserted is one of those that count. -/
theorem tampered_setTamper (source : Tamper) (s : State) :
    tampered { s with keys := setTamper source true s.keys } = true := by
  cases source <;> simp [tampered, setTamper]

/-! ### The switch to the offered session (R246) -/

section
variable (p : Lp) (h : Handshake) (x : Session) (s : State)

/-- A port's encryption once it sends under the session `x`. -/
def switchedTo (x : Session) (k : Crypto) : Crypto :=
  { k with tx := some x, txCounter := 0, txPhase := !k.txPhase, reserved := reserveStep, exhausted := false, hs := none }

theorem switchSession_port (q : Lp) : (switchSession p h x s).port q =
    if q = p then { s.port p with crypto := switchedTo x (s.port p).crypto } else s.port q := by
  simp only [switchSession]
  split <;> simp [switchedTo]

theorem cryptoFrame_switchSession : cryptoFrame (switchSession p h x s) = cryptoFrame s := by
  simp only [switchSession]
  split <;> simp

end

/-! ### The events that meet their condition on the running device -/

section
variable {p : Lp} {dt : Nat} {s : State} (hr : running (advance dt s) = true)
include hr

theorem exec_sessionDerived_of_underived {h : Handshake} (hs : (s.port p).crypto.hs = some h) (hd : h.derived = none) :
    exec (.sessionDerived p false dt) s = .next (setCrypto p (fun k =>
      { k with hs := some { h with derived := slotSession k h.slot h.session h.nonce } }) (advance dt s)) := by
  simp only [exec, execSessionDerived, advance_port, hr, hs, hd, Option.isNone_none, Bool.not_true, Bool.false_eq_true,
    if_false, if_true]

theorem exec_sessionDerived_of_farOffer {o : Offer} (ho : (s.port p).crypto.deriving_ = some o) :
    exec (.sessionDerived p true dt) s = .next (setCrypto p (fun k =>
      { k with deriving_ := none, rxPend := slotSession k o.slot o.session o.nonce }) (advance dt s)) := by
  simp only [exec, execSessionDerived, advance_port, hr, ho, Bool.not_true, Bool.false_eq_true, if_false, if_true]

theorem exec_handshakeSwitch_of_armed {h : Handshake} {x : Session} (hs : (s.port p).crypto.hs = some h)
    (hd : h.derived = some x) (ha : h.armed = true) (boundary : (s.port p).frame.txNum % 16 = 0) :
    exec (.handshakeSwitch p dt) s = .next (pump (switchSession p h x (advance dt s))) := by
  simp only [exec, execHandshakeSwitch, advance_port, hr, hs, hd, ha, boundary, beq_self_eq_true, Bool.and_self, if_true]

theorem exec_handshakeTimeout_of_late {h : Handshake} (hs : (s.port p).crypto.hs = some h)
    (late : h.deadline ≤ (advance dt s).hk) :
    exec (.handshakeTimeout p dt) s = .next (pump (failHandshake p 1 (advance dt s))) := by
  simp only [exec, execHandshakeTimeout, advance_port, hr, hs, late, decide_true, Bool.and_self, if_true]

theorem exec_counterRederive_of_idle {x : Session} (ht : (s.port p).crypto.tx = some x) (hs : (s.port p).crypto.hs = none)
    (high : rederiveAt ≤ (s.port p).crypto.txCounter.toNat) :
    exec (.counterRederive p dt) s = .next (startHandshake p x.slot 1 (advance dt s)) := by
  simp only [exec, execCounterRederive, advance_port, hr, ht, hs, high, decide_true, Option.isNone_none, Bool.and_self,
    if_true]

theorem exec_keyExhaust_of_unnoticed {x : Session} (ht : (s.port p).crypto.tx = some x)
    (fresh : (s.port p).crypto.exhausted = false) (high : exhaustAt ≤ (s.port p).crypto.txCounter.toNat) :
    exec (.keyExhaust p dt) s =
      .next (raiseAlarm 0x8711 (lpT p) 0 [] ((advance dt s).modCrypto p fun k => { k with exhausted := true })) := by
  simp only [exec, execKeyExhaust, advance_port, hr, ht, fresh, high, decide_true, Option.isSome_some, Bool.not_false,
    Bool.and_self, if_true]

theorem exec_cryptoCycleReceived_of_cycle {msg : List Byte} {own : U64} (hc : (s.port p).crypto.cycle = some (msg, own)) :
    exec (.cryptoCycleReceived p dt) s = .next (pump (takeAck p msg (takeOffer p msg (takeCounter p msg own
      ((advance dt s).modCrypto p fun k => { k with cycle := none }))))) := by
  simp only [exec, execCryptoCycleReceived, advance_port, hr, hc, if_true]

theorem exec_rngHealthFail_of_running : exec (.rngHealthFail dt) s =
    .next (raiseAlarm 0x8715 0 0 [] { advance dt s with
      keys := { (advance dt s).keys with rngGood := some ((advance dt s).hk + secT 1) } }) := by
  simp only [exec, execRngHealthFail, hr, if_true]

theorem exec_rngFailClearTimer_of_due (good : due s.keys.rngGood (advance dt s).hk = true) :
    exec (.rngFailClearTimer dt) s = .next (clearAlarm 0x8715 0 0 [] { advance dt s with
      keys := { (advance dt s).keys with rngGood := none } }) := by
  simp only [exec, execRngFailClearTimer, advance_keys, hr, good, Bool.and_self, if_true]

end

section
variable {source : Tamper} {dt : Nat} {s : State} (hp : s.pr.powered = true)
include hp

theorem exec_tamperDetected_of_powered : exec (.tamperDetected source dt) s =
    .next (pump (zeroise { advance dt s with keys := setTamper source true (advance dt s).keys })) := by
  simp only [exec, execTamperDetected, advance_pr, hp, if_true]

theorem exec_tamperDetectorClear_of_powered : exec (.tamperDetectorClear source dt) s =
    .next { advance dt s with keys := setTamper source false (advance dt s).keys } := by
  simp only [exec, execTamperDetectorClear, advance_pr, hp, if_true]

end

/-- Settles O40: each event meets its condition; the switch and the erase change the encryption of their ports and send. -/
theorem cryptoEventsRun : Obligations.CryptoEventsRun := by
  unfold Obligations.CryptoEventsRun
  intro p src dt s a k
  refine ⟨fun hr => ⟨fun h => exec_sessionDerived_of_underived hr, fun o => exec_sessionDerived_of_farOffer hr,
    fun h x hs hd ha boundary => ⟨_, exec_handshakeSwitch_of_armed hr hs hd ha boundary, ?_⟩,
    fun h => exec_handshakeTimeout_of_late hr, fun x => exec_counterRederive_of_idle hr,
    fun x => exec_keyExhaust_of_unnoticed hr, fun msg own => exec_cryptoCycleReceived_of_cycle hr,
    exec_rngHealthFail_of_running hr, exec_rngFailClearTimer_of_due hr⟩,
    fun hp => ⟨⟨_, exec_tamperDetected_of_powered hp, ?_, fun q => ?_⟩, exec_tamperDetectorClear_of_powered hp⟩⟩
  · have kept := (cryptoFrame_pump _).trans (cryptoFrame_switchSession p h x a)
    have eng := (eng_of_cryptoFrame kept).trans (advance_eng dt s)
    have tm := (tm_of_cryptoFrame kept).trans (advance_tm dt s)
    refine ⟨?_, ?_, ?_, ?_, ?_, ?_, ?_, eng, tm⟩ <;> simp [switchSession_port, switchedTo, Lp.other_ne, k]
  · have kept := (cryptoFrame_pump _).trans (cryptoFrame_zeroise { a with keys := setTamper src true a.keys })
    exact (tampered_of_cryptoFrame kept).trans (tampered_setTamper src a)
  · have port : (State.port { a with keys := setTamper src true a.keys } q) = s.port q := advance_port dt s q
    rw [pump_port, zeroise_port, port]
    simp [zeroised, sessionless]

end Sys2Proof.Machine
end

section
/-!
PROOFS. The encryption commands, and KEY_LOAD while a tamper detector is asserted (R242, R243, R246, R254, R255, R258, R259,
Table 9.6).
-/
namespace Sys2Proof.Machine
open Sys2Proof

/-! ### CRYPTO_LOCK and the state that a command runs on -/

/-- The port that holds a lock. -/
def holderPort (s : State) (l : Lock) : Option Port := (lockHolder s l).map Prod.fst

/-- The activity of a port for one lock, as `lockActivity` counts it. -/
def touchLock (p : Port) (s : State) (l : Lock) : State :=
  match lockHolder s l with
  | some (q, _) => if q = p then setLock s l (some (p, s.hk)) else s
  | none => s

/-- Activity of a port leaves each lock the holder that it had. -/
theorem holderPort_touchLock (p : Port) (s : State) (l l' : Lock) : holderPort (touchLock p s l) l' = holderPort s l' := by
  simp only [touchLock]
  split
  · next q u held =>
    split
    · next own =>
      by_cases same : l' = l
      · subst same
        simp [holderPort, lockHolder_setLock, held, own]
      · simp [holderPort, lockHolder_setLock, same]
    · rfl
  · rfl

theorem holderPort_lockActivity (p : Port) (s : State) (l : Lock) : holderPort (lockActivity p s) l = holderPort s l :=
  (holderPort_touchLock p (touchLock p s .crypto) .update l).trans (holderPort_touchLock p s .crypto l)

theorem holderPort_ready (c : Cmd) (s : State) (l : Lock) : holderPort (ready c s) l = holderPort s l := by
  have noted : holderPort (noteRead c.port (advance c.dt s)) l = holderPort s l := by
    rw [holderPort, holderPort, ← lockHolder_advance l c.dt s]
    cases l <;> rfl
  exact (holderPort_lockActivity _ _ l).trans noted

theorem holdsCrypto_iff_holderPort {s : State} {c : Cmd} : holdsCrypto s c = true ↔ holderPort s .crypto = some c.port := by
  simp only [holdsCrypto, holderPort]
  cases lockHolder s .crypto <;> simp

theorem holdsCrypto_iff {s : State} {c : Cmd} : holdsCrypto s c = true ↔ ∃ u, s.host.cryptoLock = some (c.port, u) := by
  simp [holdsCrypto_iff_holderPort, holderPort, lockHolder]

@[simp] theorem holdsCrypto_ready (c : Cmd) (s : State) : holdsCrypto (ready c s) c = holdsCrypto s c := by
  rw [Bool.eq_iff_iff, holdsCrypto_iff_holderPort, holdsCrypto_iff_holderPort, holderPort_ready]

@[simp] theorem tampered_ready (c : Cmd) (s : State) : tampered (ready c s) = tampered s := by
  simp only [tampered, ready_keys]

@[simp] theorem cipherOn_ready (c : Cmd) (s : State) (p : Lp) : cipherOn (ready c s) p = cipherOn s p := by
  simp only [cipherOn, inService, ready_port]

/-- One condition of a unit's checks: where it is met the unit refuses with BAD_STATE, else the rest decides. -/
theorem exec_of_guard {op : OpSpec} {f : Cmd → Instr} {c : Cmd} {s : State} {detail : Nat} {P : Prop} [Decidable P]
    {rest : Host.Outcome State Fault Refusal} (h : Runs op c s)
    (refused : P → op.run (ready c s) c.target c = refuse (ready c s) stBadState detail) (passed : ¬P → exec (f c) s = rest)
    (hf : ∀ c s, exec (f c) s = .next (serve op c s) := by exact fun _ _ => rfl) :
    exec (f c) s = if P then .next (pump (reply op.code c stBadState detail [] (ready c s))) else rest := by
  split
  · next met => exact exec_of_badState h (refused met) hf
  · next unmet => exact passed unmet

/-! ### KEY_LOAD (R242, R243, R255) -/

/-- The key of KEY_LOAD: words 5 to 12, each most significant byte first. -/
def loadedKey (c : Cmd) : List Byte := ((List.range 8).map fun i => beBytes 4 (c.w (5 + i))).flatten

/-- KEY_LOAD fills its slot, and KEY_ZEROISED clears. -/
def keyLoaded (p : Lp) (c : Cmd) (s : State) : State :=
  clearAlarm 0x8712 0 0 [] (setCrypto p (fun k => { k with
    slots := setAt k.slots (c.w 3) (some { key := loadedKey c, keyId := c.w 4, check := keyCheck (loadedKey c) }) }) s)

/-- Another slot of the port holds the KEY_ID of the command. -/
def keyIdTaken (k : Crypto) (c : Cmd) : Bool :=
  (List.range 4).any fun i => i != c.w 3 && slotState k i != 0 && slotId k i == c.w 4

section
variable {s : State} {t : Nat} {c : Cmd}

theorem keyLoadOp_run_of_unheld (free : holdsCrypto s c = false) :
    keyLoadOp.run s t c = refuse s stBadState 0x0100 := by
  simp only [keyLoadOp, free, Bool.not_false, if_true]

section
variable (held : holdsCrypto s c = true)
include held

theorem keyLoadOp_run_of_tampered (h : tampered s = true) : keyLoadOp.run s t c = refuse s stBadState 0x0102 := by
  simp only [keyLoadOp, held, h, Bool.not_true, Bool.false_eq_true, if_false, if_true]

variable (clear : tampered s = false)
include clear

theorem keyLoadOp_run_of_inUse (h : slotState (s.port (lpOfT t)).crypto (c.w 3) = 2) :
    keyLoadOp.run s t c = refuse s stBadState 0x0104 := by
  simp only [keyLoadOp, held, clear, h, beq_self_eq_true, Bool.not_true, Bool.false_eq_true, if_false, if_true]

variable (idle : slotState (s.port (lpOfT t)).crypto (c.w 3) ≠ 2)
include idle

theorem keyLoadOp_run_of_taken (h : keyIdTaken (s.port (lpOfT t)).crypto c = true) :
    keyLoadOp.run s t c = refuse s stBadState 0x0105 := by
  rw [keyIdTaken] at h
  simp only [keyLoadOp, held, clear, beq_false_of_ne idle, h, Bool.not_true, Bool.false_eq_true, if_false, if_true]

theorem keyLoadOp_run_of_accepted (h : keyIdTaken (s.port (lpOfT t)).crypto c = false) :
    keyLoadOp.run s t c = okRes (keyLoaded (lpOfT t) c s) [keyCheck (loadedKey c)] := by
  rw [keyIdTaken] at h
  simp only [keyLoadOp, held, clear, beq_false_of_ne idle, h, Bool.not_true, Bool.false_eq_true, if_false]
  rfl

end
end

section
variable {c : Cmd} {s : State} (h : Runs keyLoadOp c s) (held : holdsCrypto s c = true)
include h held

theorem exec_keyLoad_of_tampered (on : tampered s = true) :
    exec (.keyLoad c) s = .next (pump (reply 0x0703 c stBadState 0x0102 [] (ready c s))) :=
  exec_of_badState (op := keyLoadOp) h (keyLoadOp_run_of_tampered (by simpa using held) (by simpa using on))

theorem exec_keyLoad_of_accepted (clear : tampered s = false)
    (idle : slotState (s.port (lpOfT c.target)).crypto (c.w 3) ≠ 2)
    (fresh : keyIdTaken (s.port (lpOfT c.target)).crypto c = false) : exec (.keyLoad c) s =
      .next (okFrom 0x0703 c [keyCheck (loadedKey c)] (keyLoaded (lpOfT c.target) c (ready c s))) :=
  exec_of_runs (op := keyLoadOp) h (keyLoadOp_run_of_accepted (by simpa using held) (by simpa using clear)
    (by simpa using idle) (by simpa using fresh))

end

theorem exec_keyLoad_of_unheld {c : Cmd} {s : State} (h : Runs keyLoadOp c s) (free : holdsCrypto s c = false) :
    exec (.keyLoad c) s = .next (pump (reply 0x0703 c stBadState 0x0100 [] (ready c s))) :=
  exec_of_badState (op := keyLoadOp) h (keyLoadOp_run_of_unheld (by simpa using free))

/-- Settles O39: a refusal changes nothing but its reply; an accepted KEY_LOAD ends with the clear of KEY_ZEROISED. -/
theorem keyLoadWhileTampered : Obligations.KeyLoadWhileTampered := by
  unfold Obligations.KeyLoadWhileTampered
  intro c s h wf p
  refine ⟨fun on => ?_, fun clear held idle others => ?_⟩
  · by_cases held : ∃ u, s.host.cryptoLock = some (c.port, u)
    · exact ⟨_, _, exec_keyLoad_of_tampered h (holdsCrypto_iff.mpr held) on, rfl, fun _ => rfl, by simp, by simp⟩
    · have free : holdsCrypto s c = false := eq_false_of_ne_true (held ∘ holdsCrypto_iff.mp)
      exact ⟨_, _, exec_keyLoad_of_unheld h free, rfl, fun k => absurd k held, by simp, by simp⟩
  · have fresh : keyIdTaken (s.port p).crypto c = false := by
      simp only [keyIdTaken, List.any_eq_false, List.mem_range]
      intro i hi
      have differs := others i hi
      grind
    refine ⟨_, exec_keyLoad_of_accepted h (holdsCrypto_iff.mpr held) clear idle fresh, ?_⟩
    have cleared : raised (keyLoaded p c (ready c s)) 0x8712 0 0 = false :=
      raised_after_clearAlarm (by simpa using wf) ..
    rw [← cleared]
    simp only [raised, okFrom, pump_alarms, reply_alarms]
    rfl

/-! ### KEY_ACTIVATE (R246) -/

/-- The command is outstanding on its port until its handshake ends. -/
def holdActivate (c : Cmd) (s : State) : State :=
  s.modHost fun h => { h with deferred := h.deferred ++
    [{ port := c.port, code := 0x0704, tag := c.tag, multi := false,
       entries := [{ target := c.target, settled := false, status := stOk, detail := 0, words := [] }] }] }

theorem exec_keyActivate_of_accepted {c : Cmd} {s t : State} (h : Runs keyActivateOp c s)
    (r : keyActivateOp.run (ready c s) c.target c = { st := t, settled := false }) :
    exec (.keyActivate c) s =
      .next (pump (startHandshake (lpOfT c.target) (c.w 3) 0 (reply 0x0704 c stAccepted 0 [] (holdActivate c t)))) := by
  have row : exec (.keyActivate c) s = .next (serve keyActivateOp c s) := rfl
  rw [row, serve_accepted h r]
  rfl

section
variable {s : State} {t : Nat} {c : Cmd}

theorem keyActivateOp_run_of_unheld (free : holdsCrypto s c = false) :
    keyActivateOp.run s t c = refuse s stBadState 0x0100 := by
  simp only [keyActivateOp, free, Bool.not_false, if_true]

section
variable (held : holdsCrypto s c = true)
include held

theorem keyActivateOp_run_of_handshake (h : (s.port (lpOfT t)).crypto.hs.isSome = true) :
    keyActivateOp.run s t c = refuse s stBadState 0x0101 := by
  simp only [keyActivateOp, held, h, Bool.not_true, Bool.false_eq_true, if_false, if_true]

variable (idle : (s.port (lpOfT t)).crypto.hs.isSome = false)
include idle

theorem keyActivateOp_run_of_empty (h : slotState (s.port (lpOfT t)).crypto (c.w 3) = 0) :
    keyActivateOp.run s t c = refuse s stBadState 0x0106 := by
  simp only [keyActivateOp, held, idle, h, beq_self_eq_true, Bool.not_true, Bool.false_eq_true, if_false, if_true]

variable (loaded : slotState (s.port (lpOfT t)).crypto (c.w 3) ≠ 0)
include loaded

theorem keyActivateOp_run_of_cipherOff (h : cipherOn s (lpOfT t) = false) :
    keyActivateOp.run s t c = refuse s stBadState 0x0107 := by
  simp only [keyActivateOp, held, idle, beq_false_of_ne loaded, h, Bool.not_true, Bool.not_false, Bool.false_eq_true,
    if_false, if_true]

theorem keyActivateOp_run_of_cipherOn (h : cipherOn s (lpOfT t) = true) :
    keyActivateOp.run s t c = { st := clearAlarm 0x8714 t 0 [] s, settled := false } := by
  simp only [keyActivateOp, held, idle, beq_false_of_ne loaded, h, Bool.not_true, Bool.false_eq_true, if_false]

end
end

/-! ### KEY_ZEROISE (R243, R254) -/

/-- Only a packet that its receive queue has taken is erased on. -/
theorem eraseOnReceipt_of_empty {p : Port} {s : State} (h : s.host.rxq.get p = []) (before : Nat) (ws : List Word) :
    eraseOnReceipt p before ws s = s := by
  simp [eraseOnReceipt, h]

/-- KEY_ZEROISE whose packet stood in no receive queue before. -/
theorem exec_keyZeroise_of_new {c : Cmd} {s : State} (new : keyZeroiseWaits s c = false) : exec (.keyZeroise c) s =
    .next (eraseOnReceipt c.port (s.host.rxq.get c.port).length (cmdWords 0x0705 c) (serve keyZeroiseOp c s)) := by
  simp only [exec, execKeyZeroise, new, Bool.false_eq_true, if_false]

/-- A KEY_ZEROISE that Umcia takes at once enters no receive queue. -/
theorem exec_keyZeroise_of_served {c : Cmd} {s t : State} (h : Served c s) (hs : serve keyZeroiseOp c s = t)
    (kept : t.host.rxq = s.host.rxq) : exec (.keyZeroise c) s = .next t := by
  obtain ⟨-, -, empty, -⟩ := h
  have new : keyZeroiseWaits s c = false := by simp [keyZeroiseWaits, empty]
  rw [exec_keyZeroise_of_new new, hs, eraseOnReceipt_of_empty (kept ▸ empty)]

/-- The packet enters its receive queue, and the erase is at once (R254). -/
theorem exec_keyZeroise_of_queued {c : Cmd} {s : State} (new : keyZeroiseWaits s c = false)
    (taken : (s.host.rxq.get c.port).length < ((serve keyZeroiseOp c s).host.rxq.get c.port).length)
    (ib0 : c.port ≠ .ib0) (ib1 : c.port ≠ .ib1) (code : bits ((cmdWords 0x0705 c).getD 1 0).toNat 16 16 = 0x0705)
    (target : bits ((cmdWords 0x0705 c).getD 2 0).toNat 24 8 = 0)
    (crc : crc32cWords (cmdWords 0x0705 c).dropLast = (cmdWords 0x0705 c).getLastD 0) :
    exec (.keyZeroise c) s = .next (zeroise (serve keyZeroiseOp c s)) := by
  rw [exec_keyZeroise_of_new new, eraseOnReceipt, if_pos ⟨taken, ib0, ib1, code, target, crc⟩]

section
variable {c : Cmd} {s : State} (h : Runs keyZeroiseOp c s)
include h

theorem exec_keyZeroise_of_accepted (ib0 : c.port ≠ .ib0) (ib1 : c.port ≠ .ib1) :
    exec (.keyZeroise c) s = .next (okFrom 0x0705 c [] (zeroise (ready c s))) := by
  have erases : keyZeroiseOp.run (ready c s) c.target c = okRes (zeroise (ready c s)) [] := by
    simp [keyZeroiseOp, ib0, ib1]
  have served : serve keyZeroiseOp c s = okFrom 0x0705 c [] (zeroise (ready c s)) := serve_ok h erases
  refine exec_keyZeroise_of_served h.1 served ?_
  simp only [okFrom, pump_host_rxq, reply_host_rxq, rxq_of_cryptoFrame (cryptoFrame_zeroise _), ready_host_rxq]

theorem exec_keyZeroise_of_inband (ib : c.port = .ib0 ∨ c.port = .ib1) :
    exec (.keyZeroise c) s = .next (pump (reply 0x0705 c stBadState 0x0108 [] (ready c s))) := by
  have refuses : keyZeroiseOp.run (ready c s) c.target c = refuse (ready c s) stBadState 0x0108 := by
    simp only [keyZeroiseOp, Bool.or_eq_true, beq_iff_eq, ib, if_true]
  exact exec_keyZeroise_of_served h.1 (serve_unit_refused h refuses (by decide)) (by simp)

end

/-! ### KEY_ERASE (R243) -/

/-- Some slot that the mask names is IN_USE. -/
def erasesInUse (k : Crypto) (c : Cmd) : Bool := (List.range 4).any fun i => bit (c.w 3) i && slotState k i == 2

section
variable {s : State} {t : Nat} {c : Cmd}

theorem keyEraseOp_run_of_unheld (free : holdsCrypto s c = false) :
    keyEraseOp.run s t c = refuse s stBadState 0x0100 := by
  simp only [keyEraseOp, free, Bool.not_false, if_true]

variable (held : holdsCrypto s c = true)
include held

theorem keyEraseOp_run_of_inUse (h : erasesInUse (s.port (lpOfT t)).crypto c = true) :
    keyEraseOp.run s t c = refuse s stBadState 0x0104 := by
  rw [erasesInUse] at h
  simp only [keyEraseOp, held, h, Bool.not_true, Bool.false_eq_true, if_false, if_true]

theorem keyEraseOp_run_of_accepted (h : erasesInUse (s.port (lpOfT t)).crypto c = false) :
    let u := setCrypto (lpOfT t) (fun k => { k with
      slots := (List.range 4).map fun i => if bit (c.w 3) i then none else k.slots.getD i none }) s
    keyEraseOp.run s t c = okRes u
      [w32 ((List.range 4).foldl (fun a i => a + onBit (slotState (u.port (lpOfT t)).crypto i == 0) i) 0)] := by
  rw [erasesInUse] at h
  simp only [keyEraseOp, held, h, Bool.not_true, Bool.false_eq_true, if_false]

end

/-- Settles O38: each command is served on its unit, and CRYPTO_LOCK, the slots, the handshake and the port say whether it runs or
is refused. -/
theorem cryptoCommandsRun : Obligations.CryptoCommandsRun := by
  unfold Obligations.CryptoCommandsRun
  intro c s
  simp -zeta only [← ready_port c s, ← tampered_ready c s, ← cipherOn_ready c s]
  intro r p k hostPort ok no free
  have lockPort : (c.port == .pcie || c.port == .spi) = true ↔ hostPort := by simp [hostPort]
  have unheld (lock : free = true) : holdsCrypto r c = false := (Bool.not_eq_true' _).mp lock
  have held (lock : ¬ free = true) : holdsCrypto r c = true := (Bool.not_eq_false' _).mp (eq_false_of_ne_true lock)
  refine ⟨fun h => ⟨fun on => ?_, fun off => ?_⟩, fun h => ⟨fun on => ?_, fun off => ?_⟩, fun vacant => ?_,
    fun h => ?_, fun h => ?_, fun h => ⟨exec_keyZeroise_of_accepted h, exec_keyZeroise_of_inband h⟩,
    exec_keyZeroise_of_queued, fun h => ?_, fun h => exec_of_runs (op := keyStatusOp) h rfl,
    fun h => exec_of_runs (op := cipherConfigOp) h rfl, fun h => exec_of_runs (op := cipherCountersOp) h rfl⟩
  · exact exec_of_runs (op := keyLockOp) h (if_pos (lockPort.mpr on))
  · exact exec_of_badState (op := keyLockOp) h (if_neg (off ∘ lockPort.mp))
  · exact exec_of_runs (op := keyUnlockOp) h (if_pos (lockPort.mpr on))
  · exact exec_of_badState (op := keyUnlockOp) h (if_neg (off ∘ lockPort.mp))
  · have unowned : holdsCrypto s c = false := eq_false_of_ne_true fun owned => by simp [holdsCrypto_iff, vacant] at owned
    exact congrArg not ((holdsCrypto_ready c s).trans unowned)
  · refine exec_of_guard (op := keyLoadOp) h (keyLoadOp_run_of_unheld <| unheld ·) fun lock => ?_
    refine exec_of_guard (op := keyLoadOp) h (keyLoadOp_run_of_tampered (held lock)) fun clear => ?_
    replace clear := eq_false_of_ne_true clear
    refine exec_of_guard (op := keyLoadOp) h (keyLoadOp_run_of_inUse (held lock) clear) fun idle => ?_
    refine exec_of_guard (op := keyLoadOp) h (keyLoadOp_run_of_taken (held lock) clear idle) fun fresh => ?_
    exact exec_of_runs (op := keyLoadOp) h (keyLoadOp_run_of_accepted (held lock) clear idle (eq_false_of_ne_true fresh))
  · refine exec_of_guard (op := keyActivateOp) h (keyActivateOp_run_of_unheld <| unheld ·) fun lock => ?_
    refine exec_of_guard (op := keyActivateOp) h (keyActivateOp_run_of_handshake (held lock)) fun idle => ?_
    replace idle := eq_false_of_ne_true idle
    refine exec_of_guard (op := keyActivateOp) h (keyActivateOp_run_of_empty (held lock) idle) fun loaded => ?_
    refine exec_of_guard (op := keyActivateOp) h (keyActivateOp_run_of_cipherOff (held lock) idle loaded) fun on => ?_
    exact exec_keyActivate_of_accepted h
      (keyActivateOp_run_of_cipherOn (held lock) idle loaded (eq_true_of_ne_false on))
  · refine exec_of_guard (op := keyEraseOp) h (keyEraseOp_run_of_unheld <| unheld ·) fun lock => ?_
    refine exec_of_guard (op := keyEraseOp) h (keyEraseOp_run_of_inUse (held lock)) fun unused => ?_
    exact exec_of_runs (op := keyEraseOp) h (keyEraseOp_run_of_accepted (held lock) (eq_false_of_ne_true unused))

end Sys2Proof.Machine
end

section
/-!
PROOFS. Host lanes and host ports read what the state's lanes, host ports and line ports hold (R261, R264, R268).
-/
namespace Sys2Proof.Machine
open Sys2Proof

/-! ### What the accessors depend on -/

section
variable {s t : State}

theorem State.lane_congr (h : t.lanes = s.lanes) (i : Nat) : t.lane i = s.lane i := by simp only [State.lane, h]

theorem hlCfg_congr (h : t.lanes = s.lanes) (i : Nat) : hlCfg t i = hlCfg s i := by
  simp only [hlCfg, State.lane_congr h]

variable (h : t.hports = s.hports)
include h

theorem State.hport_congr (n : Nat) : t.hport n = s.hport n := by simp only [State.hport, h]

theorem hpCfg_congr (n : Nat) : hpCfg t n = hpCfg s n := by simp only [hpCfg, State.hport_congr h]

theorem portLanes_congr (n : Nat) : portLanes t n = portLanes s n := by simp only [portLanes, hpCfg_congr h]

theorem laneOwner_congr (i : Nat) : laneOwner t i = laneOwner s i := by
  simp only [laneOwner, hpCfg_congr h, portLanes_congr h]

theorem lanesHeld_congr (n : Nat) (x : HpCfg) : lanesHeld t n x = lanesHeld s n x := by
  simp only [lanesHeld, hpCfg_congr h, portLanes_congr h]

theorem ffeInUse_congr (hl : t.lanes = s.lanes) (i : Nat) : ffeInUse t i = ffeInUse s i := by
  simp only [ffeInUse, laneOwner_congr h, hpCfg_congr h, hlCfg_congr hl, State.lane_congr hl]

variable (hl : t.lp = s.lp)
include hl

theorem isPacket_congr (n : Nat) : isPacket t n = isPacket s n := by
  simp only [isPacket, packetOn, hpMap, hpCfg_congr h, State.hport_congr h, State.port_congr hl]

theorem slotsOverlap_congr (n : Nat) (x : HpCfg) : slotsOverlap t n x = slotsOverlap s n x := by
  simp only [slotsOverlap, packetOn, hpCfg_congr h, State.port_congr hl]

end

/-! ### Time and the arrival of a command leave them -/

@[simp] theorem advance_lane (dt : Nat) (s : State) (i : Nat) : (advance dt s).lane i = s.lane i :=
  State.lane_congr (advance_lanes dt s) i
@[simp] theorem advance_hport (dt : Nat) (s : State) (n : Nat) : (advance dt s).hport n = s.hport n :=
  State.hport_congr (advance_hports dt s) n
@[simp] theorem portLanes_advance (dt : Nat) (s : State) (n : Nat) : portLanes (advance dt s) n = portLanes s n :=
  portLanes_congr (advance_hports dt s) n
@[simp] theorem laneOwner_advance (dt : Nat) (s : State) (i : Nat) : laneOwner (advance dt s) i = laneOwner s i :=
  laneOwner_congr (advance_hports dt s) i
@[simp] theorem isPacket_advance (dt : Nat) (s : State) (n : Nat) : isPacket (advance dt s) n = isPacket s n :=
  isPacket_congr (advance_hports dt s) (advance_lp dt s) n

@[simp] theorem ready_lane (c : Cmd) (s : State) (i : Nat) : (ready c s).lane i = s.lane i :=
  State.lane_congr (ready_lanes c s) i
@[simp] theorem ready_hport (c : Cmd) (s : State) (n : Nat) : (ready c s).hport n = s.hport n :=
  State.hport_congr (ready_hports c s) n
@[simp] theorem hlCfg_ready (c : Cmd) (s : State) (i : Nat) : hlCfg (ready c s) i = hlCfg s i :=
  hlCfg_congr (ready_lanes c s) i
@[simp] theorem hpCfg_ready (c : Cmd) (s : State) (n : Nat) : hpCfg (ready c s) n = hpCfg s n :=
  hpCfg_congr (ready_hports c s) n
@[simp] theorem portLanes_ready (c : Cmd) (s : State) (n : Nat) : portLanes (ready c s) n = portLanes s n :=
  portLanes_congr (ready_hports c s) n
@[simp] theorem laneOwner_ready (c : Cmd) (s : State) (i : Nat) : laneOwner (ready c s) i = laneOwner s i :=
  laneOwner_congr (ready_hports c s) i
@[simp] theorem raised_ready (c : Cmd) (s : State) (code target sub : Nat) :
    raised (ready c s) code target sub = raised s code target sub := by simp only [raised, ready_alarms]
@[simp] theorem ffeInUse_ready (c : Cmd) (s : State) (i : Nat) : ffeInUse (ready c s) i = ffeInUse s i :=
  ffeInUse_congr (ready_hports c s) (ready_lanes c s) i
@[simp] theorem lanesHeld_ready (c : Cmd) (s : State) (n : Nat) (x : HpCfg) :
    lanesHeld (ready c s) n x = lanesHeld s n x := lanesHeld_congr (ready_hports c s) n x
@[simp] theorem slotsOverlap_ready (c : Cmd) (s : State) (n : Nat) (x : HpCfg) :
    slotsOverlap (ready c s) n x = slotsOverlap s n x := slotsOverlap_congr (ready_hports c s) (ready_lp c s) n x

end Sys2Proof.Machine
end

section
/-!
PROOFS. The host lane and host port commands (R261, R269, R279, R281, R282, Tables 10.6 and 10.7; log entries 25, 38, 146
and 147).
-/
namespace Sys2Proof.Machine
open Sys2Proof

/-- A port that is enabled was configured: the default of Table 10.6 is disabled. -/
theorem cfg_isSome_of_enable {s : State} {n : Nat} (on : (hpCfg s n).enable = true) : (s.hport n).cfg.isSome = true := by
  cases cfg : (s.hport n).cfg with
  | none => simp [hpCfg, cfg, hpDefault] at on
  | some x => rfl

/-- A write that leaves a port configured is read back: it is not the default, which no table keeps. -/
theorem hport_modHport_of_configured {s : State} {n : Nat} {f : HostPort → HostPort}
    (configured : (f (s.hport n)).cfg.isSome = true) : (s.modHport n f).hport n = f (s.hport n) := by
  have written : f (s.hport n) ≠ {} := fun blank => by simp [blank] at configured
  exact SMap.get_set_of_ne written s.hports n

/-- A loopback set or cleared on an enabled port (R278; log entry 146). -/
theorem setLoopback_of_enable {s : State} {n m : Nat} (on : (hpCfg s n).enable = true) :
    let h := s.hport n
    let u := s.modHport n fun h => { h with loopback := m }
    let bad := (portLanes s n).filter fun j => !(s.lane j).locked
    setLoopback n m s = if h.loopback = 2 ∧ m ≠ 2 ∧ h.st = .up ∧ bad ≠ [] then
        setHp n .localFault 0 (bad.foldl (fun u j => u.modLane j fun l => { l with alone := l.holdEnd.isNone }) u)
      else u := by
  intro h u bad
  have written : u.hport n = { h with loopback := m } := hport_modHport_of_configured (cfg_isSome_of_enable on)
  have kept : (u.hport n).st = h.st := by rw [written]
  rw [← kept]
  rfl

section
variable {s : State} {t : Nat} {c : Cmd}

/-- The words of HL_STATUS, with `own` for rate and owner. -/
def hlStatusWords (s : State) (i own : Nat) : List Word :=
  let l := s.lane i
  let settled := l.locked || l.holdEnd.isSome || l.alone
  [w32 (onBit l.locked 0 + onBit (laneAsleep s i) 1 + own), wI l.meas.cdr,
    w32 (if (hlCfg s i).adapt = 2 ∨ settled = false then (hlCfg s i).ctle else l.meas.ctle), w32 l.meas.eyeH,
    w32 l.meas.eyeW, w32 (ffeInUse s i)]

theorem hlStatusOp_run (s : State) (t : Nat) (c : Cmd) :
    let own := laneOwnerField s (t - 0x20)
    hlStatusOp.run s t c = okRes own.2 (hlStatusWords s (t - 0x20) own.1) := by
  simp only [hlStatusOp, hlStatusWords, Bool.or_eq_true, decide_eq_true_eq, Bool.not_eq_true']

theorem laneOwnerField_of_some {i n : Nat} (owner : laneOwner s i = some n) :
    laneOwnerField s i = ((hpCfg s n).laneRate * 4 + n * 16, s) := by simp only [laneOwnerField, owner]

theorem laneOwnerField_of_none {i : Nat} (free : laneOwner s i = none) :
    laneOwnerField s i = (bits (freeW s).1.toNat 2 8 * 4, (freeW s).2) := by simp only [laneOwnerField, free]

theorem hpConfigOp_run_of_inRange (inRange : hpRangeBad s t c = none) :
    let n := t - 0x40
    let x := hpOf n c (hpCfg s n)
    hpConfigOp.run s t c = if (isLanePort n && x.enable && lanesHeld s n x) = true then refuse s stBadState 0x0100
      else if (isLanePort n && x.enable && slotsOverlap s n x) = true then refuse s stBadState 0x0101
      else okRes (setHpCfg n x s) (0 :: hpWords x) := by
  simp only [hpConfigOp, inRange]

/-- The SyncE candidates after HL_SYNCE_SELECT on lane `i`. -/
def synceSelected (i : Nat) (c : Cmd) (o : Option Nat × Option Nat) : Option Nat × Option Nat :=
  let v (o : Option Nat) : Option Nat := if bit (c.w 4) 0 then some i else if o = some i then none else o
  if c.w 3 = 4 then (v o.1, o.2) else (o.1, v o.2)

theorem hlSynceSelectOp_run_of_owned (owned : ¬(bit (c.w 4) 0 && (laneOwner s (t - 0x20)).isNone) = true) :
    let y := synceSelected (t - 0x20) c s.synce
    hlSynceSelectOp.run s t c =
      okRes (hostClocks { s with synce := y }) [w32 (y.1.getD 0xFF), w32 (y.2.getD 0xFF)] := by
  refine (if_neg owned).trans ?_
  by_cases four : c.w 3 = 4
  · simp only [synceSelected, four, if_true]
  · simp only [synceSelected, four, if_false]

end

/-- Settles O41: each command is served on its lane or port, whose state says whether it answers, is held or is refused. -/
theorem hostCommandsRun : Obligations.HostCommandsRun := by
  unfold Obligations.HostCommandsRun
  intro c s
  simp -zeta only [← ready_lane c s, ← ready_hport c s, ← hlCfg_ready c s, ← hpCfg_ready c s, ← portLanes_ready c s,
    ← laneOwner_ready c s, ← ffeInUse_ready c s, ← lanesHeld_ready c s, ← slotsOverlap_ready c s, ← ready_synce c s,
    ← raised_ready c s]
  intro r i n l h ok no
  refine ⟨fun runs => exec_of_runs (op := hlConfigOp) runs rfl, fun runs => ?_, fun runs => ?_,
    fun runs => exec_of_runs (op := hpStatusOp) runs rfl, fun runs => ⟨fun on => ?_, fun off => ?_⟩,
    fun runs => ⟨fun on => ?_, fun off => ?_⟩, fun runs => ?_, fun runs => exec_of_runs (op := hpCountersOp) runs rfl⟩
  · -- HL_STATUS reads rate and owner of the enabled port that owns the lane, else a free value.
    have answered := exec_of_runs (op := hlStatusOp) (f := .hlStatus) runs (hlStatusOp_run r c.target c)
    cases owner : laneOwner r i with
    | some m => rwa [laneOwnerField_of_some owner] at answered
    | none => rwa [laneOwnerField_of_none owner] at answered
  · intro x lane
    have inRange := hpConfigOp_run_of_inRange (unitBad_of_runs runs)
    refine exec_of_guard (op := hpConfigOp) runs (fun held => inRange.trans (if_pos held)) fun free => ?_
    refine exec_of_guard (op := hpConfigOp) runs (fun overlap => inRange.trans ((if_neg free).trans (if_pos overlap)))
      fun apart => ?_
    exact exec_of_runs (op := hpConfigOp) runs (inRange.trans ((if_neg free).trans (if_neg apart)))
  · exact exec_of_accepted (op := hpRetrainOp) runs (if_pos on)
  · exact exec_of_badState (op := hpRetrainOp) runs (if_neg (ne_true_of_eq_false off))
  · intro u bad
    exact exec_of_runs (op := hpLoopbackOp) runs ((if_pos on).trans (by rw [setLoopback_of_enable on]))
  · exact exec_of_badState (op := hpLoopbackOp) runs (if_neg (ne_true_of_eq_false off))
  · intro v y
    refine exec_of_guard (op := hlSynceSelectOp) runs (fun free => if_pos free) fun owned => ?_
    exact exec_of_runs (op := hlSynceSelectOp) runs (hlSynceSelectOp_run_of_owned owned)

end Sys2Proof.Machine
end

section
/-!
PROOFS. Host lanes and ports train, lose and regain their signal (R268 to R271, R276, Tables 10.3 and 10.9; log entry 84).
-/
namespace Sys2Proof.Machine
open Sys2Proof

/-! ### What the locking of lanes leaves alone -/

theorem lockLane_hk (i : Nat) (s : State) : (lockLane i s).hk = s.hk := (alarms_alarmIf ..).hk

theorem foldl_lockLane_hk (lanes : List Nat) (s : State) : (lanes.foldl (fun s j => lockLane j s) s).hk = s.hk :=
  foldl_related (r := fun s t => t.hk = s.hk) (fun _ => rfl) (fun h k => k.trans h) (fun s j => lockLane_hk j s) lanes s

/-- What a lane's receiver settled on, at the rate of its port, if the lane did not keep its lock (R266, R271). -/
def settleLane (rate : Nat) (s : State) (x : Nat × LaneMeas) : State :=
  s.modLane x.1 fun l => if l.locked then l else { l with meas := settled rate x.2 }

/-- The lanes of a port settle at one rate: no lane changes the configuration of the port. -/
theorem foldl_settled_eq {s t : State} (h : t.hports = s.hports) (n : Nat) (l : List (Nat × LaneMeas)) :
    l.foldl (fun u x => u.modLane x.1 fun k =>
      if k.locked then k else { k with meas := settled (hpCfg u n).laneRate x.2 }) t =
    l.foldl (settleLane (hpCfg s n).laneRate) t := by
  induction l generalizing t with
  | nil => rfl
  | cons x l ih =>
    simp only [List.foldl_cons, hpCfg_congr h]
    exact ih (t := settleLane (hpCfg s n).laneRate t x) h

theorem foldl_settleLane_hk (rate : Nat) (l : List (Nat × LaneMeas)) (s : State) :
    (l.foldl (settleLane rate) s).hk = s.hk :=
  foldl_related (r := fun s t => t.hk = s.hk) (fun _ => rfl) (fun h k => k.trans h)
    (f := settleLane rate) (fun _ _ => rfl) l s

/-! ### The events that meet their condition on the running device -/

section
variable {i n skew dt : Nat} {m : LaneMeas} {s : State} (hr : running (advance dt s) = true)
include hr

section
variable (hi : i < 32)
include hi

theorem exec_hlCdrLockLoss_of_locked (locked : (s.lane i).locked = true) :
    exec (.hlCdrLockLoss i dt) s = .next (lanelost i (advance dt s)) := by
  simp only [exec, execHlCdrLockLoss, advance_lane, hr, hi, locked, decide_true, Bool.and_self, if_true]

theorem exec_laneHoldExpiry_of_due (h : due (s.lane i).holdEnd (advance dt s).hk = true) : exec (.laneHoldExpiry i dt) s =
    .next ((advance dt s).modLane i fun l => { l with holdEnd := none, alone := true }) := by
  simp only [exec, execLaneHoldExpiry, advance_lane, hr, hi, h, decide_true, Bool.and_self, if_true]

section
variable (lost : (s.lane i).locked = false) (owner : laneOwner s i = some n) (tracks : cdrTracks m = true)
include lost owner tracks

theorem exec_hlSignalReturn_of_held {e : Nat} (hold : (s.lane i).holdEnd = some e) (early : (advance dt s).hk < e) :
    exec (.hlSignalReturn i m dt) s =
      .next (lockLane i ((advance dt s).modLane i fun l => { l with meas := { l.meas with cdr := m.cdr } })) := by
  simp only [exec, execHlSignalReturn, advance_lane, laneOwner_advance, hr, hi, lost, owner, tracks, hold, due,
    Nat.not_le_of_lt early, decide_true, decide_false, Option.isSome_some, Bool.not_false, Bool.and_self, if_true]

theorem exec_hlSignalReturn_of_runOut (runOut : ((s.lane i).holdEnd = none ∧ (s.lane i).alone = true) ∨
      ∃ e, (s.lane i).holdEnd = some e ∧ e ≤ (advance dt s).hk) (fault : (s.hport n).st = .localFault) :
    exec (.hlSignalReturn i m dt) s = .next (startAttempt n (setHp n .training 1
      ((dropLane i (advance dt s)).modHport n fun h => { h with fails := 0 }))) := by
  have unheld : ((s.lane i).holdEnd.isSome && !due (s.lane i).holdEnd (advance dt s).hk) = false := by
    obtain ⟨none, -⟩ | ⟨e, hold, late⟩ := runOut
    · simp [none]
    · simp [hold, due, late]
  have alone : ((s.lane i).holdEnd.isSome || (s.lane i).alone) = true := by
    obtain ⟨-, alone⟩ | ⟨e, hold, -⟩ := runOut
    · simp [alone]
    · simp [hold]
  simp only [exec, execHlSignalReturn, advance_lane, advance_hport, laneOwner_advance, hr, hi, lost, owner, tracks, unheld,
    alone, fault, beq_self_eq_true, decide_true, Bool.not_false, Bool.and_self, Bool.false_eq_true, if_false, if_true]

end
end

section
variable (hn : n < 32)
include hn

theorem exec_pcsAlignmentLoss_of_up (up : (s.hport n).st = .up) :
    exec (.pcsAlignmentLoss n dt) s = .next (setHp n .localFault 1 (advance dt s)) := by
  simp only [exec, execPcsAlignmentLoss, advance_hport, hr, hn, up, beq_self_eq_true, decide_true, Bool.and_self, if_true]

theorem exec_aligningTimeout_of_late {t : Nat} (aligning : (s.hport n).st = .aligning)
    (began : (s.hport n).aligning = some t) (late : t + msT 10 ≤ (advance dt s).hk) :
    exec (.aligningTimeout n dt) s = .next (pump (failAttempt n (advance dt s))) := by
  simp only [exec, execAligningTimeout, advance_hport, hr, hn, aligning, began, due, late, Option.map_some,
    beq_self_eq_true, decide_true, Bool.and_self, if_true]

theorem exec_hpUpReached_of_aligned (near : skew ≤ 180)
    (rises : ((s.hport n).st = .aligning ∨ (s.hport n).st = .localFault) ∧
        ((portLanes s n).all fun j => (s.lane j).locked) = true ∨
      (s.hport n).loopback = 2 ∧ (s.hport n).st ≠ .disabled ∧ (s.hport n).st ≠ .up) :
    exec (.hpUpReached n skew dt) s = .next (pump (retrainDone n 0 (setHp n .up
      (if (s.hport n).st = .localFault then 1 else 0) ((advance dt s).modHport n fun h =>
        { h with skew, fails := 0, attempt := none, aligning := none, backoff := none })))) := by
  have aligned : ((((s.hport n).st == .aligning || (s.hport n).st == .localFault) &&
      (portLanes s n).all fun j => (s.lane j).locked) ||
      ((s.hport n).loopback == 2 && (s.hport n).st != .disabled && (s.hport n).st != .up)) = true := by
    simpa [and_assoc] using rises
  simp only [exec, execHpUpReached, advance_hport, advance_lane, portLanes_advance, hr, hn, near, aligned, decide_true,
    Bool.and_self, if_true]

theorem exec_remoteFaultReceived_of_up (packet : isPacket s n = true) (up : (s.hport n).st = .up) :
    exec (.remoteFaultReceived n dt) s = .next (raiseAlarm 0x8812 (hpT n) 0 []
      ((advance dt s).modHport n fun h => { h with rfAt := (advance dt s).hk })) := by
  simp only [exec, execRemoteFaultReceived, advance_hport, isPacket_advance, hr, hn, packet, up, beq_self_eq_true,
    decide_true, Bool.and_self, if_true]

theorem exec_remoteFaultClearTimer_of_absent (absent : (s.hport n).rfAt + msT 1 ≤ (advance dt s).hk) :
    exec (.remoteFaultClearTimer n dt) s = .next (clearAlarm 0x8812 (hpT n) 0 [] (advance dt s)) := by
  simp only [exec, execRemoteFaultClearTimer, advance_hport, hr, hn, absent, decide_true, Bool.and_self, if_true]

section
variable (training : (s.hport n).st = .training)
include training

theorem exec_trainAttemptStart_of_due (h : due (s.hport n).backoff (advance dt s).hk = true) :
    exec (.trainAttemptStart n dt) s = .next (startAttempt n (advance dt s)) := by
  simp only [exec, execTrainAttemptStart, advance_hport, hr, hn, training, h, beq_self_eq_true, decide_true, Bool.and_self,
    if_true]

theorem exec_trainAttemptTimeout_of_late {t : Nat} (began : (s.hport n).attempt = some t)
    (late : t + msT 50 ≤ (advance dt s).hk) :
    exec (.trainAttemptTimeout n dt) s = .next (pump (failAttempt n (advance dt s))) := by
  simp only [exec, execTrainAttemptTimeout, advance_hport, hr, hn, training, began, due, late, Option.map_some,
    beq_self_eq_true, decide_true, Bool.and_self, if_true]

/-- Every lane locks, and ALIGNING starts at the moment of the event. -/
theorem exec_hpAligningReached_of_tracking {ms : List LaneMeas} (attempt : (s.hport n).attempt.isSome = true)
    (tracks : ms.all cdrTracks = true) :
    let a := advance dt s
    let u := ((portLanes s n).zip ms).foldl (settleLane (hpCfg a n).laneRate) a
    exec (.hpAligningReached n ms dt) s = .next (setHp n .aligning 0
      (((portLanes s n).foldl (fun s j => lockLane j s) u).modHport n fun h => { h with aligning := some a.hk })) := by
  simp only [exec, execHpAligningReached, advance_hport, portLanes_advance, hr, hn, training, attempt, tracks,
    beq_self_eq_true, decide_true, Bool.and_self, if_true]
  rw [foldl_settled_eq (s := advance dt s) rfl, foldl_lockLane_hk, foldl_settleLane_hk]

end
end
end

/-- Settles O42: each event meets its condition on the running device. -/
theorem hostEventsRun : Obligations.HostEventsRun := by
  unfold Obligations.HostEventsRun
  intro i n skew dt m ms s hr hi hn a l h
  exact ⟨exec_hlCdrLockLoss_of_locked hr hi,
    fun lost owner tracks => ⟨fun e => exec_hlSignalReturn_of_held hr hi lost owner tracks,
      exec_hlSignalReturn_of_runOut hr hi lost owner tracks⟩,
    exec_laneHoldExpiry_of_due hr hi, exec_pcsAlignmentLoss_of_up hr hn, exec_trainAttemptStart_of_due hr hn,
    fun t training => exec_trainAttemptTimeout_of_late hr hn training,
    fun t aligning => exec_aligningTimeout_of_late hr hn aligning,
    fun training => exec_hpAligningReached_of_tracking hr hn training, exec_hpUpReached_of_aligned hr hn,
    exec_remoteFaultReceived_of_up hr hn, exec_remoteFaultClearTimer_of_absent hr hn⟩

end Sys2Proof.Machine
end

section
/-!
PROOFS. The policer of the traffic manager (R291, R292).
-/
namespace Sys2Proof.Machine
open Sys2Proof

/-! ### Filling both buckets -/

theorem fillBucket_le_cap (v : Int) (rate cap n : Nat) : fillBucket v rate cap n ≤ ((cap * 1024 : Nat) : Int) :=
  Int.min_le_left _ _

theorem fillBucket_nonneg {v : Int} (h : 0 ≤ v) (rate cap n : Nat) : 0 ≤ fillBucket v rate cap n :=
  Int.le_min.mpr ⟨Int.natCast_nonneg _, Int.add_nonneg h (Int.natCast_nonneg _)⟩

/-- The buckets of profile `prof`, filled up to the present cycle. -/
def filledFor (s : State) (prof : Nat) (b : Buckets) : Buckets :=
  let f := profileOfTm s prof
  bucketsAt b f.cir f.cbs f.pir f.pbs (tmNow s)

/-- What a frame of `len` bytes takes from a bucket. -/
def tokens (len : Nat) : Int := (len * 1024 : Nat)

section
variable {s : State} {prof : Nat} {b : Buckets} {len : Nat}

theorem filledFor_c_le : (filledFor s prof b).c ≤ (((profileOfTm s prof).cbs * 1024 : Nat) : Int) := fillBucket_le_cap ..
theorem filledFor_p_le : (filledFor s prof b).p ≤ (((profileOfTm s prof).pbs * 1024 : Nat) : Int) := fillBucket_le_cap ..
theorem filledFor_c_nonneg (h : 0 ≤ b.c) : 0 ≤ (filledFor s prof b).c := fillBucket_nonneg h ..
theorem filledFor_p_nonneg (h : 0 ≤ b.p) : 0 ≤ (filledFor s prof b).p := fillBucket_nonneg h ..

/-- No frame longer than PBS finds its tokens in Tp. -/
theorem filledFor_p_lt_tokens (long : (profileOfTm s prof).pbs < len) : (filledFor s prof b).p < tokens len := by
  have cap := filledFor_p_le (s := s) (prof := prof) (b := b)
  simp only [tokens]
  omega

/-- No frame longer than CBS finds its tokens in Tc. -/
theorem filledFor_c_lt_tokens (long : (profileOfTm s prof).cbs < len) : (filledFor s prof b).c < tokens len := by
  have cap := filledFor_c_le (s := s) (prof := prof) (b := b)
  simp only [tokens]
  omega

end

/-! ### The three colours -/

/-- R291 and R292 make the frame red. -/
abbrev PolicedRed (s : State) (prof : Nat) (b : Buckets) (len : Nat) (col : Colour) : Prop :=
  ((profileOfTm s prof).aware = true ∧ col = .red) ∨ (filledFor s prof b).p < tokens len

/-- R291 and R292 make a frame that is not red yellow. -/
abbrev PolicedYellow (s : State) (prof : Nat) (b : Buckets) (len : Nat) (col : Colour) : Prop :=
  ((profileOfTm s prof).aware = true ∧ col = .yellow) ∨ (filledFor s prof b).c < tokens len

section
variable {s : State} {prof : Nat} {b : Buckets} {len : Nat} {col : Colour} (named : prof ≠ 0)
include named

variable (s b len col) in
/-- The policer tries red first, then yellow. -/
theorem police_cases :
    let x := filledFor s prof b
    (PolicedRed s prof b len col ∧ police s prof b len col = (.red, x)) ∨
    (¬PolicedRed s prof b len col ∧ PolicedYellow s prof b len col ∧
      police s prof b len col = (.yellow, { x with p := x.p - tokens len })) ∨
    (¬PolicedRed s prof b len col ∧ ¬PolicedYellow s prof b len col ∧
      police s prof b len col = (.green, { x with p := x.p - tokens len, c := x.c - tokens len })) := by
  intro x
  have colours : police s prof b len col =
      if PolicedRed s prof b len col then (.red, x)
      else if PolicedYellow s prof b len col then (.yellow, { x with p := x.p - tokens len })
      else (.green, { x with p := x.p - tokens len, c := x.c - tokens len }) := by
    refine (if_neg named).trans ?_
    simp only [PolicedRed, PolicedYellow, Bool.or_eq_true, Bool.and_eq_true, beq_iff_eq, decide_eq_true_eq]
    rfl
  by_cases red : PolicedRed s prof b len col
  · exact .inl ⟨red, colours.trans (if_pos red)⟩
  rw [if_neg red] at colours
  by_cases yellow : PolicedYellow s prof b len col
  · exact .inr (.inl ⟨red, yellow, colours.trans (if_pos yellow)⟩)
  · exact .inr (.inr ⟨red, yellow, colours.trans (if_neg yellow)⟩)

theorem police_red_iff : (police s prof b len col).1 = .red ↔ PolicedRed s prof b len col := by
  obtain ⟨red, out⟩ | ⟨fits, -, out⟩ | ⟨fits, -, out⟩ := police_cases s b len col named
  · simp [out, red]
  · simp [out, fits]
  · simp [out, fits]

theorem police_green_iff :
    (police s prof b len col).1 = .green ↔ ¬PolicedRed s prof b len col ∧ ¬PolicedYellow s prof b len col := by
  obtain ⟨red, out⟩ | ⟨-, yellow, out⟩ | ⟨fits, both, out⟩ := police_cases s b len col named
  · simp [out, red]
  · simp [out, yellow]
  · simp [out, fits, both]

variable (s b len col) in
/-- What each colour takes. -/
theorem police_takes :
    let x := filledFor s prof b
    let out := police s prof b len col
    (out.1 = .red → out.2 = x) ∧ (out.1 = .yellow → out.2 = { x with p := x.p - tokens len }) ∧
      (out.1 = .green → out.2 = { x with p := x.p - tokens len, c := x.c - tokens len }) := by
  intro x out
  obtain ⟨-, taken⟩ | ⟨-, -, taken⟩ | ⟨-, -, taken⟩ := police_cases s b len col named
  · simp [out, taken, x]
  · simp [out, taken, x]
  · simp [out, taken, x]

/-- A frame takes its tokens only where they are. -/
theorem police_nonneg (hc : 0 ≤ b.c) (hp : 0 ≤ b.p) :
    0 ≤ (police s prof b len col).2.c ∧ 0 ≤ (police s prof b len col).2.p := by
  have c := filledFor_c_nonneg (s := s) (prof := prof) hc
  have p := filledFor_p_nonneg (s := s) (prof := prof) hp
  obtain ⟨-, out⟩ | ⟨fits, -, out⟩ | ⟨fits, both, out⟩ := police_cases s b len col named
  · rw [out]
    exact ⟨c, p⟩
  · rw [out]
    exact ⟨c, Int.sub_nonneg.mpr (Int.not_lt.mp (not_or.mp fits).2)⟩
  · rw [out]
    exact ⟨Int.sub_nonneg.mpr (Int.not_lt.mp (not_or.mp both).2), Int.sub_nonneg.mpr (Int.not_lt.mp (not_or.mp fits).2)⟩

end

/-- A colour-aware profile takes a frame as neither red nor yellow exactly if it comes green. -/
theorem comes_green_iff {aware : Bool} {col : Colour} :
    (aware = true → col = .green) ↔ ¬(aware = true ∧ col = .red) ∧ ¬(aware = true ∧ col = .yellow) := by
  cases aware <;> cases col <;> decide

/-- Settles O60: the tokens of the filled buckets and the colour a frame comes with decide which of the three colours it gets,
and each colour takes no more than is there. -/
theorem policerColours : Obligations.PolicerColours := by
  unfold Obligations.PolicerColours
  intro s prof len b col f x a out
  refine ⟨fun unnamed => if_pos unnamed, fun named => ?_⟩
  obtain ⟨red, yellow, green⟩ := police_takes s b len col named
  refine ⟨filledFor_c_le, filledFor_p_le, police_red_iff named, ?_, red, yellow, green, police_nonneg named,
    fun long => (police_red_iff named).mpr (.inr (filledFor_p_lt_tokens long)),
    fun long green => ((police_green_iff named).mp green).2 (.inr (filledFor_c_lt_tokens long))⟩
  calc out.1 = .green
    _ ↔ ¬PolicedRed s prof b len col ∧ ¬PolicedYellow s prof b len col := police_green_iff named
    _ ↔ (f.aware = true → col = .green) ∧ a ≤ x.p ∧ a ≤ x.c := by
      rw [PolicedRed, PolicedYellow, not_or, not_or, Int.not_lt, Int.not_lt, comes_green_iff, and_and_and_comm]
      rfl

end Sys2Proof.Machine
end

section
/-!
PROOFS. The traffic manager's accessors read what it and the line ports hold, and time and the arrival of a command leave that
(R284, R296, R301).
-/
namespace Sys2Proof.Machine
open Sys2Proof

/-! ### What the accessors depend on -/

section
variable {s t : State} (h : t.tm = s.tm)
include h

theorem srcCfg_congr (i : Nat) : srcCfg t i = srcCfg s i := by simp only [srcCfg, h]
theorem queueOf_congr (q : Nat) : queueOf t q = queueOf s q := by simp only [queueOf, h]
theorem gateOf_congr (o : Nat) : gateOf t o = gateOf s o := by simp only [gateOf, h]
theorem bankOf_congr (b : Nat) : bankOf t b = bankOf s b := by simp only [bankOf, h]

end

theorem packing_congr {s t : State} (h : t.lp = s.lp) : packing t = packing s := by
  simp only [packing, packetOn, State.port_congr h]

theorem lpOf_lpNum (p : Lp) : lpOf (lpNum p) = p := by cases p <;> rfl

/-- A change of a gate is what it makes of the gate as it stands. -/
theorem modGate_congr {o : Nat} {f g : Gate → Gate} {s : State} (h : f (gateOf s o) = g (gateOf s o)) :
    modGate o f s = modGate o g s :=
  congrArg (fun x => s.modTm fun m => { m with gates := SMap.set {} m.gates o x }) h

/-! ### Time and the arrival of a command leave them -/

@[simp] theorem srcCfg_ready (c : Cmd) (s : State) (i : Nat) : srcCfg (ready c s) i = srcCfg s i :=
  srcCfg_congr (ready_tm c s) i
@[simp] theorem queueOf_ready (c : Cmd) (s : State) (q : Nat) : queueOf (ready c s) q = queueOf s q :=
  queueOf_congr (ready_tm c s) q

@[simp] theorem packing_advance (dt : Nat) (s : State) : packing (advance dt s) = packing s := packing_congr (advance_lp dt s)
@[simp] theorem packetOn_advance (dt : Nat) (s : State) (p : Lp) : packetOn (advance dt s) p = packetOn s p := by
  simp only [packetOn, advance_port]
@[simp] theorem inService_advance (dt : Nat) (s : State) (p : Lp) : inService (advance dt s) p = inService s p := by
  simp only [inService, advance_port]
@[simp] theorem gateOf_advance (dt : Nat) (s : State) (o : Nat) : gateOf (advance dt s) o = gateOf s o :=
  gateOf_congr (advance_tm dt s) o
@[simp] theorem bankOf_advance (dt : Nat) (s : State) (b : Nat) : bankOf (advance dt s) b = bankOf s b :=
  bankOf_congr (advance_tm dt s) b

end Sys2Proof.Machine
end

section
/-!
PROOFS. The traffic manager's commands (R284, R288, R289, R300, R301, R307, R308, Table 11.6; log entry 37).
-/
namespace Sys2Proof.Machine
open Sys2Proof

/-- Where no word is out of range, each selected queue keeps YELLOW within MAX_DEPTH, and PIR 0 or at least CIR. -/
theorem queueCfgs_of_inRange {s : State} {t : Nat} {c : Cmd} (inRange : queueRangeBad s t c = none) :
    ∀ x ∈ queueCfgsOf s t c, x.yellow ≤ x.maxDepth ∧ (x.pir = 0 ∨ x.cir ≤ x.pir) := by
  simp only [queueRangeBad] at inRange
  split at inRange
  · cases inRange
  next yellow =>
    split at inRange
    · cases inRange
    next peak =>
      simp only [List.any_eq_true, Bool.and_eq_true, bne_iff_ne, ne_eq, decide_eq_true_eq, not_exists, not_and,
        Nat.not_lt] at yellow peak
      exact fun x hx => ⟨yellow x hx, Classical.or_iff_not_imp_left.mpr (peak x hx)⟩

theorem tmQueueConfigOp_run_of_inRange {s : State} {t : Nat} {c : Cmd} (inRange : queueRangeBad s t c = none) :
    tmQueueConfigOp.run s t c = okRes ((pickedQueues t c).foldl (setQueueCfg c) s)
      ([0, 0] ++ queueCfgWords ((queueCfgsOf s t c).getD 0 {})) := by
  simp only [tmQueueConfigOp, inRange]

/-- The entry of FLOW_WRITE (Table 11.3). -/
def writtenFlow (s : State) (c : Cmd) : Flow :=
  newFlow s (keyOf (c.w 3) (c.w 4)) (bits (c.w 5) 0 3) (bits (c.w 5) 8 6) (bits (c.w 5) 16 12) true

section
variable {s : State} {t : Nat} {c : Cmd}

theorem flowWriteOp_run_of_found {i : Nat} (found : findFlow s (keyOf (c.w 3) (c.w 4)) = some i) :
    flowWriteOp.run s t c = okRes (setFlow i (some (writtenFlow s c)) s) [w32 i, 1] := by
  simp only [flowWriteOp, found, writtenFlow]

theorem flowWriteOp_run_of_new (new : findFlow s (keyOf (c.w 3) (c.w 4)) = none) :
    flowWriteOp.run s t c = if flowMax ≤ flowCount s then refuse s stBadState 0x0100
      else okRes (setFlow (newIndex s).1 (some (writtenFlow s c)) (newIndex s).2) [w32 (newIndex s).1, 0] := by
  simp only [flowWriteOp, new, writtenFlow]

theorem flowReadOp_run_of_unnamed (unnamed : namedFlow s c = none) :
    flowReadOp.run s t c = refuse s stBadState 0x0101 := by
  simp only [flowReadOp, unnamed]

theorem flowReadOp_run_of_empty {i : Nat} (named : namedFlow s c = some i) (empty : flowAt s i = none) :
    flowReadOp.run s t c = refuse s stBadState 0x0101 := by
  simp only [flowReadOp, named, empty]

end

/-- Settles O43: each command is served on the manager or a host port; the flow table says which entry it acts on, or refuses. -/
theorem trafficCommandsRun : Obligations.TrafficCommandsRun := by
  unfold Obligations.TrafficCommandsRun
  intro c s
  simp -zeta only [← ready_tm c s, ← srcCfg_ready c s, ← queueOf_ready c s, ← ready_clk c s, ← ready_lp c s, ← ready_eng c s,
    ← ready_counters c s, ← ready_alarms c s]
  intro r k f ok no
  refine ⟨fun runs => exec_of_runs (op := tmConfigOp) runs rfl, fun runs => exec_of_runs (op := tmSourceConfigOp) runs rfl,
    fun runs => ⟨_, exec_of_runs (op := tmPolicerProfileOp) runs rfl, rfl, rfl, rfl, rfl, rfl, rfl, rfl, rfl⟩,
    fun i runs found => exec_of_runs (op := flowWriteOp) runs (flowWriteOp_run_of_found found),
    fun runs new => ?_,
    fun runs => ⟨fun unnamed => exec_of_badState (op := flowReadOp) runs (flowReadOp_run_of_unnamed unnamed),
      fun i named empty => exec_of_badState (op := flowReadOp) runs (flowReadOp_run_of_empty named empty),
      fun i x named entry => ?_⟩,
    fun runs => ⟨fun i one named => ?_, fun one unnamed => ?_, fun many => ?_⟩,
    fun runs => ?_, fun runs => exec_of_runs (op := tmQueueStatusOp) runs rfl,
    fun runs => exec_of_runs (op := tmGateConfigOp) runs rfl, fun runs => exec_of_runs (op := tmStatusOp) runs rfl,
    fun runs => ⟨fun manager => ?_, fun port => ?_⟩⟩
  · refine exec_of_guard (op := flowWriteOp) runs (fun full => (flowWriteOp_run_of_new new).trans (if_pos full)) fun room => ?_
    exact exec_of_runs (op := flowWriteOp) runs ((flowWriteOp_run_of_new new).trans (if_neg room))
  · refine exec_of_runs (op := flowReadOp) runs ?_
    simp only [flowReadOp, r, named, entry]
  · exact exec_of_runs (op := flowDeleteOp) runs ((if_pos one).trans (by simp only [r, named]))
  · exact exec_of_badState (op := flowDeleteOp) runs ((if_pos one).trans (by simp only [r, unnamed]))
  · exact exec_of_runs (op := flowDeleteOp) runs (if_neg (Nat.not_le.mpr many))
  · intro cfgs
    have inRange := unitBad_of_runs (op := tmQueueConfigOp) runs
    exact ⟨queueCfgs_of_inRange inRange,
      exec_of_runs (op := tmQueueConfigOp) runs (tmQueueConfigOp_run_of_inRange inRange)⟩
  · have answered := exec_of_runs (op := tmCountersOp) (f := .tmCounters) runs (if_pos manager)
    rwa [manager] at answered
  · exact exec_of_runs (op := tmCountersOp) runs (if_neg port)

end Sys2Proof.Machine
end

section
/-!
PROOFS. The traffic manager's frames, gates, samples and banks proceed (R286, R296, R298, R301, R303, R305, Table 11.10).
-/
namespace Sys2Proof.Machine
open Sys2Proof

section
variable {dt : Nat} {s : State} (hr : running (advance dt s) = true)
include hr

theorem exec_tmBankWakeDone_of_waking {b : Nat} (hb : b < 4) (waking : (bankOf s b).st = .waking) :
    exec (.tmBankWakeDone b dt) s = .next (modBank b (fun k =>
      { k with st := .awake, emptyFrom := k.emptyFrom.map fun _ => (advance dt s).hk }) (advance dt s)) := by
  simp only [exec, execTmBankWakeDone, bankOf_advance, hr, hb, waking, beq_self_eq_true, decide_true, Bool.and_self, if_true]

variable (clocked : s.tm.since.isSome = true)
include clocked

theorem exec_tmFrameArrival_of_host {src : Nat} {x : TmFrame} {full : Bool} (lane : src < 32) (packet : isPacket s src = true)
    (up : (s.hport src).st = .up) :
    exec (.tmFrameArrival src x full dt) s = .next (arriveHost src x full (advance dt s)) := by
  simp only [exec, execTmFrameArrival, advance_tm, isPacket_advance, advance_hport, hr, clocked, lane, packet, up,
    beq_self_eq_true, decide_true, Bool.and_self, if_true]

theorem exec_tmFrameArrival_of_line {p : Lp} {x : TmFrame} {full : Bool} (packet : packetOn s p = true)
    (inn : inService s p = true) :
    exec (.tmFrameArrival (64 + lpNum p) x full dt) s = .next (arriveLine p x full (advance dt s)) := by
  have line : (64 + lpNum p == 64 || 64 + lpNum p == 65) = true := by cases p <;> rfl
  have far : ¬64 + lpNum p < 32 := by omega
  simp only [exec, execTmFrameArrival, advance_tm, hr, clocked, line, far, Nat.add_sub_cancel_left, lpOf_lpNum,
    packetOn_advance, inService_advance, packet, inn, decide_false, Bool.false_and, Bool.false_eq_true, if_false,
    Bool.and_self, if_true]

theorem exec_tmFrameSelect_of_free {o : Nat} (ho : o < 66) (free : outputFree (advance dt s) o = true) :
    exec (.tmFrameSelect o dt) s = .next (selectFrame o (advance dt s)) := by
  simp only [exec, execTmFrameSelect, advance_tm, hr, clocked, ho, free, decide_true, Bool.and_self, if_true]

theorem exec_queueDepthSample_of_due (due : s.tm.sampleAt ≤ (advance dt s).hk) :
    exec (.queueDepthSample dt) s = .next (s.tm.queues.foldl (fun s e => modQueue e.1 (fun k =>
          { k with maxD := max k.maxD (depth k), sumD := k.sumD + depth k, maxS := max k.maxS (sojourn s k) }) s)
        ((advance dt s).modTm fun m =>
          { m with sampleAt := m.sampleAt + usT m.cfg.sampleUs, samples := m.samples + 1 })) := by
  simp only [exec, execQueueDepthSample, advance_tm, hr, clocked, due, decide_true, Bool.and_self, if_true]

theorem exec_tmBankSleep_of_idle {b t : Nat} (hb : b < 4) (packed : packing s = true) (awake : (bankOf s b).st = .awake)
    (empty : (bankOf s b).emptyFrom = some t) (idle : t + msT 1 ≤ (advance dt s).hk)
    (unneeded : keptAwake (advance dt s) 0x80 = false) :
    exec (.tmBankSleep b dt) s = .next (modBank b (fun k => { k with st := .asleep }) (advance dt s)) := by
  simp only [exec, execTmBankSleep, advance_tm, packing_advance, bankOf_advance, hr, clocked, hb, packed, awake, empty, idle,
    unneeded, beq_self_eq_true, decide_true, Bool.not_false, Bool.and_self, if_true]

theorem exec_tmPoolHighClearTimer_of_due (low : due s.tm.poolLow (advance dt s).hk = true) :
    exec (.tmPoolHighClearTimer dt) s =
      .next (clearAlarm 0x8911 0x80 0 [] ((advance dt s).modTm fun m => { m with poolLow := none })) := by
  simp only [exec, execTmPoolHighClearTimer, advance_tm, hr, clocked, low, Bool.and_self, if_true]

section
variable {o : Nat} (ho : o < 66) (gated : (gateOf s o).sched.express < 8) (entries : (gateOf s o).sched.entries ≠ [])
include ho gated entries

theorem exec_gateChange_of_restart {t : Nat} (restart : (gateOf s o).restartAt = some t) (late : t ≤ (advance dt s).hk) :
    exec (.gateChange o dt) s = .next (modGate o (fun g => { g with
      entry := 0, changeAt := t + nsT (entryNs g.sched 0), restartAt := none }) (advance dt s)) := by
  have listed := List.isEmpty_eq_false_iff.mpr entries
  simp only [exec, execGateChange, advance_tm, gateOf_advance, hr, clocked, ho, gated, listed, restart, due, late,
    Option.getD_some, decide_true, Bool.not_false, Bool.true_or, Bool.and_self, if_true]

theorem exec_gateChange_of_change (steady : (gateOf s o).restartAt = none) (late : (gateOf s o).changeAt ≤ (advance dt s).hk) :
    let g := gateOf s o
    let i := if g.entry + 1 < g.sched.entries.length then g.entry + 1 else 0
    exec (.gateChange o dt) s = .next (modGate o (fun g' => { g' with
      entry := i, changeAt := g.changeAt + nsT (entryNs g.sched i), restartAt := none }) (advance dt s)) := by
  intro g i
  have listed := List.isEmpty_eq_false_iff.mpr entries
  simp only [exec, execGateChange, advance_tm, gateOf_advance, hr, clocked, ho, gated, listed, steady, due, late,
    decide_true, Bool.not_false, Bool.false_or, Bool.and_self, Bool.false_eq_true, if_false, if_true]
  exact congrArg _ (modGate_congr (by simp only [gateOf_advance, steady, g, i]))

end
end

/-- Settles O44: each event meets its condition on the running device. -/
theorem trafficEventsRun : Obligations.TrafficEventsRun := by
  unfold Obligations.TrafficEventsRun
  intro src o b dt x full s hr a g
  exact ⟨fun clocked => ⟨exec_tmFrameArrival_of_host hr clocked, fun p => exec_tmFrameArrival_of_line hr clocked,
      exec_tmFrameSelect_of_free hr clocked, exec_queueDepthSample_of_due hr clocked⟩,
    fun clocked ho gated entries => ⟨fun t => exec_gateChange_of_restart hr clocked ho gated entries,
      exec_gateChange_of_change hr clocked ho gated entries⟩,
    fun t clocked hb packed awake empty idle => exec_tmBankSleep_of_idle hr clocked hb packed awake empty idle,
    exec_tmBankWakeDone_of_waking hr, exec_tmPoolHighClearTimer_of_due hr⟩

end Sys2Proof.Machine
end

section
/-!
PROOFS. What the protection unit holds of a line port and which engine serves it, and what an engine's change of state leaves of
the line ports (R311, R316).
-/
namespace Sys2Proof.Machine
open Sys2Proof

/-! ### What the accessors depend on -/

theorem State.protPort_congr {s t : State} (h : t.prot = s.prot) (p : Lp) : t.protPort p = s.protPort p := by
  cases p <;> simp only [State.protPort, h]

theorem aps_congr {s t : State} (h : t.prot = s.prot) (p : Lp) : t.aps p = s.aps p := by
  simp only [State.aps, State.protPort_congr h]

theorem servingEng_congr {s t : State} (h : t.eng = s.eng) (p : Lp) : servingEng t p = servingEng s p := by
  simp only [servingEng, State.engine_congr h]

theorem inTrack_congr {s t : State} (h : t.lp = s.lp) (p : Lp) : inTrack t p = inTrack s p := by
  simp only [inTrack, State.port_congr h]

/-! ### Time leaves them -/

theorem aps_advance (dt : Nat) (s : State) (p : Lp) : (advance dt s).aps p = s.aps p := aps_congr (advance_prot dt s) p

theorem disagrees_advance (dt : Nat) (s : State) (p : Lp) : disagrees (advance dt s) p = disagrees s p := by
  simp only [disagrees, shadowEng, anyChan, inService_advance, raised_advance, advance_port, advance_engine]

/-! ### An engine's change of state leaves the line ports and the time -/

theorem settlePerf_lp (e : Eng) (i : Nat) (s : State) : (settlePerf e i s).lp = s.lp := by rw [settlePerf_eq]

theorem checkIdle_lp (e : Eng) (s : State) : (checkIdle e s).lp = s.lp := by
  simp only [checkIdle]
  split
  · simp
  · split <;> simp

theorem setKernelSt_lp (e : Eng) (slot : Nat) (st : KernelSt) (cause : Nat) (s : State) :
    (setKernelSt e slot st cause s).lp = s.lp := by
  simp only [setKernelSt]
  split <;> simp

/-- A fold of operations each of which leaves the line ports. -/
theorem foldl_lp {α : Type} {f : State → α → State} (h : ∀ s a, (f s a).lp = s.lp) (l : List α) (s : State) :
    (l.foldl f s).lp = s.lp :=
  foldl_related (r := fun s t => t.lp = s.lp) (fun _ => rfl) (fun h k => k.trans h) h l s

theorem ite_lp {c : Prop} [Decidable c] {s t u : State} (h : t.lp = s.lp) (k : u.lp = s.lp) :
    (if c then t else u).lp = s.lp := by split <;> assumption

theorem allKernels_lp (e : Eng) (q : KernelSt → Bool) (st : KernelSt) (cause : Nat) (s : State) :
    (allKernels e q st cause s).lp = s.lp :=
  foldl_lp (fun u _ => ite_lp (setKernelSt_lp _ _ _ _ u) rfl) _ s

theorem setEngSt_lp (e : Eng) (st : EngSt) (s : State) : (setEngSt e st s).lp = s.lp := by
  unfold setEngSt
  refine ite_lp rfl ?_
  extract_lets run s1 s2 s3 s4 y pt s5
  have h2 : s2.lp = s.lp :=
    (ite_lp rfl (foldl_lp (fun u i => settlePerf_lp e i u) _ s1)).trans (ite_lp rfl rfl)
  have h4 : s4.lp = s3.lp :=
    ite_lp (allKernels_lp _ _ _ _ s3) (ite_lp (allKernels_lp _ _ _ _ s3) (allKernels_lp _ _ _ _ s3))
  have h5 : s5.lp = s.lp := (emit_lp _ _ _ s4).trans <| h4.trans <| (State.modEngine_lp s2 e _).trans h2
  exact ite_lp h5 ((checkIdle_lp e s5).trans h5)

theorem setEngSt_hk (e : Eng) (st : EngSt) (s : State) : (setEngSt e st s).hk = s.hk :=
  congrArg Prod.fst (engineFrame_setEngSt e st s)

theorem setEngSt_port (e : Eng) (st : EngSt) (s : State) (p : Lp) : (setEngSt e st s).port p = s.port p :=
  State.port_congr (setEngSt_lp e st s) p

end Sys2Proof.Machine
end

section
/-!
PROOFS. Engine faults, switch-overs, the return of an engine and burnishing proceed (R311 to R320, Tables 12.4 and 12.11; log
entries 44 and 88).
-/
namespace Sys2Proof.Machine
open Sys2Proof

/-! ### A COOL takeover begins to transmit (R316, R317) -/

/-- The stream of the port passes over the frames skipped since the cut: they are counted, FRAME_NUM and the block count move
on, the stream restarts, and COUNTER starts at RESERVED. -/
def skipFrames (p : Lp) (skipped : Nat) (s : State) : State :=
  let n := frameBlocks (cipherOn s p)
  let s := lpCount s p 0x0A22 skipped
  let s := s.modFrame p fun f => { f with txNum := (f.txNum + skipped) % 256, txBlock := f.txBlock + skipped * n }
  let (ws, s) := freeWs 9 s
  let s := s.modCod p fun c => { c with tx := { c.tx with
    n := c.tx.n + skipped, restart := true, tail := if skipped = 0 then c.tx.tail else wordBits ws } }
  s.modCrypto p fun k => if k.tx.isSome then { k with txCounter := k.reserved } else k

section
variable (p : Lp) (skipped : Nat) (s : State)

theorem freeWs_port (n : Nat) (q : Lp) : (freeWs n s).2.port q = s.port q := State.port_congr rfl q

theorem skipFrames_txNum :
    ((skipFrames p skipped s).port p).frame.txNum = ((s.port p).frame.txNum + skipped) % 256 := by
  simp [skipFrames, freeWs_port]

theorem skipFrames_restart : ((skipFrames p skipped s).port p).cod.tx.restart = true := by simp [skipFrames]

theorem skipFrames_txCounter : ((skipFrames p skipped s).port p).crypto.txCounter =
    if (s.port p).crypto.tx.isSome then (s.port p).crypto.reserved else (s.port p).crypto.txCounter := by
  simp only [skipFrames, State.port_modCrypto, State.port_modCod, State.port_modFrame, freeWs_port, lpCount_port, if_true]
  split <;> rfl

theorem skipFrames_other : (skipFrames p skipped s).port p.other = s.port p.other := by
  simp [skipFrames, freeWs_port, Lp.other_ne]

theorem skipFrames_keeps : (skipFrames p skipped s).hk = s.hk ∧ (skipFrames p skipped s).prot = s.prot ∧
    (skipFrames p skipped s).eng = s.eng ∧ (skipFrames p skipped s).alarms = s.alarms := by
  have counted := sends_lpCount s p 0x0A22 skipped
  simp [skipFrames, freeWs, counted.hk, counted.prot, counted.eng, counted.alarms_eq]

end

/-- A note of what the DACs carry changes the tap alone. -/
theorem noteDac_eq_modTap (p : Lp) (s : State) : ∃ f, noteDac p s = s.modTap p f := by
  simp only [noteDac]
  split
  · exact ⟨_, rfl⟩
  · exact ⟨id, by cases p <;> rfl⟩

@[simp] theorem noteDac_eng (p : Lp) (s : State) : (noteDac p s).eng = s.eng := by
  obtain ⟨f, note⟩ := noteDac_eq_modTap p s
  rw [note, State.modTap_eng]

@[simp] theorem noteDac_alarms (p : Lp) (s : State) : (noteDac p s).alarms = s.alarms := by
  obtain ⟨f, note⟩ := noteDac_eq_modTap p s
  rw [note, State.modTap_alarms]

@[simp] theorem noteDac_protPort (p q : Lp) (s : State) : (noteDac p s).protPort q = s.protPort q := by
  obtain ⟨f, note⟩ := noteDac_eq_modTap p s
  exact State.protPort_congr (by rw [note]; exact State.modConv_prot s p _) q

/-- The note leaves the stream of its port and the other port. -/
theorem noteDac_port (p : Lp) (s : State) : ((noteDac p s).port p).frame = (s.port p).frame ∧
    ((noteDac p s).port p).cod = (s.port p).cod ∧ ((noteDac p s).port p).crypto = (s.port p).crypto ∧
    (noteDac p s).port p.other = s.port p.other := by
  obtain ⟨f, note⟩ := noteDac_eq_modTap p s
  simp [note, Lp.other_ne]

/-- The switch-over of the port goes on to ACQUIRING: the marker is the frame that the stream now begins with. -/
def transmitResumed (p : Lp) (skipped : Nat) (s : State) : State :=
  let u := skipFrames p skipped s
  noteDac p (modTk p (fun t => { t with step := .acquiring, marker := (u.port p).frame.txNum, resumed := u.hk }) u)

theorem modTk_port (p q : Lp) (f : Takeover → Takeover) (s : State) : (modTk p f s).port q = s.port q :=
  State.port_congr (State.modProtPort_lp s p _) q

theorem transmitResumed_stream (p : Lp) (skipped : Nat) (s : State) :
    let u := transmitResumed p skipped s
    (u.port p).frame.txNum = ((s.port p).frame.txNum + skipped) % 256 ∧ (u.port p).cod.tx.restart = true ∧
      (u.port p).crypto.txCounter =
        (if (s.port p).crypto.tx.isSome then (s.port p).crypto.reserved else (s.port p).crypto.txCounter) ∧
      u.port p.other = s.port p.other := by
  intro u
  obtain ⟨frame, cod, crypto, other⟩ := noteDac_port p (modTk p (fun t => { t with
    step := .acquiring, marker := ((skipFrames p skipped s).port p).frame.txNum, resumed := (skipFrames p skipped s).hk })
    (skipFrames p skipped s))
  simp only [u, transmitResumed, frame, cod, crypto, other, modTk_port]
  exact ⟨skipFrames_txNum p skipped s, skipFrames_restart p skipped s, skipFrames_txCounter p skipped s,
    skipFrames_other p skipped s⟩

theorem transmitResumed_tk {p : Lp} {t : Takeover} {s : State} (tk : (s.protPort p).tk = some t) (skipped : Nat) :
    ((transmitResumed p skipped s).protPort p).tk = some { t with
      step := .acquiring, marker := ((s.port p).frame.txNum + skipped) % 256, resumed := s.hk } := by
  obtain ⟨hk, prot, -, -⟩ := skipFrames_keeps p skipped s
  simp only [transmitResumed, noteDac_protPort, modTk, State.protPort_modProtPort, if_true, State.protPort_congr prot, tk,
    Option.map_some, skipFrames_txNum, hk]

theorem transmitResumed_keeps (p : Lp) (skipped : Nat) (s : State) :
    (transmitResumed p skipped s).eng = s.eng ∧ (transmitResumed p skipped s).alarms = s.alarms := by
  obtain ⟨-, -, eng, alarms⟩ := skipFrames_keeps p skipped s
  simp only [transmitResumed, noteDac_eng, noteDac_alarms, modTk, State.modProtPort_eng, State.modProtPort_alarms, eng, alarms,
    and_self]

/-! ### Burnishing starts and goes from phase to phase (R320, Table 12.4) -/

/-- A due period starts burnishing: it is enabled, LES stands idle, and no burnishing, switch-over or return runs. -/
def burnStarts (s : State) : Bool :=
  s.prot.burn.enable == 1 && s.pr.power == .service && s.eng.les.st == .cool && s.eng.les.move == .none && !s.eng.les.held
    && spareAvailable s && !burnRuns s && !tkRuns s && s.prot.restore.isNone

/-- What the end of a burnishing phase does. -/
def phaseEnded : BurnPhase → State → State
  | .none, s => s
  | .acquire, s => pump (lesToCool (stopBurn 2 s))
  | .shadow, s => pump (modBurn (passPhase s) fun b => { b with phase := .loop, phaseEnd := s.hk + msT 20, phaseMm := 0 })
  | .loop, s => pump (modBurn (passPhase s) fun b => { b with phase := .leave, phaseEnd := s.hk + usT 10 })
  | .leave, s => pump (burnLeave s)

section
variable {p : Lp} {e : Eng} {dt : Nat} {s : State} (hr : running (advance dt s) = true)
include hr

/-! ### A cause is found (R311 to R313, Table 12.11) -/

theorem exec_engineFaultDetected_of_reported {cause : Nat} (reported : cause = 0 ∨ cause = 1 ∨ cause = 4 ∨ cause = 5) :
    exec (.engineFaultDetected e cause dt) s = .next (pump (engineFault e cause false true true (advance dt s))) := by
  simp only [exec, execEngineFaultDetected, hr]
  obtain rfl | rfl | rfl | rfl := reported <;> rfl

/-- The engine's own AVAIL is short for the port that it serves or shadows (R80). -/
theorem exec_engineFaultDetected_of_short {q : Lp}
    (port : (if (s.engine e).serves.isSome then (s.engine e).serves else if e = .les ∧ (s.engine e).burnish = true then none
      else (s.engine e).shadows) = some q)
    (short : availOf (s.engine e) < reachCost (s.port q).mode.granted.reach + 4) :
    exec (.engineFaultDetected e 2 dt) s = .next (pump (engineFault e 2 false true true (advance dt s))) := by
  simp only [exec, execEngineFaultDetected, advance_engine, advance_port, hr, port, short]
  rfl

theorem exec_engineHeartbeatMissing_of_running :
    exec (.engineHeartbeatMissing e dt) s = .next (pump (engineFault e 3 false true true (advance dt s))) := by
  simp only [exec, execEngineHeartbeatMissing, hr, if_true]

theorem exec_sfDisagreeTimer_of_due (held : due (s.protPort p).disagree (advance dt s).hk = true)
    (disagree : disagrees s p = true) (serves : servingEng s p = some e) :
    exec (.sfDisagreeTimer p dt) s = .next (pump (engineFault e 6 false true true
      ((advance dt s).modProtPort p fun x => { x with disagree := none }))) := by
  simp only [exec, execSfDisagreeTimer, advance_protPort, disagrees_advance, servingEng_advance, hr, held, disagree, serves,
    Bool.and_self, if_true]

/-! ### The steps of a switch-over (R315, R316) -/

section
variable {t : Takeover} (tk : (s.protPort p).tk = some t)
include tk

theorem exec_switchoverCut_of_decided (decided : t.step = .decided)
    (late : t.cause = 4 ∨ t.decided + dpT 8 ≤ (advance dt s).hk) :
    exec (.switchoverCut p dt) s = .next (pump (refreshPort p (
      if t.kind = 2 then cutCool p t (tapEvent p 2 (holdDac p (advance dt s)))
      else cutWarm p t (tapEvent p 2 (holdDac p (advance dt s)))))) := by
  have cut : (t.cause == 4 || decide (t.decided + dpT 8 ≤ (advance dt s).hk)) = true := by simpa using late
  simp only [exec, execSwitchoverCut, advance_protPort, tk, hr, decided, cut, beq_self_eq_true, Bool.and_self, if_true]

theorem exec_warmGapEnd_of_gap (gap : t.step = .gap) (late : t.cut + dpT 80 ≤ (advance dt s).hk) :
    let a := advance dt s
    let b := modTk p (fun t => { t with step := .window, marker := (s.port p).frame.txNum, resumed := a.hk })
      (setEngSt t.inn .active a)
    let u := b.modDsp p fun d =>
      if d.spareAcq.st = .idle then d
      else { d with acq := d.spareAcq, spareAcq := {}, recv := d.spareRecv,
                    est := { d.spareEst with updates := d.est.updates } }
    exec (.warmGapEnd p dt) s = .next (pump (refreshPort p
      (if inTrack s p = false ∧ inTrack u p = true then acquireDone p .track u else u))) := by
  intro a b u
  have lp : b.lp = s.lp :=
    (State.modProtPort_lp _ p _).trans ((setEngSt_lp t.inn .active a).trans (advance_lp dt s))
  have regained : (!inTrack b p && inTrack u p) = true ↔ inTrack s p = false ∧ inTrack u p = true := by
    simp [inTrack_congr lp]
  simp only [← regained, u, b, a]
  simp only [exec, execWarmGapEnd, advance_protPort, tk, hr, gap, late, setEngSt_port, setEngSt_hk, advance_port,
    beq_self_eq_true, decide_true, Bool.and_self, if_true]

theorem exec_dualActiveWindowEnd_of_window (window : t.step = .window) (known : t.windowEnd ≠ 0)
    (late : t.windowEnd ≤ (advance dt s).hk) :
    exec (.dualActiveWindowEnd p dt) s = .next (endTk p t 80 false (lpCount (clearOutgoing p (switchOut t
      ((advance dt s).modEngine t.inn fun x => { x with dualActive := false }))) p 0x0A20 1)) := by
  have ended : (t.windowEnd != 0) = true := bne_iff_ne.mpr known
  simp only [exec, execDualActiveWindowEnd, advance_protPort, tk, hr, window, ended, late, beq_self_eq_true, decide_true,
    Bool.and_self, if_true]

theorem exec_coolTakeoverLesReleased_of_hold (hold : t.step = .hold) :
    let b := (modTk p (fun t => { t with step := .released }) (setEngSt t.inn .active (advance dt s))).modEngine t.inn fun x =>
      { x with startup := some none }
    let u := checkIdle t.inn (replaceRoles t.inn b)
    exec (.coolTakeoverLesReleased p dt) s = .next (if (u.port p).dsp.acq.st = .profileLoad then
      enterAcq p false .freqAcq (loadProfile p false u) else u) := by
  simp only [exec, execCoolTakeoverLesReleased, advance_protPort, tk, hr, hold, beq_self_eq_true, Bool.and_self, if_true]

theorem exec_coolTakeoverTransmit_of_released (released : t.step = .released) (skipped : Nat) :
    exec (.coolTakeoverTransmit p skipped dt) s = .next (transmitResumed p skipped (advance dt s)) := by
  simp only [exec, execCoolTakeoverTransmit, advance_protPort, tk, hr, released, beq_self_eq_true, Bool.and_self, if_true]
  rfl

end

/-! ### The return of an engine (R319) -/

theorem exec_engineRestoreSelfTestDone_of_test {r : Restore} (restores : s.prot.restore = some r) (own : r.e = e)
    (tested : r.stage = .test) (pass : Bool) :
    exec (.engineRestoreSelfTestDone e pass dt) s = .next (if pass then pump (testPassed e (advance dt s))
      else pump (finishRestore 2 (setEngSt e .cold ((advance dt s).modEngine e fun x => { x with move := .gating })))) := by
  simp only [exec, execEngineRestoreSelfTestDone, advance_prot, restores, hr, own, tested, beq_self_eq_true, Bool.and_self,
    if_true]

/-! ### Burnishing (R320, Table 12.4) -/

theorem exec_burnishPeriodTimer_of_due (ends : due s.prot.burn.next (advance dt s).now = true) :
    let b := s.prot.burn
    let u := modBurn (advance dt s) fun b => { b with next := b.next.map fun t => t + secT b.period }
    let idle := s.eng.les.st == .cool && s.eng.les.move == .none && !s.eng.les.held && spareAvailable u
    exec (.burnishPeriodTimer dt) s = .next (if b.enable = 1 ∧ s.pr.power = .service ∧ idle = true ∧ b.phase = .none ∧
      tkRuns u = false ∧ s.prot.restore = none then pump (startBurn (burnPorts u) u) else u) := by
  intro b u idle
  have starts : burnStarts u = true ↔
      b.enable = 1 ∧ s.pr.power = .service ∧ idle = true ∧ b.phase = .none ∧ tkRuns u = false ∧ s.prot.restore = none := by
    simp [burnStarts, u, b, idle, modBurn, burnRuns, and_assoc]
  have arm : exec (.burnishPeriodTimer dt) s = .next (
      if running (advance dt s) && due (advance dt s).prot.burn.next (advance dt s).now then
        if burnStarts u then pump (startBurn (burnPorts u) u) else u
      else advance dt s) := rfl
  rw [arm, advance_prot]
  simp only [hr, ends, Bool.and_self, if_true, starts]

theorem exec_burnishPhaseEnd_of_late (late : s.prot.burn.phaseEnd ≤ (advance dt s).hk) :
    exec (.burnishPhaseEnd dt) s = .next (phaseEnded s.prot.burn.phase (advance dt s)) := by
  simp only [exec, execBurnishPhaseEnd, advance_prot, hr, late, decide_true, Bool.and_self, if_true]
  cases s.prot.burn.phase <;> rfl

end

/-- Settles O46: each event meets its condition on the running device; what the burnishing phase and the switch-over's step are
says what follows. -/
theorem switchoversRun : Obligations.SwitchoversRun := by
  unfold Obligations.SwitchoversRun
  intro p e cause skipped dt pass t s hr a b
  refine ⟨exec_engineFaultDetected_of_reported hr, fun q => exec_engineFaultDetected_of_short hr,
    exec_engineHeartbeatMissing_of_running hr, exec_sfDisagreeTimer_of_due hr,
    fun tk => ⟨exec_switchoverCut_of_decided hr tk, exec_warmGapEnd_of_gap hr tk, exec_dualActiveWindowEnd_of_window hr tk,
      exec_coolTakeoverLesReleased_of_hold hr tk, fun released => ?_⟩,
    fun r restores own tested => exec_engineRestoreSelfTestDone_of_test hr restores own tested pass,
    exec_burnishPeriodTimer_of_due hr, fun late => ?_⟩
  · obtain ⟨txNum, restart, txCounter, other⟩ := transmitResumed_stream p skipped a
    obtain ⟨eng, alarms⟩ := transmitResumed_keeps p skipped a
    have resumed := transmitResumed_tk ((congrArg ProtPort.tk (advance_protPort dt s p)).trans tk) skipped
    simp only [a, advance_port, advance_eng, advance_alarms] at txNum txCounter other eng alarms resumed
    exact ⟨_, exec_coolTakeoverTransmit_of_released hr tk released skipped, txNum, restart, txCounter, resumed, other, eng,
      alarms⟩
  · have phase := exec_burnishPhaseEnd_of_late hr late
    exact ⟨fun acquire => by rw [phase, acquire]; rfl, fun shadow => by rw [phase, shadow]; rfl,
      fun loop => by rw [phase, loop]; rfl, fun leave => by rw [phase, leave]; rfl⟩

end Sys2Proof.Machine
end

section
/-!
PROOFS. Parity errors and replays, memory errors and scrub passes, the timers of a mate-pair group and the return of tested
spindles proceed (R323 to R330, Tables 12.5 and 12.6; log entries 93 and 94).
-/
namespace Sys2Proof.Machine
open Sys2Proof

/-! ### A word with a parity error (R324, Table 12.5) -/

/-- The directions of a word that is lost: those of its line, and both where the event does not tell. -/
def lostDirs (l : ParityLink) : Bool × Bool :=
  match l with | .engine _ i => if i < 4 then linkDirs l false else (true, true) | _ => (true, true)

/-- The word is not replayed, and its error persists. -/
def wordLost (l : ParityLink) (k : Nat) (s : State) : State :=
  pump (parityPersist l (k != 0) (lostDirs l).1 (lostDirs l).2 s)

/-- The producer sends the word again, 8 cycles later. -/
def wordReplayed (l : ParityLink) (k : Nat) (s : State) : State :=
  linkCount l 0x0A10 ((match l with | .engine e _ => excludeFrame e s | _ => s).modProt fun x => { x with
    replays := x.replays ++ [(linkKey l, s.hk + dpT 8, k)],
    lastReplay := SMap.set 0 x.lastReplay (linkKey l) (s.hk + 1) })

theorem memRuns_advance (dt : Nat) (s : State) (id target : Nat) :
    memRuns (advance dt s) id target = memRuns s id target := by
  simp only [memRuns, engRuns_advance]

section
variable {dt : Nat} {s : State} (hr : running (advance dt s) = true)
include hr

/-- The word is lost where the producer holds it no longer, or the last replay on the link is less than 64 cycles old. -/
theorem exec_parityErrorDetected_of_runs {l : ParityLink} (runs : linkRuns (advance dt s) l = true) (held : Bool) :
    let a := advance dt s
    let k := parityInjected a l
    let u := useParity l k a
    let last := SMap.get 0 u.prot.lastReplay (linkKey l)
    exec (.parityErrorDetected l held dt) s = .next (
      if !held || (last != 0 && decide (u.hk < last - 1 + dpT 64)) then wordLost l k u else wordReplayed l k u) := by
  intro a k u last
  have crossed : (running a && linkRuns a l) = true := Bool.and_eq_true_iff.mpr ⟨hr, runs⟩
  exact congrArg Host.Outcome.next (if_pos crossed)

theorem exec_replayReceived_of_due {l : ParityLink} {x : Nat × Nat × Nat} {rest : List (Nat × Nat × Nat)}
    (first : takeFirst (fun x => x.1 == linkKey l && decide (x.2.1 ≤ (advance dt s).hk)) s.prot.replays = some (x, rest))
    (bad tx : Bool) :
    let u := (advance dt s).modProt fun x => { x with replays := rest }
    exec (.replayReceived l bad tx dt) s = .next (if bad || x.2.2 == 2 then
      pump (parityPersist l (x.2.2 != 0) (linkDirs l tx).1 (linkDirs l tx).2 u) else u) := by
  simp only [exec, execReplayReceived, advance_prot, first, hr, if_true]

theorem exec_parityPersistClearTimer_of_due {tg : Nat}
    (ends : due (SMap.get none s.prot.persist tg) (advance dt s).hk = true) :
    exec (.parityPersistClearTimer tg dt) s = .next (pump (clearAlarm 0x8A12 tg 0 [0]
      ((advance dt s).modProt fun x => { x with persist := SMap.set none x.persist tg none }))) := by
  simp only [exec, execParityPersistClearTimer, advance_prot, hr, ends, Bool.and_self, if_true]

/-! ### Memories (R325, R326, Table 12.6) -/

theorem exec_memoryErrorDetected_of_runs {m : MemErr} (unit : memUnitOk m.id m.target = true)
    (runs : memRuns s m.id m.target = true) :
    exec (.memoryErrorDetected m dt) s = .next (pump (memoryError m (advance dt s))) := by
  simp only [exec, execMemoryErrorDetected, memRuns_advance, hr, unit, runs, Bool.and_self, if_true]

theorem exec_scrubPass_of_due {id tg t : Nat} (period : scrubPeriod id = some t) (unit : memUnitOk id tg = true)
    (runs : memRuns s id tg = true)
    (passes : SMap.get 0 s.prot.scrubs (id * 256 + tg) = 0 ∨
      SMap.get 0 s.prot.scrubs (id * 256 + tg) - 1 + t ≤ (advance dt s).hk) (ms : List MemErr) :
    let a := advance dt s
    let u := (s.prot.checker.filter fun w => w.1 == id && w.2.1 == tg && stands a w).foldl (fun s w => checkerRead w s) a
    let v := (ms.filter fun m => m.id == id && m.target == tg).foldl (fun s m => memoryError m s) u
    exec (.scrubPass id tg ms dt) s = .next (pump (v.modProt fun x => { x with
      scrubs := SMap.set 0 x.scrubs (id * 256 + tg) (v.hk + 1) })) := by
  have due : (SMap.get 0 s.prot.scrubs (id * 256 + tg) == 0 ||
      decide (SMap.get 0 s.prot.scrubs (id * 256 + tg) - 1 + t ≤ (advance dt s).hk)) = true := by simpa using passes
  simp only [exec, execScrubPass, advance_prot, memRuns_advance, period, hr, unit, runs, due, Bool.and_self, if_true]

/-! ### The timers of a mate-pair group (R328 to R330) -/

section
variable {p : Lp}

theorem exec_apsHoldOffExpiry_of_running : exec (.apsHoldOffExpiry p dt) s =
    .next (pump (apsExpire p (s.port p).frame.sf (s.port p).frame.sd (advance dt s))) := by
  simp only [exec, execApsHoldOffExpiry, advance_port, hr, if_true]

theorem exec_apsWtrExpiry_of_due (ends : due (s.aps p).wtr (advance dt s).now = true) : exec (.apsWtrExpiry p dt) s =
    .next (pump (apsRefresh p ((advance dt s).modAps p fun x => { x with wtr := none }))) := by
  simp only [exec, execApsWtrExpiry, aps_advance, hr, ends, Bool.and_self, if_true]

/-- Whether the groups disagree does not depend on the timer. -/
theorem exec_apsMismatchTimer_of_due (ends : due (s.aps p).mismatch (advance dt s).hk = true) :
    exec (.apsMismatchTimer p dt) s = .next (pump (apsDecide p (alarmIf (apsDisagrees (s.aps p)) 0x8A14 (lpT p) 0 []
      ((advance dt s).modAps p fun x => { x with mismatch := none })))) := by
  have same : apsDisagrees (((advance dt s).modAps p fun x => { x with mismatch := none }).aps p) =
      apsDisagrees (s.aps p) := by
    simp only [State.aps, State.modAps, State.protPort_modProtPort, if_true, advance_protPort, apsDisagrees]
  simp only [exec, execApsMismatchTimer, aps_advance, hr, ends, same, Bool.and_self, if_true]

theorem exec_injectedApsSfExpiry_of_due (ends : due (s.aps p).injSf (advance dt s).hk = true) :
    exec (.injectedApsSfExpiry p dt) s =
      .next (pump (apsRefresh p ((advance dt s).modAps p fun x => { x with injSf := none }))) := by
  simp only [exec, execInjectedApsSfExpiry, aps_advance, hr, ends, Bool.and_self, if_true]

end

/-! ### Spindles that passed their self-test return (R323) -/

theorem exec_protSpindleRestoreDone_of_first {e : Eng} {x : Eng × List Nat} {rest : List (Eng × List Nat)}
    (first : takeFirst (fun x => x.1 == e) s.prot.spindles = some (x, rest)) (passed : List Nat) :
    let back := x.2.filter fun i => passed.contains i && (spnOf s e i).role == 6
    let u := back.foldl (spindleBack e) ((advance dt s).modProt fun x => { x with spindles := rest })
    exec (.protSpindleRestoreDone e passed dt) s = .next (pump (completeUnit 0x0A05 (engT e) stOk 0 (spindleWords back)
      (if back.isEmpty then u else checkIdle e (askResolve 2 u)))) := by
  simp only [exec, execProtSpindleRestoreDone, advance_prot, spnOf_advance, first, hr, if_true]

end

/-- Settles O47: each event meets its condition on the running device; whether the producer holds the word, and how old the last
replay on the link is, say what a parity error does. -/
theorem integrityEventsRun : Obligations.IntegrityEventsRun := by
  unfold Obligations.IntegrityEventsRun
  intro p e l m ms tx bad id tg dt passed s hr a key
  refine ⟨fun runs => ?_,
    fun x rest first => exec_replayReceived_of_due hr first bad tx, exec_parityPersistClearTimer_of_due hr,
    exec_memoryErrorDetected_of_runs hr, fun t period unit runs passes => exec_scrubPass_of_due hr period unit runs passes ms,
    exec_apsHoldOffExpiry_of_running hr, exec_apsWtrExpiry_of_due hr, exec_apsMismatchTimer_of_due hr,
    exec_injectedApsSfExpiry_of_due hr, fun x rest first => exec_protSpindleRestoreDone_of_first hr first passed⟩
  intro k u v last d lost
  have detected := exec_parityErrorDetected_of_runs hr runs
  refine ⟨fun old => ?_, fun replayed recent => ?_, detected false⟩
  · have fresh : ¬ (!true || (last != 0 && decide (u.hk < last - 1 + dpT 64))) = true := by
      simp only [Bool.not_true, Bool.false_or, Bool.and_eq_true, bne_iff_ne, decide_eq_true_eq, not_and, Nat.not_lt]
      exact fun replayed => old.resolve_left replayed
    exact (detected true).trans (congrArg _ (if_neg fresh))
  · have young : (!true || (last != 0 && decide (u.hk < last - 1 + dpT 64))) = true := by simp [replayed, recent]
    exact (detected true).trans (congrArg _ (if_pos young))

end Sys2Proof.Machine
end

section
/-!
PROOFS. The protection commands (R319, R323, R326, R327, R336, R337, Table 12.14; log entries 5, 90, 91 and 93).
-/
namespace Sys2Proof.Machine
open Sys2Proof

/-! ### The arrival of a command leaves what the protection unit reads -/

theorem protPort_ready (c : Cmd) (s : State) (p : Lp) : (ready c s).protPort p = s.protPort p :=
  State.protPort_congr (ready_prot c s) p
theorem aps_ready (c : Cmd) (s : State) (p : Lp) : (ready c s).aps p = s.aps p := aps_congr (ready_prot c s) p
theorem injPending_ready (c : Cmd) (s : State) (k : Nat) : injPending (ready c s) k = injPending s k := by
  simp only [injPending, ready_prot]
theorem inService_ready (c : Cmd) (s : State) (p : Lp) : inService (ready c s) p = inService s p := by
  simp only [inService, ready_port]
theorem servingEng_ready (c : Cmd) (s : State) (p : Lp) : servingEng (ready c s) p = servingEng s p :=
  servingEng_congr (ready_eng c s) p
theorem spareAvailable_ready (c : Cmd) (s : State) : spareAvailable (ready c s) = spareAvailable s := by
  simp only [spareAvailable, spareDegraded, raised_ready, ready_eng]
theorem spareKind_ready (c : Cmd) (s : State) (p : Lp) : spareKind (ready c s) p = spareKind s p := by
  simp only [spareKind, spareAvailable_ready, ready_eng, ready_prot, ready_port]

/-! ### What the units answer -/

/-- The seconds to the next burnishing; while none is scheduled, the next free value (log entry 5). -/
def burnSeconds (s : State) : Word × State :=
  match s.prot.burn.next with | some t => (w32 ((t - s.now) / secT 1), s) | none => freeW s

/-- The age of the last mate APS message; before the first, the next free value (log entry 5). -/
def mateApsAge (s : State) : Word × State :=
  match s.mate.apsAt with | some t => (w32 ((s.hk - t) / usT 1), s) | none => freeW s

section
variable {s : State} {t : Nat} {c : Cmd}

theorem protStatusOp_run_les : protStatusOp.run s 0x1A c =
    okRes (burnSeconds s).2 [w32 (spareStatus s), (burnSeconds s).1, w32 s.prot.burn.phaseMm] := by
  cases next : s.prot.burn.next <;> simp only [protStatusOp, burnSeconds, next] <;> rfl

theorem protStatusOp_run_mate : protStatusOp.run s 0x90 c =
    okRes (mateApsAge s).2 [w32 (onBit (mateSilent s) 0 + onBit (!isPrimary s) 1), (mateApsAge s).1] := by
  cases heard : s.mate.apsAt <;> simp only [protStatusOp, mateApsAge, heard] <;> rfl

section
variable (inn : inService s (lpOfT t) = true) (steady : tkRuns s = false)
include inn steady

/-- The serving engine and the kind of takeover that the spare can make decide PROT_ENGINE_SWITCH (log entry 91). -/
theorem protEngineSwitchOp_run_of_unspared (unspared : servingEng s (lpOfT t) = none ∨ servingEng s (lpOfT t) = some .les ∨
    spareKind s (lpOfT t) = none) : protEngineSwitchOp.run s t c = refuse s stBadState 0x0100 := by
  simp only [protEngineSwitchOp, inn, steady, Bool.not_true, Bool.false_eq_true, if_false]
  obtain unserved | spared | unable := unspared
  · rw [unserved]
  · rw [spared]; cases spareKind s (lpOfT t) <;> rfl
  · rw [unable]; cases servingEng s (lpOfT t) <;> rfl

theorem protEngineSwitchOp_run_of_spared {k : Nat} {g : Eng} (serves : servingEng s (lpOfT t) = some g) (home : g ≠ .les)
    (spare : spareKind s (lpOfT t) = some k) : protEngineSwitchOp.run s t c = 
      { st := beginTk (lpOfT t) k g .les 7 false (if k = 1 then endBurn 2 s else stopBurn 2 s), settled := false } := by
  simp only [protEngineSwitchOp, inn, steady, serves, spare, home, Bool.not_true, Bool.false_eq_true, if_false]

end

/-- A held engine is powered up where it is COLD, and else tested; so is LES where it is degraded (R319). -/
theorem protEngineRestoreOp_run_of_held (steady : ¬ (tkRuns s || s.prot.restore.isSome) = true)
    (held : ¬ ((s.engine (engOfT t)).held || (engOfT t == .les && spareDegraded s)) = false) :
    let u := s.modProt fun y => { y with restore := some { e := engOfT t, stage := .power } }
    let v := if (s.engine (engOfT t)).st = .cold then
        (if (s.engine (engOfT t)).move = .none then u.modEngine (engOfT t) fun x => { x with move := .toCool } else u)
      else beginTest (stopBurn 2 u)
    protEngineRestoreOp.run s t c = { st := v, settled := false } := by
  simp only [Bool.not_eq_true, Bool.not_eq_false] at steady held
  simp only [protEngineRestoreOp, steady, held, Bool.not_true, Bool.false_eq_true, if_false]

end

/-! ### PROT_INJECT (R327, Table 12.7; log entry 93) -/

theorem exec_protInject_of_runs {c : Cmd} {s t : State} {ws : List Word} (h : Runs protInjectOp c s)
    (r : protInjectOp.run (ready c s) c.target c = okRes t ws) :
    exec (.protInject c) s = .next (pump (protInjectOp.after (reply 0x0A08 c stOk 0 ws t) c)) := by
  have row : exec (.protInject c) s = .next (serve protInjectOp c s) := rfl
  rw [row, serve_ok h r]
  rfl

/-- A kind that is counted up waits in the state, and nothing follows the reply. -/
theorem exec_protInject_of_counted {c : Cmd} {s : State} (h : Runs protInjectOp c s)
    (valid : injectValid (c.w 3) (c.w 4) c.target = true) (h4 : c.w 3 ≠ 4) (h6 : c.w 3 ≠ 6) :
    let r := ready c s
    let k := injKey (c.w 3) c.target (if c.w 3 ≤ 3 then c.w 4 else 0)
    exec (.protInject c) s = .next (okFrom 0x0A08 c [w32 (injPending r k + c.w 5)]
      (r.modProt fun x => { x with inject := SMap.set 0 x.inject k (injPending r k + c.w 5) })) := by
  intro r k
  have counted : protInjectOp.run r c.target c = okRes
      (r.modProt fun x => { x with inject := SMap.set 0 x.inject k (injPending r k + c.w 5) })
      [w32 (injPending r k + c.w 5)] := by
    simp only [protInjectOp, valid, h4, h6, k, Bool.not_true, Bool.false_eq_true, if_false]
  simp only [exec_protInject_of_runs h counted, protInjectOp, h4, h6, if_false, okFrom]

/-- An injected signal fail of a group counts at once (kind 6). -/
theorem exec_protInject_of_signalFail {c : Cmd} {s : State} (h : Runs protInjectOp c s)
    (valid : injectValid 6 (c.w 4) c.target = true) (h6 : c.w 3 = 6) :
    let r := ready c s
    let p := lpOfT c.target
    exec (.protInject c) s = .next (pump (ctrAdd (reply 0x0A08 c stOk 0 [0]
      (apsRefresh p (r.modAps p fun a => { a with injSf := some (r.hk + msT (c.w 5)) }))) (sel 0 0 0x0A06) 1)) := by
  intro r p
  have failed : protInjectOp.run r c.target c = okRes
      (apsRefresh p (r.modAps p fun a => { a with injSf := some (r.hk + msT (c.w 5)) })) [0] := by
    simp [protInjectOp, h6, valid, p]
  rw [exec_protInject_of_runs h failed]
  simp [protInjectOp, h6]

/-- An injected fault of the engine that serves the port follows the reply (kind 4). -/
theorem exec_protInject_of_engineFault {c : Cmd} {s : State} (h : Runs protInjectOp c s)
    (valid : injectValid 4 (c.w 4) c.target = true) (h4 : c.w 3 = 4) :
    let r := ready c s
    let u := ctrAdd (reply 0x0A08 c stOk 0 [0] r) (sel 0 0 0x0A06) 1
    exec (.protInject c) s = .next (pump (match servingEng r (lpOfT c.target) with
      | some g => engineFault g 8 true true true u
      | none => u)) := by
  intro r u
  have answered : protInjectOp.run r c.target c = okRes r [0] := by simp [protInjectOp, h4, valid]
  have serves : servingEng u (lpOfT c.target) = servingEng r (lpOfT c.target) := servingEng_congr (reply_eng ..) _
  rw [exec_protInject_of_runs h answered, ← serves]
  exact congrArg (fun v => Host.Outcome.next (pump v)) (if_pos h4)

/-- Settles O45: each command is served on its unit, and what the protection unit, the engines and the group hold says whether it
runs or is refused. -/
theorem protectionCommandsRun : Obligations.ProtectionCommandsRun := by
  unfold Obligations.ProtectionCommandsRun
  intro c s
  simp -zeta only [← ready_prot c s, ← protPort_ready c s, ← aps_ready c s, ← injPending_ready c s, ← inService_ready c s,
    ← servingEng_ready c s, ← spareKind_ready c s, ← ready_engine c s, ← spnOf_ready c s, ← ready_mate c s]
  intro r p e b o ok no
  refine ⟨fun runs => exec_of_runs (op := protConfigOp) runs rfl,
    fun runs => ⟨fun line => exec_of_runs (op := protStatusOp) runs (if_pos line), fun les => ?_, fun mate => ?_⟩,
    fun runs => ⟨fun out => ?_, fun inn busy => ?_, fun inn steady unspared => ?_, fun k g inn steady serves home spare => ?_⟩,
    fun runs => ?_, fun runs => ⟨fun out => ?_, fun used => ?_⟩, fun runs => ?_, fun runs => ⟨fun single => ?_, fun paired => ?_⟩,
    fun runs => ⟨fun invalid => ?_, exec_protInject_of_counted runs, exec_protInject_of_signalFail runs,
      exec_protInject_of_engineFault runs⟩,
    fun runs => ⟨fun free => exec_of_runs (op := protCheckerOp) runs (if_pos free), fun used => ?_⟩,
    fun runs => exec_of_runs (op := protCountersOp) runs rfl⟩
  · exact exec_of_runs (op := protStatusOp) runs (by rw [les]; exact protStatusOp_run_les)
  · exact exec_of_runs (op := protStatusOp) runs (by rw [mate]; exact protStatusOp_run_mate)
  · exact exec_of_badState (op := protEngineSwitchOp) runs (if_pos (congrArg not out))
  · have serving : ¬ (!inService r p) = true := ne_true_of_eq_false (congrArg not inn)
    exact exec_of_badState (op := protEngineSwitchOp) runs ((if_neg serving).trans (if_pos busy))
  · exact exec_of_badState (op := protEngineSwitchOp) runs (protEngineSwitchOp_run_of_unspared inn steady unspared)
  · exact exec_of_accepted (op := protEngineSwitchOp) runs (protEngineSwitchOp_run_of_spared inn steady serves home spare)
  · intro x u
    refine exec_of_guard (op := protEngineRestoreOp) runs (fun busy => if_pos busy) fun steady => ?_
    refine exec_of_guard (op := protEngineRestoreOp) runs
      (fun free => (if_neg steady).trans (if_pos (congrArg not free))) fun held => ?_
    exact exec_of_accepted (op := protEngineRestoreOp) runs (protEngineRestoreOp_run_of_held steady held)
  · exact exec_of_accepted (op := protSpindleRestoreOp) runs (if_pos (by simpa using out))
  · exact exec_of_badState (op := protSpindleRestoreOp) runs (if_neg (by simpa using used))
  · intro x u
    exact exec_of_guard (op := apsConfigOp) runs (fun taken => if_pos taken) fun free =>
      exec_of_runs (op := apsConfigOp) runs (if_neg free)
  · exact exec_of_badState (op := apsCommandOp) runs (if_pos single)
  · exact exec_of_runs (op := apsCommandOp) runs (if_neg paired)
  · exact exec_of_badState (op := protInjectOp) runs (if_pos (congrArg not invalid))
  · exact exec_of_badState (op := protCheckerOp) runs (if_neg (ne_true_of_eq_false used))

end Sys2Proof.Machine
end

section
/-!
PROOFS. The queue and the state after reset (Table 2.8, Table 17.3; log entry 3).
-/
namespace Sys2Proof.Machine
open Sys2Proof

/-- Settles O1: `step` matches on the queue. -/
theorem stepRunsFront : Obligations.StepRunsFront := by
  unfold Obligations.StepRunsFront
  refine ⟨fun c rest s front => ?_, fun s empty => ?_⟩
  · simp only [step, front]
  · simp only [step, empty]

/-- Settles O3: every field is read off the reset state. -/
theorem resetState : Obligations.ResetState := by
  unfold Obligations.ResetState
  exact ⟨rfl, rfl, rfl, rfl, rfl, rfl, rfl, rfl, rfl, rfl, rfl, rfl, rfl, rfl, rfl, rfl, rfl, rfl⟩

end Sys2Proof.Machine
end

section
/-!
PROOFS. The fault latch against the spindle counters of the fast status window (R67, R171, R440).
-/
namespace Sys2Proof.Machine
open Sys2Proof

/-- FAULT of class 1 in a WARM LE0: spindle 0 has run two cycles since its counters were last brought up to the present, and
the first pair of the snapshot area shows its CYCLE. -/
def faultWithClockedSpindle : State :=
  { State.reset with
    hk := 256
    pr := { State.reset.pr with powered := true, phase := .fault, faultClass := 1, poreset := false, sysreset := false,
                                internalReset := none }
    eng := { State.reset.eng with le0 := { st := .warm, clockedFrom := some 0, spindles := [(0, { role := 1 })] } }
    host := { State.reset.host with fswMap := [(0, sel 0x18 0 0x0480)] } }

theorem latched_faultWithClockedSpindle : Latched faultWithClockedSpindle := ⟨rfl, rfl, rfl, rfl, rfl⟩

/-- SPI window reads are answered in FAULT. -/
theorem exec_fswLoRead_faultWithClockedSpindle :
    exec (.fswLoRead .spi 0x100 0) faultWithClockedSpindle = .next (spiFsw 0x100 1 faultWithClockedSpindle) := rfl

/-- The read brings CYCLE up to the present, although in FAULT the word it returns is 0. -/
theorem cycle_spiFsw_faultWithClockedSpindle :
    (spnOf (spiFsw 0x100 1 faultWithClockedSpindle) .le0 0).perf.cycle = 2 := rfl

theorem cycle_faultWithClockedSpindle : (spnOf faultWithClockedSpindle .le0 0).perf.cycle = 0 := rfl

/-- Refutes O20: in FAULT a window read over SPI of a snapshot pair that is mapped to a spindle's counter brings that counter
up to the present, so the line engines do not stay as they are. -/
theorem not_faultLatchHolds : ¬ Obligations.FaultLatchHolds := by
  unfold Obligations.FaultLatchHolds
  intro holds
  obtain ⟨-, -, -, -, engines, -⟩ := holds _ _ _ latched_faultWithClockedSpindle (by simp) (by simp)
    exec_fswLoRead_faultWithClockedSpindle
  have cycles : (spnOf (spiFsw 0x100 1 faultWithClockedSpindle) .le0 0).perf.cycle
      = (spnOf faultWithClockedSpindle .le0 0).perf.cycle := by
    simp only [spnOf, State.engine, engines]
  rw [cycle_spiFsw_faultWithClockedSpindle, cycle_faultWithClockedSpindle] at cycles
  exact absurd cycles (by decide)

end Sys2Proof.Machine
end

section
/-!
PROOFS. SYNC pulses from command-ready, by their width (R441, Table 17.7).
-/
namespace Sys2Proof.Machine
open Sys2Proof

theorem within_iff {v lo hi : Nat} : within v lo hi = true ↔ lo ≤ v ∧ v ≤ hi := by simp [within]

/-- From command-ready, with the pin not rejected as too long, a pulse that began after command-ready is decoded. -/
theorem syncDecodes_of_begun_after {w : Nat} {s : State} (hr : running s = true) (ready : s.pr.cmdReady = true)
    (low : s.pr.syncHigh = false) (began : ∀ t, s.pr.readyAt = some t → t + w * 192 ≤ s.now) : syncDecodes w s = true := by
  cases at_ : s.pr.readyAt with
  | none => simp [syncDecodes, hr, ready, low, at_]
  | some t => simp [syncDecodes, hr, ready, low, at_, began t at_]

/-- The end of a pulse that was rejected as too long is not decoded. -/
theorem syncDecodes_of_high {w : Nat} {s : State} (high : s.pr.syncHigh = true) : syncDecodes w s = false := by
  simp [syncDecodes, high]

section
variable {w dt : Nat} {s : State} (decodes : syncDecodes w (advance dt s) = true)
include decodes

theorem exec_syncDecimReset_of_decoded (lo : 200 ≤ syncW w) (hi : syncW w ≤ 1000) :
    exec (.syncDecimReset w dt) s = .next (pump (decimReset (advance dt s))) := by
  simp only [exec, execSyncDecimReset, decodes, within, lo, hi, decide_true, Bool.and_self, if_true]

theorem exec_syncTrigger_of_decoded (lo : 2000 ≤ syncW w) (hi : syncW w ≤ 5000) :
    exec (.syncTrigger w dt) s = .next (pump (monSync
      (lineports.foldl (fun u p => if (u.port p).conv.tap.trigger = 1 then tapFire p u else u) (advance dt s)))) := by
  simp only [exec, execSyncTrigger, decodes, within, lo, hi, decide_true, Bool.and_self, if_true]

theorem exec_syncCommit_of_decoded (lo : 10000 ≤ syncW w) (hi : syncW w ≤ 50000) (none : s.fw.pause = none) :
    exec (.syncCommit w dt) s = .next (pump (applyStaged 2 (uptimeWords (uptime (advance dt s)))
      ((advance dt s).modHost fun h => { h with syncTaken := some (hkCycle (advance dt s)) }))) := by
  simp only [exec, execSyncCommit, decodes, within, lo, hi, decide_true, Bool.and_self, if_true, advance_fw, none,
    Option.isSome_none, if_neg Bool.false_ne_true]

theorem exec_syncCommit_of_paused (lo : 10000 ≤ syncW w) (hi : syncW w ≤ 50000) (paused : s.fw.pause.isSome = true) :
    exec (.syncCommit w dt) s = .next ((advance dt s).modHost fun h =>
      { h with syncLatched := some (h.syncLatched.getD (uptime (advance dt s))) }) := by
  simp only [exec, execSyncCommit, decodes, within, lo, hi, decide_true, Bool.and_self, if_true, advance_fw, paused]
  cases latched : (advance dt s).host.syncLatched <;> simp only [State.modHost, latched, Option.getD]

theorem exec_syncPulseRejected_of_counted
    (other : 100 ≤ syncW w ∧ syncW w ≤ 190 ∨ 1010 ≤ syncW w ∧ syncW w ≤ 1990 ∨
      5010 ≤ syncW w ∧ syncW w ≤ 9990 ∨ 50000 < syncW w) :
    exec (.syncPulseRejected w dt) s = .next (syncReject (advance dt s)) := by
  have counted : (within (syncW w) 100 190 || within (syncW w) 1010 1990 || within (syncW w) 5010 9990
      || decide (50000 < syncW w)) = true := by
    simp only [Bool.or_eq_true, within_iff, decide_eq_true_eq]; omega
  simp only [exec, execSyncPulseRejected, decodes, counted, Bool.and_self, if_true]

omit decodes in
/-- Pulses below 100 ns are no pulses. -/
theorem exec_syncPulseRejected_of_short (short : syncW w < 100) :
    exec (.syncPulseRejected w dt) s = .next (syncLow (advance dt s)) := by
  have uncounted : (within (syncW w) 100 190 || within (syncW w) 1010 1990 || within (syncW w) 5010 9990
      || decide (50000 < syncW w)) = false := by
    simp only [← Bool.not_eq_true, Bool.or_eq_true, within_iff, decide_eq_true_eq]; omega
  simp only [exec, execSyncPulseRejected, uncounted, Bool.and_false, if_neg Bool.false_ne_true]

end

/-- Settles O23: `syncDecodes` holds of a pulse that began after command-ready, and its width picks the command. -/
theorem syncDecodesByWidth : Obligations.SyncDecodes := by
  unfold Obligations.SyncDecodes
  intro w dt s hr ready
  have decoded {n : Nat} (low : s.pr.syncHigh = false) (began : ∀ t, s.pr.readyAt = some t → t + n * 192 ≤ (advance dt s).now) :
      syncDecodes n (advance dt s) = true :=
    syncDecodes_of_begun_after hr (by simpa using ready) (by simpa using low) (by simpa using began)
  refine ⟨fun low began => ⟨exec_syncDecimReset_of_decoded (decoded low began), exec_syncTrigger_of_decoded (decoded low began),
      exec_syncCommit_of_decoded (decoded low began), exec_syncCommit_of_paused (decoded low began),
      exec_syncPulseRejected_of_counted (decoded low began), exec_syncPulseRejected_of_short⟩, fun low began => ?_, fun high _ => ?_⟩
  · simp only [exec, execSyncHighTimeout, decoded low began, if_true, syncReject]
  · exact exec_sync_of_not_decoded (w := w) (syncDecodes_of_high (by simpa using high)) (by simp)

end Sys2Proof.Machine
end

section
/-!
PROOFS. The status frame (R438), the core voltage (R428) and the JTAG instruction register (R451).
-/
namespace Sys2Proof.Machine
open Sys2Proof

/-- In the RUN phase a status frame follows the hottest die and moves SEQ on. -/
theorem exec_statusFrame_of_run {hot : Int} {dt : Nat} {s : State} (hr : running (advance dt s) = true)
    (run : s.pr.phase = .run) (awake : s.pr.waking = false) :
    let u := (advance dt s).modPr fun r =>
      { r with thermWarn := if 100 ≤ hot then true else if hot < 98 then false else r.thermWarn }
    exec (.statusFrame hot dt) s =
      .next (u.modPr fun r => { r with statusFrame := w32 (statusWord u), statusSeq := (r.statusSeq + 1) % 16 }) := by
  simp only [exec, execStatusFrame, hr, advance_pr, run, awake, beq_self_eq_true, Bool.not_false, Bool.and_self, if_true]

/-- From boot step 6 on a move to a voltage of 650 mV to 850 mV sends its transactions. -/
theorem exec_avsVoltageUpdate_of_booted {v dt : Nat} {acks : List Bool} {s : State} (hr : running (advance dt s) = true)
    (boot : s.pr.boot = .running ∨ s.pr.boot = .done) (lo : 650 ≤ v) (hi : v ≤ 850) :
    exec (.avsVoltageUpdate v acks dt) s = .next ((advance dt s).modPr fun r => acks.foldl (avsSend v) r) := by
  rcases boot with boot | boot <;>
    simp only [exec, execAvsVoltageUpdate, hr, advance_pr, boot, within, lo, hi, decide_true, Bool.and_self, if_true]

section
variable {code dt : Nat} {s : State} (powered : s.pr.powered = true)
include powered

/-- A test-access instruction is taken while test access is open. -/
theorem exec_jtagInstructionLoad_of_private_open (lo : 0x40 ≤ code) (hi : code ≤ 0x43) (gate : s.sealSt.gateClosed = false)
    (unsealed : s.sealSt.fuseA = false) :
    exec (.jtagInstructionLoad code dt) s = .next ((advance dt s).modSeal fun x => { x with jtagIr := code }) := by
  simp only [exec, execJtagInstructionLoad, advance_pr, powered, Bool.not_true, if_neg Bool.false_ne_true, jtagPrivate, within,
    lo, hi, decide_true, Bool.and_self, if_true, advance_sealSt, gate, isSealed, unsealed, Bool.or_self]

/-- A test-access instruction is refused and counted with the gate closed or the device sealed. -/
theorem exec_jtagInstructionLoad_of_private_closed (lo : 0x40 ≤ code) (hi : code ≤ 0x43)
    (closed : s.sealSt.gateClosed = true ∨ s.sealSt.fuseA = true) :
    exec (.jtagInstructionLoad code dt) s =
      .next ((advance dt s).modSeal fun x => { x with jtagIr := 0xFF, jtagRefused := x.jtagRefused + 1 }) := by
  have closed' : (s.sealSt.gateClosed || s.sealSt.fuseA) = true := by simpa using closed
  simp only [exec, execJtagInstructionLoad, advance_pr, powered, Bool.not_true, if_neg Bool.false_ne_true, jtagPrivate, within,
    lo, hi, decide_true, Bool.and_self, if_true, advance_sealSt, isSealed, closed']

/-- A boundary instruction acts only in reset and in FAULT. -/
theorem exec_jtagInstructionLoad_of_boundary (boundary : code ∈ [0x00, 0x03, 0x04, 0x08, 0x09]) :
    exec (.jtagInstructionLoad code dt) s = .next ((advance dt s).modSeal fun x =>
      { x with jtagIr := if inReset s || s.pr.phase == .fault then code else 0xFF }) := by
  have known : jtagBoundary code = true := List.contains_iff_mem.2 boundary
  have open_ : jtagPrivate code = false := by
    simp only [List.mem_cons, List.not_mem_nil, or_false] at boundary
    simp only [jtagPrivate, within, Bool.and_eq_false_iff, decide_eq_false_iff_not]; omega
  simp only [exec, execJtagInstructionLoad, advance_pr, powered, Bool.not_true, if_neg Bool.false_ne_true, open_, known, if_true,
    boundaryOk, inReset_advance]

/-- An instruction that is neither for test access nor a boundary one is taken, or decoded as BYPASS. -/
theorem exec_jtagInstructionLoad_of_other (other : code ∉ [0x00, 0x03, 0x04, 0x08, 0x09, 0x40, 0x41, 0x42, 0x43]) :
    exec (.jtagInstructionLoad code dt) s = .next ((advance dt s).modSeal fun x =>
      { x with jtagIr := if code = 0x01 ∨ code = 0x02 then code else 0xFF }) := by
  simp only [List.mem_cons, List.not_mem_nil, or_false] at other
  have inner : jtagBoundary code = false := by
    simp only [jtagBoundary, List.contains_eq_mem, List.mem_cons, List.not_mem_nil, or_false, decide_eq_false_iff_not]; omega
  have open_ : jtagPrivate code = false := by
    simp only [jtagPrivate, within, Bool.and_eq_false_iff, decide_eq_false_iff_not]; omega
  simp only [exec, execJtagInstructionLoad, advance_pr, powered, Bool.not_true, if_neg Bool.false_ne_true, open_, inner]
  split <;> rfl

end

/-- Settles O25: the JTAG instructions fall into those for test access, the boundary and the other ones. -/
theorem frameVoltageJtag : Obligations.FrameVoltageJtag := by
  unfold Obligations.FrameVoltageJtag
  intro hot v code dt acks s
  refine ⟨fun hr run awake => ?_, exec_avsVoltageUpdate_of_booted, fun powered =>
    ⟨exec_jtagInstructionLoad_of_private_open powered, exec_jtagInstructionLoad_of_private_closed powered,
      exec_jtagInstructionLoad_of_boundary powered, fun known => ?_, fun unknown => ?_⟩, rfl⟩
  · rw [exec_statusFrame_of_run hr run awake]
    simp only [State.modPr, advance_pr]
  · rw [exec_jtagInstructionLoad_of_other powered (by simp; omega)]
    simp only [known, if_true]
  · simp only [List.mem_cons, List.not_mem_nil, or_false] at unknown
    rw [exec_jtagInstructionLoad_of_other powered (by simp; omega), if_neg (by omega)]

end Sys2Proof.Machine
end

section
/-!
PROOFS. What zeroisation (R254) leaves beside the keys: the power state, the firmware, the seal, the engines and the traffic
manager.
-/
namespace Sys2Proof.Machine
open Sys2Proof

/-- The part of the state that zeroisation leaves, beside that of `cryptoFrame`. -/
def keylessFrame (s : State) : PowerReset × Firmware × Seal := (s.pr, s.fw, s.sealSt)

theorem Sends.keylessFrame {s t : State} (h : Sends s t) : keylessFrame t = keylessFrame s := by
  simp only [Machine.keylessFrame, h.pr, h.fw, h.sealSt]

@[simp] theorem keylessFrame_modCrypto (p : Lp) (f : Crypto → Crypto) (s : State) :
    keylessFrame (s.modCrypto p f) = keylessFrame s := by
  simp [keylessFrame]

@[simp] theorem keylessFrame_setCrypto (p : Lp) (f : Crypto → Crypto) (s : State) :
    keylessFrame (setCrypto p f s) = keylessFrame s :=
  (sends_setCrypto p f s).keylessFrame.trans (keylessFrame_modCrypto p f s)

@[simp] theorem keylessFrame_lpCount (p : Lp) (id n : Nat) (s : State) : keylessFrame (lpCount s p id n) = keylessFrame s :=
  (sends_lpCount s p id n).keylessFrame

@[simp] theorem keylessFrame_completeUnit (code t status detail : Nat) (ws : List Word) (s : State) :
    keylessFrame (completeUnit code t status detail ws s) = keylessFrame s := by
  simp [keylessFrame]

theorem keylessFrame_endHandshake (p : Lp) (s : State) (z : Bool) : keylessFrame (endHandshake p s z) = keylessFrame s := by
  simp only [endHandshake]
  split
  · split
    · split <;> simp
    · simp
  · rfl

theorem keylessFrame_endSessions (p : Lp) (z : Bool) (s : State) : keylessFrame (endSessions p z s) = keylessFrame s := by
  rw [endSessions_eq, (sends_sessionsEnded ..).keylessFrame, keylessFrame_setCrypto, keylessFrame_endHandshake]

theorem keylessFrame_erasePort (p : Lp) (s : State) : keylessFrame (erasePort p s) = keylessFrame s := by
  simp only [erasePort, keylessFrame_setCrypto, keylessFrame_endSessions, keylessFrame_modCrypto]

theorem keylessFrame_zeroise (s : State) : keylessFrame (zeroise s) = keylessFrame s := by
  have erased : keylessFrame (erasePort .lp1 (erasePort .lp0 s)) = keylessFrame s :=
    (keylessFrame_erasePort ..).trans (keylessFrame_erasePort ..)
  rw [← erased]
  simp only [zeroise]
  split
  · simp [keylessFrame]
  · rfl

@[simp] theorem zeroise_pr (s : State) : (zeroise s).pr = s.pr := congrArg (·.1) (keylessFrame_zeroise s)

@[simp] theorem zeroise_fw (s : State) : (zeroise s).fw = s.fw := congrArg (·.2.1) (keylessFrame_zeroise s)

@[simp] theorem zeroise_sealSt (s : State) : (zeroise s).sealSt = s.sealSt := congrArg (·.2.2) (keylessFrame_zeroise s)

@[simp] theorem zeroise_eng (s : State) : (zeroise s).eng = s.eng := eng_of_cryptoFrame (cryptoFrame_zeroise s)

@[simp] theorem zeroise_tm (s : State) : (zeroise s).tm = s.tm := tm_of_cryptoFrame (cryptoFrame_zeroise s)

end Sys2Proof.Machine
end

section
/-!
PROOFS. The causes of Table 17.6 (R439, R440): what the entry to FAULT sets, and what a second cause changes.
-/
namespace Sys2Proof.Machine
open Sys2Proof

/-! ### The entry to FAULT -/

section
variable {s : State} (powered : s.pr.powered = true) (released : s.pr.poreset = false) (healthy : s.pr.phase ≠ .fault)
include powered released healthy

/-- What a first cause sets, and the units it leaves. -/
theorem enterFault_of_healthy (cls : Nat) :
    (enterFault cls s).pr = { s.pr with
      phase := .fault, faultClass := cls, power := .none, cmdReady := false, sleepEntry := false, waking := false
      boot := .idle, bootCode := bootStep s, bootPlan := [], faultAt := s.now, thermTrip := decide (cls = 1)
      sysreset := false, internalReset := none } ∧ (enterFault cls s).eng = s.eng ∧ (enterFault cls s).tm = s.tm := by
  have first : ¬(!s.pr.powered || s.pr.poreset || s.pr.phase == .fault) = true := by simp [powered, released, healthy]
  unfold enterFault
  rw [if_neg first]
  exact ⟨rfl, rfl, rfl⟩

end

/-- A second cause changes nothing. -/
theorem enterFault_of_fault {s : State} (fault : s.pr.phase = .fault) (cls : Nat) : enterFault cls s = s := by
  simp [enterFault, fault]

theorem running_of_fault {s : State} (fault : s.pr.phase = .fault) : running s = false := by simp [running, fault]

/-! ### Each cause -/

/-- The device is in FAULT of a class, with the pin of that class, and the units are as in the state before. -/
def FaultEntered (cls : Nat) (s t : State) : Prop :=
  Latched t ∧ t.pr.faultClass = cls ∧ t.pr.thermTrip = decide (cls = 1) ∧ t.pr.cmdReady = false ∧ running t = false ∧
    t.pr.straps = s.pr.straps ∧ t.pr.uptimeFrom = s.pr.uptimeFrom ∧ t.eng = s.eng ∧ t.tm = s.tm

/-- The watchdog's expiries of the last 60 s, with one now. -/
def recentExpiries (s : State) : List Nat := (s.hk :: s.pr.watchdog).filter fun t => decide (s.hk < t + secT 60)

section
variable {dt : Nat} {s : State}

/-- A state that differs from `s` in no power, engine or traffic field but the watchdog's record enters FAULT as `s` does. -/
theorem faultEntered_of {u : State} (powered : s.pr.powered = true) (released : s.pr.poreset = false)
    (healthy : s.pr.phase ≠ .fault) (log : List Nat) (same : u.pr = { s.pr with watchdog := log }) (eng : u.eng = s.eng)
    (tm : u.tm = s.tm) (cls : Nat) : FaultEntered cls s (enterFault cls u) := by
  obtain ⟨pr, eng', tm'⟩ := enterFault_of_healthy (s := u) (by rw [same]; exact powered) (by rw [same]; exact released)
    (by rw [same]; exact healthy) cls
  have fault : (enterFault cls u).pr.phase = .fault := by rw [pr]
  refine ⟨⟨?_, fault, ?_, ?_, ?_⟩, ?_, ?_, ?_, running_of_fault fault, ?_, ?_, eng'.trans eng, tm'.trans tm⟩ <;>
    simp only [pr, same, powered, released]

theorem faultEntered_recorded (powered : s.pr.powered = true) (released : s.pr.poreset = false)
    (healthy : s.pr.phase ≠ .fault) (log : List Nat) (cls : Nat) :
    FaultEntered cls s (enterFault cls ((advance dt s).modPr fun r => { r with watchdog := log })) :=
  faultEntered_of powered released healthy log (by rw [State.modPr_pr, advance_pr]) (by rw [State.modPr_eng, advance_eng])
    (by rw [State.modPr_tm, advance_tm]) cls

theorem exec_thermalTrip_of_healthy (healthy : s.pr.phase ≠ .fault) :
    exec (.thermalTrip dt) s = .next (enterFault 1 (advance dt s)) := by
  simp [exec, execThermalTrip, healthy]

theorem exec_externalTrip_of_cool (cool : s.pr.thermTrip = false) :
    exec (.externalTrip dt) s = .next (enterFault 2 (advance dt s)) := by
  simp [exec, execExternalTrip, cool]

theorem exec_railFault_of_powered (powered : s.pr.powered = true) : exec (.railFault dt) s =
    .next (enterFault 3 (zeroise { advance dt s with keys := { (advance dt s).keys with voltage := true } })) := by
  simp [exec, execRailFault, powered]

theorem exec_aonClockLoss_of_external (external : s.pr.straps.getLsbD 5 = true) :
    exec (.aonClockLoss dt) s = .next (enterFault 4 (advance dt s)) := by
  simp only [exec, execAonClockLoss, advance_pr, external, if_true]

theorem exec_xoLost_of_lit (lit : inDark (advance dt s) = false) :
    exec (.xoLost dt) s = .next (enterFault 5 (advance dt s)) := by
  simp only [exec, execXoLost, lit, if_neg Bool.false_ne_true]

/-- A watchdog expiry while the units run is recorded; the third within 60 s enters FAULT, an earlier one begins a pause. -/
theorem exec_watchdog_of_running (hr : running (advance dt s) = true) :
    let log := recentExpiries (advance dt s)
    let u := (advance dt s).modPr fun r => { r with watchdog := log }
    exec (.supervisorWatchdogExpiry dt) s =
      .next (if 3 ≤ log.length then enterFault 7 u else if u.fw.pause.isNone then pump (beginPause 3 none u) else u) := by
  unfold exec execSupervisorWatchdogExpiry
  dsimp only
  rw [if_pos hr]
  rfl

theorem exec_watchdog_of_third (hr : running (advance dt s) = true) (third : 3 ≤ (recentExpiries (advance dt s)).length) :
    exec (.supervisorWatchdogExpiry dt) s =
      .next (enterFault 7 ((advance dt s).modPr fun r => { r with watchdog := recentExpiries (advance dt s) })) :=
  (exec_watchdog_of_running hr).trans (congrArg _ (if_pos third))

theorem exec_watchdog_of_early (hr : running (advance dt s) = true) (early : (recentExpiries (advance dt s)).length < 3)
    (idle : s.fw.pause = none) : exec (.supervisorWatchdogExpiry dt) s =
      .next (pump (beginPause 3 none ((advance dt s).modPr fun r => { r with watchdog := recentExpiries (advance dt s) }))) := by
  refine (exec_watchdog_of_running hr).trans (congrArg _ ((if_neg (Nat.not_le.2 early)).trans (if_pos ?_)))
  rw [State.modPr_fw, advance_fw, idle, Option.isNone_none]

/-- A pause begins with an expiry recorded, and the ports and the engines stay. -/
theorem pump_beginPause_recorded (log : List Nat) :
    let t := pump (beginPause 3 none ((advance dt s).modPr fun r => { r with watchdog := log }))
    t.fw.pause = some { cause := 3, since := (advance dt s).hk, reason := none } ∧ t.pr.watchdog = log ∧ t.lp = s.lp ∧
      t.eng = s.eng := by
  simp [beginPause_fw, beginPause_units]

/-- In FAULT the own trip counts only in the AON period of an external one. -/
theorem exec_thermalTrip_of_latched (latched : Latched s) : exec (.thermalTrip dt) s =
    .next (if s.pr.faultClass = 2 ∧ (advance dt s).now / aonT 1 = s.pr.faultAt / aonT 1 then
      (advance dt s).modPr fun r => { r with faultClass := 1, thermTrip := true } else advance dt s) := by
  obtain ⟨powered, fault, released, -, -⟩ := latched
  have second : enterFault 1 (advance dt s) = advance dt s := enterFault_of_fault (by simpa using fault) 1
  simp [exec, execThermalTrip, powered, fault, released, second]

/-- Another cause in FAULT changes neither phase nor class. -/
theorem exec_secondCause_of_latched (latched : Latched s) {i : Instr}
    (cause : i = .externalTrip dt ∨ i = .railFault dt ∨ i = .aonClockLoss dt ∨ i = .xoLost dt) :
    ∃ t, exec i s = .next t ∧ t.pr = s.pr := by
  obtain ⟨powered, fault, -, -, -⟩ := latched
  have second (u : State) (same : u.pr = s.pr) (cls : Nat) : enterFault cls u = u :=
    enterFault_of_fault (by rw [same]; exact fault) cls
  rcases cause with rfl | rfl | rfl | rfl
  · refine ⟨_, rfl, ?_⟩
    split
    · exact advance_pr dt s
    · rw [second _ (advance_pr dt s), advance_pr]
  · refine ⟨_, exec_railFault_of_powered powered, ?_⟩
    rw [second _ (by simp)]
    simp
  · refine ⟨_, rfl, ?_⟩
    split
    · rw [second _ (advance_pr dt s), advance_pr]
    · exact advance_pr dt s
  · refine ⟨_, rfl, ?_⟩
    split
    · exact advance_pr dt s
    · rw [second _ (advance_pr dt s), advance_pr]

/-- The third expiry within 60 s enters FAULT. -/
theorem faultEntered_of_third (powered : s.pr.powered = true) (released : s.pr.poreset = false) (healthy : s.pr.phase ≠ .fault)
    (hr : running (advance dt s) = true) (third : 3 ≤ (recentExpiries (advance dt s)).length) :
    ∃ t, exec (.supervisorWatchdogExpiry dt) s = .next t ∧ FaultEntered 7 s t :=
  ⟨_, exec_watchdog_of_third hr third, faultEntered_recorded powered released healthy _ 7⟩

/-- An earlier one begins a pause. -/
theorem pause_of_early (hr : running (advance dt s) = true) (early : (recentExpiries (advance dt s)).length < 3)
    (idle : s.fw.pause = none) : ∃ t, exec (.supervisorWatchdogExpiry dt) s = .next t ∧
      t.fw.pause = some { cause := 3, since := (advance dt s).hk, reason := none } ∧
      t.pr.watchdog = recentExpiries (advance dt s) ∧ t.lp = s.lp ∧ t.eng = s.eng :=
  ⟨_, exec_watchdog_of_early hr early idle, pump_beginPause_recorded _⟩

end

/-- Settles O19: each cause is `enterFault` of its class on a state that still has the power, engine and traffic fields. -/
theorem faultCauses : Obligations.FaultCauses := by
  unfold Obligations.FaultCauses
  intro dt s a enters recent
  have recorded : recent = recentExpiries a := by simp only [recent, recentExpiries, a, advance_pr]
  clear_value recent
  subst recorded
  refine ⟨fun powered released healthy => ?_, fun latched => ⟨fun cls period => ?_, fun other => ?_,
    fun i cause => exec_secondCause_of_latched latched cause⟩⟩
  · have entered (cls : Nat) : FaultEntered cls s (enterFault cls a) :=
      faultEntered_of powered released healthy s.pr.watchdog (advance_pr dt s) (advance_eng dt s) (advance_tm dt s) cls
    refine ⟨⟨_, exec_thermalTrip_of_healthy healthy, entered 1⟩, fun cool => ⟨_, exec_externalTrip_of_cool cool, entered 2⟩,
      ⟨_, exec_railFault_of_powered powered, ?_⟩, fun external => ⟨_, exec_aonClockLoss_of_external external, entered 4⟩,
      fun lit => ⟨_, exec_xoLost_of_lit lit, entered 5⟩, fun hr third => faultEntered_of_third powered released healthy hr third,
      fun hr early idle => pause_of_early hr early idle⟩
    exact faultEntered_of powered released healthy s.pr.watchdog (by simp) (by simp) (by simp) 3
  · rw [exec_thermalTrip_of_latched latched, if_pos ⟨cls, period⟩]
  · rw [exec_thermalTrip_of_latched latched, if_neg (by rintro ⟨cls, period⟩; exact other.elim (· cls) (· period))]

end Sys2Proof.Machine
end

section
/-!
PROOFS. What the resets and the power moves leave (R430, R432, Table 17.3).
-/
namespace Sys2Proof.Machine
open Sys2Proof

/-! ### What happens before a reset leaves what the reset keeps -/

/-- What a reset keeps of a state, with what it reads to keep it. -/
def keptByReset (s : State) :=
  (s.now, s.host.pcie.dmaDone, s.host.deferred, s.keys, s.fw.bank0, s.fw.bank1, s.fw.recA, s.fw.recB, s.store, s.sealSt)

theorem Sends.keptByReset {s t : State} (h : Sends s t) : keptByReset t = keptByReset s := by
  simp only [Machine.keptByReset, h.now, h.pcie_dmaDone, h.host_deferred, h.keys, h.fw, h.store, h.sealSt]

theorem keptByReset_releaseLock (l : Lock) (reason : Nat) (s : State) :
    keptByReset (releaseLock l reason s) = keptByReset s := by
  unfold releaseLock
  split
  · rfl
  · refine (sends_emit ..).keptByReset.trans ?_
    cases l <;> rfl

theorem keptByReset_resetLocks (s : State) : keptByReset (resetLocks s) = keptByReset s := by
  refine foldl_related (r := fun s t => keptByReset t = keptByReset s) (fun _ => rfl) (fun h k => k.trans h) (fun u l => ?_) _ s
  split
  · exact keptByReset_releaseLock ..
  · rfl

/-! ### What a reset leaves -/

/-- A reset: `t` is held in reset and holds nothing but flash, fuses, straps and what the host's memory holds of `s`. -/
def ResetTaken (s t : State) : Prop :=
  inReset t = true ∧ t.pr.phase = .strap ∧ t.pr.power = .none ∧ t.pr.cmdReady = false ∧ t.pr.faultClass = 0 ∧
  t.alarms = [] ∧ t.counters = [] ∧ { t.host with pcie := {} } = ({} : HostIf) ∧
  { t.host.pcie with beforeReset := [], msix0 := 0, msix1 := 0, msix2 := 0, msix3 := 0, dmaDone := [] } = ({} : PcieState) ∧
  t.host.pcie.dmaDone = s.host.pcie.dmaDone ∧ t.lp = State.reset.lp ∧ t.eng = State.reset.eng ∧ t.tm = {} ∧ t.lanes = [] ∧
  t.hports = [] ∧ t.pr.straps = s.pr.straps ∧ t.fw.bank0 = s.fw.bank0 ∧ t.fw.bank1 = s.fw.bank1 ∧ t.fw.recA = s.fw.recA ∧
  t.fw.recB = s.fw.recB ∧ t.store.a = s.store.a ∧ t.store.b = s.store.b ∧
  (pendingOn s 0x0F01 0 = false → t.sealSt.fuseA = s.sealSt.fuseA ∧ t.sealSt.fuseB = s.sealSt.fuseB)

/-- The reset of the units, but for the seal, written out. -/
theorem resetUnits_eq (pr : PowerReset) (clk : Clk) (s : State) : resetUnits pr clk s =
    { now := s.now, hk := s.hk, pr, clk, keys := detectorsOnly s.keys, fw := fwAfterReset s.fw
      host := { pcie := { beforeReset := s.host.pcie.rplRing ++ s.host.pcie.evtRing, msix0 := s.host.pcie.msix0
                          msix1 := s.host.pcie.msix1, msix2 := s.host.pcie.msix2, msix3 := s.host.pcie.msix3
                          dmaDone := s.host.pcie.dmaDone } }
      store := { s.store with writing := [] }, sealSt := (sealAfterReset s).1, freeCtr := (sealAfterReset s).2.freeCtr
      pending := s.pending } := by
  simp only [resetUnits, sealAfterReset]
  split <;> rfl

/-- Without a SEAL_DEVICE in progress a reset leaves the fuse copies. -/
theorem sealAfterReset_of_none {s : State} (none : pendingOn s 0x0F01 0 = false) :
    (sealAfterReset s).1.fuseA = s.sealSt.fuseA ∧ (sealAfterReset s).1.fuseB = s.sealSt.fuseB := by
  simp [sealAfterReset, none]

/-- The units are reset with a power state that is a reset's and keeps the straps. -/
theorem resetTaken_resetUnits {pr : PowerReset} {clk : Clk} {s u : State} (same : keptByReset u = keptByReset s)
    (held : (pr.poreset || pr.sysreset || pr.internalReset.isSome) = true) (phase : pr.phase = .strap)
    (power : pr.power = .none) (ready : pr.cmdReady = false) (cls : pr.faultClass = 0) (straps : pr.straps = s.pr.straps) :
    ResetTaken s (resetUnits pr clk u) := by
  simp only [keptByReset, Prod.mk.injEq] at same
  obtain ⟨-, dma, deferred, -, bank0, bank1, recA, recB, store, fuses⟩ := same
  rw [resetUnits_eq]
  refine ⟨held, phase, power, ready, cls, rfl, rfl, rfl, rfl, dma, rfl, rfl, rfl, rfl, rfl, straps, bank0, bank1, recA, recB,
    (congrArg Store.a store : u.store.a = _), (congrArg Store.b store : u.store.b = _), fun none => ?_⟩
  have none' : pendingOn u 0x0F01 0 = false := by rw [pendingOn, deferred]; exact none
  obtain ⟨fuseA, fuseB⟩ := sealAfterReset_of_none none'
  exact ⟨fuseA.trans (congrArg _ fuses), fuseB.trans (congrArg _ fuses)⟩

/-- PORESET_N, with what it leaves of the AON domain. -/
theorem poresetTaken_leaves {s u : State} (same : keptByReset u = keptByReset s) (straps : u.pr.straps = s.pr.straps) :
    ResetTaken s (poresetTaken u) ∧
      (poresetTaken u).pr = { powered := u.pr.powered, sysreset := u.pr.sysreset, straps := u.pr.straps } ∧
      (poresetTaken u).keys = detectorsOnly s.keys := by
  have same' := (keptByReset_resetLocks u).trans same
  have pr : (resetLocks u).pr = u.pr := (Prod.mk.inj (powerView_resetLocks u)).1
  have kept := same'
  simp only [keptByReset, Prod.mk.injEq] at kept
  obtain ⟨-, -, -, keys, -⟩ := kept
  simp only [poresetTaken]
  refine ⟨resetTaken_resetUnits same' rfl rfl rfl rfl rfl (by rw [pr]; exact straps), ?_, ?_⟩
  · rw [resetUnits_eq, pr]
  · rw [resetUnits_eq, keys]

/-- What a reset leaves does not depend on the mate link. -/
theorem ResetTaken.setMate {s t : State} (h : ResetTaken s t) (m : Mate) : ResetTaken s { t with mate := m } := h

/-- SYSRESET_N and DEV_RESET kind 1. -/
theorem sysresetTaken_leaves {s u : State} (same : keptByReset u = keptByReset s) (straps : u.pr.straps = s.pr.straps)
    (held : (u.pr.poreset || u.pr.sysreset || u.pr.internalReset.isSome) = true) :
    ResetTaken s (sysresetTaken u) ∧ (sysresetTaken u).now = s.now := by
  have same' := (keptByReset_resetLocks u).trans same
  have pr : (resetLocks u).pr = u.pr := (Prod.mk.inj (powerView_resetLocks u)).1
  have kept := same'
  simp only [keptByReset, Prod.mk.injEq] at kept
  obtain ⟨now, -⟩ := kept
  simp only [sysresetTaken]
  refine ⟨(resetTaken_resetUnits (clk := clkAonOnly (resetLocks u).clk) same' ?_ rfl rfl rfl rfl ?_).setMate _, ?_⟩
  · rw [pr]; exact held
  · rw [pr]; exact straps
  · rw [resetUnits_eq, now]

/-! ### Each cause -/

section
variable {dt : Nat} {s : State}

theorem exec_poresetAssert_of_released (powered : s.pr.powered = true) (released : s.pr.poreset = false) :
    exec (.poresetAssert dt) s = .next (poresetTaken (advance dt s)) := by
  simp [exec, execPoresetAssert, powered, released]

theorem exec_powerApplied_of_unpowered (off : s.pr.powered = false) : exec (.powerApplied dt) s =
    .next ((poresetTaken ((advance dt s).modPr fun r => { r with powered := true })).modSeal fun x =>
      { x with jtagIr := 0x02 }) := by
  simp [exec, execPowerApplied, off]

theorem exec_powerRemoved_of_powered (powered : s.pr.powered = true) : exec (.powerRemoved dt) s =
    .next { poresetTaken ((advance dt s).modPr fun r => { r with powered := false, sysreset := false }) with keys := {} } := by
  simp [exec, execPowerRemoved, powered]

/-- SYSRESET_N outside FAULT: the mate is told, then the reset is taken. -/
theorem exec_sysresetAssert_of_released (powered : s.pr.powered = true) (healthy : s.pr.phase ≠ .fault)
    (por : s.pr.poreset = false) (released : s.pr.sysreset = false) : exec (.sysresetAssert dt) s =
    .next (sysresetTaken ((if running (advance dt s) then sendGoodbye 1 (advance dt s) else advance dt s).modPr fun r =>
      { r with sysreset := true })) := by
  simp [exec, execSysresetAssert, powered, healthy, por, released]

theorem exec_sysresetAssert_of_fault (fault : s.pr.phase = .fault) : exec (.sysresetAssert dt) s = .next (advance dt s) := by
  simp [exec, execSysresetAssert, fault]

/-- Time passes without a change of what a reset keeps. -/
theorem resetTaken_advance {t : State} : ResetTaken (advance dt s) t ↔ ResetTaken s t := by
  simp only [ResetTaken, advance_host, advance_pr, advance_fw, advance_store, advance_sealSt, pendingOn]

end

/-- Settles O17: each cause is a reset of the units on a state that holds what a reset keeps of the state before. -/
theorem resetsLeave : Obligations.ResetsLeave := by
  unfold Obligations.ResetsLeave
  intro dt s a gone
  have taken {t : State} (h : ResetTaken a t) : gone t := resetTaken_advance.1 h
  refine ⟨fun powered released => ⟨_, exec_poresetAssert_of_released powered released, ?_⟩,
    fun off => ⟨_, exec_powerApplied_of_unpowered off, ?_⟩, fun powered => ⟨_, exec_powerRemoved_of_powered powered, ?_⟩,
    fun powered healthy por released => ⟨_, exec_sysresetAssert_of_released powered healthy por released, ?_⟩,
    exec_sysresetAssert_of_fault⟩
  · obtain ⟨leaves, pr, keys⟩ := poresetTaken_leaves (s := a) rfl rfl
    refine ⟨taken leaves, ?_⟩
    rw [pr, keys]
    simp [detectorsOnly, a]
  · obtain ⟨leaves, pr, -⟩ := poresetTaken_leaves (s := a) (u := a.modPr fun r => { r with powered := true }) rfl rfl
    refine ⟨taken leaves, ?_, rfl⟩
    rw [State.modSeal_pr, pr, State.modPr_pr]
  · obtain ⟨leaves, pr, -⟩ := poresetTaken_leaves (s := a)
      (u := a.modPr fun r => { r with powered := false, sysreset := false }) rfl rfl
    refine ⟨taken leaves, ?_, rfl⟩
    show (poresetTaken _).pr.powered = false
    rw [pr, State.modPr_pr]
  · have told : Sends a (if running a then sendGoodbye 1 a else a) := (sends_sendGoodbye 1 a).ite (.refl a)
    generalize (if running a then sendGoodbye 1 a else a) = u at told
    have pr : u.pr = s.pr := told.pr.trans (advance_pr dt s)
    obtain ⟨leaves, now⟩ := sysresetTaken_leaves (s := a) (u := u.modPr fun r => { r with sysreset := true })
      told.keptByReset (congrArg PowerReset.straps told.pr :) (by simp)
    refine ⟨taken leaves, ?_, ?_, ?_, ?_, now⟩ <;> rw [sysresetTaken_pr, State.modPr_pr, pr]

end Sys2Proof.Machine
end

section
/-!
PROOFS. Boot after the release of the last reset (R407 to R409, R435, Table 17.6).
-/
namespace Sys2Proof.Machine
open Sys2Proof

/-! ### Reading the seal at boot -/

theorem sealViolation_pr (s : State) : (sealViolation s).pr = s.pr := by
  simp only [sealViolation]
  split <;> simp

theorem sealViolation_fw (s : State) : (sealViolation s).fw = s.fw := by
  simp only [sealViolation]
  split <;> simp

theorem bootSeal_pr (s : State) : (bootSeal s).pr = s.pr := by
  simp only [bootSeal]
  split
  · rfl
  · split
    · exact sealViolation_pr _
    · rfl

theorem bootSeal_fw (s : State) : (bootSeal s).fw = s.fw := by
  simp only [bootSeal]
  split
  · rfl
  · split
    · exact sealViolation_fw _
    · rfl

/-! ### The choice of a bank -/

/-- A new boot record leaves the banks and the fuses. -/
theorem bankImage_writeRec (g : BootRec → BootRec) (f : Firmware) (reason : Option Nat) (b : Nat) :
    bankImage { writeRec g f with fellBack := reason } b = bankImage f b := by
  simp only [writeRec]
  split <;> rfl

/-- What the boot ROM sets as it goes on from step 1, whatever it finds: phase, straps, resets and UPTIME stay. -/
def bootKept (s : State) := (s.pr.phase, s.pr.straps, s.pr.poreset, s.pr.sysreset, s.pr.internalReset, s.pr.uptimeFrom)

/-- The bank the record names runs, or the other one, or a download is waited for (R408). -/
def BankChosen (f : Firmware) (t : State) : Prop :=
  let b := (recInForce f).active
  match bankImage f b, bankImage f (1 - b) with
  | some i, _ => t.pr.boot = .running ∧ t.fw.running = some i ∧ t.fw.runBank = b
  | none, some i => t.pr.boot = .running ∧ t.fw.running = some i ∧ t.fw.runBank = 1 - b
  | none, none => t.pr.boot = .download true true ∧ t.pr.bootCode = 0xD

theorem bootFlash_chooses (x : BootFinds) (s : State) :
    bootKept (bootFlash x s) = bootKept s ∧ BankChosen s.fw (bootFlash x s) := by
  simp only [bootFlash, BankChosen]
  generalize told : (if (recInForce s.fw).trial = true then _ else s) = u
  have pr : u.pr = s.pr := by rw [← told]; split <;> rfl
  have images (b : Nat) : bankImage u.fw b = bankImage s.fw b := by
    rw [← told]
    split
    · exact bankImage_writeRec ..
    · rfl
  simp only [images]
  cases bankImage s.fw (recInForce s.fw).active with
  | some i => exact ⟨by simp [bootKept, pr], rfl, rfl, rfl⟩
  | none =>
    cases bankImage s.fw (1 - (recInForce s.fw).active) with
    | some i => exact ⟨by simp [bootKept, pr], rfl, rfl, rfl⟩
    | none => exact ⟨by simp [bootKept, pr], rfl, rfl⟩

/-! ### Boot from step 1 -/

/-- Step 1 begins. -/
def bootBegun (x : BootFinds) (s : State) : State :=
  (s.modPr fun r => { r with phase := .boot, releasedAt := s.now, bootCode := 1, bootLater := stepsLater x }).modClk fun k =>
    { k with windowAt := some (s.now + secT 1) }

/-- The steps passed, and the boot source in the straps is taken. -/
def bootSource (x : BootFinds) (s : State) : State :=
  match s.pr.straps.toNat % 4 with
  | 1 => s.modPr fun r =>
    { r with boot := .download true false, bootCode := 0xA, bootDownload := true, bootPlan := firstSteps x 2 s }
  | 2 => s.modPr fun r =>
    { r with boot := .download false true, bootCode := 0xA, bootDownload := true, bootPlan := firstSteps x 2 s }
  | _ => bootFlash x s

/-- What boot does from step 1 on, by what it finds. -/
theorem startBoot_eq (x : BootFinds) (s : State) : startBoot x s =
    if x.romFail then enterFault 9 (bootBegun x s)
    else if x.fillFail then enterFault 6 (bootSeal (bootBegun x s))
    else if x.dieFail then enterFault 8 (bootSeal (bootBegun x s))
    else bootSource x (bootSeal (bootBegun x s)) := rfl

/-- The boot source: 01 and 10 wait for a download, the others choose a bank. -/
theorem bootSource_chooses (x : BootFinds) (s : State) :
    bootKept (bootSource x s) = bootKept s ∧
      (s.pr.straps.toNat % 4 = 1 → (bootSource x s).pr.boot = .download true false ∧ (bootSource x s).pr.bootCode = 0xA) ∧
      (s.pr.straps.toNat % 4 = 2 → (bootSource x s).pr.boot = .download false true ∧ (bootSource x s).pr.bootCode = 0xA) ∧
      (s.pr.straps.toNat % 4 = 0 ∨ s.pr.straps.toNat % 4 = 3 → BankChosen s.fw (bootSource x s)) := by
  unfold bootSource
  split
  · next one => exact ⟨rfl, fun _ => ⟨rfl, rfl⟩, by omega, by omega⟩
  · next two => exact ⟨rfl, by omega, fun _ => ⟨rfl, rfl⟩, by omega⟩
  · next not1 not2 =>
    obtain ⟨kept, chosen⟩ := bootFlash_chooses x s
    exact ⟨kept, fun one => absurd one not1, fun two => absurd two not2, fun _ => chosen⟩

/-- A release with boot's finds `f`, on a state of firmware `fw`: what the outcome shows. -/
def Boots (f : BootFinds) (fw : Firmware) (st : BitVec 6) (o : Host.Outcome State Fault Refusal) : Prop :=
  (f.romFail = true → ∃ t, o = .next t ∧ t.pr.phase = .fault ∧ t.pr.faultClass = 9) ∧
  (f.romFail = false → f.fillFail = true → ∃ t, o = .next t ∧ t.pr.phase = .fault ∧ t.pr.faultClass = 6) ∧
  (f.romFail = false → f.fillFail = false → f.dieFail = true →
    ∃ t, o = .next t ∧ t.pr.phase = .fault ∧ t.pr.faultClass = 8) ∧
  (f.romFail = false → f.fillFail = false → f.dieFail = false → ∃ t, o = .next t ∧ t.pr.phase = .boot ∧
    t.pr.straps = st ∧ inReset t = false ∧
    (st.toNat % 4 = 1 → t.pr.boot = .download true false ∧ t.pr.bootCode = 0xA) ∧
    (st.toNat % 4 = 2 → t.pr.boot = .download false true ∧ t.pr.bootCode = 0xA) ∧
    (st.toNat % 4 = 0 ∨ st.toNat % 4 = 3 → BankChosen fw t))

section
variable {s : State} (powered : s.pr.powered = true) (por : s.pr.poreset = false)
include powered por

/-- A failed step of boot enters FAULT with its class, and leaves UPTIME. -/
theorem enterFault_of_boot (x : BootFinds) (cls : Nat) {u : State} (same : u.pr = (bootBegun x s).pr) :
    (enterFault cls u).pr.phase = .fault ∧ (enterFault cls u).pr.faultClass = cls ∧
      (enterFault cls u).pr.uptimeFrom = s.pr.uptimeFrom := by
  have boot : u.pr.phase ≠ .fault := by rw [same]; simp [bootBegun]
  obtain ⟨pr, -⟩ := enterFault_of_healthy (s := u) (by rw [same]; exact powered) (by rw [same]; exact por) boot cls
  rw [pr]
  exact ⟨rfl, rfl, (congrArg PowerReset.uptimeFrom same :)⟩

/-- The last reset is released: boot starts from the straps of the state. -/
theorem boots_startBoot (sys : s.pr.sysreset = false) (int : s.pr.internalReset = none) (f : BootFinds) :
    Boots f s.fw s.pr.straps (.next (startBoot f s)) := by
  have sealRead : (bootSeal (bootBegun f s)).pr = (bootBegun f s).pr := bootSeal_pr _
  have failed (cls : Nat) {u : State} (same : u.pr = (bootBegun f s).pr) :
      (enterFault cls u).pr.phase = .fault ∧ (enterFault cls u).pr.faultClass = cls := by
    obtain ⟨fault, cls, -⟩ := enterFault_of_boot powered por f cls same
    exact ⟨fault, cls⟩
  rw [startBoot_eq]
  refine ⟨fun rom => ⟨_, rfl, ?_⟩, fun rom fill => ⟨_, rfl, ?_⟩, fun rom fill die => ⟨_, rfl, ?_⟩,
    fun rom fill die => ⟨_, rfl, ?_⟩⟩
  · rw [if_pos rom]
    exact failed 9 rfl
  · rw [if_neg (ne_true_of_eq_false rom), if_pos fill]
    exact failed 6 sealRead
  · rw [if_neg (ne_true_of_eq_false rom), if_neg (ne_true_of_eq_false fill), if_pos die]
    exact failed 8 sealRead
  · rw [if_neg (ne_true_of_eq_false rom), if_neg (ne_true_of_eq_false fill), if_neg (ne_true_of_eq_false die)]
    obtain ⟨kept, spi, pcie, flash⟩ := bootSource_chooses f (bootSeal (bootBegun f s))
    simp only [bootKept, Prod.mk.injEq, sealRead] at kept
    obtain ⟨phase, straps, por', sys', int', -⟩ := kept
    have st : (bootBegun f s).pr.straps = s.pr.straps := rfl
    rw [sealRead, st] at spi pcie flash
    rw [bootSeal_fw] at flash
    refine ⟨phase, straps, ?_, spi, pcie, flash⟩
    simp only [inReset, por', sys', int']
    simp [bootBegun, por, sys, int]

/-- Boot leaves UPTIME. -/
theorem startBoot_uptimeFrom (f : BootFinds) : (startBoot f s).pr.uptimeFrom = s.pr.uptimeFrom := by
  have sealRead : (bootSeal (bootBegun f s)).pr = (bootBegun f s).pr := bootSeal_pr _
  have failed (cls : Nat) {u : State} (same : u.pr = (bootBegun f s).pr) :
      (enterFault cls u).pr.uptimeFrom = s.pr.uptimeFrom := by
    obtain ⟨-, -, uptime⟩ := enterFault_of_boot powered por f cls same
    exact uptime
  rw [startBoot_eq]
  split
  · exact failed 9 rfl
  · split
    · exact failed 6 sealRead
    · split
      · exact failed 8 sealRead
      · obtain ⟨kept, -⟩ := bootSource_chooses f (bootSeal (bootBegun f s))
        simp only [bootKept, Prod.mk.injEq, sealRead] at kept
        obtain ⟨-, -, -, -, -, uptime⟩ := kept
        exact uptime

end

/-! ### The releases -/

/-- PORESET_N is released: the straps are sampled, UPTIME and the tick counter start, and SEAL_VIOLATION may clear. -/
def poresetReleased (straps : BitVec 6) (s : State) : State :=
  ((s.modPr fun r => { r with poreset := false, straps, uptimeFrom := some s.now }).modClk fun k =>
    { k with nextTick := some (s.now + secT 1) }).modSeal fun x =>
      { x with violation := x.violation && !(x.fuseA && x.fuseB && x.gateClosed) }

section
variable {f : BootFinds} {dt : Nat} {s : State} (powered : s.pr.powered = true)
include powered

theorem exec_poresetRelease_of_taken {straps : BitVec 6} (taken : s.pr.poreset = true) :
    exec (.poresetRelease straps f dt) s = .next (if s.pr.sysreset then poresetReleased straps (advance dt s)
      else startBoot f (poresetReleased straps (advance dt s))) := by
  simp [exec, execPoresetRelease, powered, taken, poresetReleased]

theorem exec_sysresetRelease_of_taken (taken : s.pr.sysreset = true) (por : s.pr.poreset = false)
    (int : s.pr.internalReset = none) : exec (.sysresetRelease f dt) s =
      .next (startBoot f ((advance dt s).modPr fun r => { r with sysreset := false })) := by
  simp [exec, execSysresetRelease, powered, taken, inReset, por, int]

theorem exec_devResetInternalRelease_of_due (due_ : due s.pr.internalReset (advance dt s).now = true)
    (sys : s.pr.sysreset = false) (por : s.pr.poreset = false) : exec (.devResetInternalRelease f dt) s =
      .next (startBoot f ((advance dt s).modPr fun r => { r with internalReset := none })) := by
  simp [exec, execDevResetInternalRelease, powered, due_, inReset, por, sys]

end

/-- Settles O18: the last release is `startBoot` on the released state. -/
theorem bootAfterRelease : Obligations.BootAfterRelease := by
  unfold Obligations.BootAfterRelease
  intro straps f dt s a release
  refine ⟨fun powered taken sys int _ => ?_, fun powered taken sys => ?_, fun powered taken por int _ => ?_,
    fun powered sys por due_ _ => ?_⟩
  · have runs := exec_poresetRelease_of_taken (f := f) (dt := dt) (straps := straps) powered taken
    rw [if_neg (ne_true_of_eq_false sys)] at runs
    have pr : (poresetReleased straps a).pr = { s.pr with poreset := false, straps, uptimeFrom := some a.now } := by
      simp [poresetReleased, a]
    have por : (poresetReleased straps a).pr.poreset = false := by rw [pr]
    have on : (poresetReleased straps a).pr.powered = true := by rw [pr]; exact powered
    rw [runs]
    refine ⟨?_, fun t ran => ?_⟩
    · have boots := boots_startBoot on por (by rw [pr]; exact sys) (by rw [pr]; exact int) f
      rw [pr, show (poresetReleased straps a).fw = s.fw by simp [poresetReleased, a]] at boots
      exact boots
    · rw [← Host.Outcome.next.inj ran]
      exact (startBoot_uptimeFrom on por f).trans (by rw [pr])
  · refine ⟨_, exec_poresetRelease_of_taken powered taken, ?_⟩
    rw [if_pos sys]
    simp [poresetReleased, inReset, sys]
  · rw [exec_sysresetRelease_of_taken powered taken por int]
    have boots := boots_startBoot (s := a.modPr fun r => { r with sysreset := false }) (by simpa [a] using powered)
      (by simpa [a] using por) (by simp) (by simpa [a] using int) f
    rw [State.modPr_pr, State.modPr_fw, advance_pr, advance_fw] at boots
    exact boots
  · rw [exec_devResetInternalRelease_of_due powered due_ sys por]
    have boots := boots_startBoot (s := a.modPr fun r => { r with internalReset := none }) (by simpa [a] using powered)
      (by simpa [a] using por) (by simpa [a] using sys) (by simp) f
    rw [State.modPr_pr, State.modPr_fw, advance_pr, advance_fw] at boots
    exact boots

end Sys2Proof.Machine
end

section
/-!
PROOFS. The mate link's commands (Table 13.10).
-/
namespace Sys2Proof.Machine
open Sys2Proof

/-! ### What MATE_CONFIG sets stays -/

/-- RATE_MAX and RETRIES. -/
def mateLimits (s : State) : Nat × Nat := (s.mate.rateMax, s.mate.retries)

theorem Alarms.mateLimits {s t : State} (h : Alarms s t) : mateLimits t = mateLimits s := by
  have k := congrArg (fun s : State => (s.mate.rateMax, s.mate.retries)) h
  exact k

theorem Sends.mateLimits {s t : State} (h : Sends s t) : mateLimits t = mateLimits s := h.alarms_of.mateLimits

theorem mateLimits_releaseOf (p : Port) (s : State) (l : Lock) : mateLimits (releaseOf p s l) = mateLimits s := by
  rcases releaseOf_cases p s l with ⟨kept, -⟩ | ⟨⟨data, freed⟩, -⟩
  · rw [kept]
  · rw [freed, (sends_emit ..).mateLimits]
    cases l <;> rfl

theorem mateLimits_releasePortLocks (p : Port) (s : State) : mateLimits (releasePortLocks p s) = mateLimits s :=
  (mateLimits_releaseOf p _ .update).trans (mateLimits_releaseOf p s .crypto)

theorem mateLimits_setMate (st : MateSt) (s : State) : mateLimits (setMate st s) = mateLimits s := by
  have told (u : State) : mateLimits (mateEvent s.mate.st u) = mateLimits u := (sends_emit ..).mateLimits
  simp only [setMate]
  split
  · rfl
  · split
    · exact (mateLimits_releasePortLocks .mate _).trans (told _)
    · exact told _

theorem mateLimits_dropJoins (s : State) : mateLimits (dropJoins s) = mateLimits s := (sends_mateCount ..).mateLimits

theorem mateLimits_startTraining (s : State) : mateLimits (startTraining s) = mateLimits s :=
  (sends_mateCount ..).mateLimits.trans ((mateLimits_dropJoins _).trans (mateLimits_setMate .training s))

theorem mateLimits_mateOff (s : State) : mateLimits (mateOff s) = mateLimits s :=
  (mateLimits_setMate .disabled _).trans (mateLimits_dropJoins s)

theorem mateLimits_mateEnable (on : Nat) (s : State) : mateLimits (mateEnable on s) = mateLimits s := by
  unfold mateEnable
  split
  · refine (alarms_clearAlarm ..).mateLimits.trans ((alarms_clearAlarm ..).mateLimits.trans ?_)
    split
    · rfl
    · exact (mateLimits_mateOff _).trans (sends_sendGoodbye 2 s).mateLimits
  · split
    · exact mateLimits_startTraining s
    · rfl

/-- MATE_CONFIG replies the limits it has set, whatever ENABLE then does. -/
theorem mateConfigOp_run (c : Cmd) (t : Nat) (s : State) :
    let m := s.mate
    let u := s.modMate fun m => { m with
      enable := pick c 0 m.enable, rateMax := pick c 1 m.rateMax, rxSleep := pick c 2 m.rxSleep
      retries := pick c 3 m.retries, asleep := m.asleep && pick c 2 m.rxSleep == 1 }
    mateConfigOp.run s t c = okRes (if pick c 0 m.enable = m.enable then u else mateEnable (pick c 0 m.enable) u)
      [w32 (pick c 0 m.enable), w32 (pick c 1 m.rateMax), w32 (pick c 2 m.rxSleep), w32 (pick c 3 m.retries)] := by
  intro m u
  have limits (v : State) (same : mateLimits v = mateLimits u) :
      v.mate.rateMax = pick c 1 m.rateMax ∧ v.mate.retries = pick c 3 m.retries := Prod.mk.inj same
  by_cases same : pick c 0 m.enable = m.enable
  · simp only [mateConfigOp, if_pos same, m, u]
    rfl
  · obtain ⟨rate, retries⟩ := limits _ (mateLimits_mateEnable (pick c 0 m.enable) u)
    rw [← rate, ← retries, if_neg same]
    simp only [mateConfigOp, if_neg same, m, u]
    rfl

/-! ### Serving changes nothing the mate commands read -/

theorem groupPort_ready (c : Cmd) (s : State) (g : Nat) : groupPort (ready c s) g = groupPort s g := by
  simp only [groupPort, aps_ready]

theorem mirrorRecord_ready (c : Cmd) (s : State) : mirrorRecord (ready c s) = mirrorRecord s := by
  funext p
  simp only [mirrorRecord, aps_ready, ready_port, mapBytes, hpCfg_ready]

theorem mateRecord_ready (c : Cmd) (s : State) (g : Nat) : mateRecord (ready c s) g = mateRecord s g := by
  simp only [mateRecord, ready_mate]

theorem mateSilent_ready (c : Cmd) (s : State) : mateSilent (ready c s) = mateSilent s := raised_ready ..

/-- MATE_WAKE_PEER towards a mate that is silent, on a link that is not DISABLED, sends the wake sequence. -/
theorem mateWakePeerOp_run_of_silent {s : State} (t : Nat) (c : Cmd) (silent : mateSilent s = true) :
    mateWakePeerOp.run s t c = if s.mate.st = .disabled then refuse s stBadState 0x0101
      else { st := mateCount 0x0B0A 1 (s.modMate fun m => { m with wakePeer := some (s.hk + usT 400 + msT 10) })
             settled := false } := by
  simp only [mateWakePeerOp, silent, Bool.not_true, if_neg Bool.false_ne_true]

/-- Settles O48: each command is served on the mate link; the state of the link says whether it acts or refuses. -/
theorem mateCommandsRun : Obligations.MateCommandsRun := by
  unfold Obligations.MateCommandsRun
  intro c s
  simp -zeta only [← ready_mate c s, ← groupPort_ready c s, ← mirrorRecord_ready c s, ← mateRecord_ready c s,
    ← mateSilent_ready c s, ← raised_ready c s]
  intro r m ok no
  refine ⟨fun runs => exec_of_runs (op := mateConfigOp) runs (mateConfigOp_run c c.target r),
    fun runs => exec_of_runs (op := mateStatusOp) runs rfl,
    fun runs => ⟨fun off => ?_, fun on mate => ?_, fun on local_ => ?_⟩,
    fun runs => ⟨fun heard => ?_, fun silent off => ?_, fun silent on => ?_⟩,
    fun runs => exec_of_runs (op := mateMirrorReadOp) runs rfl, fun runs => exec_of_runs (op := mateCountersOp) runs rfl⟩
  · exact exec_of_badState (op := mateRetrainOp) runs (if_pos off)
  · exact exec_of_badState (op := mateRetrainOp) runs ((if_neg on).trans (if_pos mate))
  · exact exec_of_accepted (op := mateRetrainOp) runs ((if_neg on).trans (if_neg local_))
  · exact exec_of_badState (op := mateWakePeerOp) runs (if_pos (congrArg not heard))
  · exact exec_of_badState (op := mateWakePeerOp) runs ((mateWakePeerOp_run_of_silent _ c silent).trans (if_pos off))
  · exact exec_of_accepted (op := mateWakePeerOp) runs ((mateWakePeerOp_run_of_silent _ c silent).trans (if_neg on))

end Sys2Proof.Machine
end

section
/-!
PROOFS. The mate link's receiver, training and timers proceed (R344 to R356, Table 13.7).
-/
namespace Sys2Proof.Machine
open Sys2Proof

/-! ### What the mate link's events read is not a matter of time -/

theorem mirrorRecord_advance (dt : Nat) (s : State) (p : Lp) : mirrorRecord (advance dt s) p = mirrorRecord s p := by
  simp only [mirrorRecord, aps_advance, advance_port, mapBytes, hpCfg, advance_hport]

theorem mirrorDiffers_advance (dt : Nat) (s : State) (g : Nat) : mirrorDiffers (advance dt s) g = mirrorDiffers s g := by
  simp only [mirrorDiffers, groupPort, mateRecord, aps_advance, advance_mate, mirrorRecord_advance]

theorem linkTalks_advance (dt : Nat) (s : State) : linkTalks (advance dt s) = linkTalks s := by
  simp only [linkTalks, advance_mate]

theorem isPrimary_advance (dt : Nat) (s : State) : isPrimary (advance dt s) = isPrimary s := by
  simp only [isPrimary, advance_pr]

/-! ### Reception -/

section
variable {rate dt : Nat} {xs : List Int} {s : State} (hears : mateHears (advance dt s) = true) (known : rate ≤ 2)
  (valid : isCandidate xs = true)
include hears known valid

theorem exec_mateCandidate_of_first (first : s.mate.cand = none) : exec (.mateCandidate rate xs dt) s =
    .next ((advance dt s).modMate fun m => { m with cand := some (rate, (preambleCorr xs).toNat, (advance dt s).hk) }) := by
  simp only [exec, execMateCandidate, hears, known, valid, advance_mate, first, decide_true, Bool.and_self, if_true]

/-- A candidate in the symbol time of the one being received is taken if it is stronger, a later one if it is 6 dB stronger. -/
theorem exec_mateCandidate_of_later {r0 c0 t0 : Nat} (held : s.mate.cand = some (r0, c0, t0)) :
    let c := (preambleCorr xs).toNat
    let a := advance dt s
    let take := a.modMate fun m => { m with cand := some (rate, c, a.hk) }
    exec (.mateCandidate rate xs dt) s = .next (
      if 7 * t0 / 192 = 7 * a.hk / 192 then (if c0 < c ∨ (c0 = c ∧ r0 < rate) then take else a)
      else if above6dB c c0 = true then mateCount 0x0B05 1 take else a) := by
  simp only [exec, execMateCandidate, hears, known, valid, advance_mate, held, decide_true, Bool.and_self, if_true]

end

section
variable {b : RxBurst} {dt c0 t0 : Nat} {s : State} (held : s.mate.cand = some (b.rate, c0, t0))
  (hears : mateHears (advance dt s) = true)
include held hears

omit hears in
theorem exec_mateBurstReceived_of_no_sfd (no : sfdFound b.sfd = false) :
    exec (.mateBurstReceived b dt) s = .next (advance dt s) := by
  simp only [exec, execMateBurstReceived, advance_mate, held, no, Bool.and_false, if_neg Bool.false_ne_true]

/-- The receiver sleeps after a burst only once a HEARTBEAT was received (log entry 97). -/
def afterBurst (s : State) : State :=
  s.modMate fun m => { m with asleep := m.rxSleep == 1 && m.st == .up && m.expect.isSome && !keptAwake s 0x90 }

theorem exec_mateBurstReceived_of_bad (sfd : sfdFound b.sfd = true) (bad : burstGood (burstBack b.syms) = false) :
    exec (.mateBurstReceived b dt) s = .next (pump (afterBurst (mateCount 0x0B03 1 (judgeLink b.margin false
      ((advance dt s).modMate fun m => { m with cand := none, listenEnd := none }))))) := by
  simp only [exec, execMateBurstReceived, advance_mate, held, hears, sfd, bad, beq_self_eq_true, Bool.and_self, if_true,
    if_neg Bool.false_ne_true, afterBurst]

theorem exec_mateBurstReceived_of_good (sfd : sfdFound b.sfd = true) (good : burstGood (burstBack b.syms) = true) :
    let bs := burstBack b.syms
    let a := advance dt s
    let u := mateCount 0x0B02 1 ((judgeLink b.margin true (a.modMate fun m =>
      { m with cand := none, listenEnd := none })).modMate fun m => { m with lastGood := some a.hk })
    let v := if (bs.getD 0 0).toNat = 5 then u else mateBack u
    exec (.mateBurstReceived b dt) s =
      .next (pump (afterBurst (if v.mate.st = .training then takeTraining b.rate bs v else takeBurst bs v))) := by
  simp only [exec, execMateBurstReceived, advance_mate, held, hears, sfd, good, beq_self_eq_true, Bool.and_self, if_true,
    afterBurst]
  rfl

end

/-- Packets were sent: the receiver's sequence, candidate and last good burst, and the link's state, stay. -/
theorem Sends.reception {s t : State} (h : Sends s t) : t.mate.cand = s.mate.cand ∧ t.mate.st = s.mate.st ∧
    t.mate.rxSeq = s.mate.rxSeq ∧ t.mate.lastGood = s.mate.lastGood := by
  unfold Sends at h
  rw [h]
  exact ⟨rfl, rfl, rfl, rfl⟩

theorem Sends.resumeFrom {s t : State} (h : Sends s t) : t.mate.resumeFrom = s.mate.resumeFrom := by
  unfold Sends at h
  rw [h]
  rfl

/-- A burst with a bad CRC ends its candidate and changes nothing that the link, the ports or the queues hold. -/
theorem badBurst_frame (margin : Nat) (s : State) :
    let t := pump (afterBurst (mateCount 0x0B03 1 (judgeLink margin false
      (s.modMate fun m => { m with cand := none, listenEnd := none }))))
    t.mate.cand = none ∧ t.mate.st = s.mate.st ∧ t.mate.rxSeq = s.mate.rxSeq ∧ t.mate.lastGood = s.mate.lastGood ∧
      t.lp = s.lp ∧ t.eng = s.eng ∧ t.host.rxq = s.host.rxq := by
  have counted := sends_mateCount 0x0B03 1 (judgeLink margin false
    (s.modMate fun m => { m with cand := none, listenEnd := none }))
  generalize mateCount 0x0B03 1 _ = v at counted ⊢
  obtain ⟨cand, st, rxSeq, lastGood⟩ := counted.reception
  obtain ⟨cand', st', rxSeq', lastGood'⟩ := (sends_pump (afterBurst v)).reception
  exact ⟨cand'.trans cand, st'.trans st, rxSeq'.trans rxSeq, lastGood'.trans lastGood, (pump_lp _).trans counted.lp,
    (pump_eng _).trans counted.eng, (pump_host_rxq _).trans counted.host_rxq⟩

/-! ### Silence -/

/-- The housekeeping time, the link's state and MATE_DOWN: what the selectors' reaction to the silence leaves. -/
def silenceView (s : State) : Nat × MateSt × Bool := (s.hk, s.mate.st, mateSilent s)

theorem Sends.silenceView {s t : State} (h : Sends s t) : silenceView t = silenceView s := by
  obtain ⟨-, st, -, -⟩ := h.reception
  simp only [Machine.silenceView, h.hk, st, mateSilent, raised, h.alarms]

theorem silenceView_modAps (p : Lp) (f : Aps → Aps) (s : State) : silenceView (s.modAps p f) = silenceView s := by
  cases p <;> rfl

/-- An alarm of another code does not touch MATE_DOWN. -/
theorem silenceView_alarmIf {code target : Nat} (other : alarmKey 0x8B10 0x90 0 ≠ alarmKey code target 0) (on : Bool)
    (data : List Word) (s : State) : silenceView (alarmIf on code target 0 data s) = silenceView s := by
  obtain ⟨raise, clear⟩ := alarms_other other data s
  have st : (alarmIf on code target 0 data s).mate.st = s.mate.st := (alarms_alarmIf on code target 0 data s).mate_st
  have hk : (alarmIf on code target 0 data s).hk = s.hk := (alarms_alarmIf on code target 0 data s).hk
  have kept : mateSilent (alarmIf on code target 0 data s) = mateSilent s := by
    unfold alarmIf
    split
    · exact raise
    · exact clear
  simp only [silenceView, st, hk, kept]

theorem silenceView_restoreState (p : Lp) (s : State) : silenceView (restoreState p s) = silenceView s := by
  simp only [restoreState, apply_ite silenceView, silenceView_modAps, ite_self]

theorem silenceView_splitAlarm (p : Lp) (on : Bool) (s : State) :
    silenceView (alarmIf on 0x8A15 (lpT p) 0 [] s) = silenceView s :=
  silenceView_alarmIf (by cases p <;> decide) on [] s

theorem silenceView_apsDecide (p : Lp) (s : State) : silenceView (apsDecide p s) = silenceView s := by
  have sent (u : State) : silenceView (sendAps u) = silenceView u := (sends_sendAps u).silenceView
  have told (code target : Nat) (data : List Word) (u : State) : silenceView (emit code target data u) = silenceView u :=
    (sends_emit ..).silenceView
  have counted (u : State) : silenceView (lpCount u p 0x0A24 1) = silenceView u := (sends_lpCount ..).silenceView
  simp only [apsDecide, apply_ite silenceView, sent, told, counted, silenceView_splitAlarm, silenceView_modAps,
    silenceView_restoreState, ite_self]

theorem silenceView_apsBoth (s : State) : silenceView (apsBoth s) = silenceView s :=
  (silenceView_apsDecide ..).trans (silenceView_apsDecide ..)

theorem silenceView_releaseOf (p : Port) (s : State) (l : Lock) : silenceView (releaseOf p s l) = silenceView s := by
  rcases releaseOf_cases p s l with ⟨kept, -⟩ | ⟨⟨data, freed⟩, -⟩
  · rw [kept]
  · rw [freed, (sends_emit ..).silenceView]
    cases l <;> rfl

theorem silenceView_releasePortLocks (p : Port) (s : State) : silenceView (releasePortLocks p s) = silenceView s :=
  (silenceView_releaseOf p _ .update).trans (silenceView_releaseOf p s .crypto)

/-- MATE_DOWN is raised, and the link is as it was. -/
theorem silenceView_mateDown (s : State) : silenceView (mateDown s) = (s.hk, s.mate.st, true) := by
  unfold mateDown
  split
  · next silent => rw [silenceView, silent]
  · rw [silenceView_apsBoth, silenceView_releasePortLocks, silenceView, (alarms_raiseAlarm ..).hk,
      (alarms_raiseAlarm ..).mate_st, mateSilent, raised_after_raiseAlarm]

/-- A link that changes state is in its new state. -/
theorem silenceView_setMate (st : MateSt) (s : State) : silenceView (setMate st s) = (s.hk, st, mateSilent s) := by
  simp only [setMate]
  split
  · next same => rw [silenceView, same]
  · split
    · exact (silenceView_releasePortLocks ..).trans (sends_emit ..).silenceView
    · exact (sends_emit ..).silenceView

/-- From UP the link enters RESUME. -/
theorem toResume_view (s : State) : silenceView (toResume s) = (s.hk, .resume, mateSilent s) ∧
    (toResume s).mate.resumeFrom = some s.hk := by
  have view := silenceView_setMate .resume s
  exact ⟨view, (congrArg (fun v : Nat × MateSt × Bool => some v.1) view :)⟩

theorem mirrorTimer_st (g : Nat) (s : State) : (mirrorTimer g s).mate.st = s.mate.st := rfl

/-! ### Timers -/

section
variable {dt : Nat} {s : State} (hr : running (advance dt s) = true)
include hr

theorem exec_mateSfdTimeout_of_late {r0 c0 t0 : Nat} (held : s.mate.cand = some (r0, c0, t0))
    (late : 160 * 192 ≤ ((advance dt s).hk - t0) * (7 * 2 ^ r0)) : exec (.mateSfdTimeout dt) s =
      .next (mateCount 0x0B04 1 ((advance dt s).modMate fun m => { m with cand := none })) := by
  simp only [exec, execMateSfdTimeout, advance_mate, held, hr, late, decide_true, Bool.and_self, if_true]

theorem exec_mateTrainPhaseEnd_of_attempt {f : TrainFinds} (attempt : s.mate.attempt.isSome = true) :
    exec (.mateTrainPhaseEnd f dt) s = .next (pump (trainPhaseEnd f (advance dt s))) := by
  simp only [exec, execMateTrainPhaseEnd, advance_mate, hr, attempt, Bool.and_self, if_true]

theorem exec_mateTrainAttemptTimeout_of_late {t : Nat} (attempt : s.mate.attempt = some t)
    (late : t + msT 50 ≤ (advance dt s).hk) :
    exec (.mateTrainAttemptTimeout dt) s = .next (pump (failTraining 0 (advance dt s))) := by
  simp only [exec, execMateTrainAttemptTimeout, advance_mate, attempt, hr, late, decide_true, Bool.and_self, if_true]

theorem exec_mateTrainBackoffExpiry_of_due (over_ : due s.mate.backoff (advance dt s).hk = true)
    (training : s.mate.st = .training) :
    exec (.mateTrainBackoffExpiry dt) s = .next (pump (startTraining (advance dt s))) := by
  simp only [exec, execMateTrainBackoffExpiry, advance_mate, hr, over_, training, beq_self_eq_true, Bool.and_self, if_true]

theorem exec_mateResumeTimeout_of_late {t : Nat} (from_ : s.mate.resumeFrom = some t) (resume : s.mate.st = .resume)
    (late : t + msT 50 ≤ (advance dt s).hk) :
    exec (.mateResumeTimeout dt) s = .next (pump (startTraining (advance dt s))) := by
  simp only [exec, execMateResumeTimeout, advance_mate, from_, hr, resume, late, beq_self_eq_true, decide_true, Bool.and_self,
    if_true]

/-- 300 us without a good burst: MATE_DOWN, and a link that is UP enters RESUME. -/
theorem exec_mateSilenceTimeout_of_silent
    (silent : s.mate.lastGood = none ∨ ∃ t, s.mate.lastGood = some t ∧ t + usT 300 ≤ (advance dt s).hk) :
    let d := mateDown (advance dt s)
    exec (.mateSilenceTimeout dt) s = .next (pump (if d.mate.st = .up then toResume d else d)) := by
  rcases silent with never | ⟨t, last, late⟩
  · simp only [exec, execMateSilenceTimeout, advance_mate, never, hr, Bool.and_self, if_true]
  · simp only [exec, execMateSilenceTimeout, advance_mate, last, late, hr, decide_true, Bool.and_self, if_true]

theorem exec_mateHeartbeatTimer_of_due (over_ : due s.mate.heartbeat (advance dt s).hk = true)
    (talks : s.mate.phase = .confirm ∨ linkTalks s = true) : exec (.mateHeartbeatTimer dt) s =
      .next (pumpMate 8 (applyRate (sendHeartbeat false ((advance dt s).modMate fun m =>
        { m with heartbeat := m.heartbeat.map fun t => t + usT 100 })))) := by
  have sends : (linkTalks s || s.mate.phase == .confirm) = true := by
    rcases talks with confirm | talks
    · rw [confirm]; simp
    · rw [talks, Bool.true_or]
  simp only [exec, execMateHeartbeatTimer, advance_mate, linkTalks_advance, hr, over_, sends, Bool.and_self, if_true]

theorem exec_mateAckOnlyTimer_of_due (over_ : due s.mate.ackDue (advance dt s).hk = true) (talks : linkTalks s = true) :
    exec (.mateAckOnlyTimer dt) s = .next (applyRate (sendHeartbeat true (advance dt s))) := by
  simp only [exec, execMateAckOnlyTimer, advance_mate, linkTalks_advance, hr, over_, talks, Bool.and_self, if_true]

theorem exec_mateRetransmitTimer_of_unacked {u : Unacked}
    (oldest : s.mate.unacked.find? (fun u => decide (u.at_ + usT 20 ≤ (advance dt s).hk)) = some u) (up : s.mate.st = .up) :
    exec (.mateRetransmitTimer dt) s = .next (resend u (advance dt s)) := by
  simp only [exec, execMateRetransmitTimer, advance_mate, oldest, hr, up, beq_self_eq_true, Bool.and_self, if_true]

theorem exec_mateSegmentTimeout_of_running : exec (.mateSegmentTimeout dt) s =
    .next (mateCount 0x0B07 (s.mate.joins.filter fun j => decide (j.from_ + msT 10 ≤ (advance dt s).hk)).length
      ((advance dt s).modMate fun m =>
        { m with joins := m.joins.filter fun j => !decide (j.from_ + msT 10 ≤ (advance dt s).hk) })) := by
  simp only [exec, execMateSegmentTimeout, advance_mate, hr, if_true]

theorem exec_mateWakePeerTimeout_of_due (over_ : due s.mate.wakePeer (advance dt s).hk = true) :
    exec (.mateWakePeerTimeout dt) s = .next (pump (completeAll 0x0B04 0x90 stOk 0 [1]
      ((advance dt s).modMate fun m => { m with wakePeer := none }))) := by
  simp only [exec, execMateWakePeerTimeout, advance_mate, hr, over_, Bool.and_self, if_true]

/-- The record of a port that was last sent, with its time. -/
def lastMirror (p : Lp) (s : State) : Option (List Word × Nat) :=
  match p with | .lp0 => s.mate.sentMirror.lp0 | .lp1 => s.mate.sentMirror.lp1

/-- A record is queued as the one sent. -/
def queueMirror (p : Lp) (r : List Word) (s : State) : State :=
  s.modMate fun m => { m with
    sentMirror := match p with
      | .lp0 => { m.sentMirror with lp0 := some (r, s.hk) }
      | .lp1 => { m.sentMirror with lp1 := some (r, s.hk) }
    queue := m.queue ++ [⟨4, (r.map wordBytesBE).flatten, s.hk⟩] }

theorem exec_mateMirrorTimer_of_due {p : Lp} (grouped : (s.aps p).cfg.group ≠ 0)
    (needed : lastMirror p s = none ∨
      ∃ o t, lastMirror p s = some (o, t) ∧ (o ≠ mirrorRecord s p ∨ t + secT 1 ≤ (advance dt s).hk)) :
    let u := mirrorTimer (s.aps p).cfg.group (advance dt s)
    exec (.mateMirrorTimer p dt) s =
      .next (if u.mate.st = .up then pumpMate 8 (queueMirror p (mirrorRecord s p) u) else u) := by
  have need : (match lastMirror p s with
      | some (o, t) => o != mirrorRecord s p || decide (t + secT 1 ≤ (advance dt s).hk) | none => true) = true := by
    rcases needed with never | ⟨o, t, last, old⟩
    · rw [never]
    · rw [last]; simpa only [Bool.or_eq_true, bne_iff_ne, decide_eq_true_eq] using old
  simp only [exec, execMateMirrorTimer, aps_advance, mirrorRecord_advance, advance_mate, hr, grouped, ne_eq,
    not_false_eq_true, decide_true, Bool.true_and]
  exact congrArg Host.Outcome.next (if_pos need)

theorem exec_mirrorMismatchTimer_of_due {g : Nat} (over_ : due (SMap.get none s.mate.mirror g) (advance dt s).hk = true) :
    exec (.mirrorMismatchTimer g dt) s = .next (pump (alarmIf (mirrorDiffers s g) 0x8B13 0x90 g [w32 g]
      ((advance dt s).modMate fun m => { m with mirror := SMap.set none m.mirror g none }))) := by
  have same : mirrorDiffers ((advance dt s).modMate fun m => { m with mirror := SMap.set none m.mirror g none }) g
      = mirrorDiffers s g := (mirrorDiffers_advance dt s g : _)
  simp only [exec, execMirrorMismatchTimer, advance_mate, hr, over_, Bool.and_self, if_true, same]

theorem exec_mateRxWakeTimer_of_asleep {t : Nat} (expect : s.mate.expect = some t) (asleep : s.mate.asleep = true)
    (near : t ≤ (advance dt s).hk + usT 2) : exec (.mateRxWakeTimer dt) s =
      .next ((advance dt s).modMate fun m => { m with asleep := false, listenEnd := some (t + usT 5) }) := by
  simp only [exec, execMateRxWakeTimer, advance_mate, expect, hr, asleep, near, decide_true, Bool.and_self, if_true]

theorem exec_mateRxListenTimeout_of_due (over_ : due s.mate.listenEnd (advance dt s).hk = true) (up : s.mate.st = .up)
    (sleeps : s.mate.rxSleep = 1) : exec (.mateRxListenTimeout dt) s = .next ((advance dt s).modMate fun m => { m with
      asleep := !keptAwake (advance dt s) 0x90, listenEnd := none
      expect := m.expect.map fun t => if t ≤ (advance dt s).hk then t + usT 100 else t }) := by
  simp only [exec, execMateRxListenTimeout, advance_mate, hr, over_, up, sleeps, beq_self_eq_true, Bool.and_self, if_true]

theorem exec_mateWakeLeadDetected_of_asleep (asleep : s.mate.asleep = true) : exec (.mateWakeLeadDetected dt) s =
    .next ((advance dt s).modMate fun m => { m with asleep := false, listenEnd := some ((advance dt s).hk + usT 5) }) := by
  simp only [exec, execMateWakeLeadDetected, advance_mate, hr, asleep, Bool.and_self, if_true]

/-- The margin has been below 2 dB for 10 ms. -/
def lowLong (from_ : Option Nat) (now : Nat) : Bool :=
  match from_ with | some t => decide (t + msT 10 ≤ now) | none => false

theorem exec_mateRateDown_of_up (up : s.mate.st = .up) :
    let m := s.mate
    let poor := m.poor || lowLong m.lowFrom (advance dt s).hk
    exec (.mateRateDown dt) s = .next (
      if isPrimary s = true ∧ 0 < m.rate ∧ m.nextRate = none ∧ (poor = true ∨ m.partnerMargin = 0) then
        (advance dt s).modMate fun x => { x with poor, nextRate := some (m.rate - 1), rateSent := false, rateSeen := false }
      else (advance dt s).modMate fun x => { x with poor }) := by
  intro m poor
  have announces : ((isPrimary s && decide (0 < m.rate) && m.nextRate.isNone && (poor || decide (m.partnerMargin = 0))) = true) ↔
      (isPrimary s = true ∧ 0 < m.rate ∧ m.nextRate = none ∧ (poor = true ∨ m.partnerMargin = 0)) := by
    simp only [Bool.and_eq_true, Bool.or_eq_true, decide_eq_true_eq, Option.isNone_iff_eq_none, and_assoc]
  have primary (f : Mate → Mate) : isPrimary ((advance dt s).modMate f) = isPrimary s := isPrimary_advance dt s
  simp only [exec, execMateRateDown, advance_mate, hr, up, primary, beq_self_eq_true, Bool.and_self, if_true]
  refine congrArg Host.Outcome.next (if_congr announces ?_ rfl)
  simp only [State.modMate, advance_mate]
  rfl

end

/-- Settles O49: each event is its operation on the state at the event's time, once its condition holds. -/
theorem mateEventsRun : Obligations.MateEventsRun := by
  unfold Obligations.MateEventsRun
  intro rate g dt xs p b f s hr a m rec_ c beat
  refine ⟨fun hears known valid => ?_, fun r0 c0 t0 held late => exec_mateSfdTimeout_of_late hr held late,
    fun c0 t0 held hears => ?_, fun attempt => exec_mateTrainPhaseEnd_of_attempt hr attempt,
    fun t attempt late => exec_mateTrainAttemptTimeout_of_late hr attempt late,
    fun over_ training => exec_mateTrainBackoffExpiry_of_due hr over_ training,
    fun t from_ resume late => exec_mateResumeTimeout_of_late hr from_ resume late, fun silent => ?_,
    fun over_ talks => exec_mateHeartbeatTimer_of_due hr over_ talks,
    fun over_ talks => exec_mateAckOnlyTimer_of_due hr over_ talks,
    fun u oldest up => exec_mateRetransmitTimer_of_unacked hr oldest up, exec_mateSegmentTimeout_of_running hr,
    fun over_ => exec_mateWakePeerTimeout_of_due hr over_, fun grouped => ?_,
    fun over_ => exec_mirrorMismatchTimer_of_due hr over_,
    fun t expect asleep near => exec_mateRxWakeTimer_of_asleep hr expect asleep near,
    fun over_ up sleeps => exec_mateRxListenTimeout_of_due hr over_ up sleeps,
    fun asleep => exec_mateWakeLeadDetected_of_asleep hr asleep, fun up => exec_mateRateDown_of_up hr up⟩
  · exact ⟨exec_mateCandidate_of_first hears known valid,
      fun r0 c0 t0 held => exec_mateCandidate_of_later hears known valid held⟩
  · refine ⟨fun no => exec_mateBurstReceived_of_no_sfd held no, fun sfd bad => ⟨_,
      exec_mateBurstReceived_of_bad held hears sfd bad, ?_⟩, fun sfd good => exec_mateBurstReceived_of_good held hears sfd good⟩
    have frame := badBurst_frame b.margin a
    simpa only [a, advance_mate, advance_lp, advance_eng, advance_host] using frame
  · refine ⟨exec_mateSilenceTimeout_of_silent hr silent, fun up => ⟨_, exec_mateSilenceTimeout_of_silent hr silent, ?_⟩⟩
    have down := silenceView_mateDown a
    simp only [silenceView, Prod.mk.injEq] at down
    obtain ⟨hk, st, raised_⟩ := down
    have isUp : (mateDown a).mate.st = .up := st.trans ((congrArg Mate.st (advance_mate dt s)).trans up)
    rw [if_pos isUp]
    obtain ⟨view, since⟩ := toResume_view (mateDown a)
    simp only [silenceView, Prod.mk.injEq] at view
    obtain ⟨-, resume, stays⟩ := view
    refine ⟨(pump_mate_st _).trans resume, ?_, ?_⟩
    · have kept : (pump (toResume (mateDown a))).mate.resumeFrom = (toResume (mateDown a)).mate.resumeFrom :=
        (sends_pump _).resumeFrom
      rw [kept, since, hk]
    · rw [raised, pump_alarms]
      exact stays.trans raised_
  · intro last needed
    have sent := exec_mateMirrorTimer_of_due hr grouped needed
    have st : (mirrorTimer (s.aps p).cfg.group a).mate.st = m.st :=
      (mirrorTimer_st ..).trans (congrArg Mate.st (advance_mate dt s))
    exact ⟨fun off => sent.trans (congrArg _ (if_neg (fun up => off (st.symm.trans up)))),
      fun up => sent.trans (congrArg _ (if_pos (st.trans up)))⟩

end Sys2Proof.Machine
end

section
/-!
PROOFS. The clock commands (Table 14.5).
-/
namespace Sys2Proof.Machine
open Sys2Proof

theorem cand_ready (c : Cmd) (s : State) (i : Nat) : cand (ready c s) i = cand s i := by simp only [cand, ready_clk]

theorem squelched_ready (c : Cmd) (s : State) (o : ClkOut) : squelched (ready c s) o = squelched s o := by
  simp only [squelched, ready_clk, raised_ready]

/-! ### CLK_CONFIG -/

/-- A configuration whose REQUAL is 5 below DISQ is taken over. -/
theorem clkConfigOp_run_of_inRange {c : Cmd} {t : Nat} {s : State} (inRange : clkRangeBad s t c = none) :
    let x := clkCfgOf c s.clk.cfg
    x.requal + 5 ≤ x.disq ∧ clkConfigOp.run s t c =
      okRes (reselect 3 (checkBudget (s.modClk fun u => { u with cfg := x, budget := budgetOf x u.freezeErr })))
        (0 :: clkCfgWords x) := by
  refine ⟨?_, by simp only [clkConfigOp, inRange]⟩
  by_contra close
  simp only [clkRangeBad, if_pos (Nat.not_le.1 close)] at inRange
  exact absurd inRange (by simp)

/-- A candidate with the selected words of CLK_CAND_CONFIG; a PRIORITY that changes from 0 starts its qualification. -/
def candConfigured (c : Cmd) (o : Cand) : Cand :=
  let n := { o with prio := pick5 c 0 o.prio, freq := pick5 c 1 o.freq }
  if o.prio = 0 ∧ n.prio ≠ 0 then { n with qual := false, windows := [], part := true, wtr := none } else n

theorem clkCandConfigOp_run (s : State) (t : Nat) (c : Cmd) :
    let n := candConfigured c (cand s (c.w 4))
    clkCandConfigOp.run s t c = okRes (reselect 3 (clkAlarms (setCand (c.w 4) n s))) [0, 0, w32 n.prio, w32 n.freq] := by
  simp only [clkCandConfigOp, candConfigured]

/-! ### CLK_STATUS -/

/-- The averages of the candidates, in their order. -/
def statusAverages (s : State) : List Word × State :=
  (List.range 8).foldl (fun (x : List Word × State) i =>
    (x.1 ++ [(candAvg (cand x.2 i) x.2).1], (candAvg (cand x.2 i) x.2).2)) ([], s)

/-- What CLK_STATUS reads beside the averages. -/
def clkView (s : State) : Nat × Nat × Clk := (s.now, s.hk, s.clk)

theorem clkView_candAvg (c : Cand) (s : State) : clkView (candAvg c s).2 = clkView s := by
  unfold candAvg
  split <;> rfl

theorem clkView_statusAverages (s : State) : clkView (statusAverages s).2 = clkView s := by
  have step (l : List Nat) (x : List Word × State) : clkView (l.foldl (fun (x : List Word × State) i =>
      (x.1 ++ [(candAvg (cand x.2 i) x.2).1], (candAvg (cand x.2 i) x.2).2)) x).2 = clkView x.2 := by
    induction l generalizing x with
    | nil => rfl
    | cons i l ih => exact (ih _).trans (clkView_candAvg ..)
  exact step _ _

/-- The averages, with the word of a candidate and the state behind it taken apart. -/
theorem statusAverages_eq (s : State) : (List.range 8).foldl (fun (x : List Word × State) i =>
    match candAvg (cand x.2 i) x.2 with | (w, s) => (x.1 ++ [w], s)) ([], s) = statusAverages s := rfl

/-- CLK_STATUS replies the state before it, and takes only free values. -/
theorem clkStatusOp_run {s u v : State} {h f : List Word} (head : clkStatusHead s = (h, u)) (free : freeWs 5 u = (f, v))
    (t : Nat) (c : Cmd) :
    let k := s.clk
    let avg := statusAverages v
    let times := match k.budget with | some t => uptimeWords t | none => [0xFFFFFFFF, 0xFFFFFFFF]
    clkStatusOp.run s t c = okRes avg.2 (h ++ (if k.st = .holdover then uptimeWords (holdElapsed s) ++ times else f.take 4)
      ++ [if k.selected.isSome then sat32 k.phase else f.getD 4 0]
      ++ (List.range 8).map (fun i => w32 (candBits s (cand s i))) ++ avg.1) := by
  have same : clkView v = clkView s := by
    rw [show v = (freeWs 5 u).2 by rw [free], show u = (clkStatusHead s).2 by rw [head]]
    rfl
  have view : clkView (statusAverages v).2 = clkView s := (clkView_statusAverages v).trans same
  rcases averages : statusAverages v with ⟨avg, w⟩
  rw [averages] at view
  simp only [clkView, Prod.mk.injEq] at view
  obtain ⟨now, hk, clk⟩ := view
  have elapsed : holdElapsed w = holdElapsed s := by simp only [holdElapsed, now, clk]
  have bits_ (i : Nat) : candBits w (cand w i) = candBits s (cand s i) := by simp only [candBits, cand, hk, clk]
  simp only [clkStatusOp, head, free, statusAverages_eq, averages, elapsed, bits_, beq_iff_eq] <;> rfl

/-! ### CLK_SELECT -/

/-- CLK_SELECT of a candidate that is selectable, of AUTO, or of HOLDOVER with enough windows. -/
theorem clkSelectOp_run (s : State) (t : Nat) (c : Cmd) :
    let m : ClkMode := if c.w 3 = 0 then .auto else if c.w 3 = 1 then .manual (c.w 4) else .holdover
    let u := if s.clk.switching.isSome then s.modClk fun k => { k with modeNext := some m } else applySelect m s
    clkSelectOp.run s t c =
      if c.w 3 = 1 ∧ selectable (cand s (c.w 4)) = false then refuse s stBadState 0x0100
      else if c.w 3 = 2 ∧ s.clk.st ≠ .holdover ∧ (steadyWindows s.clk).length < 10 then refuse s stBadState 0x0101
      else okRes u [w32 (clkModeNum u.clk.mode), w32 (candNum u.clk.selected)] := by
  simp only [clkSelectOp, Bool.not_eq_true]

/-- Settles O50: each command is served on the clock unit. -/
theorem clockCommandsRun : Obligations.ClockCommandsRun := by
  unfold Obligations.ClockCommandsRun
  intro c s
  simp -zeta only [← ready_clk c s, ← cand_ready c s, ← squelched_ready c s]
  intro r k ok no
  refine ⟨fun runs => ?_, fun runs => ?_,
    fun runs => ?_, fun runs => ?_,
    fun runs => exec_of_runs (op := clkOutConfigOp) runs rfl, fun runs => exec_of_runs (op := ppsConfigOp) runs rfl,
    fun runs => exec_of_runs (op := clkCountersOp) runs rfl⟩
  · obtain ⟨apart, run⟩ := clkConfigOp_run_of_inRange (unitBad_of_runs (op := clkConfigOp) runs)
    exact ⟨apart, exec_of_runs (op := clkConfigOp) runs run⟩
  · have answered := exec_of_runs (op := clkCandConfigOp) (f := .clkCandConfig) runs (clkCandConfigOp_run (ready c s) c.target c)
    rw [cand_ready] at answered
    exact answered
  · have answered := exec_of_runs (op := clkStatusOp) (f := .clkStatus) runs (clkStatusOp_run rfl rfl c.target c)
    exact answered
  · have run := clkSelectOp_run r c.target c
    refine exec_of_guard (op := clkSelectOp) runs (fun unselectable => run.trans (if_pos unselectable)) fun good => ?_
    refine exec_of_guard (op := clkSelectOp) runs (fun few => (run.trans (if_neg good)).trans (if_pos few)) fun enough => ?_
    exact exec_of_runs (op := clkSelectOp) runs ((run.trans (if_neg good)).trans (if_neg enough))

end Sys2Proof.Machine
end

section
/-!
PROOFS. References, switches, PPS and the tick proceed (R363 to R377, R228).
-/
namespace Sys2Proof.Machine
open Sys2Proof

@[simp] theorem cand_advance (dt : Nat) (s : State) (i : Nat) : cand (advance dt s) i = cand s i := by
  simp only [cand, advance_clk]

/-! ### What the end of a window leaves -/

/-- What the candidates, the selection and the alarms do not touch. -/
def windowView (s : State) :=
  (s.clk.windowAt, s.clk.lastOff, s.clk.history, s.clk.selected, s.clk.st, s.lp, s.eng)

theorem Alarms.windowView {s t : State} (h : Alarms s t) : windowView t = windowView s := by
  simp only [Machine.windowView, h.clk, h.lp, h.eng]

theorem Sends.windowView {s t : State} (h : Sends s t) : windowView t = windowView s := h.alarms_of.windowView

theorem windowView_candAvg (c : Cand) (s : State) : windowView (candAvg c s).2 = windowView s := by
  unfold candAvg
  split <;> rfl

theorem windowView_setCand (i : Nat) (c : Cand) (s : State) : windowView (setCand i c s) = windowView s := by
  have alarm (u : State) : windowView (candAlarm i u) = windowView u := (alarms_alarmIf ..).windowView
  have told (data : List Word) (u : State) : windowView (emit 0x8C02 0xA0 data u) = windowView u := (sends_emit ..).windowView
  simp only [setCand, alarm, apply_ite windowView, told, windowView_candAvg]
  split <;> rfl

theorem windowView_endManual (s : State) : windowView (endManual s) = windowView s := by
  unfold endManual
  split
  · split <;> rfl
  · rfl

theorem windowView_reselect (cause : Nat) (s : State) : windowView (reselect cause s) = windowView s := by
  have marked (u : State) : windowView (u.modClk fun k => { k with switching := some cause }) = windowView u := rfl
  simp only [reselect, apply_ite windowView, marked, ite_self, windowView_endManual]

theorem windowView_disagreeAlarm (s : State) : windowView (disagreeAlarm s) = windowView s := by
  simp only [disagreeAlarm, apply_ite windowView, (alarms_raiseAlarm ..).windowView, (alarms_clearAlarm ..).windowView, ite_self]

/-- A candidate's window, with the count of one that is disqualified by it. -/
def windowStep (offs : List Int) (s : State) (i : Nat) : State :=
  let c := cand s i
  let d := candWindow s.clk.cfg s.hk (offs.getD i 0) c
  setCand i d (if c.qual && !d.qual then ctrAdd s (sel 0xA0 0 0x0C04) 1 else s)

theorem windowView_windowStep (offs : List Int) (s : State) (i : Nat) : windowView (windowStep offs s i) = windowView s := by
  refine (windowView_setCand ..).trans ?_
  split
  · exact (sends_ctrAdd ..).windowView
  · rfl

/-- The window's measurements are noted, and the next is due. -/
def windowNoted (cleaned phase : Int) (s : State) : State :=
  s.modClk fun k => { k with
    windowAt := k.windowAt.map (· + secT 1), lastOff := some cleaned
    phase := if k.selected.isSome then phase else k.phase
    history := if k.st = .acquiring ∨ k.st = .locked then (cleaned :: k.history).take 68 else k.history }

theorem windowView_windowNoted (cleaned phase : Int) (s : State) : windowView (windowNoted cleaned phase s) =
    (s.clk.windowAt.map (· + secT 1), some cleaned,
      if s.clk.st = .acquiring ∨ s.clk.st = .locked then (cleaned :: s.clk.history).take 68 else s.clk.history,
      s.clk.selected, s.clk.st, s.lp, s.eng) := rfl

/-- The selected candidate was selectable before the windows of `s` moved on to those of `t`, and lost its qualification. -/
def selectedLost (s t : State) : Bool :=
  selectedGood s && match s.clk.selected with | some i => !(cand t i).qual | none => false

/-- A tick of time `t` that is counted: a boundary, unless a new source's tick comes within 500 ms of the last. -/
def tickTaken (t : Nat) (m : SecMeas) (s : State) : State :=
  let early := s.clk.changed && match s.clk.lastTick with | some l => decide (t < l + msT 500) | none => false
  let u := if early = true then s else boundary t m s
  u.modClk fun k => { k with
    nextTick := if k.present then none else some (t + secT 1)
    riseAt := if running u && k.pps.outEn == 1 then some (t + nsT k.pps.offset) else none }

/-! ### Each event -/

section
variable {dt : Nat} {s : State} (hr : running (advance dt s) = true)
include hr

theorem exec_qualificationWindowEnd_of_due {offs : List Int} {cleaned phase : Int}
    (over_ : due s.clk.windowAt (advance dt s).now = true) : exec (.qualificationWindowEnd offs cleaned phase dt) s =
      let t := (List.range 8).foldl (windowStep offs) (windowNoted cleaned phase (advance dt s))
      .next (pump (reselect (if selectedLost (advance dt s) t then 1 else 2) (disagreeAlarm t))) := by
  have ends : (running (advance dt s) && due (advance dt s).clk.windowAt (advance dt s).now) = true := by
    rw [advance_clk, hr, over_, Bool.and_self]
  exact congrArg Host.Outcome.next (if_pos ends)

omit hr in
/-- The end of a window moves the window on, and leaves selection, state, ports and engines. -/
theorem windowEnd_view (offs : List Int) (cleaned phase : Int) (cause : Nat) (u : State) :
    windowView (pump (reselect cause (disagreeAlarm ((List.range 8).foldl (windowStep offs) (windowNoted cleaned phase u)))))
      = windowView (windowNoted cleaned phase u) := by
  refine (sends_pump _).windowView.trans ((windowView_reselect ..).trans ((windowView_disagreeAlarm _).trans ?_))
  exact foldl_related (r := fun s t => windowView t = windowView s) (fun _ => rfl) (fun h k => k.trans h)
    (windowView_windowStep offs) _ _

section
variable {i : Nat} (known : i < 8)
include known

theorem exec_refCandidateValid_of_delivering {oe : Option Nat} (invalid : (cand s i).valid = false)
    (delivers_ : delivering (advance dt s) i oe = true) : exec (.refCandidateValid ⟨i, oe⟩ dt) s = .next (pump (setCand i
      { cand s i with valid := true, qual := false, windows := [], part := true, wtr := none } (advance dt s))) := by
  simp only [exec, execRefCandidateValid, cand_advance, hr, known, invalid, delivers_, decide_true, Bool.not_false,
    Bool.and_self, if_true]

theorem exec_refCandidateInvalid_of_not_delivering {oe : Option Nat} (valid : (cand s i).valid = true)
    (fails : delivering (advance dt s) i oe = false) : exec (.refCandidateInvalid ⟨i, oe⟩ dt) s = .next (pump (reselect 0
      (setCand i { cand s i with valid := false, qual := false, windows := [], wtr := none }
        (ctrAdd (advance dt s) (sel 0xA0 0 0x0C05) 1)))) := by
  simp only [exec, execRefCandidateInvalid, candLost, cand_advance, hr, known, valid, fails, decide_true, Bool.not_false,
    Bool.not_true, Bool.and_self, if_true, if_neg Bool.false_ne_true]

theorem exec_clkWtrExpiry_of_due (over_ : due (cand s i).wtr (advance dt s).hk = true) : exec (.clkWtrExpiry i dt) s =
    .next (pump (reselect 2 (setCand i { cand s i with wtr := none } (advance dt s)))) := by
  simp only [exec, execClkWtrExpiry, cand_advance, hr, known, over_, decide_true, Bool.and_self, if_true]

end

theorem exec_clkSwitchComplete_of_switching {phase : Int} {cause : Nat} (switching : s.clk.switching = some cause) :
    exec (.clkSwitchComplete phase dt) s =
      let u := performSwitch (w32 cause) phase (advance dt s)
      .next (pump (match u.clk.modeNext with
        | some m => applySelect m (u.modClk fun k => { k with modeNext := none })
        | none => u)) := by
  simp only [exec, execClkSwitchComplete, advance_clk, switching, hr, if_true] <;> rfl

theorem exec_clkLockedReached_of_near {diff : Int} (acquiring : s.clk.st = .acquiring) (steady : s.clk.switching = none)
    (near : diff.natAbs ≤ 100) : exec (.clkLockedReached ⟨diff, dt⟩) s =
      .next (pump (setClk .locked s.clk.selected (Config.freeWord s.freeCtr) { advance dt s with freeCtr := s.freeCtr + 1 })) := by
  simp only [exec, execClkLockedReached, advance_clk, hr, acquiring, steady, near, Option.isNone_none, beq_self_eq_true,
    decide_true, Bool.and_self, if_true, freeW, advance_freeCtr]

theorem exec_holdoverTimerExpiry_of_spent (spent : budgetSpent (advance dt s) = true) :
    exec (.holdoverTimerExpiry dt) s = .next (pump (raiseAlarm 0x8C11 0xA0 0 [] (advance dt s))) := by
  have holdover : (advance dt s).clk.st = .holdover := by
    have both := spent
    simp only [budgetSpent, Bool.and_eq_true, beq_iff_eq] at both
    obtain ⟨holdover, -⟩ := both
    exact holdover
  simp only [exec, execHoldoverTimerExpiry, hr, spent, Bool.and_self, if_true, checkBudget, holdover, alarmIf]

section
variable {w : Nat} (enabled : s.clk.pps.inEn = 1) (wide : 100 ≤ w)
include enabled wide

/-- An edge of the configured polarity, against the last one. -/
theorem exec_ppsInEdge_of_polarity : exec (.ppsInEdge (s.clk.pps.edge == 0) w dt) s =
    .next (pump (match s.clk.lastEdge with
      | none => ppsAccept (advance dt s)
      | some t =>
        if within ((advance dt s).now - t) (secT 1 - usT 100) (secT 1 + usT 100) then ppsAccept (advance dt s)
        else if !s.clk.present && decide (secT 1 + usT 100 < (advance dt s).now - t) then
          ppsAccept ((advance dt s).modClk fun k => { k with run := 0 })
        else ctrAdd (advance dt s) (sel 0xA0 0 0x0C06) 1)) := by
  simp only [exec, execPpsInEdge, advance_clk, hr, enabled, wide, beq_self_eq_true, decide_true, Bool.and_self, if_true] <;>
    rfl

end

theorem exec_ppsInAbsentTimeout_of_late {t : Nat} (present : s.clk.present = true) (last : s.clk.lastEdge = some t)
    (late : t + (secT 1 + usT 100) ≤ (advance dt s).now) :
    exec (.ppsInAbsentTimeout dt) s = .next (pump (ppsAbsent (advance dt s))) := by
  simp only [exec, execPpsInAbsentTimeout, advance_clk, hr, present, last, Option.map_some, due, late, decide_true,
    Bool.and_self, if_true]

theorem exec_ppsOutPulse_of_rise (enabled : s.clk.pps.outEn = 1) (low : s.clk.ppsOut = false)
    (over_ : due s.clk.riseAt (advance dt s).now = true) : exec (.ppsOutPulse dt) s = .next ((advance dt s).modClk fun k =>
      { k with ppsOut := true, riseAt := none, fallAt := k.riseAt.map (· + usT k.pps.width) }) := by
  simp only [exec, execPpsOutPulse, advance_clk, hr, enabled, low, over_, beq_self_eq_true, Bool.not_false, Bool.and_self,
    Bool.and_false, Bool.false_and, if_neg Bool.false_ne_true, if_true, State.modClk]

theorem exec_ppsOutPulse_of_fall (high : s.clk.ppsOut = true) (over_ : due s.clk.fallAt (advance dt s).now = true) :
    exec (.ppsOutPulse dt) s = .next ((advance dt s).modClk fun k => { k with ppsOut := false, fallAt := none }) := by
  simp only [exec, execPpsOutPulse, advance_clk, hr, high, over_, Bool.and_self, if_true]

/-- The tick at its due time: a boundary, unless a new source's tick comes within 500 ms of the last (R228). -/
theorem exec_oneSecondTick_of_due {m : SecMeas} {t : Nat} (next : s.clk.nextTick = some t) (late : t ≤ (advance dt s).now) :
    let a := advance dt s
    let k := s.clk
    let b := if k.st = .holdover then ctrAdd a (sel 0xA0 0 0x0C03) 1 else a
    let early := k.changed && match k.lastTick with | some l => decide (t < l + msT 500) | none => false
    let u := if early = true then b else boundary t m b
    exec (.oneSecondTick m dt) s = .next (pump (u.modClk fun k => { k with
      nextTick := if k.present then none else some (t + secT 1)
      riseAt := if running u && k.pps.outEn == 1 then some (t + nsT k.pps.offset) else none })) := by
  intro a k b early u
  obtain ⟨powered, released⟩ : s.pr.powered = true ∧ s.pr.poreset = false := by
    rw [running_advance] at hr
    simp only [running, inReset, Bool.and_eq_true, Bool.not_eq_true', Bool.or_eq_false_iff] at hr
    obtain ⟨⟨⟨powered, ⟨released, -⟩, -⟩, -⟩, -⟩ := hr
    exact ⟨powered, released⟩
  have ticks : (s.pr.powered && !s.pr.poreset && decide (t ≤ (advance dt s).now)) = true := by
    rw [powered, released, decide_eq_true late]; rfl
  have clk : b.clk = s.clk := by
    simp only [b, apply_ite State.clk, (sends_ctrAdd ..).clk, ite_self]
    exact advance_clk dt s
  have ran : exec (.oneSecondTick m dt) s = .next (pump (tickTaken t m b)) := by
    simp only [exec, execOneSecondTick, advance_clk, advance_pr, next, ticks, if_true, tickTaken, b, a, k] <;>
      (generalize (if s.clk.st = .holdover then ctrAdd (advance dt s) (sel 0xA0 0 0x0C03) 1 else advance dt s) = v; rfl)
  rw [tickTaken, clk] at ran
  exact ran

end

/-- Settles O51: each event is its operation on the state at the event's time, once its condition holds. -/
theorem clockEventsRun : Obligations.ClockEventsRun := by
  unfold Obligations.ClockEventsRun
  intro i cause w dt oe phase cleaned diff offs m s hr a k x rises
  refine ⟨fun known invalid delivers_ => exec_refCandidateValid_of_delivering hr known invalid delivers_,
    fun known valid fails => exec_refCandidateInvalid_of_not_delivering hr known valid fails,
    fun over_ => ⟨_, exec_qualificationWindowEnd_of_due hr over_, ?_⟩,
    fun known over_ => exec_clkWtrExpiry_of_due hr known over_,
    fun switching => exec_clkSwitchComplete_of_switching hr switching,
    fun acquiring steady near => exec_clkLockedReached_of_near hr acquiring steady near,
    fun spent => exec_holdoverTimerExpiry_of_spent hr spent, fun enabled wide => ?_,
    fun t present last late => exec_ppsInAbsentTimeout_of_late hr present last late,
    fun enabled low over_ => exec_ppsOutPulse_of_rise hr enabled low over_,
    fun high over_ => exec_ppsOutPulse_of_fall hr high over_, fun t next late => exec_oneSecondTick_of_due hr next late⟩
  · have view := windowEnd_view offs cleaned phase (if selectedLost (advance dt s)
      ((List.range 8).foldl (windowStep offs) (windowNoted cleaned phase (advance dt s))) then 1 else 2) (advance dt s)
    generalize pump _ = t at view ⊢
    rw [windowView_windowNoted, advance_clk, advance_lp, advance_eng] at view
    simp only [windowView, Prod.mk.injEq] at view
    exact view
  · have edge := exec_ppsInEdge_of_polarity hr enabled wide
    refine ⟨fun first => ?_, fun t last => ⟨fun near => ?_, fun far => ?_⟩⟩
    · rw [edge, show s.clk.lastEdge = none from first]
    · rw [edge, show s.clk.lastEdge = some t from last]
      exact congrArg (fun u => Host.Outcome.next (pump u)) (if_pos near)
    · rw [edge, show s.clk.lastEdge = some t from last]
      refine congrArg (fun u => Host.Outcome.next (pump u)) ((if_neg (ne_true_of_eq_false far)).trans ?_)
      refine if_congr ?_ rfl rfl
      simp only [Bool.and_eq_true, Bool.not_eq_true', decide_eq_true_eq, k, a]

end Sys2Proof.Machine
end

section
/-!
PROOFS. The monitor commands (Table 15.10, R383, R390, R393, R394, R398).
-/
namespace Sys2Proof.Machine
open Sys2Proof

theorem conv_ready (c : Cmd) (s : State) (i : Nat) : conv (ready c s) i = conv s i := by simp only [conv, ready_mon]

theorem monChan_ready (c : Cmd) (s : State) (ch : Nat) : monChan (ready c s) ch = monChan s ch := by
  simp only [monChan, ready_mon]

theorem isOwned_ready (c : Cmd) (s : State) (i : Nat) : isOwned (ready c s) i = isOwned s i := by
  simp only [isOwned, ready_mon]

theorem runningMask_ready (c : Cmd) (s : State) : runningMask (ready c s) = runningMask s := by
  simp only [runningMask, conv_ready, isOwned_ready]

/-! ### MON_DECIM_CONFIG -/

/-- A converter with the selected words of MON_DECIM_CONFIG. -/
def decimConfigured (c : Cmd) (k : MonConv) : MonConv :=
  { k with stages := pick5 c 0 k.stages, resp := pick5 c 1 k.resp, shift := pick5 c 2 k.shift,
           fir := pick5 c 3 k.fir, firDecim := pick5 c 4 k.firDecim }

/-- A changed chain starts anew. -/
def decimTaken (c : Cmd) (k : MonConv) : MonConv :=
  if decimConfigured c k = k then decimConfigured c k
  else { decimConfigured c k with streams := List.replicate 16 {} }

theorem decimTaken_of_same {c : Cmd} {k : MonConv} (same : decimConfigured c k = k) :
    decimTaken c k = decimConfigured c k := if_pos same

theorem decimTaken_of_changed {c : Cmd} {k : MonConv} (changed : decimConfigured c k ≠ k) :
    decimTaken c k = { decimConfigured c k with streams := List.replicate 16 {} } := if_neg changed

theorem monDecimConfigOp_run_of_free {s : State} {t : Nat} {c : Cmd} (free : isOwned s (c.w 4) = false) :
    let n := decimTaken c (conv s (c.w 4))
    monDecimConfigOp.run s t c = okRes (modConv (c.w 4) (fun _ => n) s)
      ([0, 0, n.stages, n.resp, n.shift, n.fir, n.firDecim, 2 ^ n.stages * n.firDecim].map w32) :=
  if_neg (by simp only [free, Bool.false_eq_true, not_false_iff])

/-! ### MON_BUF_CONFIG -/

/-- Configuring regions one after the other changes the monitor alone. -/
theorem foldl_modConv_with_mon (f : Nat → MonConv → MonConv) (l : List Nat) (s : State) :
    l.foldl (fun s i => modConv i (f i) s) s = { s with mon := (l.foldl (fun s i => modConv i (f i) s) s).mon } := by
  induction l generalizing s with
  | nil => rfl
  | cons i l ih => exact ih (modConv i (f i) s)

/-- A region of another size starts empty; the mark of the watermark is kept while the watermark is reached. -/
def regionSet (size w : Nat) (k : MonConv) : MonConv :=
  let k := if k.region = size then k
    else { k with region := size, write := 0, read := 0, unread := 0, marked := false, words := [] }
  { k with marked := k.marked && w != 0 && decide (w ≤ k.unread) }

/-- The monitor after MON_BUF_CONFIG. -/
def bufConfigured (c : Cmd) (s : State) : State :=
  (convs4.foldl (fun u i => modConv i (regionSet ((regionsOf s c).getD i 0) (pick5 c 4 s.mon.watermark)) u) s).modMon fun m =>
    { m with watermark := pick5 c 4 s.mon.watermark, overrun := pick5 c 5 m.overrun, groupPeriod := pick5 c 6 m.groupPeriod }

theorem bufConfigured_with_mon (c : Cmd) (s : State) : bufConfigured c s = { s with mon := (bufConfigured c s).mon } := by
  unfold bufConfigured
  rw [foldl_modConv_with_mon]
  rfl

theorem monBufConfigOp_run {s : State} {t : Nat} {c : Cmd} (fits : regionRangeBad s t c = none) :
    let m := (bufConfigured c s).mon
    monBufConfigOp.run s t c = if runningMask s ≠ 0 then refuse s stBadState 0x0100 else
      okRes (bufConfigured c s) ([0, 0] ++ (regionsOf s c).map w32 ++ [w32 m.watermark, w32 m.overrun, w32 m.groupPeriod]) := by
  simp only [monBufConfigOp, fits]
  rfl

theorem sum_le_of_regionRangeBad {s : State} {t : Nat} {c : Cmd} (fits : regionRangeBad s t c = none) :
    let size (j : Nat) : Nat := pick5 c j (conv s j).region
    size 0 + size 1 + size 2 + size 3 ≤ 1024 := by
  have total : (regionsOf s c).foldl (· + ·) 0 ≤ 1024 := by
    by_contra large
    simp only [regionRangeBad, if_pos (Nat.not_le.1 large)] at fits
    exact absurd fits (by simp)
  simpa [regionsOf, convs4] using total

/-- Settles O52: each command is served on the monitor unit, and a loop-owned MC3 is refused. -/
theorem monitorCommandsRun : Obligations.MonitorCommandsRun := by
  unfold Obligations.MonitorCommandsRun
  intro c s
  simp -zeta only [← ready_mon c s, ← conv_ready c s, ← monChan_ready c s, ← isOwned_ready c s, ← runningMask_ready c s]
  intro r i k ok bad no chosen
  refine ⟨fun runs => exec_of_runs (op := monChanConfigOp) runs rfl, fun runs => ?_, fun runs => ?_, fun runs => ?_,
    fun runs => ?_, fun runs => exec_of_runs (op := monDecimResetOp) runs rfl, fun runs => ?_,
    fun runs => exec_of_runs (op := monInjReadOp) runs rfl, fun runs => ?_,
    fun runs => exec_of_runs (op := monBufReadOp) runs rfl, fun runs => ?_, fun runs => ?_,
    fun runs => exec_of_runs (op := monCountersOp) runs rfl⟩
  · refine ⟨fun owned => ?_, fun free busy => ?_, fun free idle => ?_⟩
    · exact exec_of_badState (op := monSeqConfigOp) runs (if_pos owned)
    · exact exec_of_badState (op := monSeqConfigOp) runs ((if_neg (Bool.not_eq_true _ ▸ free)).trans (if_pos busy))
    · exact exec_of_runs (op := monSeqConfigOp) runs
        ((if_neg (Bool.not_eq_true _ ▸ free)).trans (if_neg (Bool.not_eq_true _ ▸ idle)))
  · refine ⟨fun owned => ?_, fun free => ?_⟩
    · exact exec_of_badState (op := monInjConfigOp) runs (if_pos owned)
    · exact exec_of_runs (op := monInjConfigOp) runs (if_neg (Bool.not_eq_true _ ▸ free))
  · intro n ws
    refine ⟨fun owned => ?_, fun free same => ?_, fun free changed => ?_⟩
    · exact exec_of_badState (op := monDecimConfigOp) runs (if_pos owned)
    · have run := monDecimConfigOp_run_of_free (t := c.target) free
      rw [decimTaken_of_same same] at run
      exact exec_of_runs (op := monDecimConfigOp) runs run
    · have run := monDecimConfigOp_run_of_free (t := c.target) free
      rw [decimTaken_of_changed changed] at run
      exact exec_of_runs (op := monDecimConfigOp) runs run
  · refine ⟨fun owned chosen3 => ?_, fun free => ?_⟩
    · exact exec_of_badState (op := monControlOp) runs (if_pos (Bool.and_eq_true_iff.2 ⟨owned, chosen3⟩))
    · exact exec_of_runs (op := monControlOp) runs (if_neg (Bool.not_eq_true _ ▸ free))
  · refine ⟨fun owned chosen3 => ?_, fun free => ?_⟩
    · exact exec_of_badState (op := monCalibrateOp) runs (if_pos (Bool.and_eq_true_iff.2 ⟨owned, chosen3⟩))
    · exact congrArg Host.Outcome.next (serve_accepted (op := monCalibrateOp) runs (if_neg (Bool.not_eq_true _ ▸ free)))
  · have fits := unitBad_of_runs (op := monBufConfigOp) runs
    have run := monBufConfigOp_run (t := c.target) fits
    refine ⟨sum_le_of_regionRangeBad (t := c.target) fits, fun busy => ?_, fun idle => ?_⟩
    · exact exec_of_badState (op := monBufConfigOp) runs (run.trans (if_pos busy))
    · exact ⟨bufConfigured c r, exec_of_runs (op := monBufConfigOp) runs (run.trans (if_neg (not_not.2 idle))),
        rfl, rfl, rfl, bufConfigured_with_mon c r⟩
  · refine ⟨fun other => ?_, fun pcie => ?_⟩
    · exact exec_of_badState (op := monBufDmaOp) runs (if_pos other)
    · exact exec_of_accepted (op := monBufDmaOp) runs (if_neg (not_not.2 pcie))
  · exact ⟨_, rfl, rfl, exec_of_runs (op := monStatusOp) runs rfl⟩

end Sys2Proof.Machine
end

section
/-!
PROOFS. Triggers, conversions, calibrations and the monitor DMA proceed (R386 to R394).
-/
namespace Sys2Proof.Machine
open Sys2Proof

@[simp] theorem conv_advance (dt : Nat) (s : State) (i : Nat) : conv (advance dt s) i = conv s i := by
  simp only [conv, advance_mon]

@[simp] theorem isOwned_advance (dt : Nat) (s : State) (i : Nat) : isOwned (advance dt s) i = isOwned s i := by
  simp only [isOwned, advance_mon]

/-- A converter that exists reads what was set. -/
theorem conv_modConv {s : State} {i : Nat} (exists_ : i < s.mon.convs.length) (f : MonConv → MonConv) :
    conv (modConv i f s) i = f (conv s i) := by
  simp [conv, modConv, State.modMon, List.getD_eq_getElem?_getD, exists_]

/-- A trigger while an injected sequence waits is an overrun (Table 15.9). -/
theorem trigInject_of_pending {s : State} {i : Nat} (pending : (conv s i).injPending = true) (t : Nat) :
    trigInject i t s = ctrAdd s (sel 0xB0 i 0x0D03) 1 := by
  simp only [trigInject, pending, if_true, monCount, one_ne_zero, if_false]

section
variable {dt i : Nat} {s : State} (hr : running (advance dt s) = true)
include hr

/-- The timer of a converter: the injected trigger of the same cycle goes first, then the round, later where the converter
was powered down (R386, R389). -/
theorem exec_monRegularTrigger_timer (known : i < 4) (runs : (conv s i).running = true) (timed : (conv s i).trigger = 1)
    (free : isOwned s i = false) (late : (conv s i).timerAt ≤ (advance dt s).hk) :
    let k := conv s i
    let w := injFirst k.timerAt (advance dt s) i
    exec (.monRegularTrigger (.timer i) dt) s =
      .next (trigRound i (if monAsleep w i then k.timerAt + hkT 300 else k.timerAt)
        (modConv i (fun k => { k with timerAt := k.timerAt + hkT k.period }) w)) := by
  simp only [exec, execMonRegularTrigger, conv_advance, isOwned_advance, hr, known, runs, timed, free, late, beq_self_eq_true,
    decide_true, Bool.not_false, Bool.and_self, if_true]

/-- The group timer triggers the GROUP members, their injected triggers first (R388). -/
theorem exec_monRegularTrigger_group (member : ∃ j, j ∈ convs4 ∧ (conv s j).running = true ∧ (conv s j).trigger = 3)
    (late : s.mon.groupAt ≤ (advance dt s).hk) :
    let w := (convs4.filter fun i => (conv s i).running && (conv s i).trigger == 3).foldl (injFirst s.mon.groupAt)
      (advance dt s)
    exec (.monRegularTrigger .group dt) s = .next (trigGroup 3 w.mon.groupAt
      (w.modMon fun m => { m with groupAt := m.groupAt + hkT m.groupPeriod })) := by
  have any : (convs4.any fun i => (conv s i).running && (conv s i).trigger == 3) = true := by
    obtain ⟨j, mem, runs, group⟩ := member
    exact List.any_eq_true.2 ⟨j, mem, by simp only [runs, group, beq_self_eq_true, Bool.and_self]⟩
  simp only [exec, execMonRegularTrigger, conv_advance, advance_mon, hr, any, late, decide_true, Bool.and_self, if_true]

/-- A due INJ_PERIOD triggers the injected sequence and is due again a period later (R387). -/
theorem exec_monInjTrigger_of_due (known : i < 4) (timed : (conv s i).injTrigger = 1) (free : isOwned s i = false)
    (late : (conv s i).injAt ≤ (advance dt s).hk) :
    exec (.monInjTrigger i dt) s = .next (trigInject i (conv s i).injAt
      (modConv i (fun k => { k with injAt := k.injAt + hkT k.injPeriod }) (advance dt s))) := by
  simp only [exec, execMonInjTrigger, conv_advance, isOwned_advance, hr, known, timed, free, late, beq_self_eq_true,
    decide_true, Bool.not_false, Bool.and_self, if_true]

theorem exec_monConversionDone_regular {code j : Nat} (known : i < 4) (late : (conv s i).actEnd ≤ (advance dt s).hk)
    (act : (conv s i).act = .regular j) :
    exec (.monConversionDone i code dt) s =
      .next (pump (freeUp i (conv s i).actEnd (regularDone i j code (advance dt s)))) := by
  simp only [exec, execMonConversionDone, conv_advance, hr, known, late, act, decide_true, Bool.and_self, if_true]

theorem exec_monConversionDone_injected {code j : Nat} (known : i < 4) (late : (conv s i).actEnd ≤ (advance dt s).hk)
    (act : (conv s i).act = .injected j) :
    let v := injectedDone i j code (advance dt s)
    exec (.monConversionDone i code dt) s =
      .next (pump (if (conv v i).act = .idle then freeUp i (conv s i).actEnd v else v)) := by
  simp only [exec, execMonConversionDone, conv_advance, hr, known, late, act, decide_true, Bool.and_self, if_true]

/-- What follows a calibration: the commands that waited for it, and what the converter put off (R390). -/
def afterCalibration (i : Nat) (u : State) : State :=
  let u := u.modMon fun m => { m with cals := tickCal i m.cals }
  let u := if u.mon.cals.any (fun x => bit x.2 i) then modConv i (fun k => { k with calAsked := true }) u else u
  pump (freeUp i u.hk (finishCals u.mon.cals.length u))

theorem exec_monCalibrationDone_of_calibrating {offset gain : Int} (known : i < 4) (act : (conv s i).act = .calibrating) :
    let good := withinI offset (-256) 256 && withinI gain (-2000) 2000
    exec (.monCalibrationDone i offset gain dt) s = .next (afterCalibration i (alarmIf (!good) 0x8D11 0xB0 i [w32 i]
      (modConv i (fun k => { k with
        act := .idle, calOut := b01 (!good), calOffset := if good then offset else k.calOffset,
        calGain := if good then gain else k.calGain }) (advance dt s)))) := by
  simp only [exec, execMonCalibrationDone, conv_advance, hr, known, act, beq_self_eq_true, decide_true, Bool.and_self, if_true,
    afterCalibration]

theorem exec_monBufDmaDone_of_queued {j x n : Nat} {rest : List (Nat × Nat × Nat)} (queued : s.mon.dma = (j, x, n) :: rest) :
    let m := min n (conv s j).unread
    exec (.monBufDmaDone dt) s = .next (pump (completeUnit 0x0D0B 0xB0 stOk 0 [w32 m]
      ((consume j m ((advance dt s).modMon fun y => { y with dma := rest })).modPcie fun k =>
        { k with dmaDone := k.dmaDone ++ [(x, unreadWords (conv s j) m)] }))) := by
  simp only [exec, execMonBufDmaDone, conv_advance, advance_mon, queued, hr, if_true]

end

/-- Settles O53: each event is its operation on the state at the event's time, once it is due. -/
theorem monitorEventsRun : Obligations.MonitorEventsRun := by
  unfold Obligations.MonitorEventsRun
  intro i code dt offset gain s hr a k
  refine ⟨fun known runs timed free late => ?_, fun member late => exec_monRegularTrigger_group hr member late,
    fun known timed free late => ?_, fun j known late act => exec_monConversionDone_regular hr known late act,
    fun j known late act => ?_, fun known act => ?_,
    fun j x n rest queued => exec_monBufDmaDone_of_queued hr queued⟩
  · intro w v
    have due := exec_monRegularTrigger_timer hr known runs timed free late
    refine ⟨fun awake => ?_, fun asleep => ?_⟩
    · exact due.trans (congrArg (fun t => Host.Outcome.next (trigRound i t v)) (if_neg (ne_true_of_eq_false awake)))
    · exact due.trans (congrArg (fun t => Host.Outcome.next (trigRound i t v)) (if_pos asleep))
  · intro v
    have due := exec_monInjTrigger_of_due hr known timed free late
    refine ⟨fun pending four => due.trans (congrArg Host.Outcome.next (trigInject_of_pending ?_ _)), fun _ => due⟩
    have exists_ : i < a.mon.convs.length := by rw [advance_mon, four]; exact known
    rw [conv_modConv exists_]
    exact (congrArg MonConv.injPending (conv_advance dt s i)).trans pending
  · intro v
    have done := exec_monConversionDone_injected (code := code) hr known late act
    exact ⟨fun next => done.trans (congrArg (fun u => Host.Outcome.next (pump u)) (if_neg next)),
      fun idle => done.trans (congrArg (fun u => Host.Outcome.next (pump u)) (if_pos idle))⟩
  · intro more
    have done := exec_monCalibrationDone_of_calibrating (offset := offset) (gain := gain) hr known act
    refine ⟨fun nearOffset nearGain => ?_, fun far => ?_⟩
    · rw [Bool.and_eq_true_iff.2 ⟨nearOffset, nearGain⟩] at done
      exact done
    · rw [far] at done
      exact done

end Sys2Proof.Machine
end

section
/-!
PROOFS. The bias outputs and their loops run (R395 to R399, Table 15.8).
-/
namespace Sys2Proof.Machine
open Sys2Proof

theorem biasPort_ready (c : Cmd) (s : State) (p : Lp) : biasPort (ready c s) p = biasPort s p := by
  simp only [biasPort, ready_mon]

theorem biasOut_ready (c : Cmd) (s : State) (p : Lp) (o : Nat) : biasOut (ready c s) p o = biasOut s p o := by
  simp only [biasOut, biasPort_ready]

@[simp] theorem biasPort_advance (dt : Nat) (s : State) (p : Lp) : biasPort (advance dt s) p = biasPort s p := by
  simp only [biasPort, advance_mon]

@[simp] theorem biasOut_advance (dt : Nat) (s : State) (p : Lp) (o : Nat) : biasOut (advance dt s) p o = biasOut s p o := by
  simp only [biasOut, biasPort_advance]

@[simp] theorem childrenLocked_advance (dt : Nat) (s : State) (p : Lp) (o : Nat) :
    childrenLocked (advance dt s) p o = childrenLocked s p o := by simp only [childrenLocked, biasOut_advance]

theorem biasPort_modBiasPort (p : Lp) (f : BiasPort → BiasPort) (s : State) :
    biasPort (modBiasPort p f s) p = f (biasPort s p) := by cases p <;> rfl

theorem modBiasPort_congr {p : Lp} {f g : BiasPort → BiasPort} {s : State} (same : f (biasPort s p) = g (biasPort s p)) :
    modBiasPort p f s = modBiasPort p g s := by
  cases p
  · exact congrArg (fun b => s.modMon fun m => { m with bias := { m.bias with lp0 := b } }) same
  · exact congrArg (fun b => s.modMon fun m => { m with bias := { m.bias with lp1 := b } }) same

/-- A change of an output that keeps its state keeps the state that is read. -/
theorem biasOut_st_modBias {f : Bias → Bias} (kept : ∀ b, (f b).st = b.st) (p : Lp) (o : Nat) (s : State) :
    (biasOut (modBias p o f s) p o).st = (biasOut s p o).st := by
  simp only [biasOut, modBias, biasPort_modBiasPort, List.getD_eq_getElem?_getD]
  by_cases exists_ : o < (biasPort s p).outs.length
  · simp only [List.getElem?_set_self exists_, Option.getD_some, kept]
  · rw [List.set_eq_of_length_le (Nat.not_lt.1 exists_)]

/-! ### BIAS_CONFIG -/

/-- BIAS_SLEW where it is selected. -/
def biasSlewed (c : Cmd) (p : Lp) (s : State) : State := modBiasPort p (fun b => { b with slew := pick5 c 10 b.slew }) s

theorem biasOut_biasSlewed (c : Cmd) (p : Lp) (s : State) (o : Nat) : biasOut (biasSlewed c p s) p o = biasOut s p o := by
  simp only [biasOut, biasSlewed, biasPort_modBiasPort]

theorem biasRangeBad_biasSlewed (c : Cmd) (t : Nat) (s : State) :
    biasRangeBad (biasSlewed c (lpOfT t) s) t c = biasRangeBad s t c := by
  simp only [biasRangeBad, biasOut_biasSlewed]

/-- An output with the selected words of BIAS_CONFIG. -/
def biasConfigured (c : Cmd) (b : Bias) : Bias :=
  { b with
    mode := pick5 c 0 b.mode, manualMv := pick5 c 1 b.manualMv, startMv := pick5 c 2 b.startMv
    minMv := pick5 c 3 b.minMv, maxMv := pick5 c 4 b.maxMv, dither := pick5 c 5 b.dither, gain := pick5 c 6 b.gain
    quadNeg := if bit (c.w 3) 7 then c.w 12 == 1 else b.quadNeg, input := pick5 c 8 b.input, lightMin := pick5 c 9 b.lightMin }

/-- The state after BIAS_CONFIG of an output: a changed MODE or manual value takes effect. -/
def biasTaken (c : Cmd) (p : Lp) (s : State) : State :=
  let b := biasOut s p (c.w 4)
  let n := biasConfigured c b
  let v := modBias p (c.w 4) (fun _ => n) (biasSlewed c p s)
  refreshOwner (if n.mode ≠ b.mode ∨ (n.mode = 1 ∧ n.manualMv ≠ b.manualMv) then biasApply p (c.w 4) v else v)

/-- OUTPUT 8 names no output: BIAS_SLEW alone is taken. -/
theorem biasConfigOp_run_of_slew {s : State} {t : Nat} {c : Cmd} (slew : c.w 4 = 8) :
    biasConfigOp.run s t c = okRes (biasSlewed c (lpOfT t) s)
      (List.replicate 12 0 ++ [w32 (pick5 c 10 (biasPort s (lpOfT t)).slew)]) := by
  refine (if_pos slew).trans (congrArg (okRes _) ?_)
  simp only [biasCfgWords, slew, if_true, biasPort_modBiasPort]
  rfl

theorem biasConfigOp_run_of_output {s : State} {t : Nat} {c : Cmd} (output : c.w 4 ≠ 8) (inRange : biasRangeBad s t c = none) :
    let u := biasTaken c (lpOfT t) s
    biasConfigOp.run s t c = okRes u ([0, 0] ++ biasCfgWords u (lpOfT t) (c.w 4)) := by
  have slewed : biasRangeBad (modBiasPort (lpOfT t) (fun b => { b with slew := pick5 c 10 b.slew }) s) t c = none :=
    (biasRangeBad_biasSlewed c t s).trans inRange
  intro u
  have own := biasOut_biasSlewed c (lpOfT t) s (c.w 4)
  unfold biasSlewed at own
  simp only [biasConfigOp, if_neg output, slewed, own]
  rfl

/-- A word that BIAS_CONFIG takes for OUTPUT names an output of the port, or all of it. -/
theorem output_le_of_badParam {s : State} {c : Cmd} (passes : biasConfigOp.badParam s c = none) : c.w 4 ≤ 8 := by
  simp only [biasConfigOp, firstBad, Option.map_eq_none_iff, List.find?_cons] at passes
  by_contra large
  simp [within, large] at passes

/-- A command that passes check 8 has no word out of the opcode's range. -/
theorem badParam_of_runs {op : OpSpec} {c : Cmd} {s : State} (h : Runs op c s) : op.badParam (ready c s) c = none := by
  obtain ⟨-, ⟨notBoth, notAll, -⟩, passes⟩ := h
  have one : ¬ multiTarget c := fun multi => multi.elim notBoth notAll
  cases bad : badWord op (ready c s) c with
  | none =>
    rw [badWord_one one, firstOf_eq_none_iff, firstOf_eq_none_iff] at bad
    exact bad.1.2
  | some w =>
    simp only [Passes, checks, bad] at passes
    grind

theorem biasRangeBad_of_crossed {s : State} {t : Nat} {c : Cmd} (output : c.w 4 < 8)
    (crossed : pick5 c 4 (biasOut s (lpOfT t) (c.w 4)).maxMv ≤ pick5 c 3 (biasOut s (lpOfT t) (c.w 4)).minMv) :
    biasRangeBad s t c = some (if bit (c.w 3) 3 then 8 else 9) := if_pos ⟨output, crossed⟩

/-- MIN_MV not below MAX_MV is the one word that check 8 finds (log entry 117). -/
theorem exec_biasConfig_of_crossed {c : Cmd} {s : State} (served : Served c s) (port : isLpT c.target = true)
    (length : 2 ≤ c.params.length) (passes : biasConfigOp.badParam (ready c s) c = none) (output : c.w 4 ≠ 8)
    (crossed : let b := biasOut (ready c s) (lpOfT c.target) (c.w 4); pick5 c 4 b.maxMv ≤ pick5 c 3 b.minMv) :
    exec (.biasConfig c) s = .next (pump (reply 0x0D0D c stBadParam (if bit (c.w 3) 3 then 8 else 9) [] (ready c s))) := by
  have one : ¬ multiTarget c := by
    rintro (both | all)
    · rw [both] at port; exact absurd port (by decide)
    · rw [all] at port; exact absurd port (by decide)
  have range : biasConfigOp.unitBad (ready c s) c.target c = some (if bit (c.w 3) 3 then 8 else 9) :=
    biasRangeBad_of_crossed (lt_of_le_of_ne (output_le_of_badParam passes) output) crossed
  have present : missingWord biasConfigOp c = none := if_neg (Nat.not_lt.2 length)
  have found : badWord biasConfigOp (ready c s) c = some (if bit (c.w 3) 3 then 8 else 9) := by
    rw [badWord_one one, present, passes, range]
    rfl
  have noFlag : (c.flags % 16) &&& (15 ^^^ biasConfigOp.flags) = 0 := by
    rw [show 15 ^^^ biasConfigOp.flags = 0 from by decide, Nat.and_zero]
  have short : biasConfigOp.resLen (ready c s) c.target c ≤ 1020 := by
    rw [show biasConfigOp.resLen (ready c s) c.target c = 13 from rfl]
    decide
  exact congrArg Host.Outcome.next (serve_refused served (checks_of_badWord one port short noFlag found))

/-! ### The loops -/

section
variable {dt : Nat} {p : Lp} {s : State} (hr : running (advance dt s) = true)
include hr

theorem exec_biasLoopUpdate_of_due {ms : List BiasMeas} (serves : inService (advance dt s) p = true)
    (quiet : s.fw.pause = none) (late : (biasPort s p).updateAt ≤ (advance dt s).hk) :
    let a := advance dt s
    let u := (biasPort s p).updateAt
    exec (.biasLoopUpdate p ms dt) s = .next (pump (biasUpdates p ms (modBiasPort p (fun b =>
      { b with updateAt := u + msT ((a.hk - u) / msT 1 + 1) }) a))) := by
  simp only [exec, execBiasLoopUpdate, hr, serves, advance_fw, quiet, biasPort_advance, late, Option.isNone_none, decide_true,
    Bool.and_self, if_true]
  exact congrArg (fun t => Host.Outcome.next (pump (biasUpdates p ms t))) (modBiasPort_congr (by rw [biasPort_advance]))

theorem exec_biasLoopUpdate_of_not_due {ms : List BiasMeas} (stopped : s.fw.pause ≠ none ∨ inService (advance dt s) p = false) :
    exec (.biasLoopUpdate p ms dt) s = .next (advance dt s) := by
  have off : (inService (advance dt s) p && s.fw.pause.isNone) = false := by
    rcases stopped with paused | out
    · rw [Option.isNone_eq_false_iff.2 (Option.isSome_iff_ne_none.2 paused), Bool.and_false]
    · rw [out, Bool.false_and]
  simp only [exec, execBiasLoopUpdate, hr, advance_fw, biasPort_advance, Bool.true_and, off, Bool.false_and, Bool.false_eq_true,
    if_false]

section
variable {o : Nat} (known : o < 8)
include known

theorem exec_biasRampEnd_of_due (quiet : s.fw.pause = none) (ramp : (biasOut s p o).st = .ramp)
    (over_ : due (biasOut s p o).rampEnd (advance dt s).hk = true) :
    let a := advance dt s
    exec (.biasRampEnd p o dt) s = .next (if (isQuad o && !childrenLocked s p o) = true then
      modBias p o (fun b => { b with rampEnd := none }) a else pump (biasAcquire p o a)) := by
  simp only [exec, execBiasRampEnd, biasOut_advance, childrenLocked_advance, hr, advance_fw, quiet, known, ramp, over_,
    Option.isNone_none, decide_true, beq_self_eq_true, Bool.and_self, if_true]

theorem exec_biasAcquireTimeout_of_late {t : Nat} (quiet : s.fw.pause = none)
    (searching : (biasOut s p o).st = .acquire ∨ (biasOut s p o).st = .hold) (from_ : (biasOut s p o).acquireFrom = some t)
    (late : t + msT 500 ≤ (advance dt s).hk) :
    exec (.biasAcquireTimeout p o dt) s =
      .next (pump (biasUnlock p o (modBias p o (fun b => { b with acquireFrom := none }) (advance dt s)))) := by
  have state : ((biasOut s p o).st == .acquire || (biasOut s p o).st == .hold) = true := by
    rcases searching with acquire | hold
    · rw [acquire]; rfl
    · rw [hold]; rfl
  simp only [exec, execBiasAcquireTimeout, biasOut_advance, hr, advance_fw, quiet, known, state, from_, Option.map_some, due,
    late, Option.isNone_none, decide_true, Bool.and_self, if_true]

theorem exec_biasNoLightTimer_of_dark {t : Nat} (from_ : (biasOut s p o).holdFrom = some t)
    (late : t + msT 10 ≤ (advance dt s).hk) :
    exec (.biasNoLightTimer p o dt) s = .next (pump (raiseAlarm 0x8D14 (lpT p) o [w32 o] (advance dt s))) := by
  simp only [exec, execBiasNoLightTimer, biasOut_advance, hr, known, from_, Option.map_some, due, late, decide_true,
    Bool.and_self, if_true]

theorem exec_biasNoLightTimer_of_light {t : Nat} (lit : (biasOut s p o).holdFrom = none)
    (from_ : (biasOut s p o).lightFrom = some t) (late : t + msT 10 ≤ (advance dt s).hk) :
    exec (.biasNoLightTimer p o dt) s = .next (pump (clearAlarm 0x8D14 (lpT p) o [w32 o]
      (modBias p o (fun b => { b with lightFrom := none }) (advance dt s)))) := by
  simp only [exec, execBiasNoLightTimer, biasOut_advance, hr, known, lit, from_, Option.map_none, Option.map_some, due, late,
    decide_true, Bool.and_self, Bool.and_false, Bool.false_eq_true, if_true, if_false]

end
end

/-- BIAS_UNLOCK is raised and keeps the loop's state. -/
theorem raised_biasUnlock (p : Lp) (o : Nat) (s : State) : raised (biasUnlock p o s) 0x8D12 (lpT p) o = true :=
  raised_after_raiseAlarm ..

theorem mon_biasUnlock (p : Lp) (o : Nat) (s : State) : (biasUnlock p o s).mon = s.mon := by
  refine (alarms_raiseAlarm ..).mon.trans ?_
  split
  · rfl
  · exact (sends_lpCount ..).mon

theorem biasOut_of_mon {s t : State} (same : t.mon = s.mon) (p : Lp) (o : Nat) : biasOut t p o = biasOut s p o := by
  simp only [biasOut, biasPort, same]

/-- The next update of a loop is due within 1 ms. -/
theorem nextUpdate_within (u hk : Nat) (late : u ≤ hk) :
    let next := u + msT ((hk - u) / msT 1 + 1)
    hk < next ∧ next ≤ hk + msT 1 := by
  simp only [msT]
  omega

/-- Settles O54: BIAS_CONFIG and BIAS_STATUS are served on the bias unit, and each event of a loop is its operation. -/
theorem biasRuns : Obligations.BiasRuns := by
  unfold Obligations.BiasRuns
  intro c o dt p ms s
  simp -zeta only [← biasPort_ready c s, ← biasOut_ready c s]
  intro r q b slewed
  refine ⟨fun runs => ⟨fun slew => ?_, fun output => ?_⟩, fun served port length passes output crossed => ?_,
    fun runs => exec_of_runs (op := biasStatusOp) runs rfl, fun hr => ?_⟩
  · exact exec_of_runs (op := biasConfigOp) runs (biasConfigOp_run_of_slew slew)
  · have inRange := unitBad_of_runs (op := biasConfigOp) runs
    have below : c.w 4 < 8 := lt_of_le_of_ne (output_le_of_badParam (badParam_of_runs runs)) output
    refine ⟨Nat.not_le.1 fun crossed => ?_, ?_⟩
    · exact absurd ((biasRangeBad_of_crossed (t := c.target) below crossed).symm.trans inRange) (by simp)
    · exact exec_of_runs (op := biasConfigOp) runs (biasConfigOp_run_of_output output inRange)
  · exact exec_biasConfig_of_crossed served port length passes output crossed
  · rw [biasPort_ready, biasOut_ready]
    intro a x y
    refine ⟨fun serves quiet late => ?_, fun stopped => exec_biasLoopUpdate_of_not_due hr stopped,
      fun known quiet ramp over_ => ?_, fun t known quiet searching from_ late => ?_,
      fun t known from_ late => exec_biasNoLightTimer_of_dark hr known from_ late,
      fun t known lit from_ late => exec_biasNoLightTimer_of_light hr known lit from_ late⟩
    · exact ⟨exec_biasLoopUpdate_of_due hr serves quiet late, nextUpdate_within x.updateAt a.hk late⟩
    · have ended := exec_biasRampEnd_of_due hr known quiet ramp over_
      refine ⟨fun locked => ended.trans ?_, fun quad unlocked => ended.trans ?_⟩
      · refine congrArg Host.Outcome.next (if_neg fun waits => ?_)
        obtain ⟨quad, unlocked⟩ := Bool.and_eq_true_iff.1 waits
        rw [locked quad] at unlocked
        exact Bool.false_ne_true unlocked
      · exact congrArg Host.Outcome.next (if_pos (by rw [quad, unlocked]; rfl))
    · have late_ := exec_biasAcquireTimeout_of_late hr known quiet searching from_ late
      refine ⟨_, late_, ?_, ?_⟩
      · rw [raised, (sends_pump _).alarms]
        exact raised_biasUnlock ..
      · rw [biasOut_of_mon ((sends_pump _).mon.trans (mon_biasUnlock ..))]
        refine (biasOut_st_modBias ?_ p o (advance dt s)).trans ?_
        · exact fun _ => rfl
        · rw [biasOut_advance]

end Sys2Proof.Machine
end

section
/-!
PROOFS. The firmware and store commands (Table 16.8, R412 to R418, R420).
-/
namespace Sys2Proof.Machine
open Sys2Proof

/-! ### The ports of the boot ROM -/

theorem bootRomReads_ready (c : Cmd) (s : State) (p : Port) :
    bootRomReads (ready c s) p = bootRomReads (advance c.dt s) p := by
  simp [bootRomReads, running, inDark, inReset]

/-- A port that Umcia serves is not one that the boot ROM downloads from. -/
theorem bootRomReads_ready_of_runs {op : OpSpec} {c : Cmd} {s : State} (h : Runs op c s) :
    bootRomReads (ready c s) c.port = false := by
  obtain ⟨⟨-, umcia, -⟩, -⟩ := h
  rw [bootRomReads_ready, umcia]

theorem bootRomReads_lockActivity (p q : Port) (s : State) : bootRomReads (lockActivity p s) q = bootRomReads s q := by
  simp [bootRomReads, running, inDark, inReset]

/-- A port that the boot ROM downloads from needs no lock (R409). -/
theorem holdsUpdate_of_bootRomReads {c : Cmd} {s : State} (h : bootRomReads s c.port = true) : holdsUpdate s c = true := by
  simp only [holdsUpdate, h, Bool.true_or]

/-- Another opcode is unknown to the boot ROM. -/
theorem exec_of_unknown {op : OpSpec} {f : Cmd → Instr} {c : Cmd} {s : State}
    (boot : bootRomReads (advance c.dt s) c.port = true) (empty : s.host.rxq.get c.port = [])
    (unknown : bootRomCodes.contains op.code = false := by rfl)
    (hf : ∀ c s, exec (f c) s = .next (serve op c s) := by exact fun _ _ => rfl) :
    exec (f c) s = .next (pump (reply op.code c stUnknown 0 [] (advance c.dt s))) := by
  simp only [hf, serve, boot, if_true, serveBoot, advance_host, empty, rxFind, unknown, Bool.false_eq_true, if_false]

/-- A command of the boot ROM that settles later. -/
theorem exec_of_bootRom_accepted {op : OpSpec} {f : Cmd → Instr} {c : Cmd} {s t : State}
    (boot : bootRomReads (advance c.dt s) c.port = true) (empty : s.host.rxq.get c.port = []) (direct : Direct c)
    (passes : checks op c false (lockActivity c.port (advance c.dt s)) = none)
    (r : op.run (lockActivity c.port (advance c.dt s)) c.target c = { st := t, settled := false })
    (hf : ∀ c s, exec (f c) s = .next (serve op c s) := by exact fun _ _ => rfl)
    (ha : ∀ s c, op.after s c = s := by exact fun _ _ => rfl) (known : bootRomCodes.contains op.code = true := by rfl) :
    exec (f c) s = .next (acceptedFrom op.code c t) := by
  simp only [hf, serve, boot, if_true, serveBoot, advance_host, empty, rxFind, known, answer_of_passes passes,
    perform_one direct, r, ha, acceptedFrom]
  rfl

/-- A refusal that changes the state (R413). -/
theorem exec_of_kept {op : OpSpec} {f : Cmd → Instr} {c : Cmd} {s t : State} {detail : Nat} (h : Runs op c s)
    (r : op.run (ready c s) c.target c = { st := t, status := stBadState, detail, keep := true })
    (hf : ∀ c s, exec (f c) s = .next (serve op c s) := by exact fun _ _ => rfl) :
    exec (f c) s = .next (pump (reply op.code c stBadState detail [] t)) := by
  obtain ⟨served, direct, passes⟩ := h
  rw [hf, serve_perform served passes, perform_one direct, r]
  rfl

/-! ### FW_STATUS and CFG_STATUS -/

theorem trialLeft_bankWords (b : Nat) (s : State) : trialLeft (bankWords b s).2 = trialLeft s := by
  unfold bankWords
  split <;> rfl

theorem fwStatusOp_run (s : State) (t : Nat) (c : Cmd) :
    let f := s.fw
    let b0 := bankWords 0 s
    let b1 := bankWords 1 b0.2
    let state := f.runBank % 2 + onBit f.download 1 + onBit f.trial.isSome 2 + onBit f.staged.isSome 3 +
      (recInForce f).lastFallback % 16 * 16
    let bytes := match f.session with | some y => 4 * y.data.length | none => 0
    fwStatusOp.run s t c = okRes (if bit (c.w 3) 0 then clearAlarm 0x8E10 0 0 [] b1.2 else b1.2)
      ([w32 state] ++ b0.1 ++ b1.1 ++ [w32 f.rollbackFused, w32 (trialLeft s), w32 bytes]) := by
  intro f b0 b1 state bytes
  rw [← (trialLeft_bankWords 1 b0.2).trans (trialLeft_bankWords 0 s)]
  rfl

theorem slotWords_store_fw (x : Option Slot) (s : State) :
    (slotWords x s).2.store = s.store ∧ (slotWords x s).2.fw = s.fw := by
  cases x with
  | some x => exact ⟨rfl, rfl⟩
  | none => exact ⟨rfl, rfl⟩

theorem cfgStatusOp_run (s : State) (t : Nat) (c : Cmd) :
    let a := slotWords s.store.a s
    let b := slotWords s.store.b a.2
    cfgStatusOp.run s t c = okRes b.2 (a.1 ++ b.1 ++ [w32 s.fw.lastRestore]) := by
  intro a b
  obtain ⟨store, fw⟩ := slotWords_store_fw s.store.a s
  have run : cfgStatusOp.run s t c = okRes (slotWords a.2.store.b a.2).2
    (a.1 ++ (slotWords a.2.store.b a.2).1 ++ [w32 (slotWords a.2.store.b a.2).2.fw.lastRestore]) := rfl
  rw [store, (slotWords_store_fw s.store.b a.2).2, fw] at run
  exact run

/-! ### FW_UPDATE_CHUNK -/

/-- The words of a chunk join the session; a chunk of a download is a step of the boot. -/
def chunkTaken (boot : Bool) (x : UpdSession) (ws : List Word) (s : State) : State :=
  (s.modFw fun f => { f with session := some { length := x.length, data := x.data ++ ws } }).modPr fun r =>
    { r with bootCode := if boot then 0xB else r.bootCode, bootPlan := if boot then [] else r.bootPlan }

section
variable {s : State} {t : Nat} {c : Cmd} {x : UpdSession}

theorem fwUpdateChunkOp_run_of_none (held : holdsUpdate s c = true) (none_ : s.fw.session = none) :
    fwUpdateChunkOp.run s t c = refuse s stBadState 0x0103 := by
  simp only [fwUpdateChunkOp, held, none_, Bool.not_true, Bool.false_eq_true, if_false]

section
variable (held : holdsUpdate s c = true) (session : s.fw.session = some x)
include held session

theorem fwUpdateChunkOp_run_of_gap (gap : c.w 3 ≠ 4 * x.data.length) :
    fwUpdateChunkOp.run s t c = refuse s stBadState 0x0104 := by
  simp only [fwUpdateChunkOp, held, session, gap, Bool.not_true, Bool.false_eq_true, if_false, ne_eq, not_false_iff, if_true]

/-- A chunk at the next OFFSET is kept, where it does not begin with a header that fails a check. -/
theorem fwUpdateChunkOp_run_of_next {boot : Bool} (boots : bootRomReads s c.port = boot) (next : c.w 3 = 4 * x.data.length)
    (good : x.data ≠ [] ∨ packageFault boot s x.length ((c.params.drop 1).take 128) = none) :
    fwUpdateChunkOp.run s t c = okRes (chunkTaken boot x (c.params.drop 1) s)
      [w32 (4 * (x.data.length + (c.params.drop 1).length))] := by
  simp only [fwUpdateChunkOp, held, session, next, boots, Bool.not_true, Bool.false_eq_true, if_false, ne_eq, not_true,
    List.length_append]
  by_cases empty : x.data.isEmpty = true
  · have passes := good.resolve_left (fun some_ => some_ (List.isEmpty_iff.1 empty))
    simp only [empty, if_true, passes]
    rfl
  · simp only [empty, Bool.false_eq_true, if_false]
    rfl

/-- A first chunk whose header fails a check of Table 16.4 ends the session. -/
theorem fwUpdateChunkOp_run_of_fault {d : Nat} (umcia : bootRomReads s c.port = false) (first : x.data = []) (at_ : c.w 3 = 0)
    (fault : packageFault false s x.length ((c.params.drop 1).take 128) = some d) :
    fwUpdateChunkOp.run s t c =
      { st := s.modFw fun f => { f with session := none }, status := stBadState, detail := d, keep := true } := by
  have next : c.w 3 = 4 * x.data.length := by rw [first, at_]; rfl
  have empty : x.data.isEmpty = true := List.isEmpty_iff.2 first
  simp only [fwUpdateChunkOp, held, session, next, umcia, empty, fault, Bool.not_true, Bool.false_eq_true, if_false, ne_eq,
    not_true, if_true]

omit held in
/-- The first chunk holds the header and stays within the announced length. -/
theorem first_chunk_fits (first : x.data = []) (inRange : chunkRangeBad s t c = none) :
    128 ≤ (c.params.drop 1).length ∧ 4 * (c.params.drop 1).length ≤ x.length := by
  simp only [chunkRangeBad, session, first, List.isEmpty_nil, Bool.true_and, decide_eq_true_eq, List.length_nil,
    Nat.sub_zero] at inRange
  split at inRange
  · cases inRange
  · next long =>
    split at inRange
    · cases inRange
    · rw [List.length_drop]
      omega

end

/-! ### FW_UPDATE_END -/

theorem fwUpdateEndOp_run_of_none (held : holdsUpdate s c = true) (none_ : s.fw.session = none) :
    fwUpdateEndOp.run s t c = refuse s stBadState 0x0103 := by
  simp only [fwUpdateEndOp, held, none_, Bool.not_true, Bool.false_eq_true, if_false]

/-- The package is complete; the previous content of the inactive bank is lost, but not in a download (R414). -/
def endTaken (boot : Bool) (x : UpdSession) (f : Firmware) : Firmware :=
  if boot then { f with session := none, ending := some x }
  else putBank (inactiveBank f) { cut := true } { f with session := none, ending := some x }

theorem fwUpdateEndOp_run_of_session (held : holdsUpdate s c = true) (session : s.fw.session = some x) :
    fwUpdateEndOp.run s t c = if 4 * x.data.length ≠ x.length then refuse s stBadState 0x0106 else
      { st := s.modFw (endTaken (bootRomReads s c.port) x), settled := false } := by
  simp only [fwUpdateEndOp, held, session, Bool.not_true, Bool.false_eq_true, if_false]
  rfl

/-- What FW_UPDATE_END leaves of the banks and the boot record. -/
theorem endTaken_of_umcia (x : UpdSession) (f : Firmware) :
    let g := endTaken false x f
    g.session = none ∧ g.ending = some x ∧ bankValid g (inactiveBank f) = false ∧ g.recA = f.recA ∧ g.recB = f.recB ∧
      g.running = f.running := by
  by_cases zero : inactiveBank f = 0
  · simp [endTaken, putBank, bankValid, flashBank, zero]
  · simp [endTaken, putBank, bankValid, flashBank, zero]

/-! ### FW_ACTIVATE -/

/-- The activation of bank `b` begins; the image in HBM is kept where it is the bank's. -/
def activationBegun (c : Cmd) (loaded : Bool) (f : Firmware) : Firmware :=
  { f with
    activation := some { bank := c.w 3, window := if c.w 4 = 0 then 600 else c.w 4, paused := loaded }
    staged := if loaded then f.staged else none }

/-- The image of the commanded bank is staged. -/
def stagedFor (c : Cmd) (f : Firmware) : Bool := match f.staged with | some (k, _) => k == c.w 3 | none => false

theorem stagedFor_of_staged {f : Firmware} {i : Image} (staged : f.staged = some (c.w 3, i)) : stagedFor c f = true := by
  simp only [stagedFor, staged, beq_self_eq_true]

theorem stagedFor_of_not_staged {f : Firmware} (other : ∀ i, f.staged ≠ some (c.w 3, i)) : stagedFor c f = false := by
  rcases staged : f.staged with _ | ⟨k, i⟩
  · simp only [stagedFor, staged]
  · simp only [stagedFor, staged, beq_eq_false_iff_ne]
    rintro rfl
    exact other i staged

theorem fwActivateOp_run_of_held (held : holdsUpdate s c = true) :
    fwActivateOp.run s t c =
      if s.fw.trial.isSome = true then refuse s stBadState 0x0101
      else if s.fw.activation.isSome = true then refuse s stBadState 0x0102
      else if (!bankValid s.fw (c.w 3) || (!s.fw.download && c.w 3 == s.fw.runBank)) = true then refuse s stBadState 0x0107
      else { st := s.modFw (activationBegun c (stagedFor c s.fw)), settled := false } := by
  simp only [fwActivateOp, held, Bool.not_true, Bool.false_eq_true, if_false]
  rfl

/-- A bank may not be activated: it is not valid, or it runs. -/
theorem cannotActivate_iff {f : Firmware} {b : Nat} : (!bankValid f b || (!f.download && b == f.runBank)) = true ↔
    bankValid f b = false ∨ (f.download = false ∧ f.runBank = b) := by
  simp only [Bool.or_eq_true, Bool.not_eq_true', Bool.and_eq_true, beq_iff_eq, eq_comm (a := b)]

/-- Without a staged image of the bank the activation waits for it. -/
theorem exec_fwActivate_of_waiting {u : State} (runs : Runs fwActivateOp c s)
    (run : fwActivateOp.run (ready c s) c.target c = { st := u.modFw (activationBegun c false), settled := false }) :
    exec (.fwActivate c) s = .next (acceptedFrom 0x0E04 c (u.modFw (activationBegun c false))) := by
  have idle (v : State) (fw : v.fw = activationBegun c false u.fw) : fwActivateOp.after v c = v := by
    simp only [fwActivateOp, fw, activationBegun, Bool.false_and, Bool.false_eq_true, if_false]
  refine congrArg Host.Outcome.next ((serve_accepted (op := fwActivateOp) runs run).trans ?_)
  exact congrArg pump (idle _ (sends_reply ..).fw)

/-- With the image staged the pause begins behind the reply (R415). -/
theorem exec_fwActivate_of_loaded (runs : Runs fwActivateOp c s) (quiet : s.fw.pause = none)
    (run : fwActivateOp.run (ready c s) c.target c =
      { st := (ready c s).modFw (activationBegun c true), settled := false }) :
    ∃ t, exec (.fwActivate c) s = .next t ∧
      t.fw = { activationBegun c true s.fw with pause := some { cause := 0, since := (ready c s).hk, reason := none } } ∧
      pendingOn t 0x0E04 c.target = true ∧ t.lp = s.lp ∧ t.eng = s.eng ∧ t.tm = s.tm := by
  have begins (v : State) (fw : v.fw = activationBegun c true s.fw) : fwActivateOp.after v c = beginPause 0 none v := by
    simp only [fwActivateOp, fw, activationBegun, quiet, Option.isNone_none, Bool.and_self, if_true]
  have accepted := serve_accepted (op := fwActivateOp) runs run
  rw [begins _ (by rw [reply_fw, State.modHost_fw, State.modFw_fw, ready_fw])] at accepted
  refine ⟨_, congrArg Host.Outcome.next accepted, ?_, ?_, ?_⟩
  · simp [beginPause_fw]
  · have code : fwActivateOp.code = 0x0E04 := rfl
    simp [pendingOn, beginPause, msix3, waitsOn, code]
  · simp [beginPause_units]

/-! ### FW_CONFIRM -/

theorem fwConfirmOp_run_of_none (held : holdsUpdate s c = true) (none_ : s.fw.trial = none) :
    fwConfirmOp.run s t c = refuse s stBadState 0x0108 := by
  simp only [fwConfirmOp, held, none_, Bool.not_true, Bool.false_eq_true, if_false]

theorem fwConfirmOp_run_of_trial {tr : Trial} (held : holdsUpdate s c = true) (trial : s.fw.trial = some tr) :
    fwConfirmOp.run s t c =
      if tr.expiry ≤ s.now then refuse s stBadState 0x0108 else { st := s, settled := false } := by
  simp only [fwConfirmOp, held, trial, Bool.not_true, Bool.false_eq_true, if_false]

/-! ### FW_UPDATE_BEGIN of a download -/

/-- The session of FW_UPDATE_BEGIN. -/
def sessionOpened (c : Cmd) (s : State) : State :=
  s.modFw fun f => { f with session := some { length := c.w 3, data := [] }, staged := none }

theorem fwUpdateBeginOp_run_of_boot (boots : bootRomReads s c.port = true) (none_ : s.fw.trial = none)
    (idle : s.fw.ending = none) (idle_ : s.fw.activation = none) :
    fwUpdateBeginOp.run s t c = okRes (freeW (sessionOpened c s)).2 [(freeW (sessionOpened c s)).1] := by
  simp only [fwUpdateBeginOp, holdsUpdate_of_bootRomReads boots, none_, idle, idle_, boots, Bool.not_true, Bool.false_eq_true,
    if_false, if_true, Option.isSome_none, Bool.or_self]
  rfl

end

/-- Settles O55: each command is served on the firmware unit or by the boot ROM, behind the guards of Table 16.8. -/
theorem firmwareCommandsRun : Obligations.FirmwareCommandsRun := by
  unfold Obligations.FirmwareCommandsRun
  intro c x s
  simp -zeta only [← ready_fw c s, ← ready_store c s]
  intro r f ws ok no later kept
  have unheld_of (h : holdsUpdate r c = false) : (!holdsUpdate r c) = true := by rw [h]; rfl
  have held_of (h : holdsUpdate r c = true) : ¬ (!holdsUpdate r c) = true := by rw [h]; exact Bool.false_ne_true
  refine ⟨fun runs not0 not1 => ?_, fun runs not0 not1 => ?_, fun inBand => ?_, fun runs => ?_, fun runs => ?_, fun runs => ?_,
    fun unheld => ?_, fun held => ?_, fun boots empty direct => ?_⟩
  · exact exec_of_runs (op := fwLockOp) runs (if_neg (by simp [not0, not1]))
  · exact exec_of_runs (op := fwUnlockOp) runs (if_neg (by simp [not0, not1]))
  · have refused : (c.port == .ib0 || c.port == .ib1) = true := by
      rcases inBand with port | port
      · rw [port]; rfl
      · rw [port]; rfl
    exact ⟨fun runs => exec_of_badState (op := fwLockOp) runs (if_pos refused),
      fun runs => exec_of_badState (op := fwUnlockOp) runs (if_pos refused)⟩
  · exact exec_of_runs (op := fwStatusOp) runs (fwStatusOp_run r c.target c)
  · exact exec_of_runs (op := cfgStatusOp) runs (cfgStatusOp_run r c.target c)
  · have umcia := bootRomReads_ready_of_runs runs
    refine ⟨fun unheld => ?_, fun held trial => ?_, fun held none_ busy => ?_, fun held none_ idle idle_ => ?_⟩
    · exact exec_of_badState (op := fwUpdateBeginOp) runs (if_pos (unheld_of unheld))
    · exact exec_of_badState (op := fwUpdateBeginOp) runs ((if_neg (held_of held)).trans (if_pos trial))
    · exact exec_of_badState (op := fwUpdateBeginOp) runs
        ((if_neg (held_of held)).trans ((if_neg (Option.not_isSome_iff_eq_none.2 none_)).trans (if_pos (Bool.or_eq_true_iff.2 busy))))
    · have idle__ : ¬ (f.ending.isSome || f.activation.isSome) = true := fun busy => (Bool.or_eq_true_iff.1 busy).elim
        (Option.not_isSome_iff_eq_none.2 idle) (Option.not_isSome_iff_eq_none.2 idle_)
      exact exec_of_runs (op := fwUpdateBeginOp) runs ((if_neg (held_of held)).trans
        ((if_neg (Option.not_isSome_iff_eq_none.2 none_)).trans ((if_neg idle__).trans
          (if_neg (by rw [umcia]; exact Bool.false_ne_true)))))
  · have refused := unheld_of unheld
    exact ⟨fun runs => exec_of_badState (op := fwUpdateChunkOp) runs (if_pos refused),
      fun runs => exec_of_badState (op := fwUpdateEndOp) runs (if_pos refused),
      fun runs => exec_of_badState (op := fwUpdateAbortOp) runs (if_pos refused),
      fun runs => exec_of_badState (op := fwActivateOp) runs (if_pos refused),
      fun runs => exec_of_badState (op := fwConfirmOp) runs (if_pos refused),
      fun runs => exec_of_badState (op := cfgSaveOp) runs (if_pos refused),
      fun runs => exec_of_badState (op := cfgClearOp) runs (if_pos refused),
      fun runs => exec_of_badState (op := cfgPolicyOp) runs (if_pos refused)⟩
  · have passed := held_of held
    refine ⟨fun none_ => ⟨fun runs => ?_, fun runs => ?_, fun runs => ?_⟩, fun runs session => ?_, fun runs session => ?_,
      fun runs session => ?_, fun runs trial => ?_, fun runs none_ busy => ?_, fun runs none_ idle bad => ?_,
      fun runs none_ idle valid other => ?_, fun runs none_ => ?_, fun tr runs trial => ?_, fun runs => ?_, fun runs => ?_,
      fun runs => exec_of_runs (op := cfgPolicyOp) runs (if_neg passed)⟩
    · exact exec_of_badState (op := fwUpdateChunkOp) runs (fwUpdateChunkOp_run_of_none held none_)
    · exact exec_of_badState (op := fwUpdateEndOp) runs (fwUpdateEndOp_run_of_none held none_)
    · exact exec_of_badState (op := fwUpdateAbortOp) runs ((if_neg passed).trans (if_pos (by rw [none_]; rfl)))
    · have umcia := bootRomReads_ready_of_runs runs
      refine ⟨fun gap => ?_, fun next some_ => ?_, fun at_ first => ?_⟩
      · exact exec_of_badState (op := fwUpdateChunkOp) runs (fwUpdateChunkOp_run_of_gap held session gap)
      · exact exec_of_runs (op := fwUpdateChunkOp) runs (fwUpdateChunkOp_run_of_next held session umcia next (.inl some_))
      · obtain ⟨header, fits⟩ := first_chunk_fits (t := c.target) session first (unitBad_of_runs (op := fwUpdateChunkOp) runs)
        refine ⟨header, fits, fun good => ?_, fun d fault => ?_⟩
        · have next : c.w 3 = 4 * x.data.length := by rw [first, at_]; rfl
          have run := fwUpdateChunkOp_run_of_next (t := c.target) held session umcia next (.inr good)
          rw [first, List.length_nil, Nat.zero_add] at run
          exact exec_of_runs (op := fwUpdateChunkOp) runs run
        · exact exec_of_kept (op := fwUpdateChunkOp) runs (fwUpdateChunkOp_run_of_fault held session umcia first at_ fault)
    · have run := fwUpdateEndOp_run_of_session (t := c.target) held session
      rw [bootRomReads_ready_of_runs runs] at run
      refine ⟨fun short => ?_, fun whole => ⟨r.modFw (endTaken false x), ?_, endTaken_of_umcia x f⟩⟩
      · exact exec_of_badState (op := fwUpdateEndOp) runs (run.trans (if_pos short))
      · exact exec_of_accepted (op := fwUpdateEndOp) runs (run.trans (if_neg (not_not.2 whole)))
    · exact exec_of_runs (op := fwUpdateAbortOp) runs ((if_neg passed).trans
        (if_neg (by rw [session]; exact Bool.false_ne_true)))
    · exact exec_of_badState (op := fwActivateOp) runs ((fwActivateOp_run_of_held held).trans (if_pos trial))
    · exact exec_of_badState (op := fwActivateOp) runs ((fwActivateOp_run_of_held held).trans
        ((if_neg (Option.not_isSome_iff_eq_none.2 none_)).trans (if_pos busy)))
    · exact exec_of_badState (op := fwActivateOp) runs ((fwActivateOp_run_of_held held).trans
        ((if_neg (Option.not_isSome_iff_eq_none.2 none_)).trans ((if_neg (Option.not_isSome_iff_eq_none.2 idle)).trans
          (if_pos (cannotActivate_iff.2 bad)))))
    · intro go
      have may : ¬ (!bankValid f (c.w 3) || (!f.download && c.w 3 == f.runBank)) = true := fun bad =>
        (cannotActivate_iff.1 bad).elim (fun invalid => Bool.false_ne_true (invalid.symm.trans valid)) fun ⟨flash, same⟩ =>
          other.elim (fun download => Bool.false_ne_true (flash.symm.trans download)) (fun differs => differs same)
      have run := (fwActivateOp_run_of_held (t := c.target) held).trans ((if_neg (Option.not_isSome_iff_eq_none.2 none_)).trans
        ((if_neg (Option.not_isSome_iff_eq_none.2 idle)).trans (if_neg may)))
      refine ⟨fun unstaged => ?_, fun i staged quiet => ?_⟩
      · rw [stagedFor_of_not_staged unstaged] at run
        exact exec_fwActivate_of_waiting runs run
      · rw [stagedFor_of_staged staged] at run
        obtain ⟨t, ran, fw, waits, lp, eng, tm⟩ := exec_fwActivate_of_loaded runs (runs.no_pause) run
        rw [← ready_fw c s] at fw
        exact ⟨t, ran, fw, waits, lp, eng, tm⟩
    · exact exec_of_badState (op := fwConfirmOp) runs (fwConfirmOp_run_of_none held none_)
    · have run := fwConfirmOp_run_of_trial (t := c.target) held trial
      exact ⟨fun early => exec_of_accepted (op := fwConfirmOp) runs (run.trans (if_neg (Nat.not_le.2 early))),
        fun late => exec_of_badState (op := fwConfirmOp) runs (run.trans (if_pos late))⟩
    · exact ⟨fun none_ => exec_of_accepted (op := cfgSaveOp) runs
          ((if_neg passed).trans (if_neg (Option.not_isSome_iff_eq_none.2 none_))),
        fun trial => exec_of_badState (op := cfgSaveOp) runs ((if_neg passed).trans (if_pos trial))⟩
    · exact ⟨fun none_ => exec_of_accepted (op := cfgClearOp) runs
          ((if_neg passed).trans (if_neg (Option.not_isSome_iff_eq_none.2 none_))),
        fun trial => exec_of_badState (op := cfgClearOp) runs ((if_neg passed).trans (if_pos trial))⟩
  · intro b
    have boots_ : bootRomReads b c.port = true := (bootRomReads_lockActivity ..).trans boots
    have fw : b.fw = f := by rw [lockActivity_fw, advance_fw]; exact (ready_fw c s).symm
    refine ⟨fun passes none_ idle idle_ => ?_, fun passes session next good => ?_, fun passes session whole => ?_,
      exec_of_unknown (op := fwLockOp) boots empty, exec_of_unknown (op := fwActivateOp) boots empty⟩
    · rw [← fw] at none_ idle idle_ ⊢
      exact ⟨_, _, exec_of_bootRom (op := fwUpdateBeginOp) boots empty direct passes
        (fwUpdateBeginOp_run_of_boot boots_ none_ idle idle_), rfl⟩
    · rw [← fw] at session
      exact exec_of_bootRom (op := fwUpdateChunkOp) boots empty direct passes
        (fwUpdateChunkOp_run_of_next (holdsUpdate_of_bootRomReads boots_) session boots_ next good)
    · rw [← fw] at session
      have run := fwUpdateEndOp_run_of_session (t := c.target) (holdsUpdate_of_bootRomReads boots_) session
      rw [boots_, if_neg (not_not.2 whole)] at run
      exact exec_of_bootRom_accepted (op := fwUpdateEndOp) boots empty direct passes run

end Sys2Proof.Machine
end

section
/-!
PROOFS. Update, activation, trial, fallback and store writes proceed (R406, R411 to R418, Tables 16.5 and 16.6).
-/
namespace Sys2Proof.Machine
open Sys2Proof

/-! ### SEQUENCE numbers (R406) -/

/-- The next SEQUENCE is the higher of the two, also where it wraps. -/
theorem seqAfter_succ {n : Nat} (small : n < 2 ^ 32) :
    seqAfter ((n + 1) % 2 ^ 32) n = true ∧ seqAfter n ((n + 1) % 2 ^ 32) = false := by
  have up : ((n + 1) % 2 ^ 32 + 2 ^ 32 - n) % 2 ^ 32 = 1 := by omega
  have down : (n + 2 ^ 32 - (n + 1) % 2 ^ 32) % 2 ^ 32 = 2 ^ 32 - 1 := by omega
  simp only [seqAfter, up, down]
  decide

/-- The record that is written. -/
def nextRec (g : BootRec → BootRec) (f : Firmware) : BootRec :=
  { g (recInForce f) with valid := true, seq := ((recInForce f).seq + 1) % 2 ^ 32 }

theorem recInForce_with_recB {f : Firmware} {n : BootRec} (valid : n.valid = true)
    (earlier : seqAfter f.recA.seq n.seq = false) : recInForce { f with recB := n } = n := by
  simp [recInForce, recAFirst, valid, earlier]

theorem recInForce_with_recA {f : Firmware} {n : BootRec} (valid : n.valid = true)
    (later : f.recB.valid = true → seqAfter n.seq f.recB.seq = true) : recInForce { f with recA := n } = n := by
  cases other : f.recB.valid with
  | false => simp [recInForce, recAFirst, valid, other]
  | true => simp [recInForce, recAFirst, valid, later other]

/-- The record written is the one in force. -/
theorem recInForce_writeRec (g : BootRec → BootRec) {f : Firmware} (small : (recInForce f).seq < 2 ^ 32) :
    recInForce (writeRec g f) = nextRec g f := by
  obtain ⟨later, earlier⟩ := seqAfter_succ small
  by_cases first : recAFirst f = true
  · have written : writeRec g f = { f with recB := nextRec g f } := if_pos first
    have inForce : recInForce f = f.recA := if_pos first
    rw [written]
    exact recInForce_with_recB rfl (inForce ▸ earlier)
  · have written : writeRec g f = { f with recA := nextRec g f } := if_neg first
    rw [written]
    refine recInForce_with_recA rfl fun other => ?_
    have inForce : recInForce f = f.recB := (if_neg first).trans (if_pos other)
    exact inForce ▸ later

/-- The slot written is the one in force, and the other stays. -/
theorem slotInForce_putSlot {x : Store} {v : Slot}
    (next : ∀ z, slotInForce x = some z → z.seq < 2 ^ 32 ∧ v.seq = (z.seq + 1) % 2 ^ 32) :
    slotInForce (putSlot (some v) x).1 = some v := by
  by_cases first : slotAFirst x = true
  · have written : (putSlot (some v) x).1 = { x with b := some v } := by rw [putSlot, if_pos first]
    have inForce : slotInForce x = x.a := if_pos first
    rw [written]
    rcases slotA : x.a with _ | z
    · simp [slotAFirst, slotA] at first
    · obtain ⟨small, seq⟩ := next z (inForce.trans slotA)
      have earlier : seqAfter z.seq v.seq = false := seq ▸ (seqAfter_succ small).2
      simp [slotInForce, slotAFirst, earlier]
  · have written : (putSlot (some v) x).1 = { x with a := some v } := by rw [putSlot, if_neg first]
    have inForce : slotInForce x = x.b := if_neg first
    rw [written]
    rcases slotB : x.b with _ | z
    · simp [slotInForce, slotAFirst]
    · obtain ⟨small, seq⟩ := next z (inForce.trans slotB)
      have later : seqAfter v.seq z.seq = true := seq ▸ (seqAfter_succ small).1
      simp [slotInForce, slotAFirst, later]

/-! ### The end of a pause -/

theorem sends_sendHeld (s : State) : Sends (s.modHost fun h => { h with heldEvents := [] }) (sendHeld s) :=
  Sends.foldl _ (fun _ _ => sends_emitF ..) _ _

theorem fw_sendHeld (s : State) : (sendHeld s).fw = s.fw := (sends_sendHeld s).fw

theorem fw_completeHeld (s : State) : (completeHeld s).fw = s.fw := by
  have told := Sends.foldl _ (fun u d => sends_emitDone d u) (s.host.deferred.filter fun d => d.entries.all fun e => e.settled)
    (s.modHost fun h => { h with deferred := h.deferred.filter fun d => !d.entries.all fun e => e.settled })
  exact told.fw

theorem fw_refresh (l : List Eng) (s : State) :
    (l.foldl (fun s e => s.modEngine e fun x => { x with refresh := refreshList s e }) s).fw = s.fw := by
  induction l generalizing s with
  | nil => rfl
  | cons e l ih => exact (ih _).trans (State.modEngine_fw ..)

/-- Of the firmware, the end of a pause changes the pause alone. -/
theorem endPause_fw (s : State) : (endPause s).fw = { s.fw with pause := none } := by
  unfold endPause
  split
  · next none_ => rw [← none_]
  · rw [(sends_pumpMate ..).fw, fw_refresh, fw_completeHeld, fw_sendHeld]
    simp [msix3, shiftLocks]

/-! ### The trial and the fallback -/

theorem fwVersion_frame (s : State) :
    (fwVersion s).2.fw = s.fw ∧ (fwVersion s).2.lp = s.lp ∧ (fwVersion s).2.tm = s.tm ∧ (fwVersion s).2.alarms = s.alarms := by
  unfold fwVersion
  split
  · exact ⟨rfl, rfl, rfl, rfl⟩
  · exact ⟨rfl, rfl, rfl, rfl⟩

theorem fw_fwVersion (s : State) : (fwVersion s).2.fw = s.fw := (fwVersion_frame s).1

/-- What a boot record's write leaves of the rest. -/
theorem writeRec_eq (g : BootRec → BootRec) (f : Firmware) :
    writeRec g f = { f with recA := (writeRec g f).recA, recB := (writeRec g f).recB } := by
  simp only [writeRec]
  split <;> rfl

/-- The record of a trial. -/
def trialRec (b : Nat) (r : BootRec) : BootRec := { r with trial := true, trialBank := b }

/-- The record of a fallback. -/
def fallbackRec (reason : Nat) (r : BootRec) : BootRec := { r with trial := false, lastFallback := reason }

theorem startTrial_fw (act : Activation) (s : State) : (startTrial act s).fw =
    { writeRec (trialRec act.bank) s.fw with
      trial := some { bank := act.bank, expiry := s.now + secT act.window }, activation := none, pause := none } := by
  simp only [startTrial, completeUnit_fw, emit_fw, fw_fwVersion, endPause_fw]
  rfl

/-- The trial of the staged image: the new bank runs, and the image before it is the fallback copy (R415). -/
theorem startTrial_runStaged (act : Activation) {s : State} (small : (recInForce s.fw).seq < 2 ^ 32) :
    let t := startTrial act (runStaged act s)
    t.fw.trial = some { bank := act.bank, expiry := s.now + secT act.window } ∧ t.fw.pause = none ∧
      t.fw.activation = none ∧ t.fw.runBank = act.bank ∧ (recInForce t.fw).trial = true ∧
      (recInForce t.fw).trialBank = act.bank ∧ (recInForce t.fw).active = (recInForce s.fw).active ∧
      t.fw.fallback = s.fw.running.map (fun i => (s.fw.runBank, i)) ∧
      ∀ k i, s.fw.staged = some (k, i) → t.fw.running = some i := by
  intro t
  have fw : t.fw = _ := startTrial_fw act (runStaged act s)
  have inForce : recInForce t.fw = nextRec (trialRec act.bank) (runStaged act s).fw := by
    rw [fw]; exact recInForce_writeRec _ small
  rw [inForce, fw, writeRec_eq]
  refine ⟨rfl, rfl, rfl, rfl, rfl, rfl, rfl, rfl, fun k i staged => ?_⟩
  simp only [runStaged, State.modFw_fw, staged]

/-- The state in which the fallback copy runs, its reports still to come. -/
def fallenBack (reason : Nat) (s : State) : State :=
  let s := s.modFw fun f => match f.fallback with
    | some (b, i) => { f with running := some i, runBank := b }
    | none => f
  raiseAlarm 0x8E10 0 0 [w32 reason] (endPause (s.modFw fun f =>
    { writeRec (fallbackRec reason) f with fallback := none, trial := none }))

/-- EV_FW_TRIAL for a trial that fell back. -/
def trialReported (was : Option Trial) (ver : Word) (s : State) : State :=
  match was with
  | some t => emit 0x8E01 0 [w32 t.bank, ver, 2] s
  | none => s

/-- FW_ACTIVATE, where it is still deferred, completes with the fallback. -/
def activationEnded (reason : Nat) (s : State) : State :=
  match s.fw.activation with
  | some _ =>
    let (v, s) := fwVersion s
    completeUnit 0x0E04 0 stOk 0 [1, w32 reason, v] (s.modFw fun f => { f with activation := none })
  | none => s

theorem fallBack_eq (reason : Nat) (s : State) : fallBack reason s = activationEnded reason (trialReported s.fw.trial
    (match s.fw.running with | some i => imageVersion i | none => 0) (fallenBack reason s)) := rfl

theorem sends_trialReported (was : Option Trial) (ver : Word) (s : State) : Sends s (trialReported was ver s) := by
  cases was with
  | some t => exact sends_emit ..
  | none => exact .refl s

theorem activationEnded_fw (reason : Nat) (s : State) :
    (activationEnded reason s).fw = { s.fw with activation := none } := by
  unfold activationEnded
  split
  · simp only [completeUnit_fw, State.modFw_fw, fw_fwVersion]
  · next none_ => rw [← none_]

theorem activationEnded_alarms (reason : Nat) (s : State) : (activationEnded reason s).alarms = s.alarms := by
  unfold activationEnded
  split
  · rw [completeUnit_alarms, State.modFw_alarms, (fwVersion_frame s).2.2.2]
  · rfl

theorem fallBack_fw {reason k : Nat} {i : Image} {s : State} (copy : s.fw.fallback = some (k, i)) : (fallBack reason s).fw =
    { writeRec (fallbackRec reason) { s.fw with running := some i, runBank := k } with
      fallback := none, trial := none, activation := none, pause := none } := by
  have fw : (fallenBack reason s).fw = { writeRec (fallbackRec reason) { s.fw with running := some i, runBank := k } with
      fallback := none, trial := none, pause := none } := by
    simp only [fallenBack, raiseAlarm_fw, endPause_fw, State.modFw_fw, copy]
  rw [fallBack_eq, activationEnded_fw, (sends_trialReported ..).fw, fw]

/-- A fallback raises UPDATE_FELL_BACK (R416). -/
theorem raised_fallBack (reason : Nat) (s : State) : raised (fallBack reason s) 0x8E10 0 0 = true := by
  rw [fallBack_eq, raised, activationEnded_alarms, (sends_trialReported ..).alarms]
  exact raised_after_raiseAlarm ..

/-- What a fallback leaves of the firmware (R416). -/
theorem fallBack_leaves {reason k : Nat} {i : Image} {s : State} (copy : s.fw.fallback = some (k, i))
    (small : (recInForce s.fw).seq < 2 ^ 32) :
    let t := fallBack reason s
    t.fw.running = some i ∧ t.fw.runBank = k ∧ t.fw.trial = none ∧ t.fw.pause = none ∧ t.fw.fallback = none ∧
      t.fw.activation = none ∧ raised t 0x8E10 0 0 = true ∧ (recInForce t.fw).lastFallback = reason ∧
      (recInForce t.fw).trial = false ∧ (recInForce t.fw).active = (recInForce s.fw).active := by
  intro t
  have fw : t.fw = _ := fallBack_fw (reason := reason) copy
  have inForce : recInForce t.fw = nextRec (fallbackRec reason) { s.fw with running := some i, runBank := k } := by
    rw [fw]; exact recInForce_writeRec _ small
  rw [inForce, fw, writeRec_eq]
  exact ⟨rfl, rfl, rfl, rfl, rfl, rfl, raised_fallBack reason s, rfl, rfl, rfl⟩

/-! ### The end of an update -/

theorem pendingOn_advance (dt : Nat) (s : State) (code t : Nat) : pendingOn (advance dt s) code t = pendingOn s code t := by
  simp only [pendingOn, advance_host]

/-- The boot ROM waits for a download. -/
def downloads (s : State) : Bool := match s.pr.boot with | .download _ _ => true | _ => false

theorem downloads_of_not_download {s : State} (umcia : ∀ p q, s.pr.boot ≠ .download p q) : downloads s = false := by
  unfold downloads
  split
  · next p q boot => exact absurd boot (umcia p q)
  · rfl

theorem downloads_of_download {s : State} {p q : Bool} (boot : s.pr.boot = .download p q) : downloads s = true := by
  simp only [downloads, boot]

/-- The bank that does not run is written with the image `ws`, which is staged (R414). -/
def bankWritten (flashOk : Bool) (h ws : List Word) (s : State) : State :=
  let b := inactiveBank s.fw
  let k := reencrypt (freeWs 3 s).1 h ws
  (freeWs 3 s).2.modFw fun f => { putBank b { k with whole := flashOk } f with staged := some (b, ⟨k.hdr, ws⟩) }

theorem putBank_eq (b : Nat) (v : Bank) (f : Firmware) :
    putBank b v f = { f with bank0 := if b = 0 then v else f.bank0, bank1 := if b = 0 then f.bank1 else v } := by
  simp only [putBank]
  split <;> rfl

theorem bankWritten_fw (flashOk : Bool) (h ws : List Word) (s : State) :
    let b := inactiveBank s.fw
    let k := reencrypt (freeWs 3 s).1 h ws
    let g := (bankWritten flashOk h ws s).fw
    flashBank g b = { k with whole := flashOk } ∧ g.staged = some (b, ⟨k.hdr, ws⟩) ∧ g.ending = s.fw.ending ∧
      (b ≠ 1 → g.bank1 = s.fw.bank1) ∧ (b = 1 → g.bank0 = s.fw.bank0) ∧ g.recA = s.fw.recA ∧ g.recB = s.fw.recB ∧
      g.running = s.fw.running := by
  intro b k g
  have two : b = 0 ∨ b = 1 := by simp only [b, inactiveBank]; omega
  have fw : g = { putBank b { k with whole := flashOk } s.fw with staged := some (b, ⟨k.hdr, ws⟩) } := rfl
  rw [fw]
  rcases two with zero | one
  · simp [putBank_eq, flashBank, zero]
  · simp [putBank_eq, flashBank, one]

/-! ### The store slots -/

/-- What a slot's write leaves: everything but the store and the free values. -/
theorem writeSlot_frame (uptimeAt : Nat) (cfg : SavedCfg) (s : State) :
    let t := (writeSlot uptimeAt cfg s).2.2
    t.fw = s.fw ∧ t.lp = s.lp ∧ t.tm = s.tm := by
  simp only [writeSlot]
  split
  · exact ⟨rfl, rfl, rfl⟩
  · exact ⟨rfl, rfl, rfl⟩

/-- The slot that is written, with the SEQUENCE that is told. -/
def slotOf (uptimeAt : Nat) (cfg : SavedCfg) (s : State) : Slot :=
  { seq := (writeSlot uptimeAt cfg s).2.1, schema := runSchema s, uptime := uptimeAt, cfg }

theorem writeSlot_store (uptimeAt : Nat) (cfg : SavedCfg) (s : State) :
    (writeSlot uptimeAt cfg s).2.2.store = (putSlot (some (slotOf uptimeAt cfg s)) s.store).1 := by
  simp only [slotOf, writeSlot]
  split
  · rfl
  · rfl

theorem writeSlot_seq {z : Slot} {s : State} (held : slotInForce s.store = some z) (uptimeAt : Nat) (cfg : SavedCfg) :
    (slotOf uptimeAt cfg s).seq = (z.seq + 1) % 2 ^ 32 := by
  simp only [slotOf, writeSlot, held]

/-- A slot is written over the copy that is not in force. -/
theorem putSlot_eq (v : Option Slot) (x : Store) :
    (putSlot v x).1 = { x with a := if slotAFirst x then x.a else v, b := if slotAFirst x then v else x.b } := by
  simp only [putSlot]
  split <;> rfl

/-- What a slot's write leaves of the store: the slot written is in force, and the other stays. -/
theorem writeSlot_leaves (uptimeAt : Nat) (cfg : SavedCfg) {s : State}
    (small : ∀ z, slotInForce s.store = some z → z.seq < 2 ^ 32) :
    let x := (writeSlot uptimeAt cfg s).2.2.store
    let y := slotOf uptimeAt cfg s
    x.writing = s.store.writing ∧ slotInForce x = some y ∧
      (slotAFirst s.store = true → x.b = some y ∧ x.a = s.store.a) ∧
      (slotAFirst s.store = false → x.a = some y ∧ x.b = s.store.b) := by
  intro x y
  have inForce : slotInForce x = some y := (congrArg slotInForce (writeSlot_store ..)).trans
    (slotInForce_putSlot fun z held => ⟨small z held, writeSlot_seq held ..⟩)
  have written : x = _ := (writeSlot_store uptimeAt cfg s).trans (putSlot_eq ..)
  refine ⟨by rw [written], inForce, fun first => ?_, fun second => ?_⟩
  · simp [written, first, y]
  · simp [written, second, y]

/-! ### FW_CONFIRM -/

/-- ROLLBACK_FUSED after a confirmation (R417). -/
def fusedRollback (f : Firmware) : Nat :=
  match f.running with | some i => max f.rollbackFused (hdrW i.hdr 5) | none => f.rollbackFused

theorem fusedRollback_of_running {f : Firmware} {i : Image} (runs : f.running = some i) :
    fusedRollback f = max f.rollbackFused (hdrW i.hdr 5) := by simp only [fusedRollback, runs]

theorem le_fusedRollback (f : Firmware) : f.rollbackFused ≤ fusedRollback f := by
  unfold fusedRollback
  split
  · exact Nat.le_max_left ..
  · exact Nat.le_refl _

/-- The record of a confirmation. -/
def confirmRec (b : Nat) (r : BootRec) : BootRec := { r with active := b, trial := false }

/-- The firmware after a confirmation. -/
def confirmed (b : Nat) (f : Firmware) : Firmware :=
  { writeRec (confirmRec b) f with rollbackFused := fusedRollback f, fallback := none, trial := none, download := false }

/-- The store at a confirmation: the slot in force is written again for the image's SCHEMA. -/
def storeConfirmed (s : State) : Word × State :=
  match slotInForce s.store with
  | some x => (w32 (writeSlot x.uptime x.cfg s).2.1, (writeSlot x.uptime x.cfg s).2.2)
  | none => freeW s

theorem storeConfirmed_frame (s : State) :
    (storeConfirmed s).2.fw = s.fw ∧ (storeConfirmed s).2.lp = s.lp ∧ (storeConfirmed s).2.tm = s.tm := by
  unfold storeConfirmed
  split
  · exact writeSlot_frame ..
  · exact ⟨rfl, rfl, rfl⟩

/-! ### The events -/

section
variable {dt : Nat} {s : State} (hr : running (advance dt s) = true)
include hr

section
variable (quiet : s.fw.pause = none)
include quiet

section
variable {x : UpdSession} (ending : s.fw.ending = some x) (waits : pendingOn s 0x0E03 0 = true)
include ending waits

/-- FW_UPDATE_END_DONE: a failed step, the image of a download, or the write of the inactive bank (R414). -/
theorem exec_fwUpdateEndDone_of_ending (flashOk : Bool) :
    let u := (advance dt s).modFw fun f => { f with ending := none }
    let res := packageImage (advance dt s) x
    let h := x.data.take 128
    let w := bankWritten flashOk h res.2 u
    exec (.fwUpdateEndDone flashOk dt) s = .next (pump (
      if res.1 ≠ 0 then completeUnit 0x0E03 0 stOk 0 [w32 res.1]
        (if downloads s then u.modPr fun r => { r with bootCode := waitCode u.fw, bootPlan := [] } else u)
      else if downloads s then startDownload ⟨h, res.2⟩ (completeUnit 0x0E03 0 stOk 0 [0] u)
      else completeUnit 0x0E03 0 stOk 0 [if flashOk then 0 else 4] (if flashOk then clearAlarm 0x8E11 0 0 [] w else w))) := by
  have boots : downloads ((advance dt s).modFw fun f => { f with ending := none }) = downloads s := by
    simp only [downloads, State.modFw_pr, advance_pr]
  simp only [exec, execFwUpdateEndDone, advance_fw, ending, hr, quiet, pendingOn_advance, waits, Option.isNone_none,
    Bool.and_self, if_true]
  rw [← boots]
  rfl

theorem exec_fwUpdateEndDone_of_failed {flashOk : Bool} (umcia : ∀ p q, s.pr.boot ≠ .download p q)
    (failed : (packageImage (advance dt s) x).1 ≠ 0) :
    exec (.fwUpdateEndDone flashOk dt) s = .next (pump (completeUnit 0x0E03 0 stOk 0
      [w32 (packageImage (advance dt s) x).1] ((advance dt s).modFw fun f => { f with ending := none }))) := by
  refine (exec_fwUpdateEndDone_of_ending hr quiet ending waits flashOk).trans
    (congrArg (fun t => Host.Outcome.next (pump t)) ((if_pos failed).trans ?_))
  rw [if_neg (ne_true_of_eq_false (downloads_of_not_download umcia))]

/-- The inactive bank is written and its image staged. -/
theorem exec_fwUpdateEndDone_of_built {flashOk : Bool} (umcia : ∀ p q, s.pr.boot ≠ .download p q)
    (built : (packageImage (advance dt s) x).1 = 0) :
    let w := bankWritten flashOk (x.data.take 128) (packageImage (advance dt s) x).2
      ((advance dt s).modFw fun f => { f with ending := none })
    ∃ t, exec (.fwUpdateEndDone flashOk dt) s = .next t ∧ t.fw = w.fw ∧ t.lp = s.lp ∧ t.tm = s.tm := by
  intro w
  have ran := (exec_fwUpdateEndDone_of_ending hr quiet ending waits flashOk).trans
    (congrArg (fun t => Host.Outcome.next (pump t)) ((if_neg (not_not.2 built)).trans
      (if_neg (ne_true_of_eq_false (downloads_of_not_download umcia)))))
  have cleared : Alarms w (if flashOk then clearAlarm 0x8E11 0 0 [] w else w) :=
    (alarms_clearAlarm ..).ite (Sends.refl w).alarms_of
  refine ⟨_, ran, ?_, ?_, ?_⟩
  · rw [pump_fw, completeUnit_fw, cleared.fw]
  · rw [pump_lp, completeUnit_lp, cleared.lp]
    exact advance_lp dt s
  · rw [pump_tm, completeUnit_tm, cleared.tm]
    exact advance_tm dt s

/-- The image of a download starts from HBM, and the banks stay (R409). -/
theorem exec_fwUpdateEndDone_of_download {flashOk p q : Bool} (boot : s.pr.boot = .download p q)
    (built : (packageImage (advance dt s) x).1 = 0) :
    ∃ t, exec (.fwUpdateEndDone flashOk dt) s = .next t ∧ t.pr.boot = .running ∧ t.lp = s.lp ∧
      t.fw = { s.fw with
        ending := none, running := some ⟨x.data.take 128, (packageImage (advance dt s) x).2⟩, download := true,
        runBank := (recInForce s.fw).active } := by
  have ran := (exec_fwUpdateEndDone_of_ending hr quiet ending waits flashOk).trans
    (congrArg (fun t => Host.Outcome.next (pump t)) ((if_neg (not_not.2 built)).trans
      (if_pos (downloads_of_download boot))))
  refine ⟨_, ran, ?_, ?_, ?_⟩
  · rw [pump_pr]; rfl
  · rw [pump_lp, startDownload, State.modPr_lp, State.modFw_lp, completeUnit_lp, State.modFw_lp, advance_lp]
  · rw [pump_fw, startDownload, State.modPr_fw, State.modFw_fw, completeUnit_fw, State.modFw_fw, advance_fw]
    rfl

end

/-! ### FW_ACTIVATE, FW_CONFIRM, CFG_SAVE and CFG_CLEAR -/

section
variable {act : Activation} (activation : s.fw.activation = some act) (unpaused : act.paused = false)
  (waits : pendingOn s 0x0E04 0 = true)
include activation unpaused waits

theorem exec_fwActivateImageLoaded_of_image {i : Image} (image : bankImage s.fw act.bank = some i) :
    exec (.fwActivateImageLoaded dt) s = .next (pump (beginPause 0 none ((advance dt s).modFw fun f =>
      { f with staged := some (act.bank, i), activation := some { act with paused := true } }))) := by
  simp only [exec, execFwActivateImageLoaded, advance_fw, activation, hr, quiet, unpaused, pendingOn_advance, waits, image,
    Option.isNone_none, Bool.not_false, Bool.and_self, if_true]

theorem exec_fwActivateImageLoaded_of_none (image : bankImage s.fw act.bank = none) :
    ∃ t, exec (.fwActivateImageLoaded dt) s = .next t ∧ t.fw = { s.fw with activation := none } := by
  have ran : exec (.fwActivateImageLoaded dt) s =
      (let u := fwVersion ((advance dt s).modFw fun f => { f with activation := none })
       .next (pump (completeUnit 0x0E04 0 stOk 0 [2, u.1] u.2))) := by
    simp only [exec, execFwActivateImageLoaded, advance_fw, activation, hr, quiet, unpaused, pendingOn_advance, waits, image,
      Option.isNone_none, Bool.not_false, Bool.and_self, if_true]
  refine ⟨_, ran, ?_⟩
  rw [pump_fw, completeUnit_fw, fw_fwVersion, State.modFw_fw, advance_fw]

end

/-- The confirmed bank becomes the active one, and the fallback copy goes (R417). -/
theorem exec_fwConfirmDone_of_pending {tr : Trial} (trial : s.fw.trial = some tr) (waits : pendingOn s 0x0E05 0 = true) :
    ∃ t, exec (.fwConfirmDone dt) s = .next t ∧ t.fw = confirmed tr.bank s.fw ∧ t.lp = s.lp ∧ t.tm = s.tm := by
  have ran : exec (.fwConfirmDone dt) s = (
      let v := fwVersion (advance dt s)
      let q := storeConfirmed v.2
      let rb := fusedRollback v.2.fw
      let u := q.2.modFw fun f => { writeRec (confirmRec tr.bank) f with
        rollbackFused := rb, fallback := none, trial := none, download := false }
      .next (pump (completeUnit 0x0E05 0 stOk 0 [w32 rb, q.1]
        (emit 0x8E01 0 [w32 tr.bank, v.1, 1] (clearAlarm 0x8E10 0 0 [] u))))) := by
    simp only [exec, execFwConfirmDone, advance_fw, trial, hr, quiet, pendingOn_advance, waits, Option.isNone_none,
      Bool.and_self, if_true]
    rfl
  obtain ⟨fw, lp, tm, -⟩ := fwVersion_frame (advance dt s)
  obtain ⟨fw_, lp_, tm_⟩ := storeConfirmed_frame (fwVersion (advance dt s)).2
  refine ⟨_, ran, ?_, ?_, ?_⟩
  · simp only [pump_fw, completeUnit_fw, emit_fw, clearAlarm_fw, State.modFw_fw, fw_, fw, advance_fw]
    rfl
  · simp only [pump_lp, completeUnit_lp, emit_lp, clearAlarm_lp, State.modFw_lp, lp_, lp, advance_lp]
  · simp only [pump_tm, completeUnit_tm, emit_tm, clearAlarm_tm, State.modFw_tm, tm_, tm, advance_tm]

/-- The settings of CFG_SAVE are written (R418). -/
theorem exec_cfgSaveDone_of_pending {cfg : SavedCfg} {cfgs : List SavedCfg} (writing : s.store.writing = cfg :: cfgs)
    (waits : pendingOn s 0x0E0A 0 = true) :
    let a := advance dt s
    let w := writeSlot (uptime a) cfg { a with store := { a.store with writing := cfgs } }
    exec (.cfgSaveDone dt) s =
      .next (pump (completeUnit 0x0E0A 0 stOk 0 [w32 w.1, w32 w.2.1] (clearAlarm 0x8E12 0 0 [] w.2.2))) := by
  rw [← advance_store dt s] at writing
  rw [← advance_fw dt s] at quiet
  rw [← pendingOn_advance dt s] at waits
  simp only [exec, execCfgSaveDone]
  generalize advance dt s = a at hr writing quiet waits
  simp only [writing, hr, quiet, waits, Option.isNone_none, Bool.and_self, if_true]

/-- CFG_CLEAR empties both slots (R420). -/
theorem exec_cfgClearDone_of_pending (waits : pendingOn s 0x0E0B 0 = true) :
    exec (.cfgClearDone dt) s = .next (pump (completeUnit 0x0E0B 0 stOk 0 [2]
      { advance dt s with store := { s.store with a := none, b := none } })) := by
  simp only [exec, execCfgClearDone, advance_fw, advance_store, hr, quiet, pendingOn_advance, waits, Option.isNone_none,
    Bool.and_self, if_true]

end

/-! ### Pauses -/

section
variable {p : Pause} (pause : s.fw.pause = some p)
include pause

theorem exec_fwPauseEnd_of_pause (handoverOk storeOk : Bool) :
    exec (.fwPauseEnd handoverOk storeOk dt) s =
      .next (pump (afterPause (finishPause handoverOk storeOk (advance dt s)))) := by
  simp only [exec, execFwPauseEnd, advance_fw, hr, pause, Option.isSome_some, Bool.and_self, if_true]

theorem exec_fwPauseDeadline_of_late {act : Activation} (activation : s.fw.activation = some act) (cause : p.cause = 0)
    (late : p.since + msT 40 ≤ (advance dt s).hk) :
    exec (.fwPauseDeadline dt) s = .next (pump (beginFallback 4 (endPause (runStaged act (advance dt s))))) := by
  simp only [exec, execFwPauseDeadline, advance_fw, hr, pause, activation, cause, late, beq_self_eq_true, decide_true,
    Bool.and_self, if_true]

end
end

/-- A pause of FW_ACTIVATE that ends in time, with the hand-over and the store good, starts the trial (Table 16.6). -/
theorem finishPause_of_activation {s : State} {p : Pause} {act : Activation} (pause : s.fw.pause = some p) (cause : p.cause = 0)
    (activation : s.fw.activation = some act) (inTime : s.hk ≤ p.since + msT 40) :
    finishPause true true s = startTrial act (runStaged act s) := by
  have early : pauseOver p s = false := decide_eq_false (Nat.not_lt.2 inTime)
  simp only [finishPause, pause, cause, activation, early, Bool.false_eq_true, if_false, Bool.not_true]

theorem finishPause_of_fallback {s : State} {p : Pause} {n : Nat} (pause : s.fw.pause = some p) (cause : p.cause = 1)
    (reason : p.reason = some n) (handoverOk storeOk : Bool) :
    finishPause handoverOk storeOk s = fallBack n s := by
  simp only [finishPause, pause, cause, reason]

/-- An expired trial falls back, from DARK once the device is awake (R416). -/
theorem exec_trialTimerExpiry_of_over {dt : Nat} {s : State} (quiet : s.fw.pause = none)
    (ended : trialOver (advance dt s) = true) (reads : umciaReads (wakeBy 5 (advance dt s)) = true) :
    exec (.trialTimerExpiry dt) s = .next (pump (beginFallback 2 (wakeBy 5 (advance dt s)))) := by
  simp only [exec, execTrialTimerExpiry, ended, advance_fw, quiet, reads, Option.isSome_none, Bool.not_true, Bool.or_self,
    Bool.false_eq_true, if_false, if_true]

/-- Settles O56: each event is its operation on the firmware, and the record or slot written is the one in force. -/
theorem firmwareEventsRun : Obligations.FirmwareEventsRun := by
  unfold Obligations.FirmwareEventsRun
  intro flashOk hOk sOk dt x act tr cfg cfgs s hr smallRec smallSlot a f b
  refine ⟨fun quiet ending waits umcia => ⟨fun failed => exec_fwUpdateEndDone_of_failed hr quiet ending waits umcia failed,
      fun built => ?_⟩,
    fun p q quiet ending waits boot built => ?_,
    fun quiet activation unpaused waits => ⟨fun i image =>
      exec_fwActivateImageLoaded_of_image hr quiet activation unpaused waits image, fun image => ?_⟩,
    fun p pause cause activation => ⟨fun inTime handover store => ?_, fun late =>
      exec_fwPauseDeadline_of_late hr pause activation cause late⟩,
    fun p n k i pause cause reason copy => ?_,
    fun quiet ended reads => exec_trialTimerExpiry_of_over quiet ended reads,
    fun quiet trial waits => ?_, fun quiet writing waits => ?_, fun quiet waits => ?_⟩
  · obtain ⟨t, ran, fw, lp, tm⟩ := exec_fwUpdateEndDone_of_built (flashOk := flashOk) hr quiet ending waits umcia built
    obtain ⟨bank, staged, ending_, other1, other0, recA, recB, runs⟩ := bankWritten_fw flashOk (x.data.take 128)
      (packageImage a x).2 (a.modFw fun f => { f with ending := none })
    rw [← fw] at bank staged ending_ other1 other0 recA recB runs
    rw [State.modFw_fw, advance_fw] at bank staged other1 other0 recA recB runs
    exact ⟨t, _, ran, by simp [freeWs, freeAt], bank, staged, ending_, other1, other0, recA, recB, runs, lp, tm⟩
  · obtain ⟨t, ran, boots, lp, fw⟩ := exec_fwUpdateEndDone_of_download (flashOk := flashOk) hr quiet ending waits boot built
    refine ⟨t, ran, boots, ?_⟩
    rw [fw]
    exact ⟨rfl, rfl, rfl, rfl, rfl, lp⟩
  · obtain ⟨t, ran, fw⟩ := exec_fwActivateImageLoaded_of_none hr quiet activation unpaused waits image
    refine ⟨t, ran, ?_⟩
    rw [fw]
    exact ⟨rfl, quiet, rfl⟩
  · have ran := exec_fwPauseEnd_of_pause hr pause hOk sOk
    rw [handover, store, finishPause_of_activation ((congrArg Firmware.pause (advance_fw dt s) :).trans pause) cause
      ((congrArg Firmware.activation (advance_fw dt s) :).trans activation) inTime] at ran
    have trial := startTrial_runStaged act (s := a) (by rw [advance_fw]; exact smallRec)
    rw [advance_fw] at trial
    exact ⟨_, by rw [handover, store]; exact ran, trial⟩
  · have ran := exec_fwPauseEnd_of_pause hr pause hOk sOk
    rw [finishPause_of_fallback ((congrArg Firmware.pause (advance_fw dt s) :).trans pause) cause reason] at ran
    have fell := fallBack_leaves (reason := n) (s := a) ((congrArg Firmware.fallback (advance_fw dt s) :).trans copy)
      (by rw [advance_fw]; exact smallRec)
    rw [advance_fw] at fell
    exact ⟨_, ran, fell⟩
  · obtain ⟨t, ran, fw, lp, tm⟩ := exec_fwConfirmDone_of_pending hr quiet trial waits
    have rec_ : recInForce t.fw = nextRec (confirmRec tr.bank) f := by rw [fw]; exact recInForce_writeRec _ smallRec
    refine ⟨t, ran, ?_⟩
    rw [rec_, fw]
    exact ⟨rfl, rfl, rfl, rfl, le_fusedRollback f, fun i runs => fusedRollback_of_running runs, lp, tm⟩
  · have ran := exec_cfgSaveDone_of_pending hr quiet writing waits
    have store : a.store = s.store := advance_store dt s
    obtain ⟨writing_, inForce, first, second⟩ := writeSlot_leaves (uptime a) cfg
      (s := { a with store := { a.store with writing := cfgs } }) (store ▸ smallSlot)
    refine ⟨_, ran, ?_⟩
    rw [pump_store, completeUnit_store, clearAlarm_store, pump_lp, completeUnit_lp, clearAlarm_lp, (writeSlot_frame ..).2.1]
    refine ⟨writing_, ⟨_, inForce, ?_, ?_, rfl, ?_, rfl⟩, advance_lp dt s⟩
    · rw [← store]; exact first
    · rw [← store]; exact second
    · exact congrArg (fun f => match f.running with | some i => hdrW i.hdr 6 | none => 0) (advance_fw dt s)
  · refine ⟨_, exec_cfgClearDone_of_pending hr quiet waits, ?_⟩
    simp [f]

end Sys2Proof.Machine
end

section
/-!
PROOFS. The seal and debug commands (R447, R448, R450, R452, R453, Table 18.2).
-/
namespace Sys2Proof.Machine
open Sys2Proof

/-! ### SEAL_DEVICE and SEAL_STATUS -/

theorem isSealed_advance (dt : Nat) (s : State) : isSealed (advance dt s) = isSealed s := by
  simp only [isSealed, advance_sealSt]

theorem not_dryRun_of_runs {op : OpSpec} {c : Cmd} {s : State} (h : Runs op c s) : c.flag 1 = false := by
  obtain ⟨-, ⟨-, -, noDryRun, -⟩, -⟩ := h
  exact noDryRun

/-- SEAL_DEVICE over PCIe or SPI, other than as a dry run (Table 18.2). -/
theorem sealDeviceOp_run_of_port {c : Cmd} (port : c.port = .pcie ∨ c.port = .spi) (noDryRun : c.flag 1 = false) (s : State)
    (t : Nat) :
    sealDeviceOp.run s t c =
      if jtagPrivate s.sealSt.jtagIr = true then refuse s stBadState 0x0101
      else if unsignedKernel s = true then refuse s stBadState 0x0102
      else { st := s.modSeal fun x => { x with gateClosed := true }, settled := false } := by
  have taken : (c.port == .pcie || c.port == .spi) = true := by
    rcases port with pcie | spi
    · rw [pcie]; rfl
    · rw [spi]; rfl
  simp only [sealDeviceOp, taken, noDryRun, Bool.not_true, Bool.false_eq_true, if_false]

/-- The readback of the fuses: a blown copy stays blown (R453). -/
theorem exec_sealDeviceDone_of_pending {dt : Nat} {s : State} (hr : running (advance dt s) = true)
    (waits : pendingOn s 0x0F01 0 = true) (x y z : Bool) :
    ∃ t, exec (.sealDeviceDone x y z dt) s = .next t ∧ t.sealSt.fuseA = (s.sealSt.fuseA || x) ∧
      t.sealSt.fuseB = (s.sealSt.fuseB || y || (x && z)) ∧ t.sealSt.gateClosed = s.sealSt.gateClosed ∧ t.lp = s.lp ∧
      t.keys = s.keys ∧ t.fw = s.fw := by
  let u := (advance dt s).modSeal fun k => { k with
    fuseA := s.sealSt.fuseA || x, fuseB := s.sealSt.fuseB || y || (x && z), told := k.told || (s.sealSt.fuseA || x) }
  let v := if ((s.sealSt.fuseA || x) && !s.sealSt.fuseA) = true then emit 0x8F01 0 [w32 (b01 y)] u else u
  have ran : exec (.sealDeviceDone x y z dt) s = .next (pump (completeUnit 0x0F01 0 stOk 0
      [w32 (b01 (!((s.sealSt.fuseA || x) && (s.sealSt.fuseB || y || (x && z)))))] v)) := by
    simp only [exec, execSealDeviceDone, hr, advance_sealSt, pendingOn_advance, waits, Bool.and_self, if_true]
    rfl
  have told : Sends u v := (sends_emit ..).ite (.refl u)
  refine ⟨_, ran, ?_⟩
  rw [pump_sealSt, completeUnit_sealSt, pump_lp, completeUnit_lp, pump_keys, completeUnit_keys, pump_fw, completeUnit_fw,
    told.sealSt, told.lp, told.keys, told.fw]
  exact ⟨rfl, rfl, (congrArg Seal.gateClosed (advance_sealSt dt s) :), advance_lp dt s, advance_keys dt s, advance_fw dt s⟩

/-- Word 3 of SEAL_STATUS, bit by bit. -/
theorem sealWord_bits (a b c d e f : Bool) :
    let w := w32 (onBit a 0 + onBit b 1 + onBit c 2 + onBit d 3 + onBit e 4 + onBit f 5)
    w.getLsbD 0 = a ∧ w.getLsbD 1 = b ∧ w.getLsbD 2 = c ∧ w.getLsbD 3 = d := by
  revert a b c d e f
  decide

/-! ### The gate's sense circuit (R448) -/

theorem exec_sealGateCheck_of_open {dt : Nat} {s : State} (hr : running (advance dt s) = true) (sealed_ : isSealed s = true) :
    exec (.sealGateCheck true dt) s = .next (pump (sealViolation (advance dt s))) := by
  have senses : ((advance dt s).pr.powered && !inReset (advance dt s) && (advance dt s).pr.phase != .fault) = true := by
    simp only [running, Bool.and_eq_true] at hr
    obtain ⟨⟨⟨powered, released⟩, -⟩, served⟩ := hr
    rw [powered, released, served]; rfl
  simp only [exec, execSealGateCheck, senses, isSealed_advance, sealed_, Bool.and_self, if_true]

theorem exec_sealGateCheck_of_idle {dt : Nat} {s : State} {gateOpen : Bool} (idle : gateOpen = false ∨ isSealed s = false) :
    exec (.sealGateCheck gateOpen dt) s = .next (advance dt s) := by
  have none_ : (gateOpen && isSealed s) = false := by
    rcases idle with closed | unsealed
    · rw [closed, Bool.false_and]
    · rw [unsealed, Bool.and_false]
  simp only [exec, execSealGateCheck, isSealed_advance, Bool.and_assoc, none_, Bool.and_false, Bool.false_eq_true, if_false]

/-- A violation closes the gate, makes such a JTAG instruction BYPASS and leaves the fuses. -/
theorem sealViolation_sealSt (s : State) : (sealViolation s).sealSt =
    { s.sealSt with
      gateClosed := true, violation := true, jtagIr := if jtagPrivate s.sealSt.jtagIr then 0xFF else s.sealSt.jtagIr } := by
  simp only [sealViolation]
  split <;> simp

theorem not_jtagPrivate_bypassed (code : Nat) : jtagPrivate (if jtagPrivate code then 0xFF else code) = false := by
  split
  · decide
  · next public_ => exact Bool.eq_false_iff.2 public_

theorem raised_sealViolation {s : State} (hr : running s = true) : raised (sealViolation s) 0x8F10 0 0 = true := by
  have same (u : State) (pr : u.pr = s.pr) : running u = true := by
    rw [← hr]; simp only [running, inReset, inDark, pr]
  simp only [sealViolation]
  rw [if_pos (same _ (by rw [zeroise_pr]; rfl))]
  exact raised_after_raiseAlarm ..

/-- A violation erases the keys of every port. -/
theorem slots_sealViolation (s : State) (p : Lp) : ((sealViolation s).port p).crypto.slots = [none, none, none, none] := by
  simp only [sealViolation]
  split
  · rw [raiseAlarm_port, zeroise_port]; rfl
  · rw [zeroise_port]; rfl

/-! ### Debug reads (R450) -/

/-- `t` is `s` but for free values taken. -/
def FreesOnly (s t : State) : Prop := t = { s with freeCtr := t.freeCtr }

theorem FreesOnly.trans {s t u : State} (h : FreesOnly s t) (k : FreesOnly t u) : FreesOnly s u := by
  unfold FreesOnly at h k ⊢
  rw [h] at k
  exact k

/-- Where no word with wrong check bits stands, a read changes only free values. -/
theorem freesOnly_dbgWord {s : State} (clean : ∀ w, w ∈ s.prot.checker → secdedOf w.2.2.2.2.1 w.2.2.2.2.2 = none)
    (id target spn addr : Nat) : FreesOnly s (dbgWord s id target spn addr).2 := by
  have plain : FreesOnly s (if id = 1 then ((spnWord s target spn addr, Config.secdedCheck (spnWord s target spn addr)), s)
      else dbgFree s).2 := by
    split
    · rfl
    · rfl
  simp only [dbgWord]
  split
  · rfl
  · split
    · next w found =>
      rw [clean w (List.mem_of_find?_eq_some found)]
      split
      · exact plain
      · rfl
    · exact plain

theorem freesOnly_dbgWords {id target spn : Nat} (n addr : Nat) {s : State}
    (clean : ∀ w, w ∈ s.prot.checker → secdedOf w.2.2.2.2.1 w.2.2.2.2.2 = none) :
    FreesOnly s (dbgWords id target spn n addr s).2 := by
  induction n generalizing addr s with
  | zero => rfl
  | succ n ih =>
    have first := freesOnly_dbgWord clean id target spn addr
    have checker : (dbgWord s id target spn addr).2.prot.checker = s.prot.checker := by rw [first]
    exact first.trans (ih (addr + 1) (by rw [checker]; exact clean))

theorem length_dbgWords (id target spn n addr : Nat) (s : State) : (dbgWords id target spn n addr s).1.length = n := by
  induction n generalizing addr s with
  | zero => rfl
  | succ n ih => exact congrArg (· + 1) (ih (addr + 1) _)

/-! ### Debug writes (R450) -/

/-- Two words of a spindle's local memory as a 64-bit word, and the write of one. -/
def memWord (m : SMap Word) (a : Nat) : U64 := u64Of (SMap.get 0 m (2 * a)).toNat (SMap.get 0 m (2 * a + 1)).toNat

def memPut (m : SMap Word) (a : Nat) (v : U64) : SMap Word :=
  SMap.set 0 (SMap.set 0 m (2 * a) (w32 v.toNat)) (2 * a + 1) (w32 (v.toNat / 2 ^ 32))

theorem wf_memPut {m : SMap Word} (wf : SMap.wf 0 m = true) (a : Nat) (v : U64) : SMap.wf 0 (memPut m a v) = true :=
  SMap.wf_set _ _ (SMap.wf_set _ _ wf)

/-- The two halves of a 64-bit word make it up again. -/
theorem u64Of_halves (v : U64) : u64Of (w32 v.toNat).toNat (w32 (v.toNat / 2 ^ 32)).toNat = v := by
  apply BitVec.eq_of_toNat_eq
  have bound := v.isLt
  simp only [u64Of, w32, BitVec.toNat_ofNat]
  omega

theorem memWord_memPut_same {m : SMap Word} (wf : SMap.wf 0 m = true) (a : Nat) (v : U64) : memWord (memPut m a v) a = v := by
  have lo : SMap.get 0 (memPut m a v) (2 * a) = w32 v.toNat := by
    rw [memPut, SMap.get_set_other _ (by omega), SMap.get_set_self _ _ wf]
  have hi : SMap.get 0 (memPut m a v) (2 * a + 1) = w32 (v.toNat / 2 ^ 32) :=
    SMap.get_set_self _ _ (SMap.wf_set _ _ wf)
  rw [memWord, lo, hi, u64Of_halves]

theorem memWord_memPut_other {m : SMap Word} {a b : Nat} (other : b ≠ a) (v : U64) : memWord (memPut m a v) b = memWord m b := by
  simp only [memWord, memPut]
  rw [SMap.get_set_other _ (by omega), SMap.get_set_other _ (by omega), SMap.get_set_other _ (by omega),
    SMap.get_set_other _ (by omega)]

/-- `t` is `s` but for the words of the checker test mode and the engines. -/
def WritesMemory (s t : State) : Prop := t = { s with prot := { s.prot with checker := t.prot.checker }, eng := t.eng }

theorem WritesMemory.refl (s : State) : WritesMemory s s := rfl

theorem WritesMemory.trans {s t u : State} (h : WritesMemory s t) (k : WritesMemory t u) : WritesMemory s u := by
  unfold WritesMemory at h k ⊢
  rw [h] at k
  exact k

/-- A spindle's word is written in its local memory. -/
def spnPut (e : Eng) (i a : Nat) (v : U64) (s : State) : State :=
  setSpn e i { spnOf s e i with mem := memPut (spnOf s e i).mem a v } s

/-- A word recorded at its place. -/
def checkerPut (w : Nat × Nat × Nat × Nat × U64 × Byte) (s : State) : State :=
  s.modProt fun x => { x with checker := x.checker.filter (fun v => !wordAt w.1 w.2.1 w.2.2.1 w.2.2.2.1 v) ++ [w] }

theorem recordWord_of_spindle (target spn a : Nat) (v : U64) (k : Byte) (s : State) :
    recordWord (1, target, spn, a, v, k) s = spnPut (engOfT target) spn a v (checkerPut (1, target, spn, a, v, k) s) := rfl

theorem recordWord_of_other {w : Nat × Nat × Nat × Nat × U64 × Byte} (other : w.1 ≠ 1) (s : State) :
    recordWord w s = checkerPut w s := if_neg other

theorem writesMemory_spnPut (e : Eng) (i a : Nat) (v : U64) (s : State) : WritesMemory s (spnPut e i a v s) := by
  cases e <;> rfl

theorem writesMemory_recordWord (w : Nat × Nat × Nat × Nat × U64 × Byte) (s : State) : WritesMemory s (recordWord w s) := by
  obtain ⟨id, target, spn, a, v, k⟩ := w
  by_cases one : id = 1
  · subst one
    exact WritesMemory.trans (t := checkerPut (1, target, spn, a, v, k) s) rfl (writesMemory_spnPut ..)
  · rw [recordWord_of_other one]
    rfl

/-- The word of DBG_MEM_WRITE at word `i` of its data is written where the host may write it. -/
def dbgPut (c : Cmd) (s : State) (i : Nat) : State :=
  let v := u64Of (c.w (8 + 2 * i)) (c.w (9 + 2 * i))
  if checkerPlace s (c.w 3) (bits (c.w 4) 0 8) (dbgSpn c) (dbgAddr c + i) || (c.w 3 == 1 && decide (dbgAddr c + i < 8192)) then
    recordWord (c.w 3, bits (c.w 4) 0 8, dbgSpn c, dbgAddr c + i, v, Config.secdedCheck v) s
  else s

/-- The state after DBG_MEM_WRITE. -/
def dbgWritten (c : Cmd) (s : State) : State := (List.range (c.w 7)).foldl (dbgPut c) s

theorem dbgMemWriteOp_run {c : Cmd} (memory : c.w 3 ≠ 5) (s : State) (t : Nat) :
    dbgMemWriteOp.run s t c = okRes (dbgWritten c s) [w32 (c.w 7)] := if_neg memory

theorem writesMemory_dbgPut (c : Cmd) (s : State) (i : Nat) : WritesMemory s (dbgPut c s i) := by
  simp only [dbgPut]
  split
  · exact writesMemory_recordWord ..
  · rfl

theorem writesMemory_dbgWritten (c : Cmd) (s : State) : WritesMemory s (dbgWritten c s) :=
  foldl_related WritesMemory.refl WritesMemory.trans (writesMemory_dbgPut c) _ _

/-- A write elsewhere leaves the engines. -/
theorem eng_dbgPut {c : Cmd} (other : c.w 3 ≠ 1) (s : State) (i : Nat) : (dbgPut c s i).eng = s.eng := by
  simp only [dbgPut]
  split
  · rw [recordWord_of_other other]; rfl
  · rfl

theorem eng_dbgWritten {c : Cmd} (other : c.w 3 ≠ 1) (s : State) : (dbgWritten c s).eng = s.eng :=
  foldl_related (r := fun s t => t.eng = s.eng) (fun _ => rfl) (fun h k => k.trans h) (eng_dbgPut other) _ _

theorem spnOf_spnPut_other {e f : Eng} {i j a : Nat} (other : f ≠ e ∨ j ≠ i) (v : U64) (s : State) :
    spnOf (spnPut e i a v s) f j = spnOf s f j := by
  simp only [spnOf, spnPut, setSpn, State.engine_modEngine]
  split
  · next same =>
    subst same
    exact SMap.get_set_other _ (other.resolve_left (not_not.2 rfl))
  · rfl

theorem spnOf_checkerPut (w : Nat × Nat × Nat × Nat × U64 × Byte) (s : State) (e : Eng) (i : Nat) :
    spnOf (checkerPut w s) e i = spnOf s e i := by cases e <;> rfl

/-- Another spindle keeps its memory. -/
theorem spnOf_dbgPut_other {c : Cmd} {e : Eng} {j : Nat} (other : e ≠ engOfT (bits (c.w 4) 0 8) ∨ j ≠ dbgSpn c) (s : State)
    (i : Nat) : spnOf (dbgPut c s i) e j = spnOf s e j := by
  by_cases one : c.w 3 = 1
  · simp only [dbgPut, one]
    split
    · rw [recordWord_of_spindle, spnOf_spnPut_other other, spnOf_checkerPut]
    · rfl
  · exact spnOf_congr (by cases e <;> simp only [State.engine, eng_dbgPut one]) j

theorem spnOf_dbgWritten_other {c : Cmd} {e : Eng} {j : Nat} (other : e ≠ engOfT (bits (c.w 4) 0 8) ∨ j ≠ dbgSpn c) (s : State) :
    spnOf (dbgWritten c s) e j = spnOf s e j :=
  foldl_related (r := fun s t => spnOf t e j = spnOf s e j) (fun _ => rfl) (fun h k => k.trans h) (spnOf_dbgPut_other other) _ _

/-! ### A debug write of a spindle's local memory -/

section
variable {c : Cmd} (one : c.w 3 = 1)
include one

/-- A spindle's word is written where it lies in the memory. -/
theorem dbgPut_of_spindle (s : State) (i : Nat) :
    let v := u64Of (c.w (8 + 2 * i)) (c.w (9 + 2 * i))
    dbgPut c s i = if dbgAddr c + i < 8192 then
      spnPut (engOfT (bits (c.w 4) 0 8)) (dbgSpn c) (dbgAddr c + i) v
        (checkerPut (1, bits (c.w 4) 0 8, dbgSpn c, dbgAddr c + i, v, Config.secdedCheck v) s) else s := by
  intro v
  simp only [dbgPut, one]
  by_cases inside : dbgAddr c + i < 8192
  · simp only [inside, beq_self_eq_true, decide_true, Bool.and_self, Bool.or_true, if_true]
    exact recordWord_of_spindle ..
  · have noPlace : checkerPlace s 1 (bits (c.w 4) 0 8) (dbgSpn c) (dbgAddr c + i) = false := by simp [checkerPlace, inside]
    simp only [noPlace, inside, decide_false, Bool.and_false, Bool.or_false, Bool.false_eq_true, if_false]

end

/-- The maps of the spindle that a debug write names are in canonical form. -/
def spnCanonical (c : Cmd) (s : State) : Prop :=
  SMap.wf {} (s.engine (engOfT (bits (c.w 4) 0 8))).spindles = true ∧
    SMap.wf 0 (spnOf s (engOfT (bits (c.w 4) 0 8)) (dbgSpn c)).mem = true

/-- The spindle that a debug write names. -/
def dbgSpindle (c : Cmd) (s : State) : Spindle := spnOf s (engOfT (bits (c.w 4) 0 8)) (dbgSpn c)

theorem spnOf_spnPut_same {s : State} {e : Eng} (wf : SMap.wf {} (s.engine e).spindles = true) (i a : Nat) (v : U64) :
    spnOf (spnPut e i a v s) e i = { spnOf s e i with mem := memPut (spnOf s e i).mem a v } := by
  simp only [spnPut, setSpn]
  rw [spnOf, State.engine_modEngine, if_pos rfl]
  exact SMap.get_set_self _ _ wf

section
variable {c : Cmd} (one : c.w 3 = 1) {s : State} (canonical : spnCanonical c s)
include one canonical

/-- One word changes the memory alone, at its place. -/
theorem dbgSpindle_dbgPut (i : Nat) :
    let p := dbgSpindle c s
    let v := u64Of (c.w (8 + 2 * i)) (c.w (9 + 2 * i))
    dbgSpindle c (dbgPut c s i) =
      { p with mem := if dbgAddr c + i < 8192 then memPut p.mem (dbgAddr c + i) v else p.mem } := by
  intro p v
  rw [dbgPut_of_spindle one]
  obtain ⟨wf, -⟩ := canonical
  split
  · have wf_ : SMap.wf {} ((checkerPut (1, bits (c.w 4) 0 8, dbgSpn c, dbgAddr c + i, v, Config.secdedCheck v) s).engine
        (engOfT (bits (c.w 4) 0 8))).spindles = true := by rw [← wf]; cases engOfT (bits (c.w 4) 0 8) <;> rfl
    rw [dbgSpindle, spnOf_spnPut_same wf_, spnOf_checkerPut]
    rfl
  · rfl

theorem spnCanonical_dbgPut (i : Nat) : spnCanonical c (dbgPut c s i) := by
  obtain ⟨wf, wfMem⟩ := canonical
  refine ⟨?_, ?_⟩
  · rw [dbgPut_of_spindle one]
    split
    · simp only [spnPut, setSpn]
      rw [State.engine_modEngine, if_pos rfl]
      refine SMap.wf_set _ _ ?_
      rw [← wf]
      cases engOfT (bits (c.w 4) 0 8) <;> rfl
    · exact wf
  · have put := dbgSpindle_dbgPut one (s := s) ⟨wf, wfMem⟩ i
    simp only [dbgSpindle] at put
    rw [put]
    simp only
    split
    · exact wf_memPut wfMem ..
    · exact wfMem

end

/-- After `n` words of a debug write the spindle has them, and differs in its memory alone. -/
theorem dbgPut_words {c : Cmd} (one : c.w 3 = 1) {s : State} (canonical : spnCanonical c s) (n : Nat) :
    let t := (List.range n).foldl (dbgPut c) s
    spnCanonical c t ∧ dbgSpindle c t = { dbgSpindle c s with mem := (dbgSpindle c t).mem } ∧
      ∀ j, j < n → dbgAddr c + j < 8192 →
        memWord (dbgSpindle c t).mem (dbgAddr c + j) = u64Of (c.w (8 + 2 * j)) (c.w (9 + 2 * j)) := by
  induction n with
  | zero => exact ⟨canonical, rfl, fun j none_ => absurd none_ (Nat.not_lt_zero j)⟩
  | succ n ih =>
    obtain ⟨canonical_, only, words⟩ := ih
    rw [List.range_succ, List.foldl_append, List.foldl_cons, List.foldl_nil]
    generalize (List.range n).foldl (dbgPut c) s = t at canonical_ only words
    have put := dbgSpindle_dbgPut one canonical_ n
    refine ⟨spnCanonical_dbgPut one canonical_ n, ?_, fun j below inside => ?_⟩
    · rw [put, only]
    · rw [put]
      obtain ⟨-, wfMem⟩ := canonical_
      by_cases last : j = n
      · subst last
        simp only [inside, if_true]
        exact memWord_memPut_same wfMem ..
      · have earlier := words j (by omega) inside
        split
        · exact (memWord_memPut_other (by omega) _).trans earlier
        · exact earlier

/-- Settles O57: each command is served on the seal or the debug unit, and each event is its operation on the seal. -/
theorem sealCommandsRun : Obligations.SealCommandsRun := by
  unfold Obligations.SealCommandsRun
  intro c x y z dt s r tgt
  refine ⟨fun runs notPcie notSpi => ?_, fun runs port => ?_, fun hr waits => exec_sealDeviceDone_of_pending hr waits x y z, fun runs => ?_,
    fun runs => ⟨fun five => ?_, fun memory => ?_⟩, fun runs => ⟨fun five => ?_, fun memory => ?_⟩, fun hr sealed_ => ?_,
    exec_sealGateCheck_of_idle (.inl rfl), fun unsealed => exec_sealGateCheck_of_idle (.inr unsealed)⟩
  · exact exec_of_badState (op := sealDeviceOp) runs (if_pos (by simp [notPcie, notSpi]))
  · have run := sealDeviceOp_run_of_port port (not_dryRun_of_runs runs) r c.target
    rw [show r.sealSt = s.sealSt from ready_sealSt c s] at run
    refine ⟨fun loaded => ?_, fun unloaded unsigned => ?_, fun unloaded signed => ?_⟩
    · exact exec_of_badState (op := sealDeviceOp) runs (run.trans (if_pos loaded))
    · exact exec_of_badState (op := sealDeviceOp) runs
        (run.trans ((if_neg (ne_true_of_eq_false unloaded)).trans (if_pos unsigned)))
    · exact exec_of_accepted (op := sealDeviceOp) runs (run.trans
        ((if_neg (ne_true_of_eq_false unloaded)).trans (if_neg (ne_true_of_eq_false signed))))
  · obtain ⟨sealed_, fuseA, fuseB, gate⟩ := sealWord_bits (isSealed r) r.sealSt.fuseA r.sealSt.fuseB r.sealSt.gateClosed
      r.sealSt.custKey.isSome (raised r 0x8F10 0 0)
    rw [← isSealed_ready c s, ← ready_sealSt c s]
    exact ⟨_, sealed_, fuseA, fuseB, gate, exec_of_runs (op := sealStatusOp) runs rfl⟩
  · exact exec_of_badState (op := dbgMemReadOp) runs (if_pos five)
  · intro l
    refine ⟨exec_of_runs (op := dbgMemReadOp) runs (if_neg memory), length_dbgWords .., fun clean => ?_⟩
    exact freesOnly_dbgWords _ _ (by rw [ready_prot]; exact clean)
  · exact exec_of_badState (op := dbgMemWriteOp) runs (if_pos five)
  · have frame := writesMemory_dbgWritten c r
    refine ⟨dbgWritten c r, exec_of_runs (op := dbgMemWriteOp) runs (dbgMemWriteOp_run memory r c.target), ?_,
      fun other => (eng_dbgWritten other r).trans (ready_eng c s),
      fun e i other => (spnOf_dbgWritten_other other r).trans (spnOf_ready c s e i), fun one wf wfMem => ?_⟩
    · rw [← ready_prot c s]
      exact frame
    · have canonical : spnCanonical c r := ⟨by rw [ready_engine]; exact wf, by rw [spnOf_ready]; exact wfMem⟩
      obtain ⟨-, only, words⟩ := dbgPut_words one canonical (c.w 7)
      refine ⟨?_, words⟩
      rw [← spnOf_ready c s]
      exact only
  · refine ⟨_, exec_sealGateCheck_of_open hr sealed_, ?_⟩
    rw [pump_sealSt, sealViolation_sealSt, advance_sealSt, pump_fw, sealViolation_fw, advance_fw, raised, pump_alarms]
    refine ⟨rfl, rfl, raised_sealViolation hr, not_jtagPrivate_bypassed _, fun p => ?_, rfl, rfl, rfl⟩
    rw [pump_port]
    exact slots_sealViolation ..

end Sys2Proof.Machine
end
